-- ==== Sys2Proof/Word.lean ====
section
/-! DEFINITION. Bytes and byte strings, least significant byte first (R7), and the small list helpers. -/

namespace Sys2Proof

abbrev Byte := BitVec 8
abbrev Bytes := List Byte

/-- `n` bytes of a number, least significant byte first (R7). -/
def leBytes : Nat → Nat → Bytes
  | 0, _ => []
  | n + 1, v => BitVec.ofNat 8 v :: leBytes n (v / 256)

/-- `n` bytes of a number, most significant byte first. -/
def beBytes (n v : Nat) : Bytes := (leBytes n v).reverse

/-- The number a byte string holds, least significant byte first. -/
def ofLe : Bytes → Nat
  | [] => 0
  | b :: bs => b.toNat + 256 * ofLe bs

/-- The number a byte string holds, most significant byte first. -/
def ofBe (bs : Bytes) : Nat := ofLe bs.reverse

/-- A byte string cut or zero-padded at its end to `n` bytes. -/
def padTo (n : Nat) (bs : Bytes) : Bytes := bs.take n ++ List.replicate (n - bs.length) 0

/-- The byte string without its trailing zero bytes: how a stored block is held. -/
def trimZeros (bs : Bytes) : Bytes := (bs.reverse.dropWhile (· == 0)).reverse

/-- ASCII bytes of a string (signatures such as "PLYMEMBR"). -/
def ascii (t : String) : Bytes := t.toList.map (fun c => BitVec.ofNat 8 c.toNat)

/-- Bytewise XOR of two strings; the shorter one counts as followed by zeros. -/
def xorBytes : Bytes → Bytes → Bytes
  | [], ys => ys
  | xs, [] => xs
  | x :: xs, y :: ys => (x ^^^ y) :: xorBytes xs ys

/-- Bits `hi` down to `lo` of a number (R6). -/
def bitsOf (v hi lo : Nat) : Nat := (v >>> lo) % 2 ^ (hi + 1 - lo)

/-- Bit `n` of a number (R6). -/
def bitAt (v n : Nat) : Bool := v.testBit n

/-- The number of a flag. -/
def b2n (b : Bool) : Nat := if b then 1 else 0

/-- Quotient rounded up. -/
def ceilDiv (a b : Nat) : Nat := (a + b - 1) / b

/-- The value stored under a key of an association list. -/
def alGet {κ α : Type} [DecidableEq κ] (k : κ) : List (κ × α) → Option α
  | [] => none
  | (k', v) :: r => if k' = k then some v else alGet k r

/-- An association list with the value under a key replaced, or added at the end. -/
def alSet {κ α : Type} [DecidableEq κ] (k : κ) (v : α) : List (κ × α) → List (κ × α)
  | [] => [(k, v)]
  | (k', v') :: r => if k' = k then (k, v) :: r else (k', v') :: alSet k v r

/-- An association list without a key. -/
def alDel {κ α : Type} [DecidableEq κ] (k : κ) (m : List (κ × α)) : List (κ × α) :=
  m.filter (fun e => !decide (e.1 = k))

end Sys2Proof
end

