-- ==== Sys2Proof/Syntax.lean ====
section
/-! DEFINITION. The commands of the block: one constructor per row of spec/opcode_table.json, with the operands the
row's rule gives the event (log entry 2: the table lists no operands). -/

namespace Sys2Proof

/-- A host function: function n is on port n (10_landing_endpoint). -/
inductive Fn | f0 | f1
deriving DecidableEq, Repr

def Fn.num : Fn → Nat
  | .f0 => 0
  | .f1 => 1

/-- The clock islands of Table 1.2. -/
inductive Island | h | t | c | k | m | l (group : Fin 12) | d | x | g | s
deriving DecidableEq, Repr

/-- The transports of the dictionary, in the order of Table 15.4 CONFLICT. -/
inductive Transport | can0 | can1 | mbx0 | mbx1 | twin
deriving DecidableEq, Repr

def Transport.num : Transport → Nat
  | .can0 => 0
  | .can1 => 1
  | .mbx0 => 2
  | .mbx1 => 3
  | .twin => 4

abbrev PoolId := Fin 64
abbrev VolId := Fin 4096
abbrev MemberId := Fin 16384
abbrev ChainId := Fin 65536
abbrev Lane := Fin 144
abbrev Vec := Fin 2048

/-- Where an accepted dictionary write comes from: transport, CAN source node, session id (R352). -/
structure Req where
  transport : Transport
  node : Nat
  session : Nat
deriving DecidableEq, Repr

/-- A request frame (Table 15.3); OP is the command that carries it. `len` is the LEN field, `rsvd` bits 15:11 and
`status` the STATUS byte, both ignored as R8 says but covered by the MAC and relayed as they came. -/
structure Frame where
  rsvd : Nat
  status : Nat
  seq : Nat
  session : Nat
  index : Nat
  sub : Nat
  len : Nat
  offset : Nat
  total : Nat
  last : Bool
  twin : Bool
  data : Bytes
  mac : Bytes
deriving DecidableEq, Repr

/-- The outcome of host memory reads for one command: the bytes read (unlisted bytes read 0), or the error. -/
inductive HostRead
  | ok (cells : List (Nat × Byte))
  | failed
deriving DecidableEq, Repr

/-- Ring slots that a warm reset reads (R413), per chain, from the first slot a fetch would read: (chain, slots). -/
abbrev Rings := List (Nat × List (BitVec 512))

/-- Member block addresses whose read the member reports in error while a step runs: (member id, MBA). -/
abbrev BadReads := List (Nat × Nat)

/-- What a step that reads and encodes meets: reads in error, and how often its syndrome check fails (R39). -/
structure StepFaults where
  bad : BadReads
  encodeFails : Nat
deriving DecidableEq, Repr

/-- What a bridge fault names: the subsystem it lies in (Table 1.1) and the operation it hit (R18). -/
structure FaultSite where
  subsystem : Nat
  op : Option (ChainId × BitVec 32)
deriving DecidableEq, Repr

/-- A link that trained: its rate tier and the SAS address attached at its far end, 0 for none (R184, R185). -/
structure Trained where
  tier : Nat
  attached : Nat
deriving DecidableEq, Repr

/-- A fleet setting read back from a member: the kind (Table 7.9) and the value (R178). -/
structure FleetReadBack where
  kind : Fin 4
  value : Nat
deriving DecidableEq, Repr

/-- What the outside makes the transform lanes and the host PI check do while a step runs: units whose inverse check
mismatches (R227), and blocks whose host PI check fails on a lane: (LBA, lane, fails again on another lane) (R133). -/
structure LaneFaults where
  mismatch : List Nat
  hostPi : List (Nat × Nat × Bool)
deriving DecidableEq, Repr

/-- What an owner sends the twin of a pool with the next tide seal (05 R118, 04 R88, 07 R153). -/
inductive TwinNews
  /-- an entry became ready to be WRITING: its transition -/
  | writing (pool stripe : Nat)
  /-- an entry retired with these blocks: (strip, offset, generation) -/
  | retired (pool stripe : Nat) (blocks : List (Nat × Nat × Nat))
  /-- a strip of a relocated ordinal is rebuilt -/
  | rebuilt (pool ordinal stripe : Nat)
  /-- a transaction's commit record stands in the tide, or the transaction ended without effect (the transaction table also
  crosses the Hawser, 05 R102) -/
  | txPlaced (pool chain tag : Nat)
  | txEnded (pool chain tag : Nat)
  /-- a checkpoint, or an extension with its stripes, that will be written (12 R299) -/
  | checkpoint (pool seq : Nat)
  | extension (pool : Nat) (stripes : List Nat)
deriving DecidableEq, Repr

/-- What one seal or keepalive frame carries (R293, Table 12.1; 04 R78: a seal vouches for the blocks of its tide, listed
here as pools with the number of blocks). -/
structure SealFrame where
  keepalive : Bool
  fromLeader : Bool
  tide : Nat
  blocks : List (Nat × Nat)
  news : List TwinNews
deriving DecidableEq, Repr

/-- A stored logical block: data bytes and the 64 metadata bytes, trailing zero bytes left out (R125, R127). -/
structure Block where
  data : Bytes
  md : Bytes
deriving DecidableEq, Repr

/-- A block held in the protected data area, or mirrored to the standby (R71, R300). -/
structure MirrorBlock where
  stripe : Nat
  strip : Nat
  bo : Nat
  vol : Nat
  lba : Nat
  gen : Nat
  tide : Nat
  block : Block
  /-- chain and tag of the open or committing transaction; 04 R90; - -/
  tx : Option (Nat × Nat)
deriving DecidableEq, Repr

inductive Protocol | sata | sas | nvme
deriving DecidableEq, Repr

/-- The answer to an Auto probe (R183). -/
inductive ProbeAnswer | silent | pcie | comsas | cominit
deriving DecidableEq, Repr

/-- A member lane or a dump link (R182, R189). -/
inductive LinkId
  | lane (l : Lane)
  | dump (d : Fin 4)
deriving DecidableEq, Repr

/-- Cause of a retrain (R188, Table 16.3 LANE_RETRAIN). -/
inductive RetrainCause | errorCount | syncLoss | pcieRecovery
deriving DecidableEq, Repr

/-- What a discovery found (R190, R192): member ids found, devices beyond a limit, enclosure logical identifiers. -/
structure DiscoveryReport where
  found : List Nat
  beyond : Nat
  enclosures : List Nat
deriving DecidableEq, Repr

/-- A member label as read at discovery (Table 2.5, R25). -/
structure Label where
  format : Nat
  inPool : Bool
  poolUuid : Bytes
  memberId : Nat
  ordinal : Nat
  capacity : Nat
  charterGen : Nat
  charterB : Nat
  identity : Bytes
  written : Nat
deriving DecidableEq, Repr

/-- What MBA 0 holds: no signature, a signature with a failing CRC, or a good label (R25). -/
inductive LabelRead
  | absent
  | badCrc
  | good (l : Label)
deriving DecidableEq, Repr

end Sys2Proof

namespace Sys2Proof.Machine

/-! ### Charters (02, 07) -/

structure CMember where
  /-- u14; 02 T2.7; - -/
  id : Nat
  /-- u16; 02 T2.7; - -/
  ordinal : Nat
  /-- u8 member state code; 02 T2.7; 2 at creation -/
  state : Nat
  /-- u4; 02 T2.7; - -/
  protocol : Protocol
  /-- u16; 02 T2.7 R51; - -/
  encl : Nat
  /-- u16; 02 T2.7 R51; - -/
  rack : Nat
  /-- 16 bytes; 02 R43; - -/
  identity : Bytes
deriving DecidableEq, Repr

structure CVol where
  /-- u12; 02 T2.8; - -/
  id : Nat
  /-- u2; 02 T2.8; - -/
  hostPi : Nat
  /-- u32; 02 T2.8; 0 at creation -/
  keyGen : Nat
  /-- u64; 02 T2.8; - -/
  size : Nat
  /-- u64; 02 T2.8 R27; - -/
  base : Nat
  /-- 104 bytes; 02 T2.8; - -/
  wrapped : Bytes
deriving DecidableEq, Repr

/-- A placement shape: what the Braid function reads (R48), for the charter's own or a Crossing's target. -/
structure Shape where
  codeType : Nat
  k : Nat
  m : Nat
  g : Nat
  stripLog2 : Nat
  blockFmt : Nat
  enclLimit : Nat
  rackLimit : Nat
  spare : Nat
  seed : Nat
  dataStart : Nat
  usable : Nat
  stripeCount : Nat
deriving DecidableEq, Repr

/-- Crossing target block (Table 7.6). -/
structure CrossBlk where
  /-- u5; 07 T7.6; - -/
  kinds : Nat
  /-- u2, 1 ABORTING; 07 T7.6; 0 -/
  stage : Nat
  /-- u64; 07 T7.6; - -/
  startGen : Nat
  /-- target shape T_* fields; 07 T7.6; - -/
  shape : Shape
  /-- u16; 07 T7.6; - -/
  srcCount : Nat
  /-- u16, 0xFFFF none; 07 T7.6; - -/
  curVolume : Nat
  /-- u64 committed cursor C; 07 T7.6; 0 -/
  cursor : Nat
  /-- u64; 07 T7.6; - -/
  cursorTide : Nat
  /-- TIME64; 07 T7.6; - -/
  started : Nat
  /-- volumes still to cross; 07 T7.6; - -/
  volumes : List Nat
  /-- 104 bytes; 07 T7.6; zero -/
  newKey : Bytes
  /-- member-table entries of the target; 07 T7.6; - -/
  target : List Nat
deriving DecidableEq, Repr

/-- A charter generation (Tables 2.6 to 2.8). -/
structure Charter where
  /-- 16 bytes; 02 T2.6; random at creation -/
  uuid : Bytes
  /-- u64; 02 T2.6 R45; 1 at creation -/
  gen : Nat
  /-- u8; 02 T2.6; - -/
  poolId : Nat
  /-- shape fields; 02 T2.6; - -/
  shape : Shape
  /-- u8; 02 T2.6; - -/
  recovery : Nat
  /-- bool INIT_DONE; 02 T2.6 R26; 0 at creation -/
  initDone : Bool
  /-- bool PAIRED; 02 T2.6; - -/
  paired : Bool
  /-- TIME64; 02 T2.6; - -/
  created : Nat
  /-- TIME64; 02 T2.6 R45; - -/
  changed : Nat
  /-- u64; 02 T2.6 R45; - -/
  changeTide : Nat
  /-- 16 bytes; 02 T2.6; - -/
  kekId : Bytes
  /-- 16 bytes; 02 T2.6; zero -/
  pairUuid : Bytes
  /-- 16 bytes; 02 T2.6; zero -/
  prefOwner : Bytes
  /-- member table in ORDINAL order; 02 R44; - -/
  members : List CMember
  /-- volume table in ascending VOLUME_ID; 02 R44; - -/
  vols : List CVol
  /-- Crossing target block; 02 R44; none -/
  cross : Option CrossBlk
deriving DecidableEq, Repr

/-! ### What a member holds beside its data (05, 06, 16) -/

structure LostEntry where
  vol : Nat
  /-- 0 UNREADABLE, 1 POISONED, 2 RELEASED, 3 RECONCILE; 06 T6.8; - -/
  cause : Nat
  lba : Nat
  stripe : Nat
  strip : Nat
  unalloc : Bool
  bo : Nat
  tide : Nat
  gen : Nat
deriving DecidableEq, Repr

/-- A lost-block table slot of a home (Table 6.7): entries in ascending (STRIPE, BLOCK_OFF, STRIP). -/
structure LostImage where
  /-- CKPT_SEQ; 06 T6.7; - -/
  seq : Nat
  poolUuid : Bytes
  overflow : Bool
  entries : List LostEntry
deriving DecidableEq, Repr

/-- A checkpoint as it lies in a slot of a home area (Tables 5.6, 5.7). -/
structure CkptImage where
  seq : Nat
  tide : Nat
  destagedTide : Nat
  charterGen : Nat
  homes : List Nat
  outOfSchedule : Bool
  writeThrough : Bool
  noManifest : Bool
  intent : List Nat
  lostCount : Nat
  written : Nat
  /-- 16 bytes; 05 T5.6; - -/
  poolUuid : Bytes
deriving DecidableEq, Repr

/-- An extension in the ring of a home (Table 5.8). -/
structure ExtImage where
  seq : Nat
  baseSeq : Nat
  tide : Nat
  intent : List Nat
  /-- 16 bytes; 05 T5.8; - -/
  poolUuid : Bytes
deriving DecidableEq, Repr

/-- A record of the Logbook (Table 16.1). -/
structure LogRec where
  seq : Nat
  sev : Nat
  late : Bool
  permanent : Bool
  time : Nat
  code : Nat
  subsystem : Nat
  inst : Nat
  /-- REPEAT; 16 T16.1; 1 -/
  rep : Nat
  /-- LAST_DELTA_MS; 16 T16.1; 0 -/
  delta : Nat
  detail : Bytes
  /-- time its repeat window ends, by the length in force at its TIMESTAMP; 16 R381 01 R20 MODEL; - -/
  windowEnd : Nat
deriving DecidableEq, Repr

/-- A Logbook export on a member (Tables 16.4, 16.5). -/
structure LogExport where
  /-- DEVICE_UUID of the writer; 16 T16.5; - -/
  uuid : Bytes
  permCount : Nat
  circWritten : Nat
  lastSeq : Nat
  exported : Nat
  /-- EXPORT_COUNT; 16 T16.5; - -/
  count : Nat
  perm : List LogRec
  circ : List (Nat × LogRec)
deriving DecidableEq, Repr

/-- What a discovered member holds where another part wrote it last, as far as its member PI and CRCs are good (R131): both
charter copies, the home area, the lost-block table slots, the Logbook export and the data area. -/
structure MemberMedia where
  charterA : Option Charter
  charterB : Option Charter
  ckpts : List CkptImage
  exts : List ExtImage
  lostSlots : List LostImage
  logExport : Option LogExport
  media : List (Nat × Block)
deriving DecidableEq, Repr

end Sys2Proof.Machine

namespace Sys2Proof

/-- What identification of a discovered member yields (R191–R193). -/
structure MemberInfo where
  identity : Bytes
  protocol : Protocol
  path : Nat
  capacity : Nat
  format : Nat
  enclFound : Nat
  slot : Nat
  rotating : Bool
  reservations : Bool
  /-- key that holds the member's reservation (R305), none when it has none -/
  holder : Option Bytes
  label : LabelRead
  /-- what it holds, none where this part wrote it last or nobody did (R46) -/
  content : Option Machine.MemberMedia
  /-- whether its deterministic zeroing command leaves every byte reading zero, none where it has no such command (R196) -/
  zeroing : Option Bool
  /-- commands it takes at once by its own limit: MQES + 1 of an NVMe member (R200) -/
  ownDepth : Nat
  /-- a SATA member's IDENTIFY reports a queued feature set (R202) -/
  queuedSet : Bool
  /-- it has a form of reformatting: SET SECTOR CONFIGURATION EXT of a SATA member (R195) -/
  reformats : Bool
  /-- it spins up on its own when power is applied (R209) -/
  selfSpins : Bool
deriving DecidableEq, Repr

/-- How a member command ends (R198, R205–R207). -/
inductive CmdResult
  | good
  | mediumError (mba : Nat)
  | busy
  | deviceFault
  | predictiveFailure
  | failed
deriving DecidableEq, Repr

/-- Answer to a member cache read-back (R208). -/
inductive WceAnswer | disabled | enabled | refused | noCache
deriving DecidableEq, Repr

inductive Glitch | supply | clock
deriving DecidableEq, Repr

/-- A TLP to BAR4 (R259, R260). -/
inductive PeerTlp
  | read (off len : Nat)
  | write (off : Nat) (data : Bytes)
deriving DecidableEq, Repr

/-- The rows of Table 10.14; the data-read rows name the command, the descriptor row the chain; `aer` is false for a UR or
CA completion, which AER does not report here. -/
inductive PortError
  | correctable
  | dataRead (aer : Bool) (c : ChainId) (hseq : BitVec 32)
  | descFetch (aer : Bool) (c : ChainId)
  | poisonedRequest (posted : Bool)
  | outsideWindow (posted : Bool)
  | fatal
  | internal
  | correctedInternal
deriving DecidableEq, Repr

/-- What the partner tells at pairing (R292 step 3) and its tide number. -/
structure PeerIdent where
  uuid : Bytes
  revision : Nat
  charterFormat : Nat
  fwVersion : Nat
  tide : Nat
  width : Nat
  pairUuid : Bytes
deriving DecidableEq, Repr

/-- A home's answer to a preempt (R305). -/
inductive PreemptAnswer | success | conflict
deriving DecidableEq, Repr

/-- The kinds of pair-wide change (R314). -/
inductive PairChange
  | tideUs (v : Nat)
  | recovery (p : PoolId) (v : Nat)
  | charter (p : PoolId) (gen : Nat)
  | handover (p : PoolId) (toPartner : Bool)
deriving DecidableEq, Repr

/-- The board's readings at a wake or boot decision (R322): filtered input and die temperature (°C). -/
structure WakeEnv where
  inputMv : Nat
  dieC : Int
deriving DecidableEq, Repr

/-- Filtered ADC codes of the eight sentinel channels (R316, R405). -/
structure SenseCodes where
  in0 : Nat
  in1 : Nat
  in2 : Nat
  in3 : Nat
  in4 : Nat
  in5 : Nat
  in6 : Nat
  in7 : Nat
deriving DecidableEq, Repr

/-- References found at a calibration start (R338): edges of FCAL_REF over one second, last edge spacing in µs,
raw conversion of VCAL_REF in µV under the coefficients in force. -/
structure CalRefs where
  edges : Nat
  spacingUs : Nat
  vrefUv : Nat
deriving DecidableEq, Repr

/-- Results of one calibration run (R342): gain ppb, offset 1/256 LSB, oscillator rates ppb. -/
structure CalRun where
  gainPpb : Int
  offset : Int
  timePpb : Int
  xtalPpb : Int
deriving DecidableEq, Repr

/-- The two runs, and whether the references stayed (Table 14.2). -/
structure CalRuns where
  run1 : CalRun
  run2 : CalRun
  stable : Bool
deriving DecidableEq, Repr

/-- An event reported to the Logbook (R378): Table 16.3 code, SOURCE subsystem and instance, severity, DETAIL, time. -/
structure LogEv where
  code : Nat
  subsystem : Nat
  inst : Nat
  sev : Nat
  detail : Bytes
  time : Nat
deriving DecidableEq, Repr

/-- What a boot finds (R393, R397, R401, R407): straps, image checks of the two slots, directory copies
(valid, DIR_SEQ, ACTIVE, PREV_VALID), trained DRAM channels, board readings, dump links trained at x4 32 GT/s. -/
structure BootEnv where
  strapFactory : Bool
  strapBootAlt : Bool
  slot0Good : Bool
  slot1Good : Bool
  dir0 : Option (Nat × Nat × Bool)
  dir1 : Option (Nat × Nat × Bool)
  channels : Nat
  wake : WakeEnv
  dumpLinks : List Nat
deriving DecidableEq, Repr

/-- Test access port instructions (R410). -/
inductive TapOp | bypass | idcode | samplePreload | other (code : Nat)
deriving DecidableEq, Repr

/-- How a vector becomes sendable (R246). -/
inductive Unmask
  | vector (v : Vec)
  | functionMask
  | msixEnable
deriving DecidableEq, Repr

/-- Heartbeat duty code (R302). -/
inductive BeatCode | run | release
deriving DecidableEq, Repr

/-- What the outside answers while the action of a dictionary write runs, as the action's own row takes it: ring slots for
a warm reset, the devices a discovery finds, the references of a calibration start, the self-test items that fail,
whether the partner reports an activation. -/
structure Outside where
  rings : Rings
  found : DiscoveryReport
  refs : CalRefs
  selfTest : BitVec 64
  partnerActivating : Bool
deriving DecidableEq, Repr

/-- The commands: one constructor per row of spec/opcode_table.json. -/
inductive Instr
  -- 01: bridges and islands
  | bridgeRequest (src dst : Island) (word : Nat) (singleBit : Bool)
  /-- `op` is the host command the discarded word belonged to, if any. -/
  | bridgeFault (src dst : Island) (subsystem : FaultSite)
  | islandPowerDown (i : Island)
  | islandWake (i : Island)
  | islandReady (i : Island)
  -- 02: pools, charters, volumes
  | poolCommit (q : Req) (p : PoolId)
  | poolDelete (q : Req) (p : PoolId)
  | poolInitComplete (p : PoolId)
  | memberRelease (q : Req) (k : MemberId)
  | charterChange (p : PoolId)
  | charterCopyWritten (p : PoolId) (k : MemberId) (ok : Bool)
  | charterRestoreRetry (p : PoolId)
  | poolImport (q : Req) (p : PoolId) (uuid : Bytes)
  | poolImportForce (q : Req) (p : PoolId)
  | volCreate (q : Req) (v : VolId)
  | volGrow (q : Req) (v : VolId)
  | volDelete (q : Req) (v : VolId)
  | syndromeRetry (p : PoolId) (stripe : Nat) (good : Bool)
  -- 04: write path
  | energyEstimateRefresh (codes : SenseCodes)
  | twinCeilingReport (mib : Int)
  | writeAdmit (c : ChainId) (hseq : BitVec 32)
  | writeLanded (c : ChainId) (hseq : BitVec 32) (host : HostRead) (lf : LaneFaults)
  | tideBoundary
  | tideSealComplete (tide : Nat)
  | tideConfirmation (tide : Nat)
  | sealFrameReceived (f : SealFrame)
  | shadowBlock (p : PoolId) (b : MirrorBlock)
  | destageStart (p : PoolId) (stripe : Nat) (bad : BadReads) (encodeFails : Nat)
  | stripCommit (p : PoolId) (stripe strip : Nat)
  | destageRetry (p : PoolId) (stripe : Nat) (bad : StepFaults)
  | txOpenTimeout (c : ChainId) (tag : BitVec 8)
  | flushComplete (c : ChainId) (hseq : BitVec 32)
  | devWarmReset (q : Req) (value : BitVec 32) (rings : Rings)
  | warmResetN (rings : Rings)
  | warmResetComplete
  | fwTakeover (selfCheck : Bool) (rings : Rings)
  -- 05: checkpoints and recovery
  | checkpointBuild (p : PoolId)
  | checkpointValid (p : PoolId) (homes : List (Fin 3))
  | extensionWrite (p : PoolId)
  | extensionValid (p : PoolId) (homes : List (Fin 3))
  | poison (p : PoolId) (stripe : Nat)
  | poolStallRelease (q : Req) (p : PoolId) (stripe : Nat)
  | manifestDigest (p : PoolId) (digest : BitVec 32)
  -- 06: integrity
  | scrubStripe (p : PoolId) (bad : BadReads)
  | poolDivResolve (q : Req) (p : PoolId) (value : BitVec 64)
  | volDeferredAck (q : Req) (v : VolId) (n : Nat)
  -- 07: rebuild, crossing, fleet
  | rebuildAbsentHold (k : MemberId)
  | rebuildTask (p : PoolId) (bad : BadReads)
  | stripeRebuilt (p : PoolId) (stripe ordinal : Nat)
  | poolGroupAbandon (q : Req) (p : PoolId) (group : Nat)
  | memberReplaces (q : Req) (k : MemberId) (ordinal : Nat)
  | autoReplace (k : MemberId)
  | copyback (p : PoolId) (ordinal : Nat) (bad : BadReads)
  | crossStart (q : Req) (p : PoolId)
  | crossStep (p : PoolId) (bad : StepFaults)
  | crossStepCommit (p : PoolId)
  | rekeyStripe (p : PoolId) (bad : StepFaults)
  | crossCursorCommit (p : PoolId)
  | crossAbort (q : Req) (p : PoolId)
  | crossComplete (p : PoolId)
  | fleetCommit (q : Req)
  | fleetConfirm (k : MemberId) (readBack : FleetReadBack)
  | fleetPartial
  | fleetRetry (q : Req)
  | fleetRevert (q : Req)
  -- 08: links, discovery, queueing
  | laneProbeRetry (l : Lane) (a : ProbeAnswer)
  /-- `attached`: the SAS address a SAS lane reaches (R185) -/
  | linkUp (l : LinkId) (proto : Protocol) (width : Nat) (tier : Trained)
  | linkDown (l : LinkId)
  | linkRetrain (l : Lane) (cause : RetrainCause)
  | discoveryEvent (r : DiscoveryReport)
  | discoverNow (q : Req) (r : DiscoveryReport)
  | memberPresent (i : MemberInfo)
  | enclNumber (q : Req) (new : Nat)
  | memberReformat (q : Req) (k : MemberId) (fmt : Nat)
  | memberCmdIssue (k : MemberId)
  | memberCmdComplete (k : MemberId) (id : Nat) (r : CmdResult)
  | memberCmdTimeout (k : MemberId) (id : Nat)
  | escalationStepTimeout (k : MemberId)
  | hedgeTimeout (k : MemberId) (id : Nat)
  | drainForNonQueued (k : MemberId)
  | ncqError (k : MemberId) (id : Nat)
  | memberDeferred (k : MemberId) (lba : Option Nat)
  | depthRise (k : MemberId)
  | linkHoldExpire (k : MemberId)
  | suspectClear (k : MemberId)
  | memberForceFailed (q : Req) (k : MemberId)
  | memberClearSuspect (q : Req) (k : MemberId)
  | memberReinstate (q : Req) (k : MemberId)
  | memberWceConfirm (k : MemberId) (a : WceAnswer)
  | spinupGroup
  | spinupAllowExpire (k : MemberId)
  -- 09: Tollgate
  | kekImport (q : Req) (payload : Bytes)
  | kekUnlock (q : Req) (id : Bytes)
  | kekAutoload (q : Req) (e : Fin 64) (on : Bool)
  | kekErase (q : Req) (id : Bytes)
  | tollgateZeroise (q : Req) (value : BitVec 32)
  | poolKekRotate (q : Req) (p : PoolId) (id : Bytes)
  | slotLoad (v : VolId)
  | slotReload (q : Req) (v : VolId)
  | slotCheckFail (v : VolId)
  | glitchTrip (g : Glitch)
  | selftestNow (q : Req) (failed : BitVec 64)
  | drbgReseed (good : Bool)
  | shareRerandomise (v : VolId)
  -- 10: Landing
  | bmeClear (f : Fn)
  | bmeSet (f : Fn)
  | flr (f : Fn)
  | flrComplete (f : Fn)
  | portReset (f : Fn)
  | eventCauseWrite (f : Fn) (v : BitVec 32)
  | eventCauseRead (f : Fn)
  | moderationTimeout (f : Fn) (v : Vec)
  | winCommit (f : Fn) (v : BitVec 32)
  | winSwap (f : Fn)
  | bar4Tlp (f : Fn) (t : PeerTlp)
  | romWrite (f : Fn)
  | bar4Resize (f : Fn) (gib : Nat)
  | hostPortError (f : Fn) (e : PortError)
  | registerWrite (f : Fn) (bar : Nat) (off size : Nat) (value : BitVec 64)
  -- 11: chains and host commands
  | doorbell (f : Fn) (c : ChainId) (size : Nat) (tail : BitVec 32)
  | fetchGrant (f : Fn) (c : ChainId)
  | descriptorFetch (c : ChainId) (slots : List (BitVec 512))
  | unknownOpcode (c : ChainId) (hseq : BitVec 32)
  | read (c : ChainId) (hseq : BitVec 32) (bad : BadReads) (lf : LaneFaults)
  | write (c : ChainId) (hseq : BitVec 32)
  | flush (c : ChainId) (hseq : BitVec 32)
  | unmap (c : ChainId) (hseq : BitVec 32)
  | verify (c : ChainId) (hseq : BitVec 32) (bad : BadReads) (lf : LaneFaults)
  | copy (c : ChainId) (hseq : BitVec 32) (bad : BadReads) (lf : LaneFaults)
  | txBegin (c : ChainId) (hseq : BitVec 32)
  | txCommit (c : ChainId) (hseq : BitVec 32)
  | txAbort (c : ChainId) (hseq : BitVec 32)
  | enable (f : Fn)
  | pause (f : Fn)
  | drain (f : Fn)
  | drainComplete (c : ChainId)
  | resume (f : Fn)
  | reset (f : Fn)
  | unknownChainCmd (f : Fn) (v : BitVec 32)
  -- 12: Hawser
  | pairPartnerUuid (q : Req) (uuid : Bytes)
  | pairForm (peer : PeerIdent)
  | syncConfirmed (p : PoolId)
  | hawserRetrain (width : Nat)
  | path1Lost
  | path2Lost
  | path1Return (tide : Nat)
  | releaseTimeout
  | releaseReceived
  | selfFence
  | reclaimDelay (p : PoolId)
  | contest (p : PoolId)
  | preemptResult (p : PoolId) (home : Fin 3) (a : PreemptAnswer)
  | contestGiveUp (p : PoolId)
  | memberFenceTimeout (p : PoolId) (k : MemberId)
  | switchoverGapEnd (p : PoolId)
  | pairBootWait (held : List (Nat × Nat))
  | failback (p : PoolId)
  | faultyHandoverTimeout
  | poolHandover (q : Req) (p : PoolId)
  | handoverConfirmed (p : PoolId)
  | pairChangeProposal (ch : PairChange) (tide : Nat)
  | pairChangeLapse
  | standbyProbe (k : MemberId) (readGood keyPresent : Bool)
  -- 13: Towpath
  | brace (mv : Nat)
  | braceRelease (mv : Nat)
  | dumpTriggerLow (mv : Nat)
  | comparatorTrip
  | dumpTargetLost (x : Fin 4)
  | dumpComplete (ms : Nat)
  | restoreBoot (b : BootEnv)
  | thermalThrottle (dieC : Int)
  | thermalRelease (dieC : Int)
  | thermalTrip (dieC : Int)
  | thermalRecovery (dieC : Int) (b : BootEnv)
  | storeTest
  | storeTestNow (q : Req)
  | storeTestEnd (capMf esrMohm : Nat)
  | storeOutOfTemp (milliC : Int)
  | storeTempRecover (milliC : Int)
  | warnMv (q : Req) (v : Nat)
  | dumpMv (q : Req) (v : Nat)
  | dumpAdopt (q : Req) (mask : BitVec 8)
  | idleEntry
  | sleepRequest (q : Req)
  | sleepRequestForced (q : Req)
  | wakeHost (f : Fn) (e : WakeEnv)
  | wakeCan (node : Nat) (e : WakeEnv)
  | wakeScheduled (e : WakeEnv)
  | wakePresence (e : WakeEnv)
  | wakeThreshold (ch : Fin 8) (e : WakeEnv)
  | wakeStore (e : WakeEnv)
  | wakeLimitsMet (e : WakeEnv)
  -- 14: calibration
  | calStart (q : Req) (what : Nat) (refs : CalRefs)
  | calRunsComplete (r : CalRuns)
  | calSlewStep
  | calFactory (q : Req)
  -- 15: dictionary
  | sessionOpen (tr : Transport) (node : Nat) (f : Frame)
  | auth (tr : Transport) (node : Nat) (f : Frame)
  | sessionClose (tr : Transport) (node : Nat) (f : Frame)
  | claim (tr : Transport) (f : Frame)
  | keepalive (tr : Transport) (node : Nat) (f : Frame)
  | dictRead (tr : Transport) (node : Nat) (f : Frame)
  | dictWrite (tr : Transport) (node : Nat) (f : Frame) (o : Outside)
  | sessionIdle (session : Nat)
  | transportLockExpire (tr : Transport)
  | credWrite (q : Req) (cred : Fin 3) (wrap : Bytes)
  | credReset (q : Req) (value : BitVec 32)
  | stageRelease (q : Req) (scope : BitVec 32)
  | stageBreak (q : Req) (scope : BitVec 32)
  | mbxSubmit (f : Fn) (len : Nat) (o : Outside)
  | mbxRelease (f : Fn) (v : BitVec 32)
  | twinRelay (tr : Transport) (node : Nat) (op : Nat) (f : Frame)
  | canConfigApply
  | debugUnlock (q : Req) (v : Nat)
  | fwStageBegin (q : Req) (len : Nat)
  | fwStageData (q : Req) (data : Bytes)
  | fwStageVerify
  | fwActivate (q : Req) (partnerActivating : Bool)
  -- 16: Logbook
  | logEvent (e : LogEv)
  | logRecordWrite
  | logDropped
  | logExport
  | logExportNow (q : Req)
  -- 17: boot and resets
  | powerOn (b : BootEnv)
  | coldResetN (low : Bool) (b : BootEnv)
  | railsGoodFall (b : BootEnv)
  | tapInstruction (op : TapOp)
  -- rows added at the end of the table
  | path2Return (code : BeatCode)
  | sleepAnnouncement (pools : List PoolId)
  | pairChangeAccepted
  | dumpLinkDown (x : Fin 4)
  | dumpTargetWarning (x : Fin 4)
  | protChannelUnhealthy (ch : Fin 12)
  | returnToArchiveSleep
  | msixVectorUnmask (f : Fn) (u : Unmask)
  | hostLinkUp (f : Fn) (width rate : Nat) (flit : Bool)
deriving DecidableEq, Repr

end Sys2Proof
end

