-- ==== Sys2Proof/Machine/Crc.lean ====
section
/-! DEFINITION. The check codes of the part: CRC-32C (R43), the T10 CRC-16 (R130) and the NVMe CRC-64 (R132). -/

namespace Sys2Proof

/-- One byte into a reflected CRC register with reflected polynomial `poly`. -/
def crcReflByte {w : Nat} (poly : BitVec w) (crc : BitVec w) (b : Byte) : BitVec w :=
  (List.range 8).foldl (fun c _ => if c.getLsbD 0 then (c >>> (1 : Nat)) ^^^ poly else c >>> (1 : Nat)) (crc ^^^ b.setWidth w)

/-- CRC-32C of a byte string (R43): polynomial 0x1EDC_6F41, reflected, initial and final 0xFFFF_FFFF. -/
def crc32c (bs : Bytes) : BitVec 32 :=
  ~~~ (bs.foldl (crcReflByte (0x82F63B78 : BitVec 32)) 0xFFFFFFFF)

/-- The CRC-16 of T10 PI (R130): polynomial 0x8BB7, initial 0, not reflected. -/
def crc16t10 (bs : Bytes) : BitVec 16 :=
  bs.foldl (fun (crc : BitVec 16) (b : Byte) =>
    (List.range 8).foldl (fun (c : BitVec 16) _ => if c.getLsbD 15 then (c <<< (1 : Nat)) ^^^ (0x8BB7 : BitVec 16) else c <<< (1 : Nat))
      (crc ^^^ (b.setWidth 16 <<< (8 : Nat)))) 0

/-- The NVMe CRC-64 (R132; NVMe 2.0 64-bit guard): polynomial 0xAD93_D235_94C9_3659, reflected, initial and final all
ones. PRESUMED: the parameters are the standard's (log entry 13). -/
def crc64nvme (bs : Bytes) : BitVec 64 :=
  ~~~ (bs.foldl (crcReflByte (0x9A6C9329AC4BC9B5 : BitVec 64)) 0xFFFFFFFFFFFFFFFF)

end Sys2Proof

namespace Sys2Proof.Machine

/-! ### Structures laid out in bits -/

/-- A structure of `n` bytes from its fields (lowest bit, bits, value); bits no field covers are zero (Rsvd). -/
def layout (n : Nat) (fields : List (Nat × Nat × Nat)) : Bytes :=
  leBytes n ((fields.map (fun f => f.2.2 % 2 ^ f.2.1 * 2 ^ f.1)).foldl (· + ·) 0)

/-- A byte string as a field. -/
def bytesAt (lo len : Nat) (b : Bytes) : Nat × Nat × Nat := (lo, 8 * len, ofLe (padTo len b))

/-- Signature in bytes 0–7, FORMAT 0x0001 in bytes 8–9. -/
def signed (name : String) : List (Nat × Nat × Nat) := [bytesAt 0 8 (ascii name), (64, 16, 1)]

/-- A structure whose last 4 bytes hold the CRC-32C over those before (R43). -/
def withCrc (b : Bytes) : Bytes := b ++ leBytes 4 (crc32c b).toNat

def bit (b : Bool) (lo : Nat) : Nat × Nat × Nat := (lo, 1, b2n b)

end Sys2Proof.Machine
end

