-- ==== Sys2Proof/Config.lean ====
section
/-! DEFINITION. What the spec leaves open: the free values. None has a body, so no proof can see one. -/

namespace Sys2Proof.Config

/-- Random byte `n` of the DRBG (R225): pool UUID, BRAID_SEED, nonces, key material, PAIR_UUID. Log entry 5. -/
opaque drbgByte : Nat → Byte

/-- The device UUID, fused per part (Table 15.9: no default). Log entry 5. -/
opaque deviceUuidByte : Nat → Byte

/-- FW_VERSION, security epoch and signature verdict of an image (R373; the image layout and the fused key are not
given). Log entry 6. -/
opaque imageVersion : Bytes → Nat
opaque imageEpoch : Bytes → Nat
opaque imageSignatureGood : Bytes → Bool

/-- Factory ADC gain (ppb) and offset (1/256 LSB) corrections (Table 14.4 "factory"). Log entry 7. -/
opaque factoryGainPpb : Int
opaque factoryOffset : Int

/-- Which qualifying mirror copy an ordinary read uses (R136 "not defined"), from the block's address. Log entry 8. -/
opaque mirrorReadCopy : Nat → Nat → Nat

/-- Which lane of a wide port a command uses ("any lane", R185), by member and command tag. Log entry 137. -/
opaque portLane : Nat → Nat → Nat

/-- The read cache still holds a clean block (R88 "until it reclaims them"), by pool, stripe, strip, offset and time. Log
entry 136. -/
opaque cacheKeeps : Nat → Nat → Nat → Nat → Nat → Bool

/-- The severity a subsystem assigns to a NOTED record (R383), by rule and item. Log entry 9. -/
opaque notedSeverity : Nat → Nat → Nat

/-- Content of an unlocked debug register (R245). Log entry 10. -/
opaque debugRegister : Nat → Nat → Nat

/-- Content of the factory test records (R376). Log entry 11. -/
opaque factoryRecord : Nat → Bytes

/-- The board's UEFI driver image (R238, R400): its length, 0 when absent. Log entry 6. -/
opaque uefiImageLen : Nat

/-- Errors beyond 64 that a lane counted in the second that made it retrain (R188: only "more than 64"), by lane and count
of retrains. Log entry 16. -/
opaque laneErrors : Nat → Nat → Nat

/-- Capacity in 4 KiB blocks of a member after a reformat (R195: not given). Log entry 16. -/
opaque reformatCapacity : Bytes → Nat → Nat

/-- Stripes a dump target that was lost during the dump had recorded, in records of 256 (Table 13.6), by DUMP_SEQ and
target. Log entry 18. -/
opaque dumpRecords : Nat → Nat → Nat

/-- DICT_GEN of the image in service (R372 says when it changes, not its value), by FW_VERSION. Log entry 21. -/
opaque dictGen : Nat → Nat

/-- CAL_HISTORY's bytes (R348 gives the content of the records, no layout): the records as numbers beside the
certificate identifier, the factory record first. Log entry 21. -/
opaque calHistory : List (List Int × Bytes) → Bytes

/-- RESTORE_LAST_MS (R335: at most 2.0 s for a full image), by DUMP_SEQ. Log entry 18. -/
opaque restoreMs : Nat → Nat

/-- Status of a host command that a bridge fault fails (R18: "the status that its owning chapter gives", none does), by
subsystem. Log entry 134. -/
opaque internalError : Nat → Nat

/-- The root key, which the spec gives no value (R215). -/
opaque rootKey : Bytes

end Sys2Proof.Config
end

