-- ==== Sys2Proof/Machine/State.lean ====
section
/-! DEFINITION. The state of the part as plain data, and the state after reset. A field's comment reads
"width; file rule; value after reset". DC marks a value the spec does not give (DESIGN CHOICE, log entry 3), MODEL a field
of the model's own (log entry 2). The settable objects of the dictionary stand in `DictSt.objs` under their index and
subindex, with the defaults of Machine/ObjTable.lean. -/

namespace Sys2Proof.Machine

/-- Reasons a command stops the model. -/
inductive Fault
  /-- Raised by REGISTER_WRITE and BAR4_TLP on an offset past the end of the BAR, or a BAR the function does not have
  (R237): no TLP carries it to the function. Safe. -/
  | outsideBar (bar off : Nat)
deriving DecidableEq, Repr

/-- Reasons a command has no meaning. -/
inductive Refusal
  /-- A row whose meaning is not written yet. Safe. -/
  | notModelled (mnemonic : String)
deriving DecidableEq, Repr

/-! ### Islands and bridges (01) -/

/-- Answers of a bridge (R14, R18). -/
inductive BridgeAnswer | done | islandAsleep | bridgeFault
deriving DecidableEq, Repr

structure IslandSt where
  /-- island; 01 R11; one entry per island -/
  island : Island
  /-- bool; 01 R11 R15; only S powered -/
  powered : Bool
  /-- bool, ready flag, incoming bridges open; 01 R16; only S ready -/
  ready : Bool
  /-- bool, ordered up and not ready; 01 R11; false -/
  waking : Bool
  /-- islands answered ISLAND_ASLEEP since the close; 01 R16; none -/
  refused : List Island
deriving DecidableEq, Repr

structure BridgeSt where
  src : Island
  dst : Island
  /-- count of corrected single-bit errors; 01 R18; 0 -/
  corrected : Nat
  /-- count of uncorrectable faults; 01 R18; 0 -/
  faults : Nat
  /-- times of uncorrectable faults within the last second; 01 R18; none -/
  recent : List Nat
deriving DecidableEq, Repr

/-! ### Members (02, 08) -/

/-- The work a member command serves (Tables 8.4 and 8.5). -/
inductive MOp
  | readStrip (pool stripe strip : Nat) (chain : Nat) (hseq : BitVec 32)
  | writeStrip (pool stripe strip : Nat)
  | laneWrite (pool stripe entry : Nat)
  | structureWrite
  /-- charter copy B of generation `gen` (02 R45 step 4) -/
  | copyB (pool gen : Nat)
  /-- the first strip slot by the zeroing command, its read-back, the whole data area by command or ordinary writes (02
  R26, 08 R196) -/
  | zeroSlot (pool : Nat)
  | zeroCheck (pool : Nat)
  | zeroRest (pool : Nat) (byCommand : Bool)
  | flushCache
  | cacheControl
  | identify
  | spinControl
  | healthLog
  | fence
deriving DecidableEq, Repr

structure MCmd where
  /-- tag of the command within its member; 08 R199; - -/
  id : Nat
  op : MOp
  /-- class 0–8; 08 R201 T8.5; - -/
  cls : Nat
  /-- non-queued on SATA; 08 R202; - -/
  nonQueued : Bool
  /-- FUA bit; 08 R197; - -/
  fua : Bool
  /-- block range (MBA, blocks); 08 R198; - -/
  mba : Nat
  count : Nat
  /-- lane of the member's port it was last issued on, 144 none; 08 R185; 144 -/
  lane : Nat
  /-- single retry used; 08 R205; false -/
  retried : Bool
  /-- timed out, waits for the escalation; 08 R205; false -/
  timedOut : Bool
deriving DecidableEq, Repr

structure MemberSt where
  /-- u14 member id; 08 R191; - -/
  id : Nat
  /-- MEMBER_STATE code of Table 2.7, 0xFE conflicting; 08 R191 R193; - -/
  state : Nat
  /-- MEMBER_IDENTITY and what discovery read; 08 R193 T8.9; - -/
  info : MemberInfo
  /-- a path is up; 08 R206; true when found -/
  linkUp : Bool
  /-- label now on the member; 02 R25 T2.5; as found -/
  label : LabelRead
  /-- charter copy A with a valid CRC; 02 R44; none -/
  charterA : Option Charter
  /-- charter copy B with a valid CRC; 02 R44; none -/
  charterB : Option Charter
  /-- blocks of the data area, sparse, unlisted is all zero; 02 R42 06 R127; as found -/
  media : List (Nat × Block)
  /-- checkpoint slots 0 and 1 and the extension ring; 05 R111; none -/
  ckpts : List CkptImage
  exts : List ExtImage
  /-- lost-block table slots 0 and 1; 06 R147; none -/
  lostSlots : List LostImage
  /-- the Logbook export; 16 R385; none -/
  logExport : Option LogExport
  /-- MEMBER_WCE; 08 R208; 2 -/
  wce : Nat
  /-- settings not confirmed, with their mark: (kind, 1 pending or 2 PARTIAL) (MEMBER_FLEET); 07 R179–R181; none -/
  fleet : List (Nat × Nat)
  /-- tier cap on the link that attaches the member, 0 none; 08 R186; 0 -/
  rateCap : Nat
  /-- working depth; 08 R200; protocol default -/
  workDepth : Nat
  /-- fleet depth ceiling; 08 R200; protocol default -/
  depthCap : Nat
  /-- MEMBER_TIMEOUTS, MEMBER_RESETS; 08 T8.9; 0 -/
  timeouts : Nat
  resets : Nat
  /-- times of medium errors, of escalations to step 3; 08 R206; none -/
  mediumErrs : List Nat
  step3Times : List Nat
  /-- waiting and outstanding commands; 08 R199; none -/
  waiting : List MCmd
  outstanding : List MCmd
  /-- next command tag; 08 MODEL; 0 -/
  nextTag : Nat
  /-- draining for a non-queued command; 08 R202; false -/
  draining : Bool
  /-- escalation step, 0 none, 4 after step 3; 08 R205; 0 -/
  escStep : Nat
  /-- last 4,096 committed write addresses; 08 R207; none -/
  recentWrites : List Nat
  /-- time its clearance after the last SUSPECT cause ends, by the limit then in force; 08 R206 01 R20; none -/
  suspectEnd : Option Nat
  /-- time it entered PRESENT; 07 R164; - -/
  presentAt : Nat
  /-- MEMBER_SPUN: 0 stopped, 1 ready, 2 starting; 08 T8.9; 0 rotating, 1 other -/
  spun : Nat
  /-- started once more; 08 R209; false -/
  spinRetried : Bool
  /-- this unit's key registered, member fenced against the twin; 12 R305; false -/
  registered : Bool
  fenced : Bool
deriving DecidableEq, Repr

/-! ### The protected region (04, 05) -/

inductive EntryState | held | writing | through | stalled
deriving DecidableEq, Repr

/-- A Manifest entry that is not FREE (Table 5.2) with the destage in progress (R82). -/
structure MEntry where
  /-- entry number e; 05 R102; - -/
  slot : Nat
  pool : Nat
  stripe : Nat
  state : EntryState
  tx : Bool
  syndFail : Bool
  rmw : Bool
  chkOut : Bool
  /-- bits 47:0; 05 T5.2; - -/
  firstTide : Nat
  genLo : Nat
  /-- strips of STRIP_MASK; 05 T5.2; - -/
  mask : List Nat
  /-- strips not yet committed; 04 R88; none -/
  left : List Nat
  /-- places of the strip writes as they were built, and of those that committed: (strip, member, MBA); 03 R65 04 R88; none -/
  places : List (Nat × Nat × Nat)
  done : List (Nat × Nat × Nat)
  /-- blocks the destage writes: (strip, bo, block); 04 R82 R104; none -/
  staged : List (Nat × Nat × Block)
  /-- blocks (strip, bo, generation) the destage took, released when it commits; 04 R82; none -/
  snap : List (Nat × Nat × Nat)
  /-- strips are built and wait for the intent set or the twin; 05 R104 T5.3; false -/
  built : Bool
  /-- tide whose seal carries the transition to WRITING; 05 T5.3; 0 -/
  readyTide : Nat
  /-- encodings that failed in the attempt in progress; 04 R41; 0 -/
  synd : Nat
  /-- class of the entry's member writes; 08 R201; 5 -/
  cls : Nat
  /-- whole-stripe write to a stripe beyond repair; 07 R160; false -/
  whole : Bool
  /-- time since which a Progress pool cannot make the stripe consistent; 05 R122; none -/
  stalledAt : Option Nat
  /-- awaits its replay after a restart; 05 R117; false -/
  replay : Bool
  /-- the last destage left the stripe held; 04 R85; false -/
  tried : Bool
deriving DecidableEq, Repr

/-- A block held in Pontoon: in the data area of the protected region, or staged write-through (R71, R80). -/
structure Held where
  pool : Nat
  stripe : Nat
  strip : Nat
  bo : Nat
  vol : Nat
  lba : Nat
  gen : Nat
  tide : Nat
  block : Block
  /-- chain and tag of the open or committing transaction; 04 R90; - -/
  tx : Option (Nat × Nat)
  /-- write-through staging, not a held block; 04 R80; - -/
  through : Bool
  /-- command the block belongs to; 04 R80; - -/
  chain : Nat
  hseq : BitVec 32
  /-- protection was lost while the block was held; 04 R68; false -/
  weak : Bool
deriving DecidableEq, Repr

/-- A block clean in the read cache (R83, R88). -/
structure CleanBlk where
  pool : Nat
  stripe : Nat
  strip : Nat
  bo : Nat
  block : Block
deriving DecidableEq, Repr

/-- A transaction of a chain (R89–R93). -/
structure TxSt where
  tag : Nat
  pool : Nat
  extents : Nat
  blocks : Nat
  failed : Bool
  timedOut : Bool
  /-- ended because the pool left PROTECTED; 04 R93; false -/
  noProtect : Bool
  /-- tide its commit record lies in; 04 R92; none -/
  commitTide : Option Nat
deriving DecidableEq, Repr

/-- A confirmation mark (R106): two copies, each a mark with its complement, written alternately; `second` says that the next
write goes to the second. -/
structure MarkSt where
  a : Nat × Nat
  b : Nat × Nat
  second : Bool
deriving DecidableEq, Repr

/-- A tide seal record (Table 5.4). -/
structure Seal where
  tide : Nat
  blocks : Nat
  entryChanges : Nat
  txCommits : Nat
  retired : Nat
  ckptSeq : Nat
  destagedTide : Nat
  empty : Bool
  paired : Bool
  confirmed : Bool
  frozen : Bool
  /-- Pontoon reported the record written; 04 R76; false -/
  complete : Bool
  /-- PREV_CRC: the CRC field of the record before it; 05 T5.4; - -/
  prev : Nat
deriving DecidableEq, Repr

/-- State of a chain as the control area's chain record keeps it (R100). -/
structure ChainRec where
  id : Nat
  dseq : BitVec 32
  fetchSeq : BitVec 32
  dbSeq : BitVec 32
  st : Nat
  haltStatus : Nat
deriving DecidableEq, Repr

structure ManifestSt where
  /-- up to 1,048,576 entries; 05 R102 R103; none -/
  entries : List MEntry
  /-- blocks held or staged in Pontoon; 04 R71; none -/
  held : List Held
  /-- seal ring, newest first, at most 8,192; 05 R105; none -/
  seals : List Seal
  /-- confirmation mark per pool; 05 R106; none -/
  marks : List (Nat × MarkSt)
  /-- chain record; 04 R100; none -/
  chainRecs : List ChainRec
  /-- transaction table as an image carries it: (chain, transaction); the live one stands with the chains; 05 R102; none -/
  txRecs : List (Nat × TxSt)
  /-- blocks clean in the read cache; 04 R83 R88; none -/
  clean : List CleanBlk
  /-- what the next seal carries to the twin, and what seals not yet confirmed carried, by tide; 05 R118 12 R303; none -/
  news : List TwinNews
  sentNews : List (Nat × List TwinNews)
  /-- counts of the open tide: blocks, entry changes, commits, retirements; 05 T5.4; 0 -/
  nBlocks : Nat
  nChanges : Nat
  nCommits : Nat
  nRetired : Nat
  /-- highest tide whose every block is committed; 05 T5.4; 0 -/
  destagedTide : Nat
deriving DecidableEq, Repr

/-! ### Pools (03–07, 12) -/

structure DivEntry where
  vol : Nat
  lba : Nat
  stripe : Nat
  strip : Nat
  bo : Nat
deriving DecidableEq, Repr

/-- A checkpoint or extension being written (R110, R108). -/
structure CkptBuild where
  image : CkptImage
  /-- the lost-block table slot written with it; 06 R147; - -/
  lostImage : LostImage
  /-- its homes that have reported, and those lost since; 05 R110 R114; none -/
  reported : List Nat
  lost : List Nat
  /-- announced to the twin, tide whose confirmation starts the writes; 12 R299; none -/
  announceTide : Option Nat
deriving DecidableEq, Repr

structure CkptSt where
  /-- POOL_CKPT_SEQ; 05 T5.12; 0 before creation -/
  seq : Nat
  /-- ordinals of the three homes; 05 R113; none -/
  homes : List Nat
  /-- homes lost and not yet replaced; 05 R114; none -/
  lostHomes : List Nat
  /-- intent set in force; 05 R107; none -/
  intent : List Nat
  /-- extensions valid after the checkpoint; 05 R108; 0 -/
  extSeq : Nat
  build : Option CkptBuild
  extBuild : Option ExtImage
  /-- homes that have reported the extension being written; 05 R112; none -/
  extReported : List Nat
  /-- the checkpoint in force with its table slot, and its extensions, as a home that reports later stores them; 05 R110;
  none -/
  inForce : Option (CkptImage × LostImage)
  exts : List ExtImage
  /-- stripes ready and not in the set; 05 R108; none -/
  ready : List Nat
  /-- cases of R109 for which a checkpoint out of schedule is due; 05 R109; none -/
  due : List Nat
  /-- ordinals whose relocation the generation in force changed, until the next checkpoint; 05 R109; none -/
  moved : List Nat
  /-- TIDE and DESTAGED_TIDE of the checkpoint in force; 05 T5.6; 0 -/
  tide : Nat
  destagedTide : Nat
deriving DecidableEq, Repr

/-- Content of a charter change that waits (R45): what the next generation changes in the one in force. -/
inductive CharterDelta
  | memberState (ordinal st : Nat)
  | initDone
  | addVol (v : CVol)
  | growVol (id size : Nat)
  | delVol (id : Nat)
  | recovery (v : Nat)
  | kek (id : Bytes) (wraps : List (Nat × Bytes))
  | replace (ordinal : Nat) (m : CMember)
  /-- a Crossing begins: its target block and the members that join only the target -/
  | crossStart (x : CrossBlk) (new : List CMember)
  /-- cursor, volume in progress, stage -/
  | crossSet (x : CrossBlk)
  /-- the end of a re-keyed volume: its new wrapped key -/
  | crossVol (x : CrossBlk) (vol : Nat) (wrapped : Bytes)
  | crossAborted
  | crossDone
  | paired (on : Bool) (uuid pref : Bytes)
deriving DecidableEq, Repr

/-- A charter change waiting or being written (R45). -/
structure ChangeBuild where
  charter : Charter
  /-- what the change is, none for a creation or a restoring generation; 02 R45; - -/
  delta : Option CharterDelta
  /-- members copy A is on; 02 R45; none -/
  holders : List Nat
  /-- members whose copy A write failed; 02 R45; none -/
  failed : List Nat
  restoring : Bool
  /-- paired pool: tide whose seal announces it; 12 R299; none -/
  announceTide : Option Nat
  /-- the pool's first generation; 02 R26; false -/
  creation : Bool
deriving DecidableEq, Repr

structure CrossSt where
  /-- CROSS_STATE; 07 T7.8; 0 -/
  state : Nat
  /-- live cursor L; 07 R171; 0 -/
  live : Nat
  /-- target stripes of the step not yet committed; 07 R171; none -/
  stepLeft : List Nat
  /-- volumes already crossed; 07 R172; none -/
  crossed : List Nat
  /-- volumes named for a new key as the Crossing was started; 07 R167; none -/
  named : List Nat
deriving DecidableEq, Repr

/-- A contest for a pool (R305). -/
structure ContestSt where
  declTide : Nat
  won : List Nat
  lost : List Nat
deriving DecidableEq, Repr

structure PoolPairSt where
  /-- POOL_OWNER; 12 T12.8; 0 -/
  owner : Nat
  /-- POOL_PAIR_STATE; 12 T12.8; 0 -/
  state : Nat
  /-- POOL_OWNER_NEXT; 12 T12.8; 2 -/
  ownerNext : Nat
  /-- POOL_HANDOVER_TIDE; 12 T12.8; 0 -/
  handoverTide : Nat
  /-- old owner admits nothing from the boundary opening h; 12 R311; false -/
  handing : Bool
  /-- time the hold-off ends that began as the pool last became PAIRED; 12 R310 01 R20; none -/
  failbackAt : Option Nat
  /-- boundaries with mirror lag 0 in a row; 12 R310; 0 -/
  lagZero : Nat
  /-- sync tide s; 12 R295; none -/
  syncTide : Option Nat
  /-- shadow of the twin's pool: blocks, tide confirmed, coverage, entries WRITING; 12 R300 R313; none -/
  shadow : List MirrorBlock
  shadowTide : Nat
  coverage : Nat
  shadowWriting : List Nat
  /-- the twin's rebuild record: (ordinal, stripe); 07 R153 R157; none -/
  shadowRebuilt : List (Nat × Nat)
  /-- highest CKPT_SEQ the twin announced, and the stripes of the extensions announced after it; 12 R299 R308; 0, none -/
  announcedSeq : Nat
  announcedExt : List Nat
  contest : Option ContestSt
  /-- members not yet fenced; 12 R306; none -/
  fenceLeft : List Nat
  /-- switch-over gap open; 12 R308; false -/
  gap : Bool
  /-- old intent set; 12 R299; none -/
  oldIntent : List Nat
  /-- last digest differed; 12 R300; false -/
  digestBad : Bool
deriving DecidableEq, Repr

structure PoolInt where
  /-- lost-block table; 06 R145; none -/
  lost : List LostEntry
  /-- POOL_LOST_STATE; 06 R149; 0 -/
  lostState : Nat
  /-- POOL_POISONED; 05 T5.12; 0 -/
  poisoned : Nat
  /-- unresolved divergent blocks, oldest first; 06 R139; none -/
  diverged : List DivEntry
  /-- divergent blocks whose resolving rewrite is on its way to the members; 06 R139; none -/
  resolving : List DivEntry
  /-- resolutions accepted while the stripe's entry was in use, with their choice; 06 R139; none -/
  toResolve : List (DivEntry × Nat)
  /-- POOL_REPAIRED; 06 T6.9; 0 -/
  repaired : Nat
  /-- POOL_SCRUB_CURSOR; 06 T6.9; 0 -/
  scrubCursor : Nat
  scrubStart : Nat
  /-- POOL_SCRUB_PASS_END; 06 T6.9; 0 -/
  scrubEnd : Nat
  /-- POOL_SCRUB_BEHIND; 06 T6.9; 0 -/
  scrubBehind : Bool
  /-- stripes awaiting reconciliation; 05 R119; none -/
  reconcile : List Nat
  /-- stripes it has reconciled and blocks it has entered as lost, as its record will say; 05 R119; 0 -/
  reconDone : Nat
  reconLost : Nat
  /-- stripes of the intent set still to be read for markers after a restart; 06 R149; none -/
  survey : List Nat
  /-- stripes to be examined (again) once their entry has retired and no strip is missing; 06 R131 R137 R139 R141 R144; none -/
  again : List Nat
  /-- offsets whose checks are recomputed once every block there is available: (stripe, offset, no decode until then); 06 R145
  R412; none -/
  recheck : List (Nat × Nat × Bool)
  /-- POOL_LAST_RECOVERY; 05 T5.12; 0 -/
  lastRecovery : Nat
  /-- POOL_STALL_RELEASE, last released; 05 T5.12; 0 -/
  lastRelease : Nat
  /-- the protected region holds this pool's blocks since the last restart; 05 R116; false -/
  region : Bool
  /-- a change of recovery model is agreed and not yet applied by both parts: the pool behaves as Strict; 05 R124; false -/
  asStrict : Bool
  /-- commit records found in it: (chain, tag, tide); 05 R117; none -/
  commits : List (Nat × Nat × Nat)
deriving DecidableEq, Repr

/-- A lane write issued and not committed (R156, R65). -/
structure LaneWrite where
  ordinal : Nat
  stripe : Nat
  /-- member and MBA it was built for -/
  place : Nat × Nat
  blocks : List (Nat × Block)
deriving DecidableEq, Repr

structure PoolReb where
  /-- rebuilt strips: (ordinal, stripe); 07 R156 R157; none -/
  rebuilt : List (Nat × Nat)
  /-- lane writes issued and not committed; 07 R156; none -/
  writing : List LaneWrite
  /-- stale map: (ordinal, group); 07 R161; none -/
  stale : List (Nat × Nat)
  /-- ordinals whose stale map is lost; 07 R161; none -/
  staleAll : List Nat
  /-- ordinals declared FAILED and not yet recorded; 03 R65; none -/
  failing : List Nat
  /-- copy-back cursor per ordinal: next group; 07 R165; none -/
  copyback : List (Nat × Nat)
  /-- time each rebuild started; 07 R153; none -/
  started : List (Nat × Nat)
  /-- last POOL_OVERLIMIT and POOL_UNPLACED logged and the time; 03 R59; none -/
  spareLogged : Option (Nat × Nat × Nat)
deriving DecidableEq, Repr

structure PoolSt where
  /-- pool id 0–63; 02 R23; - -/
  id : Nat
  /-- POOL_LIFE; 15 T15.9; 0 -/
  life : Nat
  /-- POOL_COMMIT_RESULT; 15 T15.9; 0 -/
  commitResult : Nat
  /-- generation in force; 02 R45; - -/
  charter : Charter
  /-- committed generation that waits for its boundary; 02 R45; none -/
  coming : Option Charter
  /-- change being written; 02 R45; none -/
  change : Option ChangeBuild
  /-- contents of changes that wait; 02 R45; none -/
  queue : List CharterDelta
  /-- H, highest generation written; 02 R45; 0 -/
  highGen : Nat
  /-- members whose zeroing is not complete; 02 R26; none -/
  initLeft : List Nat
  /-- POOL_WRITE_STATE; 04 T4.2; 1 -/
  writeState : Nat
  ckpt : CkptSt
  int : PoolInt
  reb : PoolReb
  pair : PoolPairSt
  cross : CrossSt
  /-- generations found by a refused import: (generation, charter, count); 02 R46; none -/
  found : List (Charter × Nat)
deriving DecidableEq, Repr

/-- Per-volume state outside the charter (R150). -/
structure VolSt where
  id : Nat
  /-- VOL_LIFE; 15 T15.9; 0 -/
  life : Nat
  /-- VOL_COMMIT_RESULT; 15 T15.9; 0 -/
  commitResult : Nat
  /-- deferred queue, at most 256, oldest first; 06 R150; none -/
  deferred : List Nat
  /-- VOL_DEFERRED_COUNT; 06 T6.9; 0 -/
  deferredCount : Nat
  /-- pending flag per function; 06 R150; false -/
  flag0 : Bool
  flag1 : Bool
  /-- tide and SEQ of the last admitted write; 06 R135; none -/
  genTide : Nat
  genSeq : Nat
deriving DecidableEq, Repr

/-! ### Scheduler (04) -/

structure SchedSt where
  /-- ADMIT_CEILING_MIB in force; 04 R72 R73; DC -64 -/
  ceiling : Int
  /-- ceilings computed in the last second, newest first, with their times; 04 R73; none -/
  estimates : List (Nat × Int)
  /-- twin's ceiling; 04 R73; none -/
  twinCeiling : Option Int
  /-- ADMIT_STATE; 04 R75; 3 -/
  admitState : Nat
  /-- a brace holds writes; 13 R327; false -/
  brace : Bool
  /-- DEV_STATUS.READY, FROZEN, RESETTING, FAULTY; 10 T10.9; 0 -/
  ready : Bool
  frozen : Bool
  resetting : Bool
  faulty : Bool
  /-- causes that made the part faulty: a subsystem of Table 1.1, 0 for a bridge; 01 R18; none -/
  faultSubs : List Nat
  /-- admission stopped by a dump or reset; 13 T13.5; false -/
  stopped : Bool
  /-- member queueing issues nothing until the member-side restart of a warm reset; 08 R211; false -/
  memberStop : Bool
  /-- TIDE_NOW; 06 R135 tides from 1; 1 -/
  tideNow : Nat
  /-- tide length in force; 04 T4.3; 20 -/
  tideUs : Nat
  /-- PROT_SIZE_MIB in force; 04 R71; 0 -/
  protMib : Nat
  /-- PEER_AREA_MIB in force; 10 R256; 0 -/
  peerMib : Nat
  /-- channels of the protected region not healthy; 04 T4.1; none -/
  badChannels : List Nat
  /-- coding pipelines retired and failures (pipeline, time); 02 R41; none -/
  retiredPipes : List Nat
  pipeFails : List (Nat × Nat)
  /-- host command contexts in use are counted from the chains; throttle at 100 °C; 13 R324; false -/
  throttled : Bool
deriving DecidableEq, Repr

/-! ### Chains (11) -/

inductive ChainState | disabled | running | parked | paused | draining | halted
deriving DecidableEq, Repr

/-- Where a command of a chain stands (R80, R90, R97, R252). -/
inductive CmdPhase
  | accepted
  | waiting
  | admitted
  | landed
  | through
  | placed
  /-- abandoned at the loss of Bus Master Enable (R252) -/
  | abandoned
  | done
deriving DecidableEq, Repr

structure Cmd where
  hseq : BitVec 32
  desc : BitVec 512
  phase : CmdPhase
  /-- generation; 06 R135; 0 until admitted -/
  gen : Nat
  /-- tide it joined; 04 R76; 0 -/
  tide : Nat
  /-- admitted write-through; 04 R80; false -/
  through : Bool
  /-- places its blocks went to: (pool, stripe, strip, offset); 06 R148; none -/
  covers : List (Nat × Nat × Nat × Nat)
  /-- VECTOR and NOSNOOP of RING_CFG as the descriptor was fetched; 11 R286; - -/
  vector : Nat
  noSnoop : Bool
deriving DecidableEq, Repr

structure ChainSt where
  id : Nat
  /-- RING_BASE register; 11 T11.4; 0 -/
  regBase : BitVec 64
  /-- RING_CFG register; 11 T11.5; 0x1F00_0004 -/
  regCfg : BitVec 32
  /-- SEQ_BASE register; 11 T11.4; 0 -/
  regSeq : BitVec 32
  /-- latched RING_BASE, SIZE_LOG2, SEQ_BASE; 11 R288; 0, 4, 0 -/
  ringBase : BitVec 64
  sizeLog2 : Nat
  seqBase : BitVec 32
  /-- FETCH_SEQ; 11 R286; 0xFFFF_FFFF -/
  fetchSeq : BitVec 32
  /-- DB_SEQ; 11 R286; 0xFFFF_FFFF -/
  dbSeq : BitVec 32
  /-- DSEQ; 11 R286; 0xFFFF_FFFF -/
  dseq : BitVec 32
  /-- PARK_SEQ; 11 R286; 0 -/
  parkSeq : BitVec 32
  /-- IGN_DB; 11 R286; 0 -/
  ignDb : Nat
  /-- FOREIGN_DB; 11 R286; 0 -/
  foreignDb : Nat
  /-- REFETCHES; 11 R286; 0 -/
  refetches : Nat
  /-- STATE; 11 T11.6; DISABLED -/
  st : ChainState
  /-- HALT_STATUS; 11 T11.6; 0 -/
  halt : Nat
  /-- parked on the accepted tail; 11 R283; false -/
  onTail : Bool
  /-- paused while parked; 11 T11.7; false -/
  wasParked : Bool
  /-- a parked re-fetch is due; 11 R282; false -/
  refetchDue : Bool
  /-- DB_SEQ when the outstanding fetch was issued, none when no fetch is out; 11 R284; none -/
  fetchDb : Option (BitVec 32)
  /-- slots that fetch reads; 11 R283; 0 -/
  fetchN : Nat
  /-- a fetch was out when requests stopped, its completion is discarded; 10 R252; false -/
  fetchLost : Bool
  /-- grants taken in the round of the weighted round-robin; 11 R290; 0 -/
  turns : Nat
  /-- accepted commands in chain order, those behind DSEQ left out; 11 R283; none -/
  cmds : List Cmd
  /-- open transactions; 11 R279; none -/
  txs : List TxSt
deriving DecidableEq, Repr

/-! ### Landing (10) -/

structure Window where
  /-- u64; 10 T10.12; 0 -/
  base : Nat
  /-- u64; 10 T10.12; 0 -/
  size : Nat
  /-- u64; 10 T10.12; 0 -/
  target : Nat
  /-- bool; 10 T10.12; 0 -/
  readEn : Bool
  /-- bool; 10 T10.12; 0 -/
  writeEn : Bool
deriving DecidableEq, Repr

structure FnSt where
  /-- Bus Master Enable; 10 R252 R254; 0 -/
  bme : Bool
  /-- Memory Space Enable; 10 R237; DC false -/
  mse : Bool
  /-- Enable No Snoop; 10 R249; DC true -/
  noSnoopEn : Bool
  /-- Enable Relaxed Ordering; 10 R247; DC true -/
  relaxedEn : Bool
  /-- link up, width, rate code, Flit mode (PORT_LINK); 10 T10.15; down -/
  linkUp : Bool
  width : Nat
  rate : Nat
  flit : Bool
  /-- function in D0; 13 R321; true -/
  d0 : Bool
  /-- answers Request Retry Status; 10 R254 R255; true -/
  retry : Bool
  /-- PERSTx_N asserted; 17 T17.4; true -/
  perst : Bool
  /-- EVENT_CAUSE; 10 T10.9; 0 -/
  cause : BitVec 32
  /-- EVENT_ENABLE; 10 T10.8; 0 -/
  enable : BitVec 32
  /-- renewed marks; 10 R245; 0 -/
  renewed : BitVec 32
  /-- BME_DISCARDS; 10 T10.8; 0 -/
  bmeDiscards : Nat
  /-- ROM_WRITE_DROPS; 10 T10.8; 0 -/
  romDrops : Nat
  /-- CHAIN_SEL; 11 T11.4; CHAIN_FIRST -/
  chainSel : Nat
  /-- CMD_STATUS BUSY RESULT REASON; 11 T11.5; 0 -/
  cmdBusy : Bool
  cmdResult : Nat
  cmdReason : Nat
  /-- chain command (chain, code) held by the activation freeze; 11 R288; none -/
  cmdHeld : Option (Nat × Nat)
  /-- grants to PRIO 1 since the last one to PRIO 0; 11 R290; 0 -/
  prioRun : Nat
  /-- MSI-X enable and function mask; 10 R246; 0 -/
  msixOn : Bool
  fnMask : Bool
  /-- MSI-X table entries (vector, address and data), vectors unmasked; 10 R246; all masked -/
  msixTable : List (Nat × BitVec 128)
  unmasked : List Nat
  /-- PBA: pending vectors; 10 R246; none -/
  pba : List Nat
  /-- vector moderation entries; 10 T10.10; COUNT_MAX 1 TIME_US 0 -/
  moder : List (Nat × BitVec 32)
  /-- unreported completions per vector; 10 R248; none -/
  modCount : List (Nat × Nat)
  /-- peer window shadows; 10 T10.12; zero -/
  shadow : List Window
  /-- active peer windows; 10 R257; zero -/
  active : List Window
  /-- latched commit waiting for its swap, and the commits behind it; 10 R258; none -/
  latched : Option (List Window)
  waitingCommits : List (List Window)
  /-- COMMITS, LAST_RESULT, BAD_WINDOW, WIN_DROPS; 10 T10.13; 0 -/
  commits : Nat
  lastResult : Nat
  badWindow : Nat
  winDrops : Nat
  /-- BAR4 size in GiB; 10 R237; PEER_BAR_GIB default 1 -/
  bar4Gib : Nat
  /-- MBX_REQ; 15 T15.6; zero -/
  mbxReq : List (Nat × Byte)
  /-- MBX_RSP; 15 T15.6; zero -/
  mbxRsp : Bytes
  /-- MBX_STATUS; 15 T15.6; 0 -/
  mbxBusy : Bool
  mbxReady : Bool
  mbxDropped : Bool
deriving DecidableEq, Repr

/-! ### Tollgate (09) -/

structure KekSt where
  /-- KEK entry number; 09 T9.7; - -/
  entry : Nat
  /-- 16 bytes; 09 T9.3; zero when empty -/
  id : Bytes
  /-- the KEK inside the stored blob; 09 T9.3; - -/
  key : Bytes
  /-- AUTOLOAD; 09 T9.3; 0 -/
  autoload : Bool
  /-- KEK register loaded; 09 R217; false -/
  loaded : Bool
deriving DecidableEq, Repr

structure SlotSt where
  /-- slot number v, a re-key slot uses the pool id; 09 R219 R232; - -/
  id : Nat
  /-- SLOT_STATE; 09 T9.7; 0 -/
  state : Nat
  /-- SLOT_KEY_GEN; 09 T9.7; 0 -/
  keyGen : Nat
  /-- 96-byte data-key material; 09 T9.4; - -/
  material : Bytes
  /-- SLOT_LOADED_AT; 09 T9.7; 0 -/
  loadedAt : Nat
  /-- SLOT_AUTH_FAILS; 09 T9.7; 0 -/
  authFails : Nat
  /-- re-randomisations of the masked shares; 09 R225; 0 -/
  rerandoms : Nat
deriving DecidableEq, Repr

structure TollSt where
  /-- self-test running; 09 R230; false -/
  testing : Bool
  /-- units retired, bit numbers of SELFTEST_LAST; 09 R227 R230; none -/
  retired : List Nat
  /-- mismatches (unit, time); 09 R227; none -/
  mismatches : List (Nat × Nat)
  /-- CHECK_MISMATCHES; 09 T9.7; 0 -/
  mismatchCount : Nat
  /-- ROOT_STATE; 09 R215; 0 -/
  rootBad : Bool
  /-- SELFTEST_LAST, SELFTEST_TIME; 09 T9.7; 0 -/
  lastTest : BitVec 64
  lastTime : Nat
  /-- AUTH_FAIL_TOTAL; 09 T9.7; 0 -/
  authFailTotal : Nat
  /-- time of the last AUTH_FAIL record per volume; 09 R224; none -/
  authLogged : List (Nat × Nat)
  /-- GLITCH_TRIPS, time of the last trip; 09 R229; 0 none -/
  glitchTrips : Nat
  lastGlitch : Option Nat
  /-- time of the last host PI double failure; 06 R133; none -/
  lastDouble : Option Nat
  /-- DRBG health; 09 R225; true -/
  drbgGood : Bool
  /-- DRBG reseeds; 09 R230; 0 -/
  reseeds : Nat
  /-- DRBG output position; 09 R225 MODEL; 0 -/
  drbgPos : Nat
  /-- KEK entries; 09 T9.7; none -/
  keks : List KekSt
  /-- key slots not EMPTY; 09 R219; none -/
  slots : List SlotSt
  /-- re-key slots; 09 R232; none -/
  rekey : List SlotSt
deriving DecidableEq, Repr

/-! ### Links, discovery, fleet (07, 08) -/

structure LaneSt where
  lane : Nat
  /-- LANE_MODE in force; 08 R183; 0 -/
  mode : Nat
  /-- LANE_STATE; 08 T8.9; 0 -/
  state : Nat
  /-- LANE_RATE; 08 T8.9; 0 -/
  rate : Nat
  /-- link width the lane belongs to; 08 R184; 0 -/
  width : Nat
  /-- LANE_ERRORS; 08 T8.9; 0 -/
  errors : Nat
  /-- LANE_RETRAINS; 08 T8.9; 0 -/
  retrains : Nat
  /-- times of retrains; 08 R188; none -/
  times : List Nat
  /-- tier it stays capped at after a downshift; 08 R188; none -/
  cap : Option Nat
  /-- SAS address it reaches, 0 none; 08 R185; 0 -/
  attached : Nat
  /-- a fifth lane to the address: a narrow port of its own; 08 R185; false -/
  narrow : Bool
deriving DecidableEq, Repr

structure DumpTarget where
  idx : Nat
  /-- link up, width, tier, degraded (DUMP_LINK_STATE); 08 R189; down -/
  linkUp : Bool
  width : Nat
  tier : Nat
  /-- UUID of its label; 13 T13.6; none -/
  label : Option Bytes
  /-- NVMe critical warning; 13 R328; false -/
  warning : Bool
  /-- namespace 1 blocks; 13 R328; DC 8,389,888 -/
  blocks : Nat
deriving DecidableEq, Repr

structure FabricSt where
  /-- lanes not at their reset values; 08 R182; none -/
  lanes : List LaneSt
  /-- enclosure bindings (number, logical identifier); 08 R192; none -/
  encls : List (Nat × Nat)
  /-- binding table (identity, member id); 08 R191; none -/
  bindings : List (Bytes × Nat)
  /-- DISCOVER_OVER; 08 T8.9; 0 -/
  discoverOver : Nat
  /-- MEMBERS_FOUND; 08 T8.9; DC 0 -/
  membersFound : Nat
  /-- discoveries run; 08 R190 MODEL; 0 -/
  discoveries : Nat
  /-- rotating members still to start, next group number; 08 R209; none -/
  spinQueue : List Nat
deriving DecidableEq, Repr

structure FleetSt where
  /-- committed values (scope, kind, value); 07 R178; none (08 R208: kind 0 is 0) -/
  committed : List (Nat × Nat × Nat)
  /-- change in progress: scope, kind, new and old value; 07 R178; none -/
  scope : Nat
  kind : Nat
  value : Nat
  old : Nat
  /-- FLEET_STATE; 07 T7.10; 0 -/
  state : Nat
  /-- FLEET_SEQ; 07 T7.10; 0 -/
  seq : Nat
  /-- members not yet confirmed; 07 T7.10; none -/
  left : List Nat
deriving DecidableEq, Repr

/-! ### Hawser (12) -/

structure PairSt where
  /-- PAIR_UUID; 12 T12.8; zero -/
  uuid : Bytes
  /-- PAIR_STATE; 12 T12.8; 0 -/
  state : Nat
  /-- PAIR_ROLE; 12 T12.8; DC 0 -/
  role : Nat
  /-- HAWSER_WIDTH; 12 T12.8; DC 0 -/
  width : Nat
  /-- PATH_STATE; 12 T12.8; both lost -/
  path1Lost : Bool
  path2Lost : Bool
  relReceived : Bool
  /-- boundaries since the last frame; 12 R302; 0 -/
  missed : Nat
  /-- this unit drives RELEASE; 12 R302; false -/
  driveRelease : Bool
  /-- transmitters in electrical idle; 12 R302; true -/
  txIdle : Bool
  /-- twin declared failed at a tide; 12 R304; none -/
  declared : Option Nat
  /-- pools whose later loss of paths means sleep; 13 R321; none -/
  sleepAnnounced : List Nat
  /-- PAIR_CHANGE_STATE; 12 T12.8; 0 -/
  changeState : Nat
  /-- own proposal: change, tide p, accepted, first proposed; 12 R314; none -/
  proposal : Option (PairChange × Nat × Bool × Nat)
  /-- accepted changes waiting for their tide; 12 R314; none -/
  agreed : List (PairChange × Nat)
  /-- changes that wait to be proposed, with the tide of one that is fixed to a tide; 12 R314, 02 R45; none -/
  toPropose : List (PairChange × Option Nat)
  /-- requester answered PENDING by a proposal; 15 R369; none -/
  asker : Option Req
  /-- TAKEOVERS; 12 T12.8; 0 -/
  takeovers : Nat
  /-- STANDBY_HEALTH; 12 T12.8; 0 -/
  health : BitVec 32
  /-- STANDBY_TEST_TIME; 12 T12.8; 0 -/
  testTime : Nat
  /-- members probed in the rotation; 12 R312; none -/
  probed : List Nat
  /-- members whose last probe read failed; 12 T12.7; none -/
  probeBad : List Nat
  /-- partner as it identified itself; 12 R292; none -/
  peer : Option PeerIdent
  /-- a faulty part's handover started at; 12 R310; none -/
  faultyAt : Option Nat
  /-- seals of the twin whose blocks have not all arrived; 04 R78; none -/
  sealsWaiting : List SealFrame
deriving DecidableEq, Repr

/-! ### Towpath, store, dump (13) and calibration (14) -/

/-- A dump image in a slot of the targets (Tables 13.6 to 13.8). -/
structure DumpImage where
  slot : Nat
  seq : Nat
  cause : Nat
  tide : Nat
  started : Nat
  chunks : Nat
  protMib : Nat
  /-- map: chunk numbers in image order; 13 T13.6; - -/
  map : List Nat
  /-- ROWS of each target's newest record; 13 T13.8; - -/
  rows : List (Nat × Nat)
  complete : Bool
  /-- blocks the data area holds, in the order they lie in it: (pool, tide); 13 R331 MODEL; - -/
  blocks : List (Nat × Nat)
  /-- what the chunks hold; 13 R331 MODEL; - -/
  content : ManifestSt
deriving DecidableEq, Repr

structure TowSt where
  /-- POWER_STATE, 5 ARCHIVE_SLEEP, 6 off; 13 T13.3 T13.10; DC off -/
  power : Nat
  /-- SENSE_VALUE of channels 0–7; 13 T13.10; DC 0 -/
  sense : List Int
  /-- SENSE_FLAGS; 13 T13.10; 0 -/
  flags : List Nat
  /-- DIE_TEMP in °C; 13 T13.10; DC 25 -/
  dieC : Int
  /-- ENERGY_MJ; 13 T13.10; DC 0 -/
  energyMj : Nat
  /-- STORE_CAP_MF; 13 T13.10; 0 -/
  capMf : Nat
  /-- STORE_ESR_MOHM; 13 T13.10; 0 -/
  esrMohm : Nat
  /-- STORE_STATE and the state under OUT_OF_TEMP; 13 T13.10; DC 1 CHARGING -/
  store : Nat
  storeUnder : Nat
  /-- a capacity test is due; 13 R326; false -/
  testDue : Bool
  /-- BRACE_COUNT; 13 T13.10; 0 -/
  braceCount : Nat
  /-- thermal trip holds the part down; 13 R324; false -/
  tripped : Bool
  /-- WAKE_CAUSE; 13 T13.10; 0 -/
  wakeCause : Nat
  /-- wake sources kept pending; 13 R322; none -/
  wakePending : List Nat
  /-- last scheduled wake plus the interval then in force; 13 R323 01 R20; none -/
  schedNext : Option Nat
  /-- SLEEP_REFUSED; 13 T13.10; 0 -/
  sleepRefused : Nat
  /-- a sleep request is being carried out; 13 R321; false -/
  sleeping : Bool
  /-- balls CORE_EN, CHG_EN, STORE_TEST, DUMP_ACTIVE, WAKE_N asserted; 17 T17.4; low -/
  coreEn : Bool
  chgEn : Bool
  storeTest : Bool
  dumpActive : Bool
  wakeN : Bool
  /-- COLD_RESET_N low and honoured; 17 R398; false -/
  coldHeld : Bool
  /-- a dump has ended and the supply is awaited; 13 R334; false -/
  afterDump : Bool
  /-- a boot that waits for the wake limits: cause, island S lost power, what it finds; 17 T17.7; none -/
  limitsWait : Option (Nat × Bool × BootEnv)
  /-- test access port instruction in force; 17 R410; BYPASS -/
  tap : TapOp
  /-- decisions held while G sleeps, and those beyond 64; 16 R380; none -/
  heldLog : List LogEv
  heldOver : Nat
deriving DecidableEq, Repr

structure DumpSt where
  /-- DUMP_STATE; 13 T13.10; DC 2 -/
  state : Nat
  targets : List DumpTarget
  /-- DUMP_SEQ; 13 T13.10; 0 -/
  seq : Nat
  /-- DUMP_CONSUMED; 13 T13.10; 0 -/
  consumed : Nat
  /-- DUMP_LAST_RESULT; 13 T13.10; 0 -/
  lastResult : Nat
  /-- DUMP_LAST_MS; 13 T13.10; 0 -/
  lastMs : Nat
  /-- RESTORE_LAST_MS; 13 T13.10; 0 -/
  restoreMs : Nat
  /-- images on the targets; 13 R332; none -/
  images : List DumpImage
  /-- dump in progress: image so far, targets lost during it; 13 R330; none -/
  running : Option DumpImage
  lostNow : List Nat
deriving DecidableEq, Repr

/-- A calibration record (R348). -/
structure CalRecord where
  /-- start time; CAL_WHAT; CAL_REF_UV; CAL_REF_ID; reference identified; die temperature; 14 R348; - -/
  start : Nat
  what : Nat
  refUv : Nat
  refId : Bytes
  fref : Nat
  dieC : Int
  /-- raw results of both runs, none when abandoned before them; 14 R348; - -/
  runs : Option CalRuns
  /-- CAL_LAST_RESULT; 14 R348; - -/
  outcome : Nat
deriving DecidableEq, Repr

structure CalSt where
  /-- CAL_STATE; 14 T14.4; 0 -/
  state : Nat
  /-- CAL_REFUSED; 14 T14.4; 0 -/
  refused : Nat
  /-- CAL_LAST_RESULT; 14 T14.4; 0 -/
  result : Nat
  /-- CAL_FREF_FOUND; 14 T14.4; 0 -/
  fref : Nat
  /-- CAL_WHAT of the run and its start time; 14 R348; 0 -/
  what : Nat
  startAt : Nat
  /-- coefficients in force: gain, offset, time, crystal; 14 T14.4; factory, factory, 0, 0 -/
  gain : Int
  offset : Int
  time : Int
  xtal : Int
  /-- stored targets; 14 R346; factory, factory, 0, 0 -/
  tGain : Int
  tOffset : Int
  tTime : Int
  tXtal : Int
  /-- CAL_TIME_CLIPPED; 14 T14.4; 0 -/
  clipped : Bool
  /-- CAL_LAST_TIME; 14 T14.4; 0 -/
  lastTime : Nat
  /-- CAL_HISTORY, newest first, at most 16, beside the factory record; 14 R348; none -/
  history : List CalRecord
deriving DecidableEq, Repr

/-! ### Dictionary (15) -/

/-- A value of a settable object: a number (two's complement for signed types), or bytes. -/
inductive DVal
  | num (n : Nat)
  | blob (b : Bytes)
deriving DecidableEq, Repr

/-- A response as the dictionary engine gave it (R357, Table 15.4). -/
structure DResp where
  status : Nat
  detail : Nat
  data : Bytes
  /-- TOTAL: length of the value read; 15 T15.3; - -/
  total : Nat
deriving DecidableEq, Repr

structure SessSt where
  /-- u16 session id; 15 R353; - -/
  id : Nat
  transport : Transport
  node : Nat
  /-- 0 Observer, 1 Operator, 2 Custodian; 15 R350; - -/
  role : Nat
  /-- session open; 15 R353; false until AUTH -/
  isOpen : Bool
  /-- carries zero MACs; 15 R353; - -/
  noAuth : Bool
  kMac : Bytes
  kKt : Bytes
  ctx : Bytes
  /-- next client SEQ and next device SEQ; 15 R359; 1 -/
  nextSeq : Nat
  devSeq : Nat
  /-- frame of the last response; 15 R359; none -/
  lastResp : Option Bytes
  /-- request being executed: OP and frame; 15 R359; none -/
  inHand : Option (Nat × Frame)
  /-- selectors BURALE_PAGE_SEL, ENCL_SELECT, POOL_LOST_FROM; 15 R351; 0 -/
  pageSel : Nat
  enclSel : Nat
  lostFrom : List (Nat × Nat)
  /-- partial BLOB: index, subindex, total, bytes so far; 15 R360; none -/
  partBlob : Option (Nat × Nat × Nat × Bytes)
  /-- read snapshot: index, subindex, bytes; 15 R360; none -/
  snapshot : Option (Nat × Nat × Bytes)
deriving DecidableEq, Repr

structure DictSt where
  /-- settable objects away from their defaults: (index, subindex) to value; 15 R350 R351; none -/
  objs : List ((Nat × Nat) × DVal)
  /-- sessions; 15 R352; none -/
  sessions : List SessSt
  /-- next session id; 15 R353 MODEL; 1 -/
  nextSess : Nat
  /-- staging locks: scope (kind, id) to session; 15 R367; none -/
  locks : List ((Nat × Nat) × Nat)
  /-- credentials 0 Observer, 1 Operator, 2 Custodian; 15 R356; empty -/
  creds : List (Nat × Bytes)
  /-- AUTH failures (transport, time) and locked transports; 15 R355; none -/
  failTimes : List (Transport × Nat)
  locked : List (Transport × Nat)
  /-- AUTH_FAILS; 15 T15.9; 0 -/
  authFails : Nat
  /-- MAC_DROPS; 15 T15.9; 0 -/
  macDrops : Nat
  /-- response to the last request; 15 R357 MODEL; none -/
  resp : Option DResp
  /-- CAN settings waiting 1 s, and in force: node id, nominal, data rate; 15 R362; 1, 500, 2,000 -/
  canPending : Bool
  canNode : Nat
  canNom : Nat
  canData : Nat
  /-- times of the notifications of the last second; 15 R363; none -/
  notified : List Nat
deriving DecidableEq, Repr

structure FwSt where
  /-- image in service: version, and the version kept; 15 T15.12; Config.imageVersion [] -/
  version : Nat
  previous : Nat
  /-- FW_STAGE_STATE; 15 T15.12; 0 -/
  state : Nat
  /-- declared length and FW_STAGE_NEXT; 15 R373; 0 -/
  len : Nat
  next : Nat
  /-- bytes staged in the inactive slot; 15 R373; none -/
  image : Bytes
  /-- FW_STAGED_VERSION; 15 T15.12; 0 -/
  stagedVersion : Nat
  /-- FW_LAST_RESULT; 15 T15.12; 0 -/
  lastResult : Nat
  /-- FW_EPOCH; 15 T15.12; Config.imageEpoch [] -/
  epoch : Nat
  /-- activation in progress, new image already named; 15 R374 R375; false -/
  activating : Bool
  named : Bool
  /-- WARM_RESET_N order that waits for the activation; 17 R399; false -/
  resetWaits : Bool
  /-- boot directory: DIR_SEQ, ACTIVE, PREV_VALID; 17 T17.9; DC 0, 0, 0 -/
  dirSeq : Nat
  activeSlot : Nat
  prevValid : Bool
  /-- no image has booted; 17 R401; false -/
  bootFailed : Bool
deriving DecidableEq, Repr

/-! ### Logbook (16) -/

structure LogSt where
  /-- next sequence number; 16 R378; DC 1,024 -/
  seqNext : Nat
  /-- persisted mark; 16 R378; DC 1,024 -/
  mark : Nat
  /-- accepted records not yet written, oldest first, at most 4,096; 16 R379; none -/
  queue : List LogRec
  /-- overflow table, at most 256; 16 R379; none -/
  overflow : List LogRec
  /-- permanent records in order; 16 R376; one factory record -/
  perm : List LogRec
  /-- circulating records (slot, record); 16 R376; none -/
  circ : List (Nat × LogRec)
  /-- LOG_CIRC_WRITTEN; 16 T16.6; 0 -/
  circWritten : Nat
  /-- newest record of the most recently used (CODE, SOURCE) pairs, at most 1,024; 16 R381; none -/
  recent : List LogRec
  /-- LOG_DROPPED; 16 T16.6; 0 -/
  dropped : Nat
  /-- LOG_DROPPED_HIGH; 16 T16.6; 0 -/
  droppedHigh : Nat
  /-- drops since the last LOG_DROPPED record, low and high; 16 R379; 0 -/
  sinceLow : Nat
  sinceHigh : Nat
  /-- LOG_EXPORT_LAST; 16 T16.6; 0 -/
  exportLast : Nat
deriving DecidableEq, Repr

/-! ### What leaves the part -/

/-- What the part sends outside (MODEL: the trace by which an effect outside the part is said). -/
inductive Output
  | bridgeWord (src dst : Island) (word : Nat)
  | bridgeAnswer (toward : Island) (a : BridgeAnswer)
  | islandReady (toward ready : Island)
  | descRead (f : Fn) (chain : Nat) (addr count : Nat)
  | writeBack (f : Fn) (chain : Nat) (hseq : BitVec 32) (status : Nat) (deferred : Bool) (dseq : BitVec 32)
      (info : BitVec 64)
  /-- the data reads of a write start, with their No Snoop attribute (R249) -/
  | dataRead (f : Fn) (chain : Nat) (hseq : BitVec 32) (noSnoop : Bool)
  | hostData (f : Fn) (chain : Nat) (noSnoop relaxed : Bool) (cells : List (Nat × Byte))
  | msix (f : Fn) (vector : Nat)
  | unsupported (f : Fn) (posted : Bool)
  /-- an error reported through AER: 0 correctable, 1 uncorrectable non-fatal, 2 uncorrectable fatal (R262) -/
  | aer (f : Fn) (cls : Nat)
  | peerData (f : Fn) (data : Bytes)
  | memberCmd (member id : Nat)
  | memberReset (member step : Nat)
  /-- a member is stopped before archive sleep, its cache flushed first where `flush` (R213) -/
  | memberStop (member : Nat) (flush : Bool)
  | hawserSeal (tide : Nat) (blocks : List (Nat × Nat)) (news : List TwinNews)
  | hawserConfirm (tide : Nat)
  | hawserBlock (pool : Nat) (b : MirrorBlock)
  | hawserChange (c : PairChange) (tide : Nat) (accept : Bool)
  | hawserCeiling (mib : Int)
  /-- a committed fleet value for the twin: scope, kind, value (R181) -/
  | hawserFleet (scope kind value : Nat)
  | hawserDigest (pool : Nat) (digest : BitVec 32)
  | hawserSleep (pools : List Nat)
  | preempt (pool member : Nat)
  | dictResponse (t : Transport) (session : Nat) (r : DResp)
  /-- a frame on a CAN channel or back over the twin relay: node and bytes (R357) -/
  | dictFrame (t : Transport) (node : Nat) (bytes : Bytes)
  /-- a request relayed to the partner (R365) -/
  | twinFrame (bytes : Bytes)
  | notify (bytes : Bytes)
  | dumpImage (slot seq : Nat)
  /-- the identification the test access port shifts out (R410) -/
  | tapIdcode (code : Nat)
deriving DecidableEq, Repr

/-- What the part holds beside its peer buffer area. The commands that neither read nor write that area act on this
record alone. -/
structure Part where
  /-- device timebase, µs since 1970-01-01 UTC (TIMESTAMP); 10 T10.8 01 R19; DC 0 -/
  timeUs : Nat
  islands : List IslandSt
  bridges : List BridgeSt
  sched : SchedSt
  man : ManifestSt
  chains : List ChainSt
  fn0 : FnSt
  fn1 : FnSt
  /-- CHAIN_SPLIT in force; 10 R234; 32,768 -/
  chainSplit : Nat
  /-- TABLE_GEN of the Landing tables; 10 R240; DC 0 -/
  tableGen : Nat
  /-- PEER_BAR_GIB and SUBSYS_ID as the last power-on took them; 10 T10.15 R235; 1, 0x7144_1FB7 -/
  peerBar : Nat
  subsysId : Nat
  pools : List PoolSt
  vols : List VolSt
  members : List MemberSt
  fabric : FabricSt
  fleet : FleetSt
  toll : TollSt
  pair : PairSt
  tow : TowSt
  dump : DumpSt
  cal : CalSt
  dict : DictSt
  fw : FwSt
  log : LogSt
  /-- what the part sent outside, oldest first; MODEL; none -/
  out : List Output
deriving DecidableEq, Repr

/-- The state of the block. -/
structure State where
  /-- waiting commands, first in first out; MODEL; none -/
  pending : List Instr
  /-- peer buffer area, canonical cells; 10 R256; none listed -/
  peerMem : List Host.Cell
  part : Part
deriving DecidableEq, Repr

/-! ### Reset -/

def Island.all : List Island :=
  [.h, .t, .c, .k, .m] ++ (List.finRange 12).map Island.l ++ [.d, .x, .g, .s]

def IslandSt.reset (i : Island) : IslandSt :=
  { island := i, powered := decide (i = .s), ready := decide (i = .s), waking := false, refused := [] }

def Window.zero : Window := { base := 0, size := 0, target := 0, readEn := false, writeEn := false }

def FnSt.reset (first : Nat) : FnSt where
  bme := false
  mse := false
  noSnoopEn := true
  relaxedEn := true
  linkUp := false
  width := 0
  rate := 0
  flit := false
  d0 := true
  retry := true
  perst := true
  cause := 0
  enable := 0
  renewed := 0
  bmeDiscards := 0
  romDrops := 0
  chainSel := first
  cmdBusy := false
  cmdResult := 0
  cmdReason := 0
  cmdHeld := none
  prioRun := 0
  msixOn := false
  fnMask := false
  msixTable := []
  unmasked := []
  pba := []
  moder := []
  modCount := []
  shadow := List.replicate 8 Window.zero
  active := List.replicate 8 Window.zero
  latched := none
  waitingCommits := []
  commits := 0
  lastResult := 0
  badWindow := 0
  winDrops := 0
  bar4Gib := 1
  mbxReq := []
  mbxRsp := []
  mbxBusy := false
  mbxReady := false
  mbxDropped := false

def ChainSt.reset (id : Nat) : ChainSt where
  id := id
  regBase := 0
  regCfg := 0x1F000004
  regSeq := 0
  ringBase := 0
  sizeLog2 := 4
  seqBase := 0
  fetchSeq := 0xFFFFFFFF
  dbSeq := 0xFFFFFFFF
  dseq := 0xFFFFFFFF
  parkSeq := 0
  ignDb := 0
  foreignDb := 0
  refetches := 0
  st := .disabled
  halt := 0
  onTail := false
  wasParked := false
  refetchDue := false
  fetchDb := none
  fetchN := 0
  fetchLost := false
  turns := 0
  cmds := []
  txs := []

def SchedSt.reset : SchedSt where
  ceiling := -64
  estimates := []
  twinCeiling := none
  admitState := 3
  brace := false
  ready := false
  frozen := false
  resetting := false
  faulty := false
  faultSubs := []
  stopped := false
  memberStop := false
  tideNow := 1
  tideUs := 20
  protMib := 0
  peerMib := 0
  badChannels := []
  retiredPipes := []
  pipeFails := []
  throttled := false

def ManifestSt.reset : ManifestSt where
  entries := []
  held := []
  seals := []
  marks := []
  txRecs := []
  clean := []
  news := []
  sentNews := []
  chainRecs := []
  nBlocks := 0
  nChanges := 0
  nCommits := 0
  nRetired := 0
  destagedTide := 0

def LaneSt.reset (l : Nat) : LaneSt where
  lane := l
  mode := 0
  state := 0
  rate := 0
  width := 0
  errors := 0
  retrains := 0
  times := []
  cap := none
  attached := 0
  narrow := false

def DumpTarget.reset (x : Nat) : DumpTarget where
  idx := x
  linkUp := false
  width := 0
  tier := 0
  label := none
  warning := false
  blocks := 8389888

def FabricSt.reset : FabricSt where
  lanes := []
  encls := []
  bindings := []
  discoverOver := 0
  membersFound := 0
  discoveries := 0
  spinQueue := []

def FleetSt.reset : FleetSt where
  committed := []
  scope := 0xFFFF
  kind := 0
  value := 0
  old := 0
  state := 0
  seq := 0
  left := []

def TollSt.reset : TollSt where
  testing := false
  retired := []
  mismatches := []
  mismatchCount := 0
  rootBad := false
  lastTest := 0
  lastTime := 0
  authFailTotal := 0
  authLogged := []
  glitchTrips := 0
  lastGlitch := none
  lastDouble := none
  drbgGood := true
  reseeds := 0
  drbgPos := 0
  keks := []
  slots := []
  rekey := []

def PairSt.reset : PairSt where
  uuid := List.replicate 16 0
  state := 0
  role := 0
  width := 0
  path1Lost := true
  path2Lost := true
  relReceived := false
  missed := 0
  driveRelease := false
  txIdle := true
  declared := none
  sleepAnnounced := []
  changeState := 0
  proposal := none
  agreed := []
  toPropose := []
  asker := none
  takeovers := 0
  health := 0
  testTime := 0
  probed := []
  probeBad := []
  peer := none
  faultyAt := none
  sealsWaiting := []

def TowSt.reset : TowSt where
  power := 6
  sense := List.replicate 8 0
  flags := List.replicate 8 0
  dieC := 25
  energyMj := 0
  capMf := 0
  esrMohm := 0
  store := 1
  storeUnder := 1
  testDue := false
  braceCount := 0
  tripped := false
  wakeCause := 0
  wakePending := []
  schedNext := none
  sleepRefused := 0
  sleeping := false
  coreEn := false
  chgEn := false
  storeTest := false
  dumpActive := false
  wakeN := false
  coldHeld := false
  afterDump := false
  limitsWait := none
  tap := .bypass
  heldLog := []
  heldOver := 0

def DumpSt.reset : DumpSt where
  state := 2
  targets := [DumpTarget.reset 0, DumpTarget.reset 1, DumpTarget.reset 2, DumpTarget.reset 3]
  seq := 0
  consumed := 0
  lastResult := 0
  lastMs := 0
  restoreMs := 0
  images := []
  running := none
  lostNow := []

def CalSt.reset : CalSt where
  state := 0
  refused := 0
  result := 0
  fref := 0
  what := 0
  startAt := 0
  gain := Config.factoryGainPpb
  offset := Config.factoryOffset
  time := 0
  xtal := 0
  tGain := Config.factoryGainPpb
  tOffset := Config.factoryOffset
  tTime := 0
  tXtal := 0
  clipped := false
  lastTime := 0
  history := []

def DictSt.reset : DictSt where
  objs := []
  sessions := []
  nextSess := 1
  locks := []
  creds := []
  failTimes := []
  locked := []
  authFails := 0
  macDrops := 0
  resp := none
  canPending := false
  canNode := 1
  canNom := 500
  canData := 2000
  notified := []

def FwSt.reset : FwSt where
  version := Config.imageVersion []
  previous := 0
  state := 0
  len := 0
  next := 0
  image := []
  stagedVersion := 0
  lastResult := 0
  epoch := Config.imageEpoch []
  activating := false
  named := false
  resetWaits := false
  dirSeq := 0
  activeSlot := 0
  prevValid := false
  bootFailed := false

/-- The one factory test record of the model (R376: 1 to 64, content left open; log entry 11). -/
def LogRec.factory : LogRec where
  seq := 0
  sev := 2
  late := false
  permanent := true
  time := 0
  code := 1
  subsystem := 0
  inst := 0
  rep := 1
  delta := 0
  detail := (Config.factoryRecord 0).take 32
  windowEnd := 0

def LogSt.reset : LogSt where
  seqNext := 1024
  mark := 1024
  queue := []
  overflow := []
  perm := [LogRec.factory]
  circ := []
  circWritten := 0
  recent := []
  dropped := 0
  droppedHigh := 0
  sinceLow := 0
  sinceHigh := 0
  exportLast := 0

/-- The part as it leaves manufacture with power on island S and nothing booted: POWER_ON boots it (R397). -/
def Part.reset : Part where
  timeUs := 0
  islands := Island.all.map IslandSt.reset
  bridges := []
  sched := SchedSt.reset
  man := ManifestSt.reset
  chains := []
  fn0 := FnSt.reset 0
  fn1 := FnSt.reset 32768
  chainSplit := 32768
  tableGen := 0
  peerBar := 1
  subsysId := 0x71441FB7
  pools := []
  vols := []
  members := []
  fabric := FabricSt.reset
  fleet := FleetSt.reset
  toll := TollSt.reset
  pair := PairSt.reset
  tow := TowSt.reset
  dump := DumpSt.reset
  cal := CalSt.reset
  dict := DictSt.reset
  fw := FwSt.reset
  log := LogSt.reset
  out := []

/-- The part after manufacture, nothing waiting, nothing written to the peer area. -/
def State.reset : State where
  pending := []
  peerMem := []
  part := Part.reset

end Sys2Proof.Machine
end

