-- ==== Sys2Proof/Machine/Braid.lean ====
section
/-! DEFINITION. The Braid placement function (R48–R58) over a charter's shape and member table. -/

namespace Sys2Proof.Machine

/-- Width of a stripe (R28). -/
def Shape.w (h : Shape) : Nat := if h.codeType = 1 then h.m + 1 else h.k + h.m + h.g
/-- Blocks per strip (Table 3.1). -/
def Shape.sb (h : Shape) : Nat := 2 ^ (h.stripLog2 - 12)
/-- Data blocks per stripe. -/
def Shape.kb (h : Shape) : Nat := h.k * h.sb

/-- A shape with its members' domains, loom built (R49, R54). -/
structure Braid where
  shape : Shape
  n : Nat
  encl : List Nat
  rack : List Nat
  reloc : List Bool
  /-- enclosure order, members per enclosure, loom entries (x, t) -/
  eo : List Nat
  mem : List (List Nat)
  loom : List (Nat × Nat)
deriving DecidableEq, Repr

def sortNats (l : List Nat) : List Nat := l.mergeSort (fun a b => decide (a ≤ b))

/-- Member states under which an ordinal is relocated (R56): ABSENT, PRESENT, FAILED, SPARE_DONOR. -/
def relocState (st : Nat) : Bool := [0, 1, 4, 5].contains st

/-- `build_loom` of R54 over enclosures and racks in ordinal order. -/
def buildLoom (encl rack : List Nat) : List Nat × List (List Nat) × List (Nat × Nat) :=
  let racks := sortNats rack.eraseDups
  let enclsOf (r : Nat) := sortNats (((encl.zip rack).filter (fun p => p.2 == r)).map (·.1)).eraseDups
  let per := racks.map enclsOf
  let depth := (per.map List.length).foldl max 0
  let eo := (List.range depth).flatMap (fun u => per.filterMap (fun l => l[u]?))
  let mem := eo.map (fun e => (encl.mapIdx (fun o x => (o, x))).filterMap (fun p => if p.2 = e then some p.1 else none))
  let deep := (mem.map List.length).foldl max 0
  let loom := (List.range deep).flatMap (fun t =>
    (mem.mapIdx (fun x l => (x, l))).filterMap (fun p => if t < p.2.length then some (p.1, t) else none))
  (eo, mem, loom)

def Braid.make (h : Shape) (encl rack : List Nat) (reloc : List Bool) : Braid :=
  let l := buildLoom encl rack
  { shape := h, n := encl.length, encl := encl, rack := rack, reloc := reloc, eo := l.1, mem := l.2.1, loom := l.2.2 }

/-- The Braid of a charter's own shape. -/
def Charter.braid (c : Charter) : Braid :=
  Braid.make c.shape (c.members.map (·.encl)) (c.members.map (·.rack)) (c.members.map (fun m => relocState m.state))

def Braid.relocated (b : Braid) (o : Nat) : Bool := b.reloc.getD o false
def Braid.s (b : Braid) : Nat := b.shape.spare
def Braid.w (b : Braid) : Nat := b.shape.w
def Braid.dn (b : Braid) : Nat := b.n - b.shape.spare

/-- `frame_key` of R54. -/
def Braid.frameKey (b : Braid) (f : Nat) : Nat :=
  (crc32c (leBytes 8 f ++ List.replicate 24 0) ^^^ BitVec.ofNat 32 b.shape.seed).toNat

/-- `home` of R54: the ordinal at position `q` of frame `f`. -/
def Braid.home (b : Braid) (f q : Nat) : Nat :=
  let h := b.frameKey f
  let e := b.loom.getD ((q + h % b.n) % b.n) (0, 0)
  let l := b.mem.getD e.1 []
  let c := l.length
  let off := ((h % 65536) + ((h / 65536) ||| 1) * e.1) % c
  l.getD ((e.2 + off) % c) 0

def Braid.lanePos (b : Braid) (l : Nat) : Nat := (l * b.n) / b.s

/-- `data_pos` of R54. -/
def Braid.dataPos (b : Braid) (d : Nat) : Nat :=
  (List.range b.s).foldl (fun q l => if b.lanePos l ≤ q then q + 1 else q) d

/-- `locate` of R54: home ordinal and row of strip `i` of stripe `σ`. -/
def Braid.locate (b : Braid) (σ i : Nat) : Nat × Nat :=
  let f := σ / b.dn
  let a := (σ % b.dn) * b.w + i
  (b.home f (b.dataPos (a % b.dn)), f * b.w + a / b.dn)

/-- Home ordinals of a stripe's strips. -/
def Braid.homes (b : Braid) (σ : Nat) : List Nat := (List.range b.w).map (fun i => (b.locate σ i).1)

/-- The ordinals keep ENCL_LIMIT and RACK_LIMIT (R52 rule 4, R58). -/
def Braid.keepsLimits (b : Braid) (os : List Nat) : Bool :=
  let es := os.map (fun o => b.encl.getD o 0)
  let rs := os.map (fun o => b.rack.getD o 0)
  es.all (fun e => decide (es.count e ≤ b.shape.enclLimit)) && rs.all (fun r => decide (rs.count r ≤ b.shape.rackLimit))

/-- Class of lane member `z` for ordinal `x` of stripe `sx` (R58). -/
def Braid.laneClass (b : Braid) (sx x z : Nat) : Nat :=
  if b.encl.getD z 0 = b.encl.getD x 0 then 0
  else if b.keepsLimits ((b.homes sx).map (fun o => if o = x then z else o)) then 1
  else 2

/-- `best_lane` of R58: the lane and its class. -/
def Braid.bestLane (b : Braid) (f qx sx x : Nat) (taken : List Nat) : Option (Nat × Nat) :=
  let better (a c : Nat × Nat × Nat) : Bool :=
    decide (a.1 < c.1 ∨ (a.1 = c.1 ∧ (a.2.1 < c.2.1 ∨ (a.2.1 = c.2.1 ∧ a.2.2 < c.2.2))))
  let best := (List.range b.s).foldl (fun (best : Option (Nat × Nat × Nat)) l =>
    let z := b.home f (b.lanePos l)
    if taken.contains l || b.relocated z then best
    else
      let p := b.lanePos l
      let dist := min ((p + b.n - qx) % b.n) ((qx + b.n - p) % b.n)
      let cand := (b.laneClass sx x z, dist, l)
      match best with
      | none => some cand
      | some c => if better cand c then some cand else some c) none
  best.map (fun c => (c.2.2, c.1))

/-- Position of an ordinal in a frame. -/
def Braid.posOf (b : Braid) (f x : Nat) : Nat :=
  ((List.range b.n).find? (fun q => b.home f q == x)).getD b.n

def Braid.isLanePos (b : Braid) (q : Nat) : Bool := (List.range b.s).any (fun l => b.lanePos l == q)

/-- The stripe and data entry ordinal `x` holds in row `f·w + j`: none at a lane position or beyond the last stripe. -/
def Braid.stripeAt (b : Braid) (f j x : Nat) : Option Nat :=
  let qx := b.posOf f x
  if b.isLanePos qx then none
  else
    let dx := qx - ((List.range b.s).filter (fun l => decide (b.lanePos l < qx))).length
    let sx := f * b.dn + (j * b.dn + dx) / b.w
    if sx < b.shape.stripeCount then some sx else none

/-- Lane claims of the relocated ordinals in row `f·w + j`, in ascending ordinal order: (ordinal, lane, class). -/
def Braid.claims (b : Braid) (f j : Nat) : List (Nat × Option (Nat × Nat)) :=
  ((List.range b.n).filter b.relocated).foldl (fun acc x =>
    match b.stripeAt f j x with
    | none => acc
    | some sx =>
      acc ++ [(x, b.bestLane f (b.posOf f x) sx x (acc.filterMap (fun c => c.2.map (·.1))))]) []

/-- `place` of R58: current ordinal and row of a strip, or none. -/
def Braid.place (b : Braid) (σ i : Nat) : Option (Nat × Nat) :=
  let (o, r) := b.locate σ i
  if !b.relocated o then some (o, r)
  else
    let f := r / b.w
    match alGet o (b.claims f (r % b.w)) with
    | some (some (l, _)) => some (b.home f (b.lanePos l), r)
    | _ => none

/-- First member block of a row (R49). -/
def Braid.rowMba (b : Braid) (row : Nat) : Nat := b.shape.dataStart + row * b.shape.sb

/-- Stripe, data strip and block offset of pool data block `p` (R55 step 3). -/
def Shape.split (h : Shape) (p : Nat) : Nat × Nat × Nat :=
  (p / h.kb, (p % h.kb) / h.sb, (p % h.kb) % h.sb)

/-- Pool data block of a data strip's block. -/
def Shape.join (h : Shape) (σ i bo : Nat) : Nat := σ * h.kb + i * h.sb + bo

/-- Stripe groups of the pool (R50). -/
def Braid.groups (b : Braid) : Nat := if b.dn = 0 then 0 else ceilDiv b.shape.stripeCount b.dn

/-- Rule 4 of R52: every run of `v` consecutive loom entries keeps both limits. -/
def Braid.rule4 (b : Braid) : Bool :=
  let v := min b.n (if 0 < b.s then b.w + 1 else b.w)
  (List.range b.n).all (fun q =>
    b.keepsLimits ((List.range v).map (fun d =>
      let e := b.loom.getD ((q + d) % b.n) (0, 0)
      (b.mem.getD e.1 []).getD e.2 0)))

end Sys2Proof.Machine
end

