-- ==== Sys2Proof/Machine/Crypto.lean ====
section
/-! DEFINITION. The standard algorithms the spec names: AES-256 (FIPS 197), XTS (IEEE 1619), GMAC (SP 800-38D), CMAC
(SP 800-38B), key wrap with padding (RFC 5649). The algorithms are the standards' (PRESUMED, log entry 13). -/

namespace Sys2Proof

/-- Product in GF(2^8) modulo the polynomial `poly` (bit 8 included), by eight steps over `b`. -/
def gfMulPoly (poly a b : Nat) : Nat :=
  ((List.range 8).foldl (fun (st : Nat × Nat) n =>
    let acc := if b.testBit n then st.2 ^^^ st.1 else st.2
    let a' := st.1 <<< 1
    (if a'.testBit 8 then a' ^^^ poly else a', acc)) (a, 0)).2

/-- a^254 in GF(2^8): the inverse, 0 for 0. -/
def gfInvPoly (poly a : Nat) : Nat :=
  (List.range 6).foldl (fun r _ => gfMulPoly poly (gfMulPoly poly r r) a) a |> fun r127 => gfMulPoly poly r127 r127

/-- The AES affine map. -/
def aesAffine (x : Nat) : Nat :=
  let rot (n : Nat) := ((x <<< n) ||| (x >>> (8 - n))) % 256
  x ^^^ rot 1 ^^^ rot 2 ^^^ rot 3 ^^^ rot 4 ^^^ 0x63

def sboxTable : Array Byte :=
  ((List.range 256).map (fun a => BitVec.ofNat 8 (aesAffine (gfInvPoly 0x11B a)))).toArray

def sbox (b : Byte) : Byte := sboxTable.getD b.toNat 0

def invSboxTable : Array Byte :=
  ((List.range 256).map (fun v => BitVec.ofNat 8
    (((List.range 256).find? (fun a => sbox (BitVec.ofNat 8 a) == BitVec.ofNat 8 v)).getD 0))).toArray

def invSbox (b : Byte) : Byte := invSboxTable.getD b.toNat 0

def aesMul (c : Nat) (b : Byte) : Byte := BitVec.ofNat 8 (gfMulPoly 0x11B c b.toNat)

/-- A table of the products by a constant. -/
def mulTable (c : Nat) : Array Byte :=
  ((List.range 256).map (fun a => BitVec.ofNat 8 (gfMulPoly 0x11B c a))).toArray

def mul2 : Array Byte := mulTable 2
def mul3 : Array Byte := mulTable 3
def mul9 : Array Byte := mulTable 9
def mul11 : Array Byte := mulTable 11
def mul13 : Array Byte := mulTable 13
def mul14 : Array Byte := mulTable 14

def tab (t : Array Byte) (b : Byte) : Byte := t.getD b.toNat 0

/-- ShiftRows on the 16 bytes in FIPS 197 column order. -/
def shiftRows (st : Bytes) : Bytes :=
  [0, 5, 10, 15, 4, 9, 14, 3, 8, 13, 2, 7, 12, 1, 6, 11].map (fun i => st.getD i 0)

def invShiftRows (st : Bytes) : Bytes :=
  [0, 13, 10, 7, 4, 1, 14, 11, 8, 5, 2, 15, 12, 9, 6, 3].map (fun i => st.getD i 0)

def mixColumns : Bytes → Bytes
  | a :: b :: c :: d :: r =>
    (tab mul2 a ^^^ tab mul3 b ^^^ c ^^^ d) :: (a ^^^ tab mul2 b ^^^ tab mul3 c ^^^ d) ::
      (a ^^^ b ^^^ tab mul2 c ^^^ tab mul3 d) :: (tab mul3 a ^^^ b ^^^ c ^^^ tab mul2 d) :: mixColumns r
  | _ => []

def invMixColumns : Bytes → Bytes
  | a :: b :: c :: d :: r =>
    (tab mul14 a ^^^ tab mul11 b ^^^ tab mul13 c ^^^ tab mul9 d) ::
      (tab mul9 a ^^^ tab mul14 b ^^^ tab mul11 c ^^^ tab mul13 d) ::
      (tab mul13 a ^^^ tab mul9 b ^^^ tab mul14 c ^^^ tab mul11 d) ::
      (tab mul11 a ^^^ tab mul13 b ^^^ tab mul9 c ^^^ tab mul14 d) :: invMixColumns r
  | _ => []

/-- The FIPS 197 key expansion: 60 words of 4 bytes, newest first while it is built. -/
def expandKey (key : Bytes) : List Bytes :=
  let k0 := (List.range 8).map (fun i => (key.drop (4 * i)).take 4)
  let step (st : List Bytes × Nat) (i : Nat) : List Bytes × Nat :=
    let prev := st.1.getD 0 []
    let back := st.1.getD 7 []
    if i % 8 = 0 then
      let t := (prev.drop 1 ++ prev.take 1).map sbox
      (xorBytes back (xorBytes t [BitVec.ofNat 8 st.2, 0, 0, 0]) :: st.1, gfMulPoly 0x11B 2 st.2)
    else if i % 8 = 4 then (xorBytes back (prev.map sbox) :: st.1, st.2)
    else (xorBytes back prev :: st.1, st.2)
  (((List.range 52).foldl (fun st i => step st (i + 8)) (k0.reverse, 1)).1).reverse

/-- The 15 round keys of 16 bytes of an AES-256 key. -/
def roundKeys (key : Bytes) : List Bytes :=
  let w := expandKey key
  (List.range 15).map (fun r => ((w.drop (4 * r)).take 4).flatten)

/-- The AES-256 cipher under given round keys. -/
def aesEncWith (rks : List Bytes) (blk : Bytes) : Bytes :=
  let st0 := xorBytes blk (rks.getD 0 [])
  let st := (List.range 13).foldl
    (fun st r => xorBytes (mixColumns (shiftRows (st.map sbox))) (rks.getD (r + 1) [])) st0
  xorBytes (shiftRows (st.map sbox)) (rks.getD 14 [])

def aesDecWith (rks : List Bytes) (blk : Bytes) : Bytes :=
  let st0 := xorBytes blk (rks.getD 14 [])
  let st := (List.range 13).foldl
    (fun st r => invMixColumns (xorBytes ((invShiftRows st).map invSbox) (rks.getD (13 - r) []))) st0
  xorBytes ((invShiftRows st).map invSbox) (rks.getD 0 [])

def aes256Enc (key blk : Bytes) : Bytes := aesEncWith (roundKeys key) blk
def aes256Dec (key blk : Bytes) : Bytes := aesDecWith (roundKeys key) blk

/-- A byte string cut into blocks of 16 bytes, the last one as long as it is. -/
def blocks16 (bs : Bytes) : List Bytes :=
  (List.range (ceilDiv bs.length 16)).map (fun i => (bs.drop (16 * i)).take 16)

/-- The XTS tweak times alpha (IEEE 1619: little-endian, polynomial 0x87). -/
def xtsAlpha (t : Bytes) : Bytes :=
  let n := ofLe t * 2
  leBytes 16 (if n < 2 ^ 128 then n else (n % 2 ^ 128) ^^^ 0x87)

/-- The tweaks of `n` consecutive blocks. -/
def xtsTweaks (rk2 : List Bytes) (unit : Nat) (n : Nat) : List Bytes :=
  ((List.range n).foldl (fun (st : Bytes × List Bytes) _ => (xtsAlpha st.1, st.1 :: st.2))
    (aesEncWith rk2 (leBytes 16 unit), [])).2.reverse

/-- XTS-AES-256 over whole blocks (R222). -/
def xtsEnc (key1 key2 : Bytes) (unit : Nat) (pt : Bytes) : Bytes :=
  let rk1 := roundKeys key1
  let bl := blocks16 pt
  (List.zipWith (fun p t => xorBytes (aesEncWith rk1 (xorBytes p t)) t) bl
    (xtsTweaks (roundKeys key2) unit bl.length)).flatten

def xtsDec (key1 key2 : Bytes) (unit : Nat) (ct : Bytes) : Bytes :=
  let rk1 := roundKeys key1
  let bl := blocks16 ct
  (List.zipWith (fun p t => xorBytes (aesDecWith rk1 (xorBytes p t)) t) bl
    (xtsTweaks (roundKeys key2) unit bl.length)).flatten

/-- Product in GF(2^128) of SP 800-38D; a block is the number whose most significant bit is the block's first bit. -/
def ghashMul (x y : Nat) : Nat :=
  ((List.range 128).foldl (fun (st : Nat × Nat) i =>
    let z := if x.testBit (127 - i) then st.2 ^^^ st.1 else st.2
    (if st.1.testBit 0 then (st.1 >>> 1) ^^^ (0xE1 <<< 120) else st.1 >>> 1, z)) (y, 0)).2

/-- GHASH over byte strings already padded to blocks. -/
def ghash (h : Nat) (bs : Bytes) : Nat :=
  (blocks16 bs).foldl (fun y b => ghashMul (y ^^^ ofBe b) h) 0

/-- GMAC: GCM with an empty plaintext, a 96-bit IV and the full tag (SP 800-38D, R222). -/
def gmac (key iv a : Bytes) : Bytes :=
  let rk := roundKeys key
  let h := ofBe (aesEncWith rk (List.replicate 16 0))
  let padded := padTo (16 * ceilDiv a.length 16) a
  let s := ghash h (padded ++ beBytes 8 (8 * a.length) ++ beBytes 8 0)
  xorBytes (beBytes 16 s) (aesEncWith rk (iv ++ [0, 0, 0, 1]))

/-- Doubling in GF(2^128) of SP 800-38B. -/
def cmacDbl (b : Bytes) : Bytes :=
  let n := ofBe b * 2
  beBytes 16 (if n < 2 ^ 128 then n else (n % 2 ^ 128) ^^^ 0x87)

/-- AES-CMAC under an AES-256 key (SP 800-38B). -/
def cmac (key m : Bytes) : Bytes :=
  let rk := roundKeys key
  let k1 := cmacDbl (aesEncWith rk (List.replicate 16 0))
  let k2 := cmacDbl k1
  let n := max 1 (ceilDiv m.length 16)
  let front := m.take (16 * (n - 1))
  let last := m.drop (16 * (n - 1))
  let last' := if last.length = 16 then xorBytes last k1 else xorBytes (padTo 16 (last ++ [0x80])) k2
  (blocks16 front ++ [last']).foldl (fun st b => aesEncWith rk (xorBytes st b)) (List.replicate 16 0)

/-- The RFC 3394 wrapping of the 8-byte parts `r` under the initial value `a`. -/
def wrapRounds (rk : List Bytes) (a : Bytes) (r : List Bytes) : Bytes × List Bytes :=
  let n := r.length
  (List.range (6 * n)).foldl (fun (st : Bytes × List Bytes) t =>
    let i := t % n
    let b := aesEncWith rk (st.1 ++ st.2.getD i [])
    (xorBytes (b.take 8) (beBytes 8 (t + 1)), st.2.set i (b.drop 8))) (a, r)

def unwrapRounds (rk : List Bytes) (a : Bytes) (r : List Bytes) : Bytes × List Bytes :=
  let n := r.length
  (List.range (6 * n)).foldl (fun (st : Bytes × List Bytes) u =>
    let t := 6 * n - u
    let i := (t - 1) % n
    let b := aesDecWith rk (xorBytes st.1 (beBytes 8 t) ++ st.2.getD i [])
    (b.take 8, st.2.set i (b.drop 8))) (a, r)

def parts8 (bs : Bytes) : List Bytes :=
  (List.range (ceilDiv bs.length 8)).map (fun i => (bs.drop (8 * i)).take 8)

/-- RFC 5649 key wrap with padding. -/
def kwpWrap (kek pt : Bytes) : Bytes :=
  let rk := roundKeys kek
  let aiv : Bytes := [0xA6, 0x59, 0x59, 0xA6] ++ beBytes 4 pt.length
  let p := padTo (8 * ceilDiv pt.length 8) pt
  if p.length = 8 then aesEncWith rk (aiv ++ p)
  else
    let (a, r) := wrapRounds rk aiv (parts8 p)
    a ++ r.flatten

/-- RFC 5649 unwrap: the plaintext, or none when the integrity value does not check. -/
def kwpUnwrap (kek ct : Bytes) : Option Bytes :=
  let rk := roundKeys kek
  let (a, p) :=
    if ct.length = 16 then
      let b := aesDecWith rk ct
      (b.take 8, b.drop 8)
    else
      let (a, r) := unwrapRounds rk (ct.take 8) (parts8 (ct.drop 8))
      (a, r.flatten)
  let mli := ofBe (a.drop 4)
  if ct.length % 8 = 0 ∧ 16 ≤ ct.length ∧ a.take 4 = [0xA6, 0x59, 0x59, 0xA6] ∧ mli ≤ p.length ∧ p.length < mli + 8 ∧
      (p.drop mli).all (· == 0) then some (p.take mli) else none

end Sys2Proof
end

