-- ==== Sys2Proof/Machine/Gf.lean ====
section
/-! DEFINITION. The erasure code: arithmetic, generator, encoding, decoding, syndrome (R33–R41, R138). A strip's coded
unit is a byte string with its trailing zeros left out; the strips of a stripe stand in the order of R30. -/

namespace Sys2Proof

/-- Product in the field of R33. -/
def gfMul (a b : Nat) : Nat := gfMulPoly 0x11D a b

/-- Inverse in the field of R33. -/
def gfInv (a : Nat) : Nat := gfInvPoly 0x11D a

/-- Coefficient of data strip `j` in check row `i` (R34). -/
def gen (i j : Nat) : Nat := gfMul (0x80 ^^^ j) (gfInv ((0x80 ||| i) ^^^ j))

/-- A byte string times a constant. -/
def gfScale (c : Nat) (bs : Bytes) : Bytes :=
  if c = 1 then bs else bs.map (fun b => BitVec.ofNat 8 (gfMul c b.toNat))

/-- XOR of byte strings, trailing zeros left out. -/
def xorAll (l : List Bytes) : Bytes := trimZeros (l.foldl xorBytes [])

/-- Global check `i` of the data strips (R35). -/
def globalCheck (i : Nat) (data : List Bytes) : Bytes :=
  xorAll (data.mapIdx (fun j d => gfScale (gen i j) d))

/-- The data strips of local group `t` (R31). -/
def groupOf (k g t : Nat) : List Nat := (List.range (k / g)).map (fun x => t * k / g + x)

/-- Local check `t` of the data strips (R35). -/
def localCheck (k g t : Nat) (data : List Bytes) : Bytes :=
  xorAll ((groupOf k g t).map (fun j => data.getD j []))

/-- All strips of a stripe from its data strips (R35). -/
def encodeStripe (k m g : Nat) (data : List Bytes) : List Bytes :=
  data ++ (List.range m).map (fun i => globalCheck i data) ++ (List.range g).map (fun t => localCheck k g t data)

/-- Step 1 of R36: a local group with exactly one strip missing is repaired by XOR of the others. -/
def localRepair (k m g : Nat) (strips : List (Option Bytes)) : List (Option Bytes) :=
  (List.range g).foldl (fun st t =>
    let idx := groupOf k g t ++ [k + m + t]
    match idx.filter (fun i => (st.getD i none).isNone) with
    | [i] => st.set i (some (xorAll (idx.map (fun j => (st.getD j none).getD []))))
    | _ => st) strips

/-- One column of Gauss-Jordan elimination: the row that pivots goes to the end, the others are cleared. -/
def gaussColumn (c : Nat) (rows done : List (List Nat × Bytes)) :
    Option (List (List Nat × Bytes) × List (List Nat × Bytes)) :=
  match rows.find? (fun r => r.1.getD c 0 != 0) with
  | none => none
  | some p =>
    let inv := gfInv (p.1.getD c 0)
    let piv := (p.1.map (gfMul inv), gfScale inv p.2)
    let clear (r : List Nat × Bytes) : List Nat × Bytes :=
      let f := r.1.getD c 0
      (List.zipWith (fun a b => a ^^^ gfMul f b) r.1 piv.1, xorBytes r.2 (gfScale f piv.2))
    some ((rows.erase p).map clear, done.map clear ++ [piv])

/-- The solution of a square system over the field, in column order. -/
def gaussSolve (n : Nat) (rows : List (List Nat × Bytes)) : Option (List Bytes) :=
  let r := (List.range n).foldl (fun st c =>
    match st with
    | none => none
    | some (rest, done) => gaussColumn c rest done) (some (rows, []))
  r.map (fun st => st.2.map (fun x => trimZeros x.2))

/-- Step 2 of R36: data strips still missing come from the first K present strips of data and global checks. -/
def globalDecode (k m : Nat) (strips : List (Option Bytes)) : Option (List Bytes) :=
  let missing := (List.range k).filter (fun j => (strips.getD j none).isNone)
  let checks := (List.range m).filter (fun i => (strips.getD (k + i) none).isSome)
  let data := (List.range k).map (fun j => (strips.getD j none).getD [])
  if missing.length ≤ checks.length then
    let rows := (checks.take missing.length).map (fun i =>
      (missing.map (fun j => gen i j), xorAll [(strips.getD (k + i) none).getD [], globalCheck i data]))
    (gaussSolve missing.length rows).map (fun sol =>
      (List.range k).map (fun j =>
        match missing.idxOf? j with
        | some x => sol.getD x []
        | none => data.getD j []))
  else none

/-- R36: every strip of the stripe, present strips as they are; none when the stripe is beyond repair. -/
def decodeStripe (k m g : Nat) (strips : List (Option Bytes)) : Option (List Bytes) :=
  let st := localRepair k m g strips
  (globalDecode k m st).map (fun data =>
    (encodeStripe k m g data).mapIdx (fun i e => ((st.getD i none).getD e)))

/-- The syndrome of R39: the components s_i, u_t and z (z only when G > 0). -/
structure Syndrome where
  s : List Bytes
  u : List Bytes
  z : Bytes
deriving DecidableEq, Repr

def syndrome (k m g : Nat) (strips : List Bytes) : Syndrome :=
  let data := strips.take k
  { s := (List.range m).map (fun i => xorAll [strips.getD (k + i) [], globalCheck i data])
    u := (List.range g).map (fun t => xorAll [strips.getD (k + m + t) [], localCheck k g t data])
    z := if g = 0 then [] else xorAll (strips.getD k [] :: (List.range g).map (fun t => strips.getD (k + m + t) [])) }

def Syndrome.isZero (y : Syndrome) : Bool := y.s.all (· == []) && y.u.all (· == []) && y.z == []

/-- What a syndrome pattern says (Table 6.5). -/
inductive Pattern
  | consistent
  | globalWrong (i : Nat)
  | localWrong (t : Nat)
  | dataWrong (j : Nat)
  | notLocatable
deriving DecidableEq, Repr

/-- All entries but the one at `i` are zero. -/
def zeroBut (i : Nat) (l : List Bytes) : Bool := (l.mapIdx (fun n x => decide (n = i) || x == [])).all id

/-- Table 6.5 over the coded unit of one block offset. -/
def classify (k m g : Nat) (y : Syndrome) : Pattern :=
  let s0 := y.s.getD 0 []
  let uZero := y.u.all (· == [])
  if y.isZero then .consistent
  else
    match (List.range m).find? (fun i => decide (1 ≤ i) && y.s.getD i [] != [] && zeroBut i y.s && uZero && y.z == []) with
    | some i => .globalWrong i
    | none =>
      if s0 != [] && zeroBut 0 y.s && uZero && (if g = 0 then decide (2 ≤ m) else y.z == s0) then .globalWrong 0
      else
        match (List.range g).find? (fun t =>
          y.u.getD t [] != [] && zeroBut t y.u && y.z == y.u.getD t [] && y.s.all (· == [])) with
        | some t => .localWrong t
        | none =>
          if 2 ≤ m ∧ s0 ≠ [] ∧ y.z = [] then
            match (List.range k).find? (fun j =>
              ((List.range m).all (fun i => y.s.getD i [] == trimZeros (gfScale (gen i j) s0))) &&
                ((List.range g).all (fun t => y.u.getD t [] == (if (groupOf k g t).contains j then s0 else [])))) with
            | some j => .dataWrong j
            | none => .notLocatable
          else .notLocatable

/-- Syndrome recomputed for a read-modify-write: the new checks from the old ones and the deltas (R35, R84). -/
def rmwGlobal (i : Nat) (old : Bytes) (deltas : List (Nat × Bytes)) : Bytes :=
  xorAll (old :: deltas.map (fun d => gfScale (gen i d.1) d.2))

end Sys2Proof
end

