-- ==== Sys2Proof/Machine/ObjTable.lean ====
section
/-! DEFINITION. The objects of the dictionary, one row per entry of the object tables (Tables 3.2, 4.3, 5.12, 6.9, 7.8
to 7.10, 8.9, 9.7, 10.15, 12.8, 13.10, 14.4, 15.9, 15.12, 16.6 and R372): what the Burale descriptor says of itself
(Table 15.11). MIN and MAX are the ranges the Meaning column gives, else those of the type. -/

namespace Sys2Proof

/-- A row of the object tables. -/
structure ObjRow where
  index : Nat
  sub : Nat
  /-- Table 15.1 code -/
  ty : Nat
  /-- 0 RO, 1 RW, 2 WO, 3 RWP, 4 RWC -/
  access : Nat
  count : Nat
  stride : Nat
  subCount : Nat
  /-- Table 15.11 code -/
  unit : Nat
  /-- CUSTODIAN 1, PERSISTENT 2, PAIR_WIDE 4, READS_EMPTY 8, STAGED 16, ACTION 32 -/
  flags : Nat
  dflt : Int
  min : Int
  max : Int
  name : String
deriving DecidableEq, Repr

def objTable0 : List ObjRow := [
  ⟨0x1000, 0x01, 9, 0, 1, 0, 1, 0, 0, 0, 16, 16, "DEVICE_UUID"⟩,
  ⟨0x1000, 0x02, 8, 0, 1, 0, 1, 0, 0, 9, 0, 64, "PART_CODE"⟩,
  ⟨0x1000, 0x03, 3, 0, 1, 0, 1, 0, 0, 0, 0, 4294967295, "FW_VERSION"⟩,
  ⟨0x1000, 0x04, 2, 0, 1, 0, 1, 0, 0, 1, 0, 65535, "CHARTER_FORMAT"⟩,
  ⟨0x1000, 0x05, 3, 0, 1, 0, 1, 0, 0, 0, 0, 4294967295, "DICT_GEN"⟩,
  ⟨0x1100, 0x01, 1, 3, 1, 0, 1, 0, 2, 1, 1, 127, "CAN_NODE_ID"⟩,
  ⟨0x1100, 0x02, 2, 3, 1, 0, 1, 0, 2, 500, 125, 1000, "CAN_NOM_KBPS"⟩,
  ⟨0x1100, 0x03, 2, 3, 1, 0, 1, 0, 2, 2000, 1000, 5000, "CAN_DATA_KBPS"⟩,
  ⟨0x1100, 0x04, 1, 3, 1, 0, 1, 0, 2, 3, 0, 3, "CAN_ENABLE"⟩,
  ⟨0x1100, 0x05, 1, 3, 1, 0, 1, 0, 2, 8, 0, 15, "CAN_NOTIFY_SEV"⟩,
  ⟨0x1100, 0x06, 0, 4, 1, 0, 1, 0, 3, 0, 0, 1, "OBSERVER_AUTH"⟩,
  ⟨0x1100, 0x07, 2, 3, 1, 0, 1, 3, 2, 60, 10, 3600, "SESSION_IDLE_S"⟩,
  ⟨0x1200, 0x01, 1, 0, 1, 0, 1, 0, 0, 0, 0, 255, "SESSIONS_OPEN"⟩,
  ⟨0x1200, 0x02, 9, 4, 1, 0, 1, 0, 43, 0, 40, 40, "CRED_OBSERVER"⟩,
  ⟨0x1200, 0x03, 9, 4, 1, 0, 1, 0, 43, 0, 40, 40, "CRED_OPERATOR"⟩,
  ⟨0x1200, 0x04, 9, 4, 1, 0, 1, 0, 43, 0, 40, 40, "CRED_CUSTODIAN"⟩,
  ⟨0x1200, 0x05, 1, 0, 1, 0, 1, 0, 0, 0, 0, 255, "CRED_STATE"⟩,
  ⟨0x1200, 0x06, 3, 2, 1, 0, 1, 0, 32, 0, 42330, 42330, "CRED_RESET"⟩,
  ⟨0x1200, 0x07, 3, 0, 1, 0, 1, 0, 0, 0, 0, 4294967295, "AUTH_FAILS"⟩,
  ⟨0x1200, 0x08, 3, 0, 1, 0, 1, 0, 0, 0, 0, 4294967295, "MAC_DROPS"⟩,
  ⟨0x1300, 0x01, 2, 0, 1, 0, 1, 0, 0, 0, 0, 65535, "STAGE_LOCKS"⟩,
  ⟨0x1300, 0x02, 3, 2, 1, 0, 1, 0, 32, 0, 0, 4294967295, "STAGE_RELEASE"⟩,
  ⟨0x1300, 0x03, 3, 4, 1, 0, 1, 0, 35, 0, 0, 4294967295, "STAGE_BREAK"⟩,
  ⟨0x1E00, 0x01, 3, 4, 1, 0, 1, 0, 51, 0, 4096, 16777216, "FW_STAGE_BEGIN"⟩]

def objTable1 : List ObjRow := [
  ⟨0x1E00, 0x02, 9, 4, 1, 0, 1, 0, 59, 0, 0, 4096, "FW_STAGE_DATA"⟩,
  ⟨0x1E00, 0x03, 3, 0, 1, 0, 1, 0, 0, 0, 0, 4294967295, "FW_STAGE_NEXT"⟩,
  ⟨0x1E00, 0x04, 1, 0, 1, 0, 1, 0, 0, 0, 0, 255, "FW_STAGE_STATE"⟩,
  ⟨0x1E00, 0x05, 3, 0, 1, 0, 1, 0, 0, 0, 0, 4294967295, "FW_STAGED_VERSION"⟩,
  ⟨0x1E00, 0x06, 1, 4, 1, 0, 1, 0, 35, 0, 1, 1, "FW_ACTIVATE"⟩,
  ⟨0x1E00, 0x07, 3, 0, 1, 0, 1, 0, 0, 0, 0, 4294967295, "FW_PREVIOUS_VERSION"⟩,
  ⟨0x1E00, 0x08, 1, 0, 1, 0, 1, 0, 0, 0, 0, 255, "FW_LAST_RESULT"⟩,
  ⟨0x1E00, 0x09, 2, 0, 1, 0, 1, 0, 0, 0, 0, 65535, "FW_EPOCH"⟩,
  ⟨0x1F00, 0x01, 9, 0, 1, 0, 1, 0, 0, 0, 64, 64, "BURALE_HEADER"⟩,
  ⟨0x1F00, 0x02, 2, 1, 1, 0, 1, 0, 0, 0, 0, 65535, "BURALE_PAGE_SEL"⟩,
  ⟨0x1F00, 0x03, 9, 0, 1, 0, 1, 0, 0, 0, 4096, 4096, "BURALE_PAGE"⟩,
  ⟨0x2000, 0x01, 3, 2, 1, 0, 1, 0, 32, 0, 42330, 42330, "DEV_WARM_RESET"⟩,
  ⟨0x2000, 0x02, 1, 1, 1, 0, 1, 0, 33, 0, 0, 1, "DEBUG_UNLOCK"⟩,
  ⟨0x2100, 0x01, 3, 3, 1, 0, 1, 9, 2, 0, 0, 49152, "PROT_SIZE_MIB"⟩,
  ⟨0x2100, 0x02, 2, 3, 1, 0, 1, 15, 2, 140, 45, 400, "DUMP_POWER_W"⟩,
  ⟨0x2100, 0x03, 5, 0, 1, 0, 1, 9, 0, 0, -2147483648, 2147483647, "ADMIT_CEILING_MIB"⟩,
  ⟨0x2100, 0x04, 1, 0, 1, 0, 1, 0, 0, 0, 0, 255, "ADMIT_STATE"⟩,
  ⟨0x2100, 0x05, 3, 0, 1, 0, 1, 9, 0, 0, 0, 4294967295, "PROT_HELD_MIB"⟩,
  ⟨0x2101, 0x01, 1, 3, 1, 0, 1, 1, 6, 20, 10, 100, "TIDE_US"⟩,
  ⟨0x2101, 0x02, 4, 0, 1, 0, 1, 0, 0, 0, 0, 18446744073709551615, "TIDE_NOW"⟩,
  ⟨0x2101, 0x03, 1, 3, 1, 0, 1, 0, 2, 75, 10, 95, "DESTAGE_HIGH_PCT"⟩,
  ⟨0x2102, 0x01, 3, 3, 1, 0, 1, 2, 2, 10000, 100, 60000, "TX_OPEN_LIMIT_MS"⟩,
  ⟨0x2103, 0x01, 3, 3, 1, 0, 1, 11, 2, 50000, 5000, 500000, "CKPT_INTERVAL_TIDES"⟩,
  ⟨0x2103, 0x02, 3, 0, 1, 0, 1, 2, 0, 18000, 0, 4294967295, "POISON_AFTER_MS"⟩]

def objTable2 : List ObjRow := [
  ⟨0x2104, 0x01, 1, 3, 1, 0, 1, 5, 2, 14, 1, 90, "SCRUB_CYCLE_DAYS"⟩,
  ⟨0x2104, 0x02, 1, 3, 1, 0, 1, 4, 2, 24, 1, 168, "SCRUB_WAKE_INTERVAL_H"⟩,
  ⟨0x2104, 0x03, 2, 3, 1, 0, 1, 14, 2, 200, 10, 400, "SCRUB_IDLE_GBPS"⟩,
  ⟨0x2105, 0x01, 2, 3, 1, 0, 1, 13, 2, 25, 5, 400, "REBUILD_MEMBER_MBPS"⟩,
  ⟨0x2105, 0x02, 2, 3, 1, 0, 1, 14, 2, 60, 5, 200, "REBUILD_DEVICE_GBPS"⟩,
  ⟨0x2105, 0x03, 2, 3, 1, 0, 1, 13, 2, 15, 5, 400, "CROSS_MEMBER_MBPS"⟩,
  ⟨0x2105, 0x04, 2, 3, 1, 0, 1, 3, 2, 120, 0, 3600, "REBUILD_ABSENT_HOLD_S"⟩,
  ⟨0x2105, 0x05, 2, 3, 1, 0, 1, 3, 2, 60, 10, 3600, "CROSS_COMMIT_S"⟩,
  ⟨0x2106, 0x01, 1, 1, 1, 0, 1, 0, 16, 0, 0, 255, "FLEET_KIND"⟩,
  ⟨0x2106, 0x02, 3, 1, 1, 0, 1, 0, 16, 0, 0, 4294967295, "FLEET_VALUE"⟩,
  ⟨0x2106, 0x03, 2, 1, 1, 0, 1, 0, 16, 65535, 0, 65535, "FLEET_SCOPE"⟩,
  ⟨0x2106, 0x04, 1, 2, 1, 0, 1, 0, 32, 0, 1, 1, "FLEET_COMMIT"⟩,
  ⟨0x2106, 0x05, 1, 0, 1, 0, 1, 0, 0, 0, 0, 255, "FLEET_STATE"⟩,
  ⟨0x2106, 0x06, 3, 0, 1, 0, 1, 0, 0, 0, 0, 4294967295, "FLEET_PENDING"⟩,
  ⟨0x2106, 0x07, 1, 2, 1, 0, 1, 0, 32, 0, 0, 255, "FLEET_RETRY"⟩,
  ⟨0x2106, 0x08, 1, 2, 1, 0, 1, 0, 32, 0, 0, 255, "FLEET_REVERT"⟩,
  ⟨0x2106, 0x09, 3, 0, 1, 0, 1, 0, 0, 0, 0, 4294967295, "FLEET_SEQ"⟩,
  ⟨0x2107, 0x01, 1, 3, 1, 0, 1, 3, 2, 8, 1, 120, "MEMBER_TIMEOUT_S"⟩,
  ⟨0x2107, 0x02, 2, 3, 1, 0, 1, 2, 2, 2000, 500, 10000, "SPINUP_INTERVAL_MS"⟩,
  ⟨0x2107, 0x03, 1, 3, 1, 0, 1, 0, 2, 4, 1, 96, "SPINUP_PER_ENCL"⟩,
  ⟨0x2107, 0x04, 2, 3, 1, 0, 1, 0, 2, 96, 1, 1024, "SPINUP_GROUP"⟩,
  ⟨0x2107, 0x05, 1, 3, 1, 0, 1, 3, 2, 30, 10, 120, "SPINUP_ALLOW_S"⟩,
  ⟨0x2107, 0x06, 2, 3, 1, 0, 1, 2, 2, 2000, 100, 10000, "LINK_HOLD_MS"⟩,
  ⟨0x2107, 0x07, 2, 3, 1, 0, 1, 2, 2, 200, 0, 5000, "HEDGE_MS"⟩]

def objTable3 : List ObjRow := [
  ⟨0x2107, 0x08, 1, 3, 1, 0, 1, 4, 2, 24, 1, 168, "SUSPECT_CLEAR_H"⟩,
  ⟨0x2107, 0x09, 1, 2, 1, 0, 1, 0, 32, 0, 1, 1, "DISCOVER_NOW"⟩,
  ⟨0x2107, 0x0A, 3, 0, 1, 0, 1, 0, 0, 0, 0, 4294967295, "DISCOVER_OVER"⟩,
  ⟨0x2107, 0x0B, 2, 0, 1, 0, 1, 0, 0, 0, 0, 65535, "MEMBERS_FOUND"⟩,
  ⟨0x2107, 0x0C, 3, 0, 1, 0, 1, 0, 0, 0, 0, 4294967295, "CTX_FREE"⟩,
  ⟨0x2108, 0x01, 2, 1, 1, 0, 1, 0, 0, 0, 0, 65535, "ENCL_SELECT"⟩,
  ⟨0x2108, 0x02, 4, 0, 1, 0, 1, 0, 0, 0, 0, 18446744073709551615, "ENCL_LOGICAL_ID"⟩,
  ⟨0x2108, 0x03, 2, 4, 1, 0, 1, 0, 35, 0, 0, 65535, "ENCL_NUMBER"⟩,
  ⟨0x2120, 0x01, 3, 3, 1, 0, 1, 0, 2, 32768, 0, 65536, "CHAIN_SPLIT"⟩,
  ⟨0x2120, 0x02, 3, 3, 1, 0, 1, 9, 2, 0, 0, 65536, "PEER_AREA_MIB"⟩,
  ⟨0x2120, 0x03, 1, 3, 1, 0, 1, 0, 2, 1, 1, 64, "PEER_BAR_GIB"⟩,
  ⟨0x2120, 0x04, 3, 0, 1, 0, 1, 0, 0, 0, 0, 4294967295, "UEFI_IMAGE_LEN"⟩,
  ⟨0x2120, 0x05, 3, 3, 1, 0, 1, 0, 2, 1900289975, 0, 4294967295, "SUBSYS_ID"⟩,
  ⟨0x2120, 0x06, 2, 0, 1, 0, 2, 0, 0, 0, 0, 65535, "PORT_LINK"⟩,
  ⟨0x2120, 0x08, 3, 0, 1, 0, 2, 0, 0, 0, 0, 4294967295, "PORT_PEER_DROPS"⟩,
  ⟨0x2200, 0x01, 1, 3, 144, 1, 1, 0, 2, 0, 0, 255, "LANE_MODE"⟩,
  ⟨0x2200, 0x02, 1, 3, 144, 1, 1, 0, 2, 4, 1, 4, "LANE_NVME_WIDTH"⟩,
  ⟨0x2200, 0x03, 1, 3, 144, 1, 1, 0, 2, 0, 0, 255, "LANE_RATE_MAX"⟩,
  ⟨0x2200, 0x04, 1, 3, 144, 1, 1, 0, 2, 7, 0, 10, "LANE_TX_PRESET"⟩,
  ⟨0x2200, 0x05, 1, 0, 144, 1, 1, 0, 0, 0, 0, 255, "LANE_STATE"⟩,
  ⟨0x2200, 0x06, 1, 0, 144, 1, 1, 0, 0, 0, 0, 255, "LANE_RATE"⟩,
  ⟨0x2200, 0x07, 3, 0, 144, 1, 1, 0, 0, 0, 0, 4294967295, "LANE_ERRORS"⟩,
  ⟨0x2200, 0x08, 2, 0, 144, 1, 1, 0, 0, 0, 0, 65535, "LANE_RETRAINS"⟩,
  ⟨0x2290, 0x01, 2, 0, 1, 0, 4, 0, 0, 0, 0, 65535, "DUMP_LINK_STATE"⟩]

def objTable4 : List ObjRow := [
  ⟨0x2400, 0x01, 1, 0, 1, 0, 1, 0, 0, 0, 0, 255, "TOLLGATE_STATE"⟩,
  ⟨0x2400, 0x02, 1, 0, 1, 0, 1, 0, 0, 24, 0, 255, "LANES_IN_SERVICE"⟩,
  ⟨0x2400, 0x03, 1, 0, 1, 0, 1, 0, 0, 24, 0, 255, "GHASH_IN_SERVICE"⟩,
  ⟨0x2400, 0x04, 1, 0, 1, 0, 1, 0, 0, 2, 0, 255, "UNWRAP_CORES"⟩,
  ⟨0x2400, 0x05, 1, 0, 1, 0, 1, 0, 0, 0, 0, 255, "ROOT_STATE"⟩,
  ⟨0x2400, 0x06, 1, 2, 1, 0, 1, 0, 32, 0, 1, 1, "SELFTEST_NOW"⟩,
  ⟨0x2400, 0x07, 4, 0, 1, 0, 1, 0, 0, 0, 0, 18446744073709551615, "SELFTEST_LAST"⟩,
  ⟨0x2400, 0x08, 7, 0, 1, 0, 1, 0, 0, 0, 0, 18446744073709551615, "SELFTEST_TIME"⟩,
  ⟨0x2400, 0x09, 3, 0, 1, 0, 1, 0, 0, 0, 0, 4294967295, "CHECK_MISMATCHES"⟩,
  ⟨0x2400, 0x0A, 4, 0, 1, 0, 1, 0, 0, 0, 0, 18446744073709551615, "AUTH_FAIL_TOTAL"⟩,
  ⟨0x2400, 0x0B, 3, 0, 1, 0, 1, 0, 0, 0, 0, 4294967295, "GLITCH_TRIPS"⟩,
  ⟨0x2401, 0x01, 9, 4, 1, 0, 1, 0, 43, 0, 56, 56, "KEK_IMPORT"⟩,
  ⟨0x2401, 0x02, 9, 4, 1, 0, 1, 0, 43, 0, 16, 16, "KEK_UNLOCK"⟩,
  ⟨0x2401, 0x03, 9, 4, 1, 0, 1, 0, 43, 0, 16, 16, "KEK_ERASE"⟩,
  ⟨0x2401, 0x04, 3, 4, 1, 0, 1, 0, 35, 0, 1513920225, 1513920225, "TOLLGATE_ZEROISE"⟩,
  ⟨0x2410, 0x01, 9, 0, 64, 1, 1, 0, 0, 0, 16, 16, "KEK_ID"⟩,
  ⟨0x2410, 0x02, 1, 0, 64, 1, 1, 0, 0, 0, 0, 255, "KEK_STATE"⟩,
  ⟨0x2410, 0x03, 0, 4, 64, 1, 1, 0, 35, 0, 0, 1, "KEK_AUTOLOAD"⟩,
  ⟨0x2500, 0x01, 9, 4, 1, 0, 1, 0, 35, 16, 16, 16, "PAIR_PARTNER_UUID"⟩,
  ⟨0x2500, 0x02, 9, 0, 1, 0, 1, 0, 0, 16, 16, 16, "PAIR_UUID"⟩,
  ⟨0x2500, 0x03, 1, 0, 1, 0, 1, 0, 0, 0, 0, 255, "PAIR_STATE"⟩,
  ⟨0x2500, 0x04, 1, 0, 1, 0, 1, 0, 0, 0, 0, 255, "PAIR_ROLE"⟩,
  ⟨0x2500, 0x05, 1, 0, 1, 0, 1, 0, 0, 0, 0, 255, "HAWSER_WIDTH"⟩,
  ⟨0x2500, 0x06, 1, 0, 1, 0, 1, 0, 0, 0, 0, 255, "PATH_STATE"⟩]

def objTable5 : List ObjRow := [
  ⟨0x2500, 0x07, 2, 3, 1, 0, 1, 2, 2, 20, 10, 1000, "RELEASE_AFTER_MS"⟩,
  ⟨0x2500, 0x08, 2, 3, 1, 0, 1, 2, 2, 100, 70, 10000, "RECLAIM_DELAY_MS"⟩,
  ⟨0x2500, 0x09, 2, 3, 1, 0, 1, 3, 2, 60, 5, 600, "PAIR_BOOT_WAIT_S"⟩,
  ⟨0x2500, 0x0A, 3, 3, 1, 0, 1, 3, 2, 300, 30, 86400, "FAILBACK_HOLDOFF_S"⟩,
  ⟨0x2500, 0x0B, 2, 3, 1, 0, 1, 11, 2, 500, 50, 50000, "PAIR_CHANGE_LEAD_TIDES"⟩,
  ⟨0x2500, 0x0C, 1, 0, 1, 0, 1, 0, 0, 0, 0, 255, "PAIR_CHANGE_STATE"⟩,
  ⟨0x2500, 0x0D, 3, 0, 1, 0, 1, 0, 0, 0, 0, 4294967295, "TAKEOVERS"⟩,
  ⟨0x2600, 0x01, 3, 0, 1, 0, 1, 0, 0, 0, 0, 4294967295, "STANDBY_HEALTH"⟩,
  ⟨0x2600, 0x02, 7, 0, 1, 0, 1, 0, 0, 0, 0, 18446744073709551615, "STANDBY_TEST_TIME"⟩,
  ⟨0x2640, 0x01, 1, 0, 64, 1, 1, 0, 0, 0, 0, 255, "SHADOW_COVERAGE"⟩,
  ⟨0x2640, 0x02, 4, 0, 64, 1, 1, 0, 0, 0, 0, 18446744073709551615, "SHADOW_TIDE"⟩,
  ⟨0x2640, 0x03, 4, 0, 64, 1, 1, 10, 0, 0, 0, 18446744073709551615, "SHADOW_BLOCKS"⟩,
  ⟨0x2640, 0x04, 2, 0, 64, 1, 1, 0, 0, 0, 0, 65535, "SHADOW_UNREACHABLE"⟩,
  ⟨0x2640, 0x05, 2, 0, 64, 1, 1, 0, 0, 0, 0, 65535, "SHADOW_UNREGISTERED"⟩,
  ⟨0x2700, 0x01, 1, 0, 1, 0, 1, 0, 0, 0, 0, 255, "POWER_STATE"⟩,
  ⟨0x2700, 0x02, 1, 2, 1, 0, 1, 0, 32, 0, 1, 2, "SLEEP_REQUEST"⟩,
  ⟨0x2700, 0x03, 1, 0, 1, 0, 1, 0, 0, 0, 0, 255, "SLEEP_REFUSED"⟩,
  ⟨0x2700, 0x04, 1, 3, 1, 0, 1, 0, 2, 63, 0, 63, "WAKE_MASK"⟩,
  ⟨0x2700, 0x05, 1, 0, 1, 0, 1, 0, 0, 0, 0, 255, "WAKE_CAUSE"⟩,
  ⟨0x2700, 0x06, 0, 3, 1, 0, 1, 0, 2, 0, 0, 1, "WAKE_HOST"⟩,
  ⟨0x2700, 0x07, 7, 0, 1, 0, 1, 0, 0, 0, 0, 18446744073709551615, "SCHED_WAKE"⟩,
  ⟨0x2700, 0x08, 2, 3, 1, 0, 1, 2, 2, 1000, 100, 60000, "IDLE_AFTER_MS"⟩,
  ⟨0x2700, 0x09, 2, 3, 1, 0, 1, 6, 2, 11000, 10200, 13000, "WARN_MV"⟩,
  ⟨0x2700, 0x0A, 2, 3, 1, 0, 1, 6, 2, 10200, 9800, 12600, "DUMP_MV"⟩]

def objTable6 : List ObjRow := [
  ⟨0x2700, 0x0B, 3, 0, 1, 0, 1, 0, 0, 0, 0, 4294967295, "BRACE_COUNT"⟩,
  ⟨0x2700, 0x0C, 6, 0, 1, 0, 1, 0, 0, 0, -2147483648, 2147483647, "DIE_TEMP"⟩,
  ⟨0x2701, 0x01, 2, 3, 1, 0, 1, 6, 2, 8000, 1000, 60000, "STORE_FLOOR_MV"⟩,
  ⟨0x2701, 0x02, 1, 3, 1, 0, 1, 0, 2, 90, 50, 100, "STORE_EFF_PCT"⟩,
  ⟨0x2701, 0x03, 3, 3, 1, 0, 1, 0, 2, 0, 0, 4294967295, "STORE_NOMINAL_MF"⟩,
  ⟨0x2701, 0x04, 3, 0, 1, 0, 1, 0, 0, 0, 0, 4294967295, "STORE_CAP_MF"⟩,
  ⟨0x2701, 0x05, 2, 0, 1, 0, 1, 0, 0, 0, 0, 65535, "STORE_ESR_MOHM"⟩,
  ⟨0x2701, 0x06, 2, 3, 1, 0, 1, 4, 2, 24, 1, 720, "STORE_TEST_H"⟩,
  ⟨0x2701, 0x07, 1, 4, 1, 0, 1, 0, 35, 0, 1, 1, "STORE_TEST_NOW"⟩,
  ⟨0x2701, 0x08, 3, 0, 1, 0, 1, 16, 0, 0, 0, 4294967295, "ENERGY_MJ"⟩,
  ⟨0x2701, 0x09, 1, 0, 1, 0, 1, 0, 0, 0, 0, 255, "STORE_STATE"⟩,
  ⟨0x2702, 0x01, 1, 0, 1, 0, 1, 0, 0, 0, 0, 255, "DUMP_STATE"⟩,
  ⟨0x2702, 0x02, 1, 0, 1, 0, 1, 0, 0, 0, 0, 255, "DUMP_TARGETS"⟩,
  ⟨0x2702, 0x03, 4, 0, 1, 0, 1, 0, 0, 0, 0, 18446744073709551615, "DUMP_SEQ"⟩,
  ⟨0x2702, 0x04, 4, 0, 1, 0, 1, 0, 0, 0, 0, 18446744073709551615, "DUMP_CONSUMED"⟩,
  ⟨0x2702, 0x05, 1, 0, 1, 0, 1, 0, 0, 0, 0, 255, "DUMP_LAST_RESULT"⟩,
  ⟨0x2702, 0x06, 3, 0, 1, 0, 1, 2, 0, 0, 0, 4294967295, "DUMP_LAST_MS"⟩,
  ⟨0x2702, 0x07, 3, 0, 1, 0, 1, 2, 0, 0, 0, 4294967295, "RESTORE_LAST_MS"⟩,
  ⟨0x2702, 0x08, 1, 4, 1, 0, 1, 0, 35, 0, 0, 15, "DUMP_ADOPT"⟩,
  ⟨0x2710, 0x01, 5, 0, 1, 0, 8, 0, 0, 0, -2147483648, 2147483647, "SENSE_VALUE"⟩,
  ⟨0x2711, 0x01, 1, 0, 1, 0, 8, 0, 0, 0, 0, 255, "SENSE_FLAGS"⟩,
  ⟨0x2712, 0x01, 6, 3, 1, 0, 8, 0, 2, 65536, -2147483648, 2147483647, "SENSE_SCALE"⟩,
  ⟨0x2713, 0x01, 5, 3, 1, 0, 8, 0, 2, -2147483648, -2147483648, 2147483647, "SENSE_WAKE_LO"⟩,
  ⟨0x2714, 0x01, 5, 3, 1, 0, 8, 0, 2, 2147483647, -2147483648, 2147483647, "SENSE_WAKE_HI"⟩]

def objTable7 : List ObjRow := [
  ⟨0x2800, 0x01, 1, 2, 1, 0, 1, 0, 32, 0, 0, 255, "CAL_START"⟩,
  ⟨0x2800, 0x02, 1, 0, 1, 0, 1, 0, 0, 0, 0, 255, "CAL_STATE"⟩,
  ⟨0x2800, 0x03, 1, 0, 1, 0, 1, 0, 0, 0, 0, 255, "CAL_REFUSED"⟩,
  ⟨0x2800, 0x04, 1, 0, 1, 0, 1, 0, 0, 0, 0, 255, "CAL_LAST_RESULT"⟩,
  ⟨0x2800, 0x05, 3, 3, 1, 0, 1, 0, 2, 1250000, 0, 4294967295, "CAL_REF_UV"⟩,
  ⟨0x2800, 0x06, 8, 3, 1, 0, 1, 0, 2, 0, 0, 64, "CAL_REF_ID"⟩,
  ⟨0x2800, 0x07, 1, 0, 1, 0, 1, 0, 0, 0, 0, 255, "CAL_FREF_FOUND"⟩,
  ⟨0x2800, 0x08, 5, 0, 1, 0, 1, 12, 0, 0, -2147483648, 2147483647, "CAL_GAIN_PPB"⟩,
  ⟨0x2800, 0x09, 5, 0, 1, 0, 1, 0, 0, 0, -2147483648, 2147483647, "CAL_OFFSET"⟩,
  ⟨0x2800, 0x0A, 5, 0, 1, 0, 1, 12, 0, 0, -2147483648, 2147483647, "CAL_TIME_PPB"⟩,
  ⟨0x2800, 0x0B, 5, 0, 1, 0, 1, 12, 0, 0, -2147483648, 2147483647, "CAL_XTAL_PPB"⟩,
  ⟨0x2800, 0x0C, 0, 0, 1, 0, 1, 0, 0, 0, 0, 1, "CAL_TIME_CLIPPED"⟩,
  ⟨0x2800, 0x0D, 7, 0, 1, 0, 1, 0, 0, 0, 0, 18446744073709551615, "CAL_LAST_TIME"⟩,
  ⟨0x2800, 0x0E, 1, 4, 1, 0, 1, 0, 35, 0, 1, 1, "CAL_FACTORY"⟩,
  ⟨0x2800, 0x0F, 9, 0, 1, 0, 1, 0, 0, 0, 0, 4096, "CAL_HISTORY"⟩,
  ⟨0x3000, 0x01, 9, 0, 64, 64, 1, 0, 0, 16, 16, 16, "POOL_UUID"⟩,
  ⟨0x3000, 0x02, 1, 0, 64, 64, 1, 0, 0, 0, 0, 255, "POOL_LIFE"⟩,
  ⟨0x3000, 0x03, 1, 4, 64, 64, 1, 0, 35, 0, 1, 2, "POOL_COMMIT"⟩,
  ⟨0x3000, 0x04, 3, 0, 64, 64, 1, 0, 0, 0, 0, 4294967295, "POOL_COMMIT_RESULT"⟩,
  ⟨0x3000, 0x05, 9, 4, 64, 64, 1, 0, 35, 0, 16, 16, "POOL_IMPORT"⟩,
  ⟨0x3000, 0x06, 1, 4, 64, 64, 1, 0, 35, 0, 1, 1, "POOL_IMPORT_FORCE"⟩,
  ⟨0x3000, 0x07, 4, 0, 64, 64, 1, 0, 0, 0, 0, 18446744073709551615, "POOL_CHARTER_GEN"⟩,
  ⟨0x3000, 0x08, 2, 0, 64, 64, 1, 0, 0, 0, 0, 65535, "POOL_INIT_PERMILLE"⟩,
  ⟨0x3010, 0x01, 1, 4, 64, 64, 1, 0, 19, 0, 1, 120, "POOL_CODE_K"⟩]

def objTable8 : List ObjRow := [
  ⟨0x3010, 0x02, 1, 4, 64, 64, 1, 0, 19, 0, 1, 12, "POOL_CODE_M"⟩,
  ⟨0x3010, 0x03, 1, 4, 64, 64, 1, 0, 19, 0, 0, 8, "POOL_CODE_G"⟩,
  ⟨0x3010, 0x04, 1, 4, 64, 64, 1, 0, 19, 0, 0, 1, "POOL_CODE_TYPE"⟩,
  ⟨0x3010, 0x05, 1, 4, 64, 64, 1, 0, 19, 16, 14, 20, "POOL_STRIP_LOG2"⟩,
  ⟨0x3010, 0x06, 1, 4, 64, 64, 1, 0, 19, 0, 0, 4, "POOL_BLOCK_FMT"⟩,
  ⟨0x3010, 0x07, 9, 4, 64, 64, 1, 0, 19, 0, 2048, 2048, "POOL_MEMBERS"⟩,
  ⟨0x3011, 0x01, 1, 4, 64, 64, 1, 0, 19, 0, 0, 255, "POOL_ENCL_LIMIT"⟩,
  ⟨0x3011, 0x02, 1, 4, 64, 64, 1, 0, 19, 0, 0, 255, "POOL_RACK_LIMIT"⟩,
  ⟨0x3011, 0x03, 2, 4, 64, 64, 1, 0, 19, 0, 0, 65535, "POOL_SPARE_EQUIV"⟩,
  ⟨0x3011, 0x04, 3, 0, 64, 64, 1, 0, 0, 0, 0, 4294967295, "POOL_BRAID_SEED"⟩,
  ⟨0x3011, 0x05, 4, 0, 64, 64, 1, 0, 0, 0, 0, 18446744073709551615, "POOL_OVERLIMIT"⟩,
  ⟨0x3011, 0x06, 4, 0, 64, 64, 1, 0, 0, 0, 0, 18446744073709551615, "POOL_UNPLACED"⟩,
  ⟨0x3012, 0x01, 1, 3, 64, 64, 1, 0, 2, 0, 0, 1, "POOL_WRITE_MODE"⟩,
  ⟨0x3012, 0x02, 1, 0, 64, 64, 1, 0, 0, 0, 0, 255, "POOL_WRITE_STATE"⟩,
  ⟨0x3012, 0x03, 4, 0, 64, 64, 1, 10, 0, 0, 0, 18446744073709551615, "POOL_HELD_BLOCKS"⟩,
  ⟨0x3012, 0x04, 2, 0, 64, 64, 1, 0, 0, 0, 0, 65535, "POOL_MIRROR_LAG"⟩,
  ⟨0x3013, 0x01, 1, 4, 64, 64, 1, 0, 23, 0, 0, 1, "POOL_RECOVERY_STAGED"⟩,
  ⟨0x3013, 0x02, 4, 0, 64, 64, 1, 0, 0, 0, 0, 18446744073709551615, "POOL_CKPT_SEQ"⟩,
  ⟨0x3013, 0x03, 2, 0, 64, 64, 1, 0, 0, 0, 0, 65535, "POOL_HOME0"⟩,
  ⟨0x3013, 0x04, 2, 0, 64, 64, 1, 0, 0, 0, 0, 65535, "POOL_HOME1"⟩,
  ⟨0x3013, 0x05, 2, 0, 64, 64, 1, 0, 0, 0, 0, 65535, "POOL_HOME2"⟩,
  ⟨0x3013, 0x06, 1, 0, 64, 64, 1, 0, 0, 0, 0, 255, "POOL_HOME_STATE"⟩,
  ⟨0x3013, 0x07, 4, 0, 64, 64, 1, 0, 0, 0, 0, 18446744073709551615, "POOL_INTENT_STRIPES"⟩,
  ⟨0x3013, 0x08, 3, 0, 64, 64, 1, 0, 0, 0, 0, 4294967295, "POOL_STALLED"⟩]

def objTable9 : List ObjRow := [
  ⟨0x3013, 0x09, 4, 0, 64, 64, 1, 0, 0, 0, 0, 18446744073709551615, "POOL_POISONED"⟩,
  ⟨0x3013, 0x0A, 1, 0, 64, 64, 1, 0, 0, 0, 0, 255, "POOL_LAST_RECOVERY"⟩,
  ⟨0x3013, 0x0B, 4, 0, 64, 64, 1, 0, 0, 0, 0, 18446744073709551615, "POOL_RECONCILE_LEFT"⟩,
  ⟨0x3013, 0x0C, 4, 4, 64, 64, 1, 0, 35, 0, 0, 18446744073709551615, "POOL_STALL_RELEASE"⟩,
  ⟨0x3014, 0x01, 0, 3, 64, 64, 1, 0, 2, 1, 0, 1, "POOL_SCRUB_ENABLE"⟩,
  ⟨0x3014, 0x02, 0, 3, 64, 64, 1, 0, 2, 0, 0, 1, "POOL_SCRUB_TAGS"⟩,
  ⟨0x3014, 0x03, 0, 3, 64, 64, 1, 0, 2, 0, 0, 1, "POOL_MIRROR_READ_ALL"⟩,
  ⟨0x3014, 0x04, 4, 0, 64, 64, 1, 0, 0, 0, 0, 18446744073709551615, "POOL_SCRUB_CURSOR"⟩,
  ⟨0x3014, 0x05, 7, 0, 64, 64, 1, 0, 0, 0, 0, 18446744073709551615, "POOL_SCRUB_PASS_END"⟩,
  ⟨0x3014, 0x06, 0, 0, 64, 64, 1, 0, 0, 0, 0, 1, "POOL_SCRUB_BEHIND"⟩,
  ⟨0x3014, 0x07, 4, 0, 64, 64, 1, 0, 0, 0, 0, 18446744073709551615, "POOL_REPAIRED"⟩,
  ⟨0x3014, 0x08, 3, 0, 64, 64, 1, 0, 0, 0, 0, 4294967295, "POOL_DIVERGED"⟩,
  ⟨0x3014, 0x09, 4, 0, 64, 64, 1, 0, 0, 0, 0, 18446744073709551615, "POOL_DIV_NEXT"⟩,
  ⟨0x3014, 0x0A, 4, 1, 64, 64, 1, 0, 32, 0, 0, 18446744073709551615, "POOL_DIV_RESOLVE"⟩,
  ⟨0x3014, 0x0B, 4, 0, 64, 64, 1, 0, 0, 0, 0, 18446744073709551615, "POOL_LOST_COUNT"⟩,
  ⟨0x3014, 0x0C, 1, 0, 64, 64, 1, 0, 0, 0, 0, 255, "POOL_LOST_STATE"⟩,
  ⟨0x3014, 0x0D, 4, 1, 64, 64, 1, 0, 0, 0, 0, 18446744073709551615, "POOL_LOST_FROM"⟩,
  ⟨0x3014, 0x0E, 9, 0, 64, 64, 1, 0, 0, 0, 0, 4096, "POOL_LOST_TABLE"⟩,
  ⟨0x3015, 0x01, 1, 0, 64, 64, 1, 0, 0, 0, 0, 255, "POOL_STATE"⟩,
  ⟨0x3015, 0x02, 1, 0, 64, 64, 1, 0, 0, 0, 0, 255, "POOL_MIN_MARGIN"⟩,
  ⟨0x3015, 0x03, 2, 0, 64, 64, 1, 0, 0, 0, 0, 65535, "POOL_RELOCATED"⟩,
  ⟨0x3015, 0x04, 4, 0, 64, 64, 1, 0, 0, 0, 0, 18446744073709551615, "POOL_REBUILD_LEFT"⟩,
  ⟨0x3015, 0x05, 4, 0, 64, 64, 1, 0, 0, 0, 0, 18446744073709551615, "POOL_CRITICAL_STRIPES"⟩,
  ⟨0x3015, 0x06, 4, 0, 64, 64, 1, 0, 0, 0, 0, 18446744073709551615, "POOL_FAILED_GROUPS"⟩]

def objTable10 : List ObjRow := [
  ⟨0x3015, 0x07, 4, 0, 64, 64, 1, 0, 0, 0, 0, 18446744073709551615, "POOL_FAILED_NEXT"⟩,
  ⟨0x3015, 0x08, 4, 4, 64, 64, 1, 0, 35, 0, 0, 18446744073709551615, "POOL_GROUP_ABANDON"⟩,
  ⟨0x3015, 0x09, 0, 4, 64, 64, 1, 0, 3, 0, 0, 1, "POOL_AUTO_REPLACE"⟩,
  ⟨0x3015, 0x0A, 4, 0, 64, 64, 1, 0, 0, 0, 0, 18446744073709551615, "POOL_COPYBACK_LEFT"⟩,
  ⟨0x3016, 0x01, 1, 4, 64, 64, 1, 0, 19, 0, 0, 31, "CROSS_KINDS"⟩,
  ⟨0x3016, 0x02, 3, 4, 64, 64, 1, 0, 19, 0, 0, 4294967295, "CROSS_T_CODE"⟩,
  ⟨0x3016, 0x03, 3, 4, 64, 64, 1, 0, 19, 0, 0, 4294967295, "CROSS_T_LAYOUT"⟩,
  ⟨0x3016, 0x04, 2, 4, 64, 64, 1, 0, 19, 0, 0, 65535, "CROSS_T_SPARE"⟩,
  ⟨0x3016, 0x05, 9, 4, 64, 64, 1, 0, 19, 0, 2048, 2048, "CROSS_T_MEMBERS"⟩,
  ⟨0x3016, 0x06, 9, 4, 64, 64, 1, 0, 19, 0, 512, 512, "CROSS_T_VOLUMES"⟩,
  ⟨0x3016, 0x07, 1, 2, 64, 64, 1, 0, 33, 0, 1, 1, "CROSS_START"⟩,
  ⟨0x3016, 0x08, 1, 2, 64, 64, 1, 0, 33, 0, 1, 1, "CROSS_ABORT"⟩,
  ⟨0x3016, 0x09, 1, 0, 64, 64, 1, 0, 0, 0, 0, 255, "CROSS_STATE"⟩,
  ⟨0x3016, 0x0A, 2, 0, 64, 64, 1, 0, 0, 65535, 0, 65535, "CROSS_VOLUME"⟩,
  ⟨0x3016, 0x0B, 4, 0, 64, 64, 1, 0, 0, 0, 0, 18446744073709551615, "CROSS_CURSOR"⟩,
  ⟨0x3016, 0x0C, 4, 0, 64, 64, 1, 0, 0, 0, 0, 18446744073709551615, "CROSS_BLOCKS_LEFT"⟩,
  ⟨0x3017, 0x01, 9, 4, 64, 64, 1, 0, 19, 0, 16, 16, "POOL_KEK_ID"⟩,
  ⟨0x3017, 0x02, 9, 4, 64, 64, 1, 0, 43, 0, 16, 16, "POOL_KEK_ROTATE"⟩,
  ⟨0x3017, 0x03, 1, 0, 64, 64, 1, 0, 0, 0, 0, 255, "POOL_KEY_STATE"⟩,
  ⟨0x3018, 0x01, 0, 4, 64, 64, 1, 0, 19, 0, 0, 1, "POOL_PAIRED"⟩,
  ⟨0x3018, 0x02, 1, 4, 64, 64, 1, 0, 19, 0, 0, 1, "POOL_PREF_OWNER"⟩,
  ⟨0x3018, 0x03, 1, 0, 64, 64, 1, 0, 0, 0, 0, 255, "POOL_OWNER"⟩,
  ⟨0x3018, 0x04, 1, 0, 64, 64, 1, 0, 0, 0, 0, 255, "POOL_PAIR_STATE"⟩,
  ⟨0x3018, 0x05, 1, 0, 64, 64, 1, 0, 0, 2, 0, 255, "POOL_OWNER_NEXT"⟩]

def objTable11 : List ObjRow := [
  ⟨0x3018, 0x06, 4, 0, 64, 64, 1, 0, 0, 0, 0, 18446744073709551615, "POOL_HANDOVER_TIDE"⟩,
  ⟨0x3018, 0x07, 1, 2, 64, 64, 1, 0, 36, 0, 1, 1, "POOL_HANDOVER"⟩,
  ⟨0x3018, 0x08, 2, 0, 64, 64, 1, 0, 0, 0, 0, 65535, "POOL_FENCE_LEFT"⟩,
  ⟨0x3018, 0x09, 3, 0, 64, 64, 1, 3, 0, 0, 0, 4294967295, "POOL_HOLDOFF_LEFT_S"⟩,
  ⟨0x5000, 0x01, 4, 0, 1, 0, 1, 0, 0, 0, 0, 18446744073709551615, "LOG_SEQ_NEXT"⟩,
  ⟨0x5000, 0x02, 2, 0, 1, 0, 1, 0, 0, 0, 0, 65535, "LOG_PERM_COUNT"⟩,
  ⟨0x5000, 0x03, 4, 0, 1, 0, 1, 0, 0, 0, 0, 18446744073709551615, "LOG_CIRC_WRITTEN"⟩,
  ⟨0x5000, 0x04, 2, 3, 1, 0, 1, 3, 2, 10, 1, 3600, "LOG_REPEAT_WINDOW_S"⟩,
  ⟨0x5000, 0x05, 3, 0, 1, 0, 1, 0, 0, 0, 0, 4294967295, "LOG_DROPPED"⟩,
  ⟨0x5000, 0x06, 3, 3, 1, 0, 1, 3, 2, 3600, 60, 604800, "LOG_EXPORT_INTERVAL_S"⟩,
  ⟨0x5000, 0x07, 1, 2, 1, 0, 1, 0, 32, 0, 1, 1, "LOG_EXPORT_NOW"⟩,
  ⟨0x5000, 0x08, 7, 0, 1, 0, 1, 0, 0, 0, 0, 18446744073709551615, "LOG_EXPORT_LAST"⟩,
  ⟨0x5000, 0x09, 3, 0, 1, 0, 1, 0, 0, 0, 0, 4294967295, "LOG_DROPPED_HIGH"⟩,
  ⟨0x5100, 0x01, 9, 0, 1024, 1, 1, 0, 0, 0, 4096, 4096, "LOG_CIRC_PAGE"⟩,
  ⟨0x5500, 0x01, 9, 0, 64, 1, 1, 0, 0, 0, 4096, 4096, "LOG_PERM_PAGE"⟩,
  ⟨0x6000, 0x01, 1, 0, 16384, 1, 1, 0, 0, 0, 0, 255, "MEMBER_STATE"⟩,
  ⟨0x6000, 0x02, 1, 0, 16384, 1, 1, 0, 0, 0, 0, 255, "MEMBER_PROTOCOL"⟩,
  ⟨0x6000, 0x03, 9, 0, 16384, 1, 1, 0, 0, 0, 16, 16, "MEMBER_IDENTITY"⟩,
  ⟨0x6000, 0x04, 3, 0, 16384, 1, 1, 0, 0, 0, 0, 4294967295, "MEMBER_PATH"⟩,
  ⟨0x6000, 0x05, 4, 0, 16384, 1, 1, 10, 0, 0, 0, 18446744073709551615, "MEMBER_CAPACITY"⟩,
  ⟨0x6000, 0x06, 1, 0, 16384, 1, 1, 0, 0, 0, 0, 255, "MEMBER_FORMAT"⟩,
  ⟨0x6000, 0x07, 2, 0, 16384, 1, 1, 0, 0, 0, 0, 65535, "MEMBER_DEPTH"⟩,
  ⟨0x6000, 0x08, 1, 0, 16384, 1, 1, 0, 0, 2, 0, 255, "MEMBER_WCE"⟩,
  ⟨0x6000, 0x09, 3, 0, 16384, 1, 1, 0, 0, 0, 0, 4294967295, "MEMBER_TIMEOUTS"⟩]

def objTable12 : List ObjRow := [
  ⟨0x6000, 0x0A, 3, 0, 16384, 1, 1, 0, 0, 0, 0, 4294967295, "MEMBER_RESETS"⟩,
  ⟨0x6000, 0x0B, 3, 0, 16384, 1, 1, 0, 0, 0, 0, 4294967295, "MEMBER_MEDIUM_ERR"⟩,
  ⟨0x6000, 0x0C, 1, 1, 16384, 1, 1, 0, 32, 0, 1, 3, "MEMBER_ACTION"⟩,
  ⟨0x6000, 0x0D, 1, 4, 16384, 1, 1, 0, 35, 0, 0, 255, "MEMBER_REFORMAT"⟩,
  ⟨0x6000, 0x0E, 1, 0, 16384, 1, 1, 0, 0, 0, 0, 255, "MEMBER_SPUN"⟩,
  ⟨0x6000, 0x0F, 2, 0, 16384, 1, 1, 0, 0, 65535, 0, 65535, "MEMBER_SLOT"⟩,
  ⟨0x6000, 0x10, 2, 4, 16384, 1, 1, 0, 19, 0, 0, 65535, "MEMBER_ENCL"⟩,
  ⟨0x6000, 0x11, 2, 4, 16384, 1, 1, 0, 19, 65535, 0, 65535, "MEMBER_RACK"⟩,
  ⟨0x6000, 0x12, 2, 0, 16384, 1, 1, 0, 0, 0, 0, 65535, "MEMBER_ENCL_FOUND"⟩,
  ⟨0x6000, 0x13, 2, 4, 16384, 1, 1, 0, 35, 65535, 0, 65535, "MEMBER_REPLACES"⟩,
  ⟨0x6000, 0x14, 1, 0, 16384, 1, 1, 0, 0, 0, 0, 255, "MEMBER_FLEET"⟩,
  ⟨0x6000, 0x15, 1, 4, 16384, 1, 1, 0, 35, 0, 1, 1, "MEMBER_RELEASE"⟩,
  ⟨0xA000, 0x01, 3, 0, 4096, 1, 1, 0, 0, 0, 0, 4294967295, "VOL_DEFERRED_COUNT"⟩,
  ⟨0xA000, 0x02, 4, 0, 4096, 1, 1, 0, 0, 0, 0, 18446744073709551615, "VOL_DEFERRED_NEXT"⟩,
  ⟨0xA000, 0x03, 3, 2, 4096, 1, 1, 0, 32, 0, 0, 4294967295, "VOL_DEFERRED_ACK"⟩,
  ⟨0xA000, 0x04, 4, 0, 4096, 1, 1, 10, 0, 0, 0, 18446744073709551615, "VOL_LOST_BLOCKS"⟩,
  ⟨0xA000, 0x05, 9, 4, 4096, 1, 1, 0, 27, 0, 104, 104, "VOL_KEY_SUPPLIED"⟩,
  ⟨0xA000, 0x06, 3, 0, 4096, 1, 1, 0, 0, 0, 0, 4294967295, "VOL_KEY_GEN"⟩,
  ⟨0xA000, 0x07, 1, 4, 4096, 1, 1, 0, 19, 255, 0, 255, "VOL_POOL"⟩,
  ⟨0xA000, 0x08, 4, 4, 4096, 1, 1, 10, 19, 0, 1, 281474976710656, "VOL_SIZE_BLOCKS"⟩,
  ⟨0xA000, 0x09, 1, 4, 4096, 1, 1, 0, 19, 0, 0, 2, "VOL_HOST_PI"⟩,
  ⟨0xA000, 0x0A, 1, 4, 4096, 1, 1, 0, 35, 0, 1, 3, "VOL_COMMIT"⟩,
  ⟨0xA000, 0x0B, 3, 0, 4096, 1, 1, 0, 0, 0, 0, 4294967295, "VOL_COMMIT_RESULT"⟩,
  ⟨0xA000, 0x0C, 4, 0, 4096, 1, 1, 0, 0, 0, 0, 18446744073709551615, "VOL_BASE"⟩]

def objTable13 : List ObjRow := [
  ⟨0xA000, 0x0D, 1, 0, 4096, 1, 1, 0, 0, 0, 0, 255, "VOL_LIFE"⟩,
  ⟨0xB000, 0x01, 1, 0, 4096, 1, 1, 0, 0, 0, 0, 255, "SLOT_STATE"⟩,
  ⟨0xB000, 0x02, 3, 0, 4096, 1, 1, 0, 0, 0, 0, 4294967295, "SLOT_KEY_GEN"⟩,
  ⟨0xB000, 0x03, 7, 0, 4096, 1, 1, 0, 0, 0, 0, 18446744073709551615, "SLOT_LOADED_AT"⟩,
  ⟨0xB000, 0x04, 3, 0, 4096, 1, 1, 0, 0, 0, 0, 4294967295, "SLOT_AUTH_FAILS"⟩,
  ⟨0xB000, 0x05, 1, 4, 4096, 1, 1, 0, 35, 0, 1, 1, "SLOT_RELOAD"⟩]

/-- Every row, in ascending (INDEX, SUBINDEX). -/
def objTable : List ObjRow :=
  objTable0 ++ objTable1 ++ objTable2 ++ objTable3 ++ objTable4 ++ objTable5 ++ objTable6 ++ objTable7 ++ objTable8 ++ objTable9 ++ objTable10 ++ objTable11 ++ objTable12 ++ objTable13

def ObjRow.covers (r : ObjRow) (index sub : Nat) : Bool :=
  decide (r.sub ≤ sub) && decide (sub < r.sub + r.subCount) && decide (r.index ≤ index) &&
    (if r.stride = 0 then decide (index = r.index)
     else decide ((index - r.index) % r.stride = 0) && decide ((index - r.index) / r.stride < r.count))

/-- The row that describes an object. -/
def objRow? (index sub : Nat) : Option ObjRow := objTable.find? (fun r => r.covers index sub)

/-- Instance number of an object within its row. -/
def ObjRow.inst (r : ObjRow) (index : Nat) : Nat := if r.stride = 0 then 0 else (index - r.index) / r.stride

def ObjRow.custodian (r : ObjRow) : Bool := r.flags.testBit 0
def ObjRow.readsEmpty (r : ObjRow) : Bool := r.flags.testBit 3
def ObjRow.staged (r : ObjRow) : Bool := r.flags.testBit 4
def ObjRow.action (r : ObjRow) : Bool := r.flags.testBit 5

/-- The highest subindex an index holds (R349), none when the index does not exist. -/
def highestSub (index : Nat) : Option Nat :=
  let subs := (objTable.filter (fun r => r.covers index r.sub)).map (fun r => r.sub + r.subCount - 1)
  if subs = [] then none else some (subs.foldl max 0)

/-- Bytes of a value of a fixed-length type (Table 15.1). -/
def typeLen (ty : Nat) : Option Nat :=
  match ty with
  | 0 => some 1 | 1 => some 1 | 2 => some 2 | 3 => some 4 | 4 => some 8 | 5 => some 4 | 6 => some 4 | 7 => some 8
  | _ => none

/-- The value a byte string encodes under a numeric type: two's complement for I32 and Q16.16. -/
def decodeNum (ty : Nat) (b : Bytes) : Int :=
  let n := ofLe b
  if (ty = 5 ∨ ty = 6) ∧ 2 ^ 31 ≤ n then (n : Int) - 2 ^ 32 else n

/-- The numbers a Meaning allows beside its range: steps, lists and powers. -/
def extraRange (name : String) (v : Int) : Bool :=
  match name with
  | "PROT_SIZE_MIB" => decide (v = 0 ∨ 1088 ≤ v)
  | "TIDE_US" => decide (v % 10 = 0)
  | "HEDGE_MS" => decide (v = 0 ∨ 50 ≤ v)
  | "LANE_MODE" | "LANE_RATE_MAX" => decide (v ≤ 4)
  | "FLEET_KIND" => decide (v ≤ 3)
  | "FLEET_SCOPE" => decide (v < 64 ∨ v = 65535)
  | "LANE_NVME_WIDTH" => decide (v = 1 ∨ v = 2 ∨ v = 4)
  | "PEER_AREA_MIB" => decide (v % 2 = 0)
  | "PEER_BAR_GIB" => [1, 2, 4, 8, 16, 32, 64].contains v
  | "CAN_NOM_KBPS" => [125, 250, 500, 1000].contains v
  | "CAN_DATA_KBPS" => [1000, 2000, 4000, 5000].contains v
  | "VOL_POOL" => decide (v < 64 ∨ v = 255)
  | _ => true

end Sys2Proof
end

