-- ==== Sys2Proof/Machine/Ops.lean ====
section
/-! DEFINITION. The named operations over the state that the meanings share: access to its parts, dictionary values,
the outward trace, the Logbook engine (R378–R381), event and MSI-X signalling (R245–R248), chain completion (R267,
R280), faults of the part (R18), islands and bridges (R14–R16). -/

namespace Sys2Proof.Machine

/-- An empty queue: the device timebase runs on by one microsecond (log entry 1). -/
def idle (s : State) : State := { s with part := { s.part with timeUs := s.part.timeUs + 1 } }

/-- How a command ends. -/
abbrev Answer := Host.Outcome State Fault Refusal

/-- An effect on the part alone: the waiting commands and the peer buffer area stay. -/
def State.onPart (f : Part → Part) (s : State) : State := { s with part := f s.part }

/-- What the part sends outside. -/
def emit (o : Output) (s : Part) : Part := { s with out := s.out ++ [o] }

/-! ### Parts of the state -/

def Part.fn (s : Part) : Fn → FnSt
  | .f0 => s.fn0
  | .f1 => s.fn1

def Part.setFn (s : Part) (f : Fn) (x : FnSt) : Part :=
  match f with
  | .f0 => { s with fn0 := x }
  | .f1 => { s with fn1 := x }

def Part.modFn (s : Part) (f : Fn) (g : FnSt → FnSt) : Part := s.setFn f (g (s.fn f))

def Fn.both : List Fn := [.f0, .f1]

def updBy {α : Type} (p : α → Bool) (g : α → α) (l : List α) : List α := l.map (fun x => if p x then g x else x)

def Part.pool? (s : Part) (p : Nat) : Option PoolSt := s.pools.find? (fun x => x.id == p)
def Part.modPool (s : Part) (p : Nat) (g : PoolSt → PoolSt) : Part :=
  { s with pools := updBy (fun x => x.id == p) g s.pools }

def Part.member? (s : Part) (k : Nat) : Option MemberSt := s.members.find? (fun x => x.id == k)
def Part.modMember (s : Part) (k : Nat) (g : MemberSt → MemberSt) : Part :=
  { s with members := updBy (fun x => x.id == k) g s.members }

def VolSt.fresh (v : Nat) : VolSt where
  id := v
  life := 0
  commitResult := 0
  deferred := []
  deferredCount := 0
  flag0 := false
  flag1 := false
  genTide := 0
  genSeq := 0

def Part.vol (s : Part) (v : Nat) : VolSt := (s.vols.find? (fun x => x.id == v)).getD (VolSt.fresh v)
def Part.setVol (s : Part) (x : VolSt) : Part :=
  { s with vols := if s.vols.any (fun y => y.id == x.id) then updBy (fun y => y.id == x.id) (fun _ => x) s.vols
                   else s.vols ++ [x] }
def Part.modVol (s : Part) (v : Nat) (g : VolSt → VolSt) : Part := s.setVol (g (s.vol v))

def Part.chain (s : Part) (c : Nat) : ChainSt := (s.chains.find? (fun x => x.id == c)).getD (ChainSt.reset c)
def Part.setChain (s : Part) (x : ChainSt) : Part :=
  { s with chains := if s.chains.any (fun y => y.id == x.id) then updBy (fun y => y.id == x.id) (fun _ => x) s.chains
                     else s.chains ++ [x] }
def Part.modChain (s : Part) (c : Nat) (g : ChainSt → ChainSt) : Part := s.setChain (g (s.chain c))

/-- Owner of a chain under CHAIN_SPLIT (R234). -/
def Part.chainFn (s : Part) (c : Nat) : Fn := if c < s.chainSplit then .f0 else .f1

def Part.island (s : Part) (i : Island) : IslandSt :=
  (s.islands.find? (fun x => decide (x.island = i))).getD (IslandSt.reset i)
def Part.setIsland (s : Part) (x : IslandSt) : Part :=
  { s with islands := if s.islands.any (fun y => decide (y.island = x.island))
                      then updBy (fun y => decide (y.island = x.island)) (fun _ => x) s.islands else s.islands ++ [x] }
def Part.modIsland (s : Part) (i : Island) (g : IslandSt → IslandSt) : Part := s.setIsland (g (s.island i))
def Part.ready (s : Part) (i : Island) : Bool := (s.island i).ready

def Part.modMan (s : Part) (g : ManifestSt → ManifestSt) : Part := { s with man := g s.man }
def Part.modSched (s : Part) (g : SchedSt → SchedSt) : Part := { s with sched := g s.sched }
def Part.modTow (s : Part) (g : TowSt → TowSt) : Part := { s with tow := g s.tow }
def Part.modDump (s : Part) (g : DumpSt → DumpSt) : Part := { s with dump := g s.dump }
def Part.modPair (s : Part) (g : PairSt → PairSt) : Part := { s with pair := g s.pair }
def Part.modToll (s : Part) (g : TollSt → TollSt) : Part := { s with toll := g s.toll }
def Part.modDict (s : Part) (g : DictSt → DictSt) : Part := { s with dict := g s.dict }
def Part.modLog (s : Part) (g : LogSt → LogSt) : Part := { s with log := g s.log }
def Part.modFw (s : Part) (g : FwSt → FwSt) : Part := { s with fw := g s.fw }
def Part.modCal (s : Part) (g : CalSt → CalSt) : Part := { s with cal := g s.cal }
def Part.modFab (s : Part) (g : FabricSt → FabricSt) : Part := { s with fabric := g s.fabric }
def Part.modFleet (s : Part) (g : FleetSt → FleetSt) : Part := { s with fleet := g s.fleet }

/-- Windows of the rules, in microseconds. -/
def sec (n : Nat) : Nat := n * 1000000
def hour (n : Nat) : Nat := sec (3600 * n)

/-! ### Values of settable objects -/

/-- A numeric object: the value last written, else its default (two's complement for signed types). -/
def Part.objInt (s : Part) (index sub : Nat) : Int :=
  match alGet (index, sub) s.dict.objs, objRow? index sub with
  | some (.num n), some r => decodeNum r.ty (leBytes 8 n)
  | some (.num n), none => n
  | _, some r => r.dflt
  | _, none => 0

def Part.objNum (s : Part) (index sub : Nat) : Nat := (s.objInt index sub).toNat

def Part.objBlob (s : Part) (index sub : Nat) : Bytes :=
  match alGet (index, sub) s.dict.objs with
  | some (.blob b) => b
  | _ => []

def Part.setObjNum (s : Part) (index sub n : Nat) : Part :=
  s.modDict (fun d => { d with objs := alSet (index, sub) (.num n) d.objs })

def Part.setObjBlob (s : Part) (index sub : Nat) (b : Bytes) : Part :=
  s.modDict (fun d => { d with objs := alSet (index, sub) (.blob b) d.objs })

/-- Index of pool `p`'s objects at block offset `o` (R371). -/
def poolIdx (p o : Nat) : Nat := 0x3000 + 0x40 * p + o

/-! ### Random bytes -/

/-- `n` bytes of the DRBG (R225), free values. -/
def Part.draw (s : Part) (n : Nat) : Bytes × Part :=
  ((List.range n).map (fun i => Config.drbgByte (s.toll.drbgPos + i)),
    s.modToll (fun t => { t with drbgPos := t.drbgPos + n }))

/-- The device UUID of the part. -/
def deviceUuid : Bytes := (List.range 16).map Config.deviceUuidByte

/-! ### Logbook engine -/

/-- Severity of a code (Table 16.3), none for NOTED codes and unknown ones. -/
def sevOf (code : Nat) : Option Nat :=
  if 1 ≤ code ∧ code ≤ 0xFE then some 2
  else alGet code [(0x0101, 5), (0x0102, 5), (0x0401, 5), (0x0501, 8), (0x0502, 8), (0x0601, 5), (0x0602, 8), (0x0701, 9),
    (0x0702, 12), (0x0801, 2), (0x0802, 15), (0x0803, 12), (0x0804, 12), (0x0901, 12), (0x0902, 12), (0x0903, 9),
    (0x0904, 12), (0x0A01, 12), (0x0A02, 9), (0x0B01, 8), (0x0B02, 12), (0x0B03, 12), (0x0B04, 9), (0x0C01, 5),
    (0x0C02, 8), (0x0E01, 8), (0x0E02, 5), (0x0E03, 8), (0x0F01, 8), (0x0F02, 5), (0x0F03, 15), (0x1001, 5),
    (0x1101, 9), (0x1102, 12), (0x1201, 5), (0x1202, 9), (0x1203, 2), (0x1301, 9), (0x1302, 15), (0x1303, 5),
    (0x1304, 9), (0x1401, 12), (0x1402, 9), (0x1403, 5), (0x1404, 8), (0x1405, 15)]

/-- Entries the acceptance queue and the overflow table hold (R379). -/
def logQueueMax : Nat := 4096
def logOverflowMax : Nat := 256

def LogRec.sameKey (r : LogRec) (e : LogEv) : Bool :=
  r.code == e.code && r.subsystem == e.subsystem && r.inst == e.inst

/-- A repeat of a record (R381): one more occurrence at `t`. -/
def LogRec.again (r : LogRec) (t : Nat) : LogRec :=
  { r with rep := min 65535 (r.rep + 1), delta := (t - r.time) / 1000 }

/-- The record is still held: queued, permanent or not overwritten in the circulating region. -/
def LogSt.holds (g : LogSt) (r : LogRec) : Bool :=
  g.queue.any (fun x => x.seq == r.seq) || g.perm.any (fun x => x.seq == r.seq && x.time == r.time) ||
    g.circ.any (fun x => x.2.seq == r.seq) || g.overflow.any (fun x => x.seq == r.seq)

/-- The record an event repeats (R381). -/
def LogSt.repeated (g : LogSt) (e : LogEv) : Option LogRec :=
  g.recent.find? (fun r => r.sameKey e && r.detail == e.detail && decide (e.time < r.windowEnd) && g.holds r)

/-- A record replaced by its repeat wherever it is held. -/
def LogSt.touch (g : LogSt) (r r' : LogRec) : LogSt :=
  let u (x : LogRec) := if x.seq = r.seq then r' else x
  { g with queue := g.queue.map u, perm := g.perm.map u, circ := g.circ.map (fun x => (x.1, u x.2))
           overflow := g.overflow.map u
           recent := r' :: g.recent.filter (fun x => x.seq != r.seq) }

/-- The newest record of a pair enters the memory of 1,024 pairs (R381). -/
def LogSt.remember (g : LogSt) (r : LogRec) : LogSt :=
  { g with recent := (r :: g.recent.filter (fun x =>
      !(x.code == r.code && x.subsystem == r.subsystem && x.inst == r.inst))).take 1024 }

/-- The next sequence number is used; the mark moves 1,024 up before a number at or above it is used (R378). -/
def LogSt.number (g : LogSt) : LogSt :=
  { g with seqNext := g.seqNext + 1, mark := if g.mark ≤ g.seqNext then g.mark + 1024 else g.mark }

/-- The record of an event, its repeat window `w` µs long (R381). -/
def LogRec.ofEv (e : LogEv) (seq sev w : Nat) (late : Bool) : LogRec where
  seq := seq
  sev := sev
  late := late
  permanent := false
  time := e.time
  code := e.code
  subsystem := e.subsystem
  inst := e.inst
  rep := 1
  delta := 0
  detail := e.detail.take 32
  windowEnd := e.time + w

/-- Index of the newest queued entry below severity 8. -/
def LogSt.newestLow (g : LogSt) : Option Nat :=
  (List.range g.queue.length).reverse.find? (fun i => decide ((g.queue.getD i LogRec.factory).sev < 8))

/-- R378, R379, R381: the engine accepts an event, as a repeat, as a record, in the overflow table, or drops it. The
second component is the new record, when one is made. -/
def LogSt.accept (g : LogSt) (w : Nat) (late : Bool) (e : LogEv) : LogSt × Option LogRec :=
  let sev := (sevOf e.code).getD e.sev
  match g.repeated e with
  | some r => (g.touch r (r.again e.time), none)
  | none =>
    let r := LogRec.ofEv e g.seqNext sev w late
    let g1 := g.number
    if g.queue.length < logQueueMax then (({ g1 with queue := g.queue ++ [r] }).remember r, some r)
    else if sev < 8 then ({ g1 with dropped := g.dropped + 1, sinceLow := g.sinceLow + 1 }, none)
    else
      match g.newestLow with
      | some i =>
        (({ g1 with queue := g.queue.eraseIdx i ++ [r], dropped := g.dropped + 1, sinceLow := g.sinceLow + 1 }).remember r,
          some r)
      | none =>
        match g.overflow.find? (fun x => x.sameKey e) with
        | some x => ({ g with overflow := g.overflow.map (fun y => if y.seq = x.seq then y.again e.time else y) }, none)
        | none =>
          if g.overflow.length < logOverflowMax then (({ g1 with overflow := g.overflow ++ [r] }).remember r, some r)
          else ({ g1 with droppedHigh := g.droppedHigh + 1, sinceHigh := g.sinceHigh + 1 }, none)

/-- The 16 bytes of a notification (R363). -/
def notifyBytes (r : LogRec) : Bytes :=
  leBytes 6 r.seq ++ leBytes 2 r.code ++ leBytes 2 (r.subsystem * 2048 + r.inst) ++ leBytes 1 r.sev ++
    List.replicate 5 0

/-- Notifications on each enabled CAN channel, at most 100 records a second (R363). -/
def notify (r : LogRec) (s : Part) : Part :=
  let recent := s.dict.notified.filter (fun t => decide (s.timeUs < t + sec 1))
  if s.objNum 0x1100 5 ≤ r.sev ∧ recent.length < 100 then
    let s := s.modDict (fun d => { d with notified := recent ++ [s.timeUs] })
    let en := s.objNum 0x1100 4
    let s := if en.testBit 0 then emit (.notify (notifyBytes r)) s else s
    if en.testBit 1 then emit (.notify (notifyBytes r)) s else s
  else s

/-- An event at the Logbook engine in island G. -/
def logAccept (late : Bool) (e : LogEv) (s : Part) : Part :=
  let (g, r) := s.log.accept (sec (s.objNum 0x5000 4)) late e
  let s := { s with log := g }
  match r with
  | some r => notify r s
  | none => s

/-- The Towpath holds a decision of its own: up to 64, then it counts (R380). -/
def holdLog (e : LogEv) (s : Part) : Part :=
  if s.tow.heldLog.length < 64 then s.modTow (fun t => { t with heldLog := t.heldLog ++ [e] })
  else s.modTow (fun t => { t with heldOver := t.heldOver + 1 })

/-- A subsystem reports an event: accepted by the engine while island G is ready; while G sleeps the Towpath holds up to
64 of its own (R380), and nothing else reaches it (R14). -/
def logEvent (e : LogEv) (s : Part) : Part :=
  if s.ready .g then logAccept false e s
  else if e.subsystem = 19 then holdLog e s
  else s

/-- A record of Table 16.3, time-stamped now. -/
def log (code inst : Nat) (detail : Bytes) (s : Part) : Part :=
  logEvent { code := code, subsystem := code / 256, inst := inst, sev := (sevOf code).getD 0, detail := detail,
             time := s.timeUs } s

/-- A NOTED event (R383) of subsystem `ss` for item `item` of rule `rule`; its severity is free (log entry 9). -/
def notedEv (ss rule item : Nat) (bytes : Bytes) (t : Nat) : LogEv :=
  { code := ss * 256 + 255, subsystem := ss, inst := 0, sev := Config.notedSeverity rule item % 16
    detail := leBytes 2 rule ++ leBytes 1 item ++ bytes.take 29, time := t }

def noted (ss rule item : Nat) (bytes : Bytes) (s : Part) : Part := logEvent (notedEv ss rule item bytes s.timeUs) s

/-! ### Event causes and MSI-X -/

/-- A message due on a vector (R246): sent, or its pending bit set. -/
def sendVector (f : Fn) (v : Nat) (s : Part) : Part :=
  let x := s.fn f
  if x.msixOn ∧ ¬ x.fnMask ∧ x.unmasked.contains v ∧ x.bme then emit (.msix f v) s
  else if x.pba.contains v then s
  else s.setFn f { x with pba := x.pba ++ [v] }

/-- An EVENT_CAUSE event (R245): a rising bit signals vector 0 when enabled, a bit already 1 is marked renewed. -/
def raiseEvent (bit : Nat) (f : Fn) (s : Part) : Part :=
  let x := s.fn f
  if x.cause.getLsbD bit then s.setFn f { x with renewed := x.renewed ||| BitVec.twoPow 32 bit }
  else
    let s := s.setFn f { x with cause := x.cause ||| BitVec.twoPow 32 bit }
    if x.enable.getLsbD bit then sendVector f 0 s else s

def raiseBoth (bit : Nat) (s : Part) : Part := raiseEvent bit .f1 (raiseEvent bit .f0 s)

/-- A change of READY, FROZEN, RESETTING or FAULTY raises DEVICE_STATE on both functions. -/
def setStatus (g : SchedSt → SchedSt) (s : Part) : Part :=
  let a := s.sched
  let b := g a
  let s := { s with sched := b }
  if a.ready ≠ b.ready ∨ a.frozen ≠ b.frozen ∨ a.resetting ≠ b.resetting ∨ a.faulty ≠ b.faulty then raiseBoth 3 s else s

/-- Moderation entry of a vector (Table 10.10): COUNT_MAX with 0 acting as 1, TIME_US capped at 1,000. -/
def FnSt.moderation (x : FnSt) (v : Nat) : Nat × Nat :=
  let e := ((alGet v x.moder).getD 1).toNat
  let c := e % 256
  (if c = 0 then 1 else c, min 1000 (bitsOf e 17 8))

/-- A completion on a vector (R248): at once with TIME_US 0, else when COUNT_MAX have accumulated. -/
def completionMessage (f : Fn) (v : Nat) (s : Part) : Part :=
  let x := s.fn f
  let (cmax, us) := x.moderation v
  if us = 0 then sendVector f v s
  else
    let n := (alGet v x.modCount).getD 0 + 1
    if cmax ≤ n then sendVector f v (s.setFn f { x with modCount := alDel v x.modCount })
    else s.setFn f { x with modCount := alSet v n x.modCount }

/-! ### Chains -/

/-- Commands accepted and not yet completed or abandoned (INFLIGHT). -/
def ChainSt.inflight (c : ChainSt) : Nat := (c.cmds.filter (fun x => x.phase != .done && x.phase != .abandoned)).length

/-- FINAL of the chain status entry (Table 11.6). -/
def ChainSt.final (c : ChainSt) : Bool :=
  c.inflight == 0 && (c.st == .disabled || c.st == .paused || c.st == .halted)

/-- Serial comparison of R264: `a` is ahead of `b`. -/
def ahead (a b : BitVec 32) : Bool := decide (0 < (a - b).toNat) && decide ((a - b).toNat < 2 ^ 31)

/-- DSEQ advances over the leading completed commands (R280), which leave the list. -/
def ChainSt.advance (c : ChainSt) : ChainSt :=
  let d := c.cmds.takeWhile (fun x => x.phase == .done)
  match d.getLast? with
  | some x => { c with dseq := x.hseq, cmds := c.cmds.drop d.length }
  | none => c

/-- Fields of a descriptor (Table 11.1). -/
def descField (d : BitVec 512) (hi lo : Nat) : Nat := bitsOf d.toNat hi lo

def Part.cmd? (s : Part) (c : Nat) (h : BitVec 32) : Option Cmd := (s.chain c).cmds.find? (fun x => x.hseq == h)

def Part.modCmd (s : Part) (c : Nat) (h : BitVec 32) (g : Cmd → Cmd) : Part :=
  s.modChain c (fun x => { x with cmds := updBy (fun y => y.hseq == h) g x.cmds })

/-- MSI-X vector of a chain (Table 11.5). -/
def ChainSt.vector (c : ChainSt) : Nat := bitsOf c.regCfg.toNat 15 5

/-- The pending deferred flag of a volume for a function (R150), and the state with it taken. -/
def takeDeferred (f : Fn) (v : Nat) (s : Part) : Bool × Part :=
  if s.vols.any (fun x => x.id == v) then
    match f with
    | .f0 => ((s.vol v).flag0, s.modVol v (fun x => { x with flag0 := false }))
    | .f1 => ((s.vol v).flag1, s.modVol v (fun x => { x with flag1 := false }))
  else (false, s)

/-- The volumes a command addresses (R150): its own, a COPY's destination too; TX_COMMIT and TX_ABORT address none (R266). -/
def commandVols (d : BitVec 512) : List Nat :=
  match descField d 23 16 with
  | 0x06 => [descField d 187 176, descField d 123 112]
  | 0x11 | 0x12 => []
  | _ => [descField d 187 176]

/-- The pending deferred flag of any of the volumes, taken from each. -/
def takeDeferredOf (f : Fn) (vs : List Nat) (s : Part) : Bool × Part :=
  vs.foldl (fun (acc : Bool × Part) v =>
    let r := takeDeferred f v acc.2
    (acc.1 || r.1, r.2)) (false, s)

/-- The command ends with `status` and `info`: DSEQ moves (R280), the completion is written back unless Bus Master
Enable is clear or was lost (R252); no completion is written back from the start of a dump on (R100), and the chain's vector as it stood at the fetch reports it (R246, R248, R286). -/
def complete (c : Nat) (h : BitVec 32) (status : Nat) (info : BitVec 64) (s : Part) : Part :=
  match s.cmd? c h with
  | none => s
  | some cmd =>
    if cmd.phase = .done || s.dump.state = 3 then s
    else
      let f := s.chainFn c
      let s := s.modCmd c h (fun x => { x with phase := .done })
      let s := s.modChain c ChainSt.advance
      if (s.fn f).bme && (s.chain c).halt != 0x80 then
        let (dfl, s) := takeDeferredOf f (commandVols cmd.desc) s
        let s := emit (.writeBack f c h status dfl (s.chain c).dseq info) s
        completionMessage f cmd.vector s
      else s

/-- INFO naming a block of a volume (Table 11.1). -/
def infoOf (vol lba : Nat) : BitVec 64 := BitVec.ofNat 64 (lba % 2 ^ 48 + (vol % 4096) * 2 ^ 48)
def infoCopy (vol lba copy : Nat) : BitVec 64 := infoOf vol lba ||| BitVec.ofNat 64 ((copy % 8) * 2 ^ 60)
def infoDest (i : BitVec 64) : BitVec 64 := i ||| BitVec.twoPow 64 63

def ChainState.code : ChainState → Nat
  | .disabled => 0
  | .running => 1
  | .parked => 2
  | .paused => 3
  | .draining => 4
  | .halted => 5

/-- A chain halts (R289): HALT_STATUS, EVENT_CAUSE.CHAIN_HALT and the Logbook record. -/
def haltChain (c code : Nat) (s : Part) : Part :=
  let f := s.chainFn c
  let s := s.modChain c (fun x => { x with st := .halted, halt := code, refetchDue := false, fetchDb := none })
  let x := s.chain c
  let s := raiseEvent 2 f s
  log 0x0401 f.num (leBytes 4 c ++ leBytes 1 code ++ leBytes 4 x.dseq.toNat) s

/-- New writes to a pool are held by a faulty part that is unpaired (R18): by a coding engine out of service for parity
pools only (R41). -/
def Part.writesHalted (s : Part) (mirror : Bool) : Bool :=
  s.sched.faultSubs.any (fun x => x != 7 || !mirror)

/-- Reads are not admitted by a part faulty for a cause that stops them: neither the coding engine (R41) nor Tollgate,
whose reads complete with INTEGRITY_FAULT (R230). -/
def Part.readsHalted (s : Part) : Bool := s.sched.faultSubs.any (fun x => x != 7 && x != 9)

/-- Chains of a function that are not DISABLED and not at their reset values. -/
def Part.liveChains (s : Part) (f : Fn) : List Nat :=
  ((s.chains.filter (fun x => s.chainFn x.id == f && x.st != .disabled)).map (·.id))

/-! ### Pools, charters, members -/

/-- The generation a pool works by. -/
def Part.charter? (s : Part) (p : Nat) : Option Charter := (s.pool? p).map (·.charter)

/-- Pool and volume entry of a volume. -/
def Part.volume? (s : Part) (v : Nat) : Option (PoolSt × CVol) :=
  s.pools.findSome? (fun p => if p.life = 0 then none
    else (p.charter.vols.find? (fun x => x.id == v)).map (fun x => (p, x)))

/-- Member at an ordinal of a pool. -/
def Charter.memberAt (c : Charter) (o : Nat) : Option CMember := c.members[o]?
def Charter.idAt (c : Charter) (o : Nat) : Nat := ((c.members[o]?).map (·.id)).getD 16384
def Charter.ordinalOf (c : Charter) (k : Nat) : Option Nat := c.members.findIdx? (fun m => m.id == k)

/-- The pool a member belongs to, with its ordinal. -/
def Part.poolOfMember (s : Part) (k : Nat) : Option (Nat × Nat) :=
  s.pools.findSome? (fun p => if p.life = 0 then none else (p.charter.ordinalOf k).map (fun o => (p.id, o)))

/-- A change of the pool's recovery model is under way (R124): written, committed, or agreed with the twin. -/
def PoolSt.recoveryChanging (p : PoolSt) : Bool :=
  p.int.asStrict || p.coming.any (fun c => c.recovery != p.charter.recovery) ||
    p.change.any (fun c => !c.restoring && c.charter.recovery != p.charter.recovery)

/-- The pool behaves as Progress (R124): it is one, and on a paired pool no change of the model is under way. -/
def PoolSt.progress (p : PoolSt) : Bool := p.charter.recovery == 1 && !(p.charter.paired && p.recoveryChanging)

/-- The stripe of an entry cannot be made consistent for now (R121, R122). -/
def MEntry.stuck (e : MEntry) : Bool := e.state == .stalled || e.stalledAt.isSome

/-- Pools this unit owns: unpaired pools and those with POOL_OWNER 0 (R297). -/
def PoolSt.owned (p : PoolSt) : Bool := p.life != 0 && (!p.charter.paired || p.pair.owner == 0)

/-- Member command timeout T in µs. -/
def Part.timeoutUs (s : Part) : Nat := sec (s.objNum 0x2107 1)

/-! ### Pair-wide changes (R314) -/

/-- The shadow of a pool of the twin goes, with all that came with it. -/
def PoolPairSt.dropShadow (x : PoolPairSt) : PoolPairSt :=
  { x with shadow := [], shadowWriting := [], shadowRebuilt := [], announcedExt := [], coverage := 0 }

/-- A paired pool behaves as Strict while a change of its recovery model is agreed and not yet applied (R124). -/
def strictMeanwhile (p : Nat) (on : Bool) (s : Part) : Part := s.modPool p (fun x => { x with int := { x.int with asStrict := on } })

/-- The proposal of a pair-wide change goes to the twin (R314 step 1). -/
def sendProposal (ch : PairChange) (tide : Nat) (s : Part) : Part :=
  let s := match ch with
    | .recovery p _ => strictMeanwhile p.val true s
    | _ => s
  emit (.hawserChange ch tide false)
    (s.modPair (fun x => { x with proposal := some (ch, tide, false, s.timeUs), changeState := 1 }))

/-- A change waits behind the one in progress; a charter generation keeps its CHANGE_TIDE (R45). -/
def queueProposal (ch : PairChange) (fixed : Option Nat) (s : Part) : Part :=
  s.modPair (fun x => { x with toPropose := x.toPropose ++ [(ch, fixed)] })

/-- A pair-wide change for a given tide is proposed (R314): at once, or after the one in progress. -/
def proposeAt (ch : PairChange) (tide : Nat) (s : Part) : Part :=
  match s.pair.proposal with
  | some _ => queueProposal ch (some tide) s
  | none => sendProposal ch tide s

/-- PAIR_CHANGE_LEAD_TIDES. -/
def Part.leadTides (s : Part) : Nat := s.objNum 0x2500 0x0B

/-- A pair-wide change is proposed PAIR_CHANGE_LEAD_TIDES ahead (R314), once none is in progress. -/
def propose (ch : PairChange) (s : Part) : Part :=
  match s.pair.proposal with
  | some _ => queueProposal ch none s
  | none => sendProposal ch (s.sched.tideNow + s.leadTides) s

/-- The next waiting change is proposed once none is in progress. -/
def proposeNext (s : Part) : Part :=
  match s.pair.proposal, s.pair.toPropose with
  | none, x :: rest =>
    sendProposal x.1 (x.2.getD (s.sched.tideNow + s.leadTides)) (s.modPair (fun y => { y with toPropose := rest }))
  | _, _ => s

/-! ### IDLE (R320) -/

/-- Work arrives in IDLE: the state is ACTIVE again. -/
def active (s : Part) : Part := s.modTow (fun t => { t with power := if t.power = 1 then 0 else t.power })

/-! ### Faulty part -/

/-- The part becomes faulty (R18): FAULTY rises, both ports report an Uncorrectable Internal Error
(R262), the Logbook records the subsystem. A paired part starts the hand-over of
its paired pools at once (R310), an unpaired one halts admission as `cause` asks (`Part.writesHalted`). -/
def faultyBy (cause subsystem : Nat) (s : Part) : Part :=
  if s.sched.faulty then
    if s.sched.faultSubs.contains cause then s
    else s.modSched (fun x => { x with faultSubs := x.faultSubs ++ [cause] })
  else
    let s := setStatus (fun x => { x with faulty := true, faultSubs := [cause] }) s
    let s := log 0x1405 0 (leBytes 1 subsystem) (emit (.aer .f1 2) (emit (.aer .f0 2) s))
    let mine := s.pools.filter (fun p => p.owned && p.charter.paired && p.pair.state == 2)
    if mine.isEmpty then s
    else mine.foldl (fun st p => propose (.handover (Fin.ofNat 64 p.id) true) st)
      (s.modPair (fun x => { x with faultyAt := some s.timeUs }))

/-- The part becomes faulty by its own subsystem. -/
def partFaulty (subsystem : Nat) (s : Part) : Part := faultyBy subsystem subsystem s

/-- Cause of a part that is faulty by its bridges (R18): no subsystem number, all new admission halts. -/
def bridgeCause : Nat := 0

/-! ### Islands -/

/-- An island that rises: ready, its bridges open, and a notice to every island it turned away since the close (R16). -/
def islandUp (i : Island) (s : Part) : Part :=
  let waiting := (s.island i).refused
  let s := s.modIsland i (fun x => { x with powered := true, ready := true, waking := false, refused := [] })
  waiting.foldl (fun st w => emit (.islandReady w i) st) s

/-- An island is ordered up when its condition of Table 1.2 for being down ends (R11). -/
def orderUp (i : Island) (s : Part) : Part :=
  if (s.island i).powered then s else s.modIsland i (fun x => { x with powered := true, waking := true })

/-- An island whose wake lies inside the bound of the operation that needs it (R17): ready when the operation uses it. -/
def useIsland (i : Island) (s : Part) : Part := if s.ready i then s else islandUp i s

def islandDown (i : Island) (s : Part) : Part :=
  s.modIsland i (fun x => { x with powered := false, ready := false, waking := false })

end Sys2Proof.Machine
end

