-- ==== Sys2Proof/Machine/KeyOps.lean ====
section
/-! DEFINITION. Tollgate's shared operations (09): self-tests and retirement, KEK registers and key slots, data-key
material, the transform of one block (R222), host PI (R132) and the block's metadata (R125). The wrap of a KEK blob under
the root key is not spelled out: the entry holds the KEK (log entry 13). -/

namespace Sys2Proof

def Block.isZero (b : Block) : Bool := b.data.isEmpty && b.md.isEmpty
def Block.mk' (data md : Bytes) : Block := { data := trimZeros data, md := trimZeros md }
def Block.zero : Block := { data := [], md := [] }
def Block.ct (b : Block) : Bytes := padTo 4096 b.data
def Block.meta64 (b : Block) : Bytes := padTo 64 b.md

/-- Write generation of a block's metadata (Table 6.1). -/
def Block.gen (b : Block) : Nat := ofLe ((b.meta64.drop 24).take 8)
def Block.hpi (b : Block) : Bytes := (b.meta64.drop 8).take 16
def Block.tag (b : Block) : Bytes := (b.meta64.drop 32).take 16
def Block.volId (b : Block) : Nat := ofLe ((b.meta64.drop 48).take 2) % 4096

end Sys2Proof

namespace Sys2Proof.Machine

/-! ### Units in service -/

def TollSt.lanes (t : TollSt) : Nat := 24 - (t.retired.filter (fun u => decide (u < 24))).length
def TollSt.ghash (t : TollSt) : Nat := 24 - (t.retired.filter (fun u => decide (24 ≤ u) && decide (u < 48))).length
def TollSt.cores (t : TollSt) : Nat := 2 - (t.retired.filter (fun u => u == 48 || u == 49)).length

/-- No unwrap runs unless both cores are in service (R228). -/
def TollSt.canUnwrap (t : TollSt) : Bool := t.cores == 2

/-- Tollgate is faulty (R230). -/
def TollSt.faulty (t : TollSt) : Bool :=
  t.lanes == 0 || t.ghash == 0 || !t.drbgGood || (t.rootBad && !t.keks.any (·.loaded))

/-- TOLLGATE_STATE (Table 9.7). -/
def Part.tollgateState (s : Part) : Nat :=
  if s.toll.testing then 1
  else if !s.ready .k then 4
  else if s.toll.faulty then 3
  else if s.toll.rootBad || !s.toll.retired.isEmpty then 2
  else 0

/-- A faulty Tollgate makes the part faulty (R18, R230). -/
def tollFaultCheck (s : Part) : Part := if s.toll.faulty then partFaulty 9 s else s

/-- A unit is retired until power-on reset (R227, R230). -/
def retireUnit (u : Nat) (bySelfTest : Bool) (s : Part) : Part :=
  if s.toll.retired.contains u then s
  else
    log 0x0903 u [BitVec.ofNat 8 (b2n bySelfTest)] (s.modToll (fun t => { t with retired := t.retired ++ [u] }))

/-- An inverse-check mismatch (R227): the block runs again, the mismatch counts, two within 24 h retire the unit. -/
def checkMismatch (u : Nat) (s : Part) : Part :=
  let again := s.toll.mismatches.any (fun m => m.1 == u && decide (s.timeUs < m.2 + hour 24))
  let s := s.modToll (fun t => { t with mismatchCount := t.mismatchCount + 1, mismatches := (u, s.timeUs) :: t.mismatches })
  if again then tollFaultCheck (retireUnit u false s) else s

/-- The end of a self-test that found the items of `failed` bad (R230, Table 9.6). -/
def selfTestEnd (failed : BitVec 64) (s : Part) : Part :=
  let s := s.modToll (fun t => { t with lastTest := failed, lastTime := s.timeUs })
  let s := (List.range 51).foldl (fun st u => if failed.getLsbD u then retireUnit u true st else st) s
  let s := if failed.getLsbD 51 then s.modToll (fun t => { t with drbgGood := false }) else s
  let s := s.modToll (fun t => { t with rootBad := t.rootBad || failed.getLsbD 52 })
  tollFaultCheck s

/-- The self-test on command (R230) where no outside reading names a failure (log entry 14). -/
def selfTestClean (s : Part) : Part := selfTestEnd 0 s

/-! ### KEKs and slots -/

def Part.kek? (s : Part) (id : Bytes) : Option KekSt := s.toll.keks.find? (fun k => decide (k.id = id))

/-- KEK blob plaintext (Table 9.3): the KEK, its KEK_ID, AUTOLOAD. -/
def KekSt.plain (k : KekSt) : Bytes := padTo 56 (k.key ++ k.id ++ [BitVec.ofNat 8 (b2n k.autoload)])

/-- The 64-byte blob that non-volatile memory stores for an entry: the plaintext wrapped under the root key (R216 step 3). -/
def KekSt.blob (k : KekSt) : Bytes := kwpWrap Config.rootKey k.plain

/-- The KEK in a register. -/
def Part.kekLoaded? (s : Part) (id : Bytes) : Option Bytes :=
  match s.kek? id with
  | some k => if k.loaded then some k.key else none
  | none => none

/-- The all-zero KEK_ID of an empty entry. -/
def zeroId : Bytes := List.replicate 16 0

/-- The lowest KEK entry not in use. -/
def Part.freeKek (s : Part) : Option Nat :=
  (List.range 64).find? (fun e => !s.toll.keks.any (fun k => k.entry == e))

def Part.slot? (s : Part) (v : Nat) : Option SlotSt := s.toll.slots.find? (fun x => x.id == v)
def Part.rekeySlot? (s : Part) (p : Nat) : Option SlotSt := s.toll.rekey.find? (fun x => x.id == p)

/-- SLOT_STATE: 0 EMPTY, 1 LOADING, 2 LOADED, 3 UNWRAP_FAIL. -/
def Part.slotState (s : Part) (v : Nat) : Nat := ((s.slot? v).map (·.state)).getD 0

def setSlotIn (x : SlotSt) (l : List SlotSt) : List SlotSt := l.filter (fun y => y.id != x.id) ++ [x]
def Part.setSlot (s : Part) (x : SlotSt) : Part := s.modToll (fun t => { t with slots := setSlotIn x t.slots })
def Part.setRekeySlot (s : Part) (x : SlotSt) : Part := s.modToll (fun t => { t with rekey := setSlotIn x t.rekey })

/-- A slot zeroised (R221). -/
def clearSlot (v : Nat) (s : Part) : Part :=
  s.modToll (fun t => { t with slots := t.slots.filter (fun x => x.id != v) })
def clearRekeySlot (p : Nat) (s : Part) : Part :=
  s.modToll (fun t => { t with rekey := t.rekey.filter (fun x => x.id != p) })

def SlotSt.loading (v : Nat) : SlotSt where
  id := v
  state := 1
  keyGen := 0
  material := []
  loadedAt := 0
  authFails := 0
  rerandoms := 0

/-- The two XTS keys of a material differ (R218). -/
def materialGood (m : Bytes) : Bool := m.length == 96 && m.take 32 != (m.drop 32).take 32

/-- Outcome of an unwrap of data-key material under a KEK (R219, R228). -/
def unwrapMaterial (kek wrapped : Bytes) : Option Bytes :=
  match kwpUnwrap kek wrapped with
  | some m => if m.length = 96 then some m else none
  | none => none

/-- A slot whose load is triggered (R219): LOADING when its pool's KEK is in a register and an unwrap can run. -/
def beginSlotLoad (v : Nat) (s : Part) : Part :=
  match s.volume? v with
  | none => s
  | some (p, _) =>
    if s.toll.canUnwrap && (s.kekLoaded? p.charter.kekId).isSome then s.setSlot (SlotSt.loading v) else s

/-- The unwrap of a slot being loaded (R219): LOADED with fresh shares (R225), or UNWRAP_FAIL and the record. -/
def finishSlotLoad (v : Nat) (s : Part) : Part :=
  match s.volume? v with
  | none => clearSlot v s
  | some (p, cv) =>
    match s.kekLoaded? p.charter.kekId with
    | none => clearSlot v s
    | some kek =>
      if s.toll.canUnwrap then
        match unwrapMaterial kek cv.wrapped with
        | some m => s.setSlot { SlotSt.loading v with state := 2, keyGen := cv.keyGen, material := m, loadedAt := s.timeUs }
        | none =>
          log 0x0902 0 (leBytes 2 v ++ p.charter.kekId) (s.setSlot { SlotSt.loading v with state := 3 })
      else clearSlot v s

/-- Volumes of a pool in ascending id, for the loads of R219. -/
def PoolSt.volIds (p : PoolSt) : List Nat := p.charter.vols.map (·.id)

/-- Every slot of the pools that name a KEK starts to load (R219: "when the pool's KEK is loaded later"). -/
def loadSlotsOfKek (id : Bytes) (s : Part) : Part :=
  ((s.pools.filter (fun p => p.life != 0 && decide (p.charter.kekId = id))).flatMap PoolSt.volIds).mergeSort
      (fun a b => decide (a ≤ b))
    |>.foldl (fun st v => beginSlotLoad v st) s

def Part.modKek (s : Part) (e : Nat) (g : KekSt → KekSt) : Part :=
  s.modToll (fun t => { t with keks := updBy (fun k => k.entry == e) g t.keks })

/-- KEK registers and every slot are cleared (R217: island K powers down or is reset). -/
def clearKeys (s : Part) : Part :=
  s.modToll (fun t => { t with keks := t.keks.map (fun k => { k with loaded := false }), slots := [], rekey := [] })

/-- Blobs with AUTOLOAD 1 are unwrapped into their registers, and the slots of their pools start to load (R217, R219). -/
def autoloadKeks (s : Part) : Part :=
  (s.toll.keks.filter (·.autoload)).foldl (fun st k =>
    if st.toll.canUnwrap && !st.toll.rootBad then loadSlotsOfKek k.id (st.modKek k.entry (fun x => { x with loaded := true }))
    else st) s

/-- New data-key material (R218): drawn again while the two XTS keys are equal, up to `fuel` times. -/
def drawMaterial : Nat → Part → Bytes × Part
  | 0, s => s.draw 96
  | n + 1, s =>
    let (m, s1) := s.draw 96
    if m.take 32 = (m.drop 32).take 32 then drawMaterial n s1 else (m, s1)

/-- What host commands of a volume meet (R220): 0 run, 1 wait, 2 NO_KEY. -/
def Part.keyGate (s : Part) (v : Nat) : Nat :=
  match s.slotState v with
  | 2 => 0
  | 1 => 1
  | _ => 2

/-! ### The transform of one block -/

def matKey1 (m : Bytes) : Bytes := m.take 32
def matKey2 (m : Bytes) : Bytes := (m.drop 32).take 32
def matRoot (m : Bytes) : Bytes := (m.drop 64).take 32

/-- XTS data unit sequence number (R222). -/
def xtsUnit (vol lba : Nat) : Nat := vol * 2 ^ 48 + lba % 2 ^ 48

/-- `block_tag` of R222. `meta` is the stored metadata: bytes 8–31 and 48–51 enter the tag. -/
def blockTag (material : Bytes) (vol lba gen : Nat) (ct md : Bytes) : Bytes :=
  let ep := beBytes 4 (bitsOf gen 63 32)
  let e (n : Nat) : Bytes := padTo 16 (leBytes 1 n ++ ep)
  let root := matRoot material
  let ka := aes256Enc root (e 1) ++ aes256Enc root (e 2)
  let iv := beBytes 2 vol ++ beBytes 6 (lba % 2 ^ 48) ++ beBytes 4 (gen % 2 ^ 32)
  gmac ka iv (ct ++ (md.drop 8).take 24 ++ (md.drop 48).take 4)

/-- CRC-16 guard over plaintext, CRC-64 for HOST_PI 2 (R132). -/
def hostGuard (hostPi : Nat) (pt : Bytes) : Bytes :=
  if hostPi = 2 then beBytes 8 (crc64nvme pt).toNat else beBytes 2 (crc16t10 pt).toNat

/-- Host PI entry of a block with an application tag (R132). -/
def hostPiOf (hostPi : Nat) (app : Bytes) (lba : Nat) (pt : Bytes) : Bytes :=
  if hostPi = 2 then hostGuard 2 pt ++ app ++ beBytes 6 (lba % 2 ^ 48)
  else padTo 16 (hostGuard hostPi pt ++ app ++ beBytes 4 (lba % 2 ^ 32))

/-- Guard and reference tag of a host PI entry checked against the plaintext (R132): 0 good, 1 guard, 2 reference. -/
def hostPiCheck (hostPi lba : Nat) (pi pt : Bytes) : Nat :=
  if hostPi = 2 then
    if pi.take 8 ≠ hostGuard 2 pt then 1
    else if (pi.drop 10).take 6 ≠ beBytes 6 (lba % 2 ^ 48) then 2 else 0
  else
    if pi.take 2 ≠ hostGuard hostPi pt then 1
    else if (pi.drop 4).take 4 ≠ beBytes 4 (lba % 2 ^ 32) then 2 else 0

/-- Application tag of a host PI entry. -/
def hostPiApp (hostPi : Nat) (pi : Bytes) : Bytes := if hostPi = 2 then (pi.drop 8).take 2 else (pi.drop 2).take 2

/-- Metadata of Table 6.1 with the member PI bytes zero. -/
def metaOf (hpi : Bytes) (gen : Nat) (tag : Bytes) (vol pool : Nat) : Bytes :=
  List.replicate 8 0 ++ padTo 16 hpi ++ leBytes 8 gen ++ padTo 16 tag ++ leBytes 2 vol ++ leBytes 1 (pool % 64) ++
    List.replicate 13 0

/-- A block encrypted and tagged (R222); a format without tags stores the ciphertext alone (R129). -/
def encryptBlock (material : Bytes) (fmt vol pool lba gen : Nat) (pt hpi : Bytes) : Block :=
  let unit := xtsUnit vol lba
  if fmt = 4 then Block.mk' (xtsEnc (matKey1 material) (matKey2 material) unit (padTo 4096 pt)) []
  else
    let ct := xtsEnc (matKey1 material) (matKey2 material) unit (padTo 4096 pt ++ padTo 16 hpi)
    let md := metaOf (ct.drop 4096) gen [] vol pool
    let tag := blockTag material vol lba gen (ct.take 4096) md
    Block.mk' (ct.take 4096) (metaOf (ct.drop 4096) gen tag vol pool)

/-- Plaintext and host PI plaintext of a stored block. -/
def decryptBlock (material : Bytes) (fmt vol lba : Nat) (b : Block) : Bytes × Bytes :=
  let unit := xtsUnit vol lba
  if fmt = 4 then (xtsDec (matKey1 material) (matKey2 material) unit b.ct, [])
  else
    let pt := xtsDec (matKey1 material) (matKey2 material) unit (b.ct ++ b.hpi)
    (pt.take 4096, pt.drop 4096)

/-- The stored tag equals the computed one (R224). -/
def tagGood (material : Bytes) (vol lba : Nat) (b : Block) : Bool :=
  decide (b.tag = blockTag material vol lba b.gen b.ct b.meta64)

/-- The material in a volume's own slot. -/
def Part.mainMaterial (s : Part) (vol : Nat) : Option Bytes :=
  match s.slot? vol with
  | some x => if x.state = 2 then some x.material else none
  | none => none

/-- The material in a pool's re-key slot. -/
def Part.rekeyMaterial (s : Part) (p : Nat) : Option Bytes :=
  match s.rekeySlot? p with
  | some x => if x.state = 2 then some x.material else none
  | none => none

/-- The volume in progress of a Crossing that changes keys (R173); a volume that an abort copies back keeps the key it
has (R176). -/
def PoolSt.rekeys (p : PoolSt) (vol : Nat) : Bool :=
  match p.charter.cross with
  | some x => bitAt x.kinds 4 && x.curVolume == vol && !x.newKey.isEmpty
  | none => false

/-- A Crossing changes the shape (Table 7.5 bits 0–3); a re-key of a format without tags is carried out as one (R167). -/
def CrossBlk.isShape (x : CrossBlk) : Bool := decide (x.kinds % 16 ≠ 0) || x.shape.blockFmt == 4

/-- The material a block of a volume is written under (R173, R232): in place, the re-key slot below the live cursor; in a
Crossing that changes the shape, the re-key slot in the target; the volume's own slot otherwise. -/
def Part.materialFor (s : Part) (p : PoolSt) (target : Bool) (vol lba : Nat) : Option Bytes :=
  let new := match p.charter.cross with
    | some x => p.rekeys vol && (if x.isShape then target else decide (lba < p.cross.live))
    | none => false
  if new then s.rekeyMaterial p.id else s.mainMaterial vol

/-- Materials a stored block of a volume may be under, in the order they are tried: in the volume a key Crossing works on,
the new key first (R174, R232). -/
def Part.materials (s : Part) (p : PoolSt) (vol _lba : Nat) : List Bytes :=
  (if p.rekeys vol then (s.rekeyMaterial p.id).toList else []) ++ (s.mainMaterial vol).toList

/-- Island K wakes: its self-test, then the KEK registers with AUTOLOAD (R217, R230). -/
def wakeK (s : Part) : Part := autoloadKeks (selfTestClean s)

end Sys2Proof.Machine
end

