-- ==== Sys2Proof/Machine/Stripe.lean ====
section
/-! DEFINITION. Operations on one stripe: where its strips lie now (R55–R65, R161, R170), what a read of a strip answers
(R127, R130, R131), its margin (R151), decoding with the syndrome check and arbitration (R36, R40, R412), the weighing of
versions (R138, R140, R141), the lost-block table and deferred errors (R145–R150), and the Manifest entry under which
strips are written (R103, R104, R107). -/

namespace Sys2Proof.Machine

/-! ### Coded units and member PI -/

/-- The coded unit of a stored block (R32). -/
def codedUnit (fmt : Nat) (b : Block) : Bytes :=
  if fmt = 4 then b.data else trimZeros (b.ct ++ b.meta64.drop 8)

/-- A data unit that is a lost marker: SEQ 0xFFFF is reserved for markers (R135, R146); without a generation the
signature and CRC of Table 6.6 tell (log entry 15). -/
def isMarkerUnit (fmt : Nat) (u : Bytes) : Bool :=
  if fmt = 4 then decide (u.take 8 = ascii "PLYLOSTB") && decide ((padTo 44 u).drop 40 = leBytes 4 (crc32c (padTo 40 u)).toNat)
  else decide (((padTo 4152 u).drop 4112).take 2 = [0xFF, 0xFF])

/-- The block a coded unit spells, without member PI but for the LOST bit of a data strip's marker. -/
def blockOfUnit (data : Bool) (fmt : Nat) (u : Bytes) : Block :=
  let pi : Bytes := if data && isMarkerUnit fmt u then [0, 0, 0, 0x80, 0, 0, 0, 0] else List.replicate 8 0
  if fmt = 4 then Block.mk' (u.take 4096) pi
  else Block.mk' (u.take 4096) (pi ++ u.drop 4096)

/-- Member PI application tag (Table 6.3). -/
def mpiApp (strip : Nat) (lost : Bool) (area pool : Nat) : Nat :=
  strip % 128 + b2n lost * 128 + (area % 4) * 256 + (pool % 64) * 1024

def mpiGuard (fmt : Nat) (b : Block) : Bytes :=
  beBytes 2 (crc16t10 (if fmt = 4 then b.ct else b.ct ++ b.meta64.drop 8)).toNat

/-- The 8 bytes of member PI of a block at `mba` (R130). -/
def memberPi (fmt strip : Nat) (lost : Bool) (area pool mba : Nat) (b : Block) : Bytes :=
  mpiGuard fmt b ++ beBytes 2 (mpiApp strip lost area pool) ++ beBytes 4 (mba % 2 ^ 32)

/-- LOST bit of a stored block (R146). -/
def lostBit (b : Block) : Bool := (b.meta64.getD 3 0).getLsbD 7

/-- A block of the data area as it is written at `mba`: member PI added (R126, R130); a never-written data block stays all zero
(R127), a check block of zeros carries its own. -/
def stampBlock (check : Bool) (fmt strip pool mba : Nat) (b : Block) : Block :=
  if !check && (codedUnit fmt b).isEmpty then Block.zero
  else Block.mk' b.ct (memberPi fmt strip (lostBit b) 0 pool mba b ++ (if fmt = 4 then [] else b.meta64.drop 8))

/-- Member PI passes (R127, R131). -/
def memberPiOk (fmt strip pool mba : Nat) (b : Block) : Bool :=
  b.isZero || decide (b.meta64.take 8 = memberPi fmt strip (lostBit b) 0 pool mba b)

/-! ### Shapes and places -/

/-- A shape of a pool as commands use it: its Braid, the member ids, charter states and table entries of its ordinals,
and the number its first stripe has in the Manifest (R170, R171). -/
structure Geo where
  pool : Nat
  braid : Braid
  ids : List Nat
  sts : List Nat
  entries : List Nat
  off : Nat
deriving DecidableEq, Repr

def geoOver (p : Nat) (h : Shape) (ms : List (Nat × CMember)) (off : Nat) : Geo where
  pool := p
  braid := Braid.make h (ms.map (·.2.encl)) (ms.map (·.2.rack)) (ms.map (fun m => relocState m.2.state))
  ids := ms.map (·.2.id)
  sts := ms.map (·.2.state)
  entries := ms.map (·.1)
  off := off

def Charter.table (c : Charter) : List (Nat × CMember) := c.members.mapIdx (fun i m => (i, m))

/-- The charter's own shape (R170: over the first SRC_COUNT entries while a Crossing runs). -/
def Charter.geo (c : Charter) : Geo :=
  geoOver c.poolId c.shape (match c.cross with | some x => c.table.take x.srcCount | none => c.table) 0

/-- The target shape of a Crossing. -/
def Charter.tgeo (c : Charter) (x : CrossBlk) : Geo :=
  geoOver c.poolId x.shape (x.target.filterMap (fun e => (c.members[e]?).map (fun m => (e, m)))) c.shape.stripeCount

/-- The shape a Manifest stripe number belongs to. -/
def Charter.geoOf (c : Charter) (stripe : Nat) : Geo :=
  if stripe < c.shape.stripeCount then c.geo
  else match c.cross with
    | some x => c.tgeo x
    | none => c.geo

/-- The shapes of a pool whose strips are rebuilt (R175). -/
def PoolSt.shapes (p : PoolSt) : List Geo :=
  p.charter.geo :: (match p.charter.cross with
    | some x => if x.isShape then [p.charter.tgeo x] else []
    | none => [])

def Geo.h (g : Geo) : Shape := g.braid.shape
def Geo.w (g : Geo) : Nat := g.braid.w
def Geo.mirror (g : Geo) : Bool := g.h.codeType == 1
def Geo.fmt (g : Geo) : Nat := g.h.blockFmt
/-- Strip `i` is a check strip. -/
def Geo.isCheck (g : Geo) (i : Nat) : Bool := !g.mirror && decide (g.h.k ≤ i)
/-- The block of strip `i` that a coded unit spells. -/
def Geo.blockOf (g : Geo) (i : Nat) (u : Bytes) : Block := blockOfUnit (g.mirror || decide (i < g.h.k)) g.fmt u

/-- A member in a state in which it holds the strips of its ordinal (Table 3.4); its link may be down within LINK_HOLD_MS
(R206). -/
def Part.holds (s : Part) (k : Nat) : Bool :=
  match s.member? k with
  | some m => [2, 3, 5, 6, 7].contains m.state
  | none => false

/-- A member that serves the strips it holds now: its link is up. -/
def Part.serves (s : Part) (k : Nat) : Bool :=
  match s.member? k with
  | some m => m.linkUp && ([2, 3, 5, 6, 7].contains m.state)
  | none => false

def PoolSt.isRebuilt (p : PoolSt) (e stripe : Nat) : Bool := p.reb.rebuilt.contains (e, stripe)

/-- Stripe group of a Manifest stripe number within its shape (R50). -/
def Geo.groupOf (g : Geo) (stripe : Nat) : Nat := if g.braid.dn = 0 then 0 else (stripe - g.off) / g.braid.dn

/-- The place a strip is read from (Table 3.4, R57, R58), none when it is missing (R151). -/
def readPlace (p : PoolSt) (g : Geo) (stripe i : Nat) : Option (Nat × Nat) :=
  let (o, row) := g.braid.locate (stripe - g.off) i
  let e := g.entries.getD o 0
  let home := (g.ids.getD o 16384, g.braid.rowMba row)
  if p.reb.failing.contains e then none
  else if !g.braid.relocated o then some home
  else if p.isRebuilt e stripe then
    (g.braid.place (stripe - g.off) i).map (fun x => (g.ids.getD x.1 16384, g.braid.rowMba x.2))
  else if g.sts.getD o 0 = 5 then some home
  else none

/-- The member of a relocated ordinal is PRESENT: found again, or a replacement (R63, R164). -/
def Part.returned (s : Part) (g : Geo) (o : Nat) : Bool :=
  g.braid.relocated o && decide ((s.member? (g.ids.getD o 16384)).map (·.state) = some 1)

/-- A home strip of a returned member that R161 still trusts: PRESENT, its group's stale bit clear. -/
def salvagePlace (s : Part) (p : PoolSt) (g : Geo) (stripe i : Nat) : Option (Nat × Nat) :=
  let (o, row) := g.braid.locate (stripe - g.off) i
  let e := g.entries.getD o 0
  if s.returned g o && !p.reb.staleAll.contains e && !p.reb.stale.contains (e, g.groupOf stripe) then
    some (g.ids.getD o 16384, g.braid.rowMba row)
  else none

/-- The places a write of a strip goes to (R64, R165). `whole` is a whole-stripe write to a stripe beyond repair. -/
def writePlaces (p : PoolSt) (g : Geo) (whole : Bool) (stripe i : Nat) : List (Nat × Nat) :=
  let (o, row) := g.braid.locate (stripe - g.off) i
  let e := g.entries.getD o 0
  let home := (g.ids.getD o 16384, g.braid.rowMba row)
  let lane := ((g.braid.place (stripe - g.off) i).map (fun x => (g.ids.getD x.1 16384, g.braid.rowMba x.2))).toList
  if p.reb.failing.contains e then []
  else if !g.braid.relocated o then [home]
  else
    let back := match alGet e p.reb.copyback with
      | some next => if g.groupOf stripe < next then [home] else []
      | none => []
    if p.isRebuilt e stripe then lane ++ back
    else if whole && !lane.isEmpty then lane ++ back
    else if g.sts.getD o 0 = 5 then [home]
    else back

/-- The place keeps a member that can take writes: a command that a link loss interrupts waits for the link (R206). -/
def Part.takes (s : Part) (k : Nat) : Bool :=
  match s.member? k with
  | some m => [1, 2, 3, 5, 6, 7].contains m.state
  | none => false

def Part.places (s : Part) (p : PoolSt) (g : Geo) (whole : Bool) (stripe i : Nat) : List (Nat × Nat) :=
  (writePlaces p g whole stripe i).filter (fun x => s.takes x.1)

/-! ### Reading strips -/

inductive StripRead
  | missing
  | bad
  | ok (b : Block)
deriving DecidableEq, Repr

/-- A block of a member's data area; unlisted blocks are all zero. -/
def MemberSt.blockAt (m : MemberSt) (mba : Nat) : Block := (alGet mba m.media).getD Block.zero

def Part.mediaAt (s : Part) (k mba : Nat) : Block := ((s.member? k).map (fun m => m.blockAt mba)).getD Block.zero

/-- A member block stored; an all-zero block is not listed. -/
def MemberSt.store (m : MemberSt) (mba : Nat) (b : Block) : MemberSt :=
  { m with media := if b.isZero then alDel mba m.media else alSet mba b m.media }

/-- One block read at a place, with the member's report and member PI (R131). -/
def readAt (s : Part) (g : Geo) (i bo : Nat) (bad : BadReads) (pl : Nat × Nat) : StripRead :=
  let mba := pl.2 + bo
  if bad.contains (pl.1, mba) then .bad
  else
    let b := s.mediaAt pl.1 mba
    if memberPiOk g.fmt i g.pool mba b then .ok b else .bad

/-- Block `bo` of strip `i` of a stripe. -/
def readStrip (s : Part) (p : PoolSt) (g : Geo) (bad : BadReads) (stripe bo i : Nat) : StripRead :=
  match readPlace p g stripe i with
  | some pl => if s.serves pl.1 then readAt s g i bo bad pl else .missing
  | none => .missing

/-- As `readStrip`, with the home strips R161 allows for decoding a stripe beyond repair. -/
def readSalvage (s : Part) (p : PoolSt) (g : Geo) (bad : BadReads) (stripe bo i : Nat) : StripRead :=
  match readStrip s p g bad stripe bo i with
  | .missing =>
    match salvagePlace s p g stripe i with
    | some pl => match readAt s g i bo bad pl with
      | .ok b => .ok b
      | _ => .missing
    | none => .missing
  | r => r

def readStripe (s : Part) (p : PoolSt) (g : Geo) (bad : BadReads) (stripe bo : Nat) : List StripRead :=
  (List.range g.w).map (readStrip s p g bad stripe bo)

def StripRead.unit? (fmt : Nat) : StripRead → Option Bytes
  | .ok b => some (codedUnit fmt b)
  | _ => none

def StripRead.isMissing : StripRead → Bool
  | .missing => true
  | _ => false

/-! ### Margin -/

/-- Strips of a stripe that are not missing, whatever their content (R151). -/
def presence (s : Part) (p : PoolSt) (g : Geo) (stripe : Nat) : List Bool :=
  (List.range g.w).map (fun i =>
    match readPlace p g stripe i with
    | some pl => s.holds pl.1
    | none => false)

/-- The same with the home strips R161 lets stand for decoding. -/
def presenceSalvage (s : Part) (p : PoolSt) (g : Geo) (stripe : Nat) : List Bool :=
  (presence s p g stripe).mapIdx (fun i b => b || (salvagePlace s p g stripe i).isSome)

/-- Margin of a stripe with the given strips present (R151). -/
def marginOf (h : Shape) (present : List Bool) : Int :=
  let missing (l : List (Option Bytes)) : Nat := (l.filter Option.isNone).length
  let st := present.map (fun b => if b then some ([] : Bytes) else none)
  if h.codeType = 1 then (h.m : Int) - missing st
  else (h.m : Int) - missing (localRepair h.k h.m h.g st)

def margin (s : Part) (p : PoolSt) (g : Geo) (stripe : Nat) : Int := marginOf g.h (presence s p g stripe)

/-- The stripe is beyond repair (R151): its margin is below 0, and home strips it may be decoded with do not restore it
(R161). -/
def beyondRepair (s : Part) (p : PoolSt) (g : Geo) (stripe : Nat) : Bool := decide (marginOf g.h (presenceSalvage s p g stripe) < 0)

/-- A strip that is not missing cannot be read now, its link being down within LINK_HOLD_MS, and the stripe cannot be decoded
without it: what needs it waits (R206). -/
def awaitsLink (s : Part) (p : PoolSt) (g : Geo) (stripe : Nat) : Bool :=
  let now := (List.range g.w).map (fun i => match readPlace p g stripe i with
    | some pl => s.serves pl.1
    | none => (salvagePlace s p g stripe i).isSome)
  !beyondRepair s p g stripe && decide (marginOf g.h now < 0)

/-- A strip that is not missing cannot be read now, its link being down within LINK_HOLD_MS (R206). -/
def linkWaits (s : Part) (p : PoolSt) (g : Geo) (stripe : Nat) : Bool :=
  (List.range g.w).any (fun i => match readPlace p g stripe i with
    | some pl => s.holds pl.1 && !s.serves pl.1
    | none => false)

/-- Every stripe of a pool, with its shape. -/
def PoolSt.allStripes (p : PoolSt) : List (Geo × Nat) :=
  p.shapes.flatMap (fun g => (List.range g.h.stripeCount).map (fun x => (g, g.off + x)))

/-- POOL_STATE (R152, Table 7.1). -/
def poolState (s : Part) (p : PoolSt) : Nat :=
  if s.man.entries.any (fun e => e.pool == p.id && e.state == .stalled) then 4
  else if p.allStripes.any (fun x => beyondRepair s p x.1 x.2) then 3
  else if p.allStripes.any (fun x => decide (margin s p x.1 x.2 ≤ 0)) then 2
  else if p.allStripes.any (fun x => decide (margin s p x.1 x.2 < x.1.h.m)) then 1
  else 0

/-! ### Volumes and data blocks -/

/-- The volume entry and LBA of pool data block `q` of the charter's own shape. -/
def Charter.volAt (c : Charter) (q : Nat) : Option (CVol × Nat) :=
  (c.vols.find? (fun v => decide (v.base ≤ q) && decide (q < v.base + v.size))).map (fun v => (v, q - v.base))

/-- Target BASE of each volume of a shape Crossing (R171): packed in ascending source BASE, whole target stripes. -/
def Charter.targetBases (c : Charter) (x : CrossBlk) : List (Nat × Nat) :=
  let vs := c.vols.mergeSort (fun a b => decide (a.base ≤ b.base))
  let kb := max 1 x.shape.kb
  (vs.foldl (fun (st : Nat × List (Nat × Nat)) v => (st.1 + ceilDiv v.size kb * kb, st.2 ++ [(v.id, st.1)])) (0, [])).2

/-- Volume and LBA of a data block of a stripe, in either shape. -/
def Charter.blockVol (c : Charter) (g : Geo) (stripe i bo : Nat) : Option (CVol × Nat) :=
  let q := g.h.join (stripe - g.off) (if g.mirror then 0 else i) bo
  if g.off = 0 then c.volAt q
  else
    match c.cross with
    | none => none
    | some x =>
      (c.targetBases x).findSome? (fun vb =>
        match c.vols.find? (fun v => v.id == vb.1) with
        | some v => if vb.2 ≤ q ∧ q < vb.2 + v.size then some (v, q - vb.2) else none
        | none => none)

/-- Address of a volume block in a shape: Manifest stripe number, data strip (0 for a mirror), block offset (R55). -/
def Charter.addrIn (c : Charter) (target : Bool) (v : CVol) (lba : Nat) : Nat × Nat × Nat :=
  match target, c.cross with
  | true, some x =>
    let a := x.shape.split ((alGet v.id (c.targetBases x)).getD 0 + lba)
    (c.shape.stripeCount + a.1, a.2.1, a.2.2)
  | _, _ => c.shape.split (v.base + lba)

/-! ### Confirmation marks (R106) -/

/-- The complement of a mark, as 64 bits. -/
def markNot (t : Nat) : Nat := 2 ^ 64 - 1 - t % 2 ^ 64

/-- A copy of a mark whose halves agree. -/
def MarkSt.agrees (c : Nat × Nat) : Bool := decide (c.2 = markNot c.1)

/-- A reader takes the higher copy whose halves agree. -/
def MarkSt.value (m : MarkSt) : Nat := (([m.a, m.b].filter MarkSt.agrees).map (·.1)).foldl max 0

/-- The two copies are written alternately. -/
def MarkSt.write (m : MarkSt) (t : Nat) : MarkSt :=
  if m.second then { m with b := (t, markNot t), second := false } else { m with a := (t, markNot t), second := true }

/-- A mark never written. -/
def MarkSt.none_ : MarkSt where
  a := (0, markNot 0)
  b := (0, markNot 0)
  second := false

/-- The confirmation mark of a pool. -/
def Part.mark (s : Part) (p : Nat) : Nat := ((alGet p s.man.marks).map MarkSt.value).getD 0

/-! ### Manifest entries -/

def Part.entry? (s : Part) (p stripe : Nat) : Option MEntry :=
  s.man.entries.find? (fun e => e.pool == p && e.stripe == stripe)

def Part.modEntry (s : Part) (p stripe : Nat) (g : MEntry → MEntry) : Part :=
  s.modMan (fun m => { m with entries := updBy (fun e => e.pool == p && e.stripe == stripe) g m.entries })

/-- Manifest entries (Table 5.1). -/
def maxEntries : Nat := 1048576

/-- The lowest entry number that is FREE. -/
def Part.freeSlot (s : Part) : Nat :=
  ((List.range (s.man.entries.length + 1)).find? (fun n => !s.man.entries.any (fun e => e.slot == n))).getD 0

def MEntry.fresh (slot pool stripe : Nat) (st : EntryState) (tide gen : Nat) : MEntry where
  slot := slot
  pool := pool
  stripe := stripe
  state := st
  tx := false
  syndFail := false
  rmw := false
  chkOut := false
  firstTide := tide % 2 ^ 48
  genLo := gen % 65536
  mask := []
  left := []
  places := []
  done := []
  staged := []
  snap := []
  built := false
  readyTide := 0
  synd := 0
  cls := 5
  whole := false
  stalledAt := none
  replay := false
  tried := false

/-- A new entry of a stripe (R103), counted as a change of the open tide (Table 5.4). -/
def addEntry (p stripe : Nat) (st : EntryState) (s : Part) : Part :=
  match s.entry? p stripe with
  | some _ => s
  | none =>
    let gen := ((s.charter? p).map (·.gen)).getD 0
    s.modMan (fun m => { m with
      entries := m.entries ++ [MEntry.fresh s.freeSlot p stripe st s.sched.tideNow gen], nChanges := m.nChanges + 1 })

/-- The entry returns to FREE (R88). -/
def dropEntry (p stripe : Nat) (s : Part) : Part :=
  s.modMan (fun m => { m with entries := m.entries.filter (fun e => !(e.pool == p && e.stripe == stripe))
                              nChanges := m.nChanges + 1 })

/-- Held blocks of a stripe, staged write-through blocks included. -/
def Part.heldOf (s : Part) (p stripe : Nat) : List Held := s.man.held.filter (fun b => b.pool == p && b.stripe == stripe)

/-- The newest held block of an address that a read may see: of no open transaction (R91), not write-through staging. -/
def Part.heldAt (s : Part) (p stripe strip bo : Nat) : Option Held :=
  let l := (s.heldOf p stripe).filter (fun b => b.strip == strip && b.bo == bo && b.tx.isNone && !b.through)
  l.foldl (fun best b => match best with
    | none => some b
    | some x => if x.gen ≤ b.gen then some b else best) none

/-- A block clean in the read cache that is still there (R83, R88). -/
def Part.cleanAt (s : Part) (p stripe strip bo : Nat) : Option Block :=
  ((s.man.clean.find? (fun b => b.pool == p && b.stripe == stripe && b.strip == strip && b.bo == bo)).map (·.block)).filter
    (fun _ => Config.cacheKeeps p stripe strip bo s.timeUs)

/-- The read cache loses the blocks of a strip that is written another way. -/
def dropClean (p : Nat) (f : CleanBlk → Bool) (s : Part) : Part :=
  s.modMan (fun m => { m with clean := m.clean.filter (fun b => !(b.pool == p && f b)) })

/-- The stripe is in the intent set in force (R107). -/
def PoolSt.inIntent (p : PoolSt) (stripe : Nat) : Bool := p.ckpt.intent.contains stripe

/-- Growth of the intent set is held (R115): fewer than two homes that are neither lost nor being replaced. -/
def PoolSt.growthHeld (p : PoolSt) : Bool :=
  decide ((p.ckpt.homes.filter (fun o => !p.ckpt.lostHomes.contains o)).length < 2)

/-- A stripe that a write needs and that is not in the set waits for an extension (R108). -/
def needIntent (p stripe : Nat) (s : Part) : Part :=
  s.modPool p (fun x =>
    if x.inIntent stripe || x.ckpt.ready.contains stripe then x
    else { x with ckpt := { x.ckpt with ready := x.ckpt.ready ++ [stripe] } })

/-! ### Member commands -/

/-- A member is written with FUA unless its cache is confirmed disabled and no change of the setting applies to it
(R87, R179). -/
def MemberSt.needsFua (m : MemberSt) : Bool := m.wce != 0 || m.fleet.any (fun x => x.1 == 0)

/-- A command joins a member's queue (R199). -/
def enqueueCmd (k : Nat) (op : MOp) (cls : Nat) (nonQueued fua : Bool) (mba count : Nat) (s : Part) : Part :=
  s.modMember k (fun m => { m with
    nextTag := m.nextTag + 1
    waiting := m.waiting ++ [{ id := m.nextTag, op := op, cls := cls, nonQueued := nonQueued, fua := fua, mba := mba,
                               count := count, lane := 144, retried := false, timedOut := false }] })

/-! ### Lost blocks and deferred errors -/

/-- A deferred error of a volume (R150). -/
def raiseDeferred (vol lba cause : Nat) (s : Part) : Part :=
  s.modVol vol (fun v => { v with
    deferred := if v.deferred.length < 256 then v.deferred ++ [lba % 2 ^ 48 + (cause % 16) * 2 ^ 48] else v.deferred
    deferredCount := v.deferredCount + 1
    flag0 := true
    flag1 := true })

/-- A lost-block table entry (Table 6.8). -/
def LostEntry.bytes (e : LostEntry) : Bytes :=
  leBytes 2 ((if e.unalloc then 0 else e.vol % 4096) + (e.cause % 16) * 4096) ++
    leBytes 6 (if e.unalloc then 0 else e.lba) ++ leBytes 6 e.stripe ++
    leBytes 1 (e.strip % 128 + b2n e.unalloc * 128) ++ leBytes 1 e.bo ++ leBytes 8 e.tide ++ leBytes 8 e.gen

/-- Generation of a lost marker (R146). -/
def markerGen (tide : Nat) : Nat := (tide % 2 ^ 48) * 65536 + 0xFFFF

/-- A lost marker (R146, Table 6.6), without member PI. -/
def lostMarker (pool : Nat) (e : LostEntry) : Block :=
  let d := ascii "PLYLOSTB" ++ e.bytes
  Block.mk' (d ++ leBytes 4 (crc32c d).toNat)
    ([0, 0, 0, 0x80, 0, 0, 0, 0] ++ (metaOf [] e.gen [] (if e.unalloc then 0 else e.vol) pool).drop 8)

def LostEntry.key (e : LostEntry) : Nat × Nat × Nat := (e.stripe, e.bo, e.strip)

/-- A data block's lost-block table entry for this tide (R145). -/
def lostEntryFor (s : Part) (c : Charter) (g : Geo) (cause stripe i bo : Nat) : LostEntry :=
  let tide := s.sched.tideNow
  match c.blockVol g stripe i bo with
  | some (v, lba) => { vol := v.id, cause := cause, lba := lba, stripe := stripe, strip := if g.mirror then 0 else i,
                       unalloc := false, bo := bo, tide := tide, gen := markerGen tide }
  | none => { vol := 0, cause := cause, lba := 0, stripe := stripe, strip := if g.mirror then 0 else i, unalloc := true,
              bo := bo, tide := tide, gen := markerGen tide }

/-- A block enters the lost-block table (R145): record BLOCK_LOST, deferred error. -/
def enterLost (p : Nat) (e : LostEntry) (s : Part) : Part :=
  match s.pool? p with
  | none => s
  | some ps =>
    if ps.int.lost.any (fun x => decide (x.key = e.key)) then s
    else
      let s := s.modPool p (fun x => { x with int := { x.int with lost := x.int.lost ++ [e] } })
      let s := log 0x0802 p e.bytes s
      if e.unalloc then s else raiseDeferred e.vol e.lba e.cause s

/-- Entries of a block leave the table (R148). -/
def clearLost (p stripe i bo : Nat) (s : Part) : Part :=
  s.modPool p (fun x => { x with int := { x.int with
    lost := x.int.lost.filter (fun e => decide (e.key ≠ (stripe, bo, i))) } })

/-! ### Divergence -/

/-- A block recorded divergent (Strict), once (R138, R139, R150). -/
def recordDiverged (p : Nat) (d : DivEntry) (s : Part) : Part :=
  match s.pool? p with
  | none => s
  | some ps =>
    if ps.int.diverged.contains d then s
    else
      let s := s.modPool p (fun x => { x with int := { x.int with diverged := x.int.diverged ++ [d] } })
      let s := log 0x0803 p (leBytes 2 d.vol ++ leBytes 6 d.lba ++ [0]) s
      raiseDeferred d.vol d.lba 4 s

/-- A divergence settled by rank (Progress, or a block no volume covers): logged, and for a volume's block a deferred
error (R136, R138, R139, R150). -/
def settledByRank (p vol lba : Nat) (covered : Bool) (s : Part) : Part :=
  let s := log 0x0803 p (leBytes 2 vol ++ leBytes 6 lba ++ [1]) s
  if covered then raiseDeferred vol lba 4 s else s

def clearDiverged (p stripe i bo : Nat) (s : Part) : Part :=
  s.modPool p (fun x => { x with int := { x.int with
    diverged := x.int.diverged.filter (fun d => !(d.stripe == stripe && d.bo == bo && d.strip == i)) } })

/-- A data block of the stripe is divergent: recorded in a Strict pool, settled by rank otherwise. -/
def blockDiverges (p : PoolSt) (g : Geo) (stripe i bo : Nat) (s : Part) : Part :=
  match p.charter.blockVol g stripe i bo with
  | some (v, lba) =>
    if p.progress then settledByRank p.id v.id lba true s
    else recordDiverged p.id { vol := v.id, lba := lba, stripe := stripe, strip := if g.mirror then 0 else i, bo := bo } s
  | none => settledByRank p.id 0 0 false s

/-- Divergence at an offset is settled by rank (R136, R138, R139): in a Progress pool, or where no volume covers a block. -/
def byRank (p : PoolSt) (g : Geo) (stripe bo : Nat) (is : List Nat) : Bool :=
  p.progress || is.all (fun i => (p.charter.blockVol g stripe i bo).isNone)

/-- A version of a data block passes what can be checked of it (R138, R141): its tag and host PI when the key is in a
slot. -/
def qualifies (s : Part) (p : PoolSt) (g : Geo) (stripe i bo : Nat) (b : Block) : Bool :=
  if b.isZero || g.fmt = 4 || lostBit b then true
  else
    match p.charter.blockVol g stripe i bo with
    | none => true
    | some (v, lba) =>
      match s.materials p v.id lba with
      | [] => true
      | ms => ms.any (fun m => tagGood m v.id lba b &&
          (let (pt, hpi) := decryptBlock m g.fmt v.id lba b
           hostPiCheck v.hostPi lba hpi pt == 0))

/-- The version that stands (Table 6.5): 0 the first, 1 the second, 2 divergent, 3 neither qualifies. -/
def weigh (s : Part) (p : PoolSt) (g : Geo) (stripe i bo : Nat) (a b : Block) : Nat :=
  match qualifies s p g stripe i bo a, qualifies s p g stripe i bo b with
  | true, false => 0
  | false, true => 1
  | false, false => 3
  | true, true =>
    if codedUnit g.fmt a = codedUnit g.fmt b then 0
    else if g.fmt = 4 then 2
    else if a.gen > b.gen then 0
    else if b.gen > a.gen then 1
    else 2

/-! ### Decoding with arbitration -/

/-- What a decode of one block offset came to. -/
inductive Decoded
  /-- the stripe cannot be restored from the strips present -/
  | beyond
  /-- every strip's coded unit; the syndrome is zero -/
  | clean (units : List Bytes)
  /-- one present strip is wrong, the decode without it stands (R412 step 2); `low` is the decode over the lowest-ranked present
  strips -/
  | wrong (strip : Nat) (units low : List Bytes)
  /-- not locatable (R412 step 3), with the decode over the lowest-ranked present strips -/
  | unsettled (units : List Bytes)
deriving DecidableEq, Repr

/-- Decode of a parity block offset with the arbitration of R412. -/
def decodeUnits (h : Shape) (units : List (Option Bytes)) : Decoded :=
  match decodeStripe h.k h.m h.g units with
  | none => .beyond
  | some full =>
    if (syndrome h.k h.m h.g full).isZero then .clean full
    else
      let present := (List.range units.length).filter (fun i => (units.getD i none).isSome)
      let tries := present.filterMap (fun i =>
        if present.length - 1 ≤ h.k then none
        else
          match decodeStripe h.k h.m h.g (units.set i none) with
          | some f => if (syndrome h.k h.m h.g f).isZero then some (i, f) else none
          | none => none)
      match tries with
      | [(i, f)] => .wrong i f full
      | _ => .unsettled full

/-- Rewrites of check strips at an offset from the data of `units`. -/
def checkRewrites (g : Geo) (units : List Bytes) (bo : Nat) (old : List (Option Bytes)) : List (Nat × Nat × Block) :=
  let full := encodeStripe g.h.k g.h.m g.h.g (units.take g.h.k)
  ((List.range g.w).filter (fun i => decide (g.h.k ≤ i) && decide (old.getD i none ≠ some (full.getD i [])) &&
      (old.getD i none).isSome)).map (fun i => (i, bo, g.blockOf i (full.getD i [])))

/-- Settlement of one offset (R412): the units to use, the rewrites it asks for, the blocks that are divergent, and the
state with its records. -/
structure Settled where
  units : List Bytes
  rewrites : List (Nat × Nat × Block)
  diverged : List Nat
  part : Part

/-- The checks of an offset are recomputed later (R145, R412): `blocked` while no decode may use them. -/
def recheckLater (p stripe bo : Nat) (blocked : Bool) (s : Part) : Part :=
  s.modPool p (fun x =>
    if x.int.recheck.any (fun r => r.1 == stripe && r.2.1 == bo) then x
    else { x with int := { x.int with recheck := x.int.recheck ++ [(stripe, bo, blocked)] } })

/-- A stripe is to be examined when it can be (R131, R137, R141, R144). -/
def examineLater (p stripe : Nat) (s : Part) : Part :=
  s.modPool p (fun x => { x with int := { x.int with
    again := if x.int.again.contains stripe then x.int.again else x.int.again ++ [stripe] } })

/-- Divergence settled by rank (R138, R412): the stored data stands; the checks are recomputed at once, or, where strips are
missing, once the stripe is whole. -/
def settleRank (p : PoolSt) (g : Geo) (stripe bo : Nat) (reads : List StripRead) (units : List (Option Bytes)) (low : List Bytes)
    (s : Part) : Settled :=
  if reads.any StripRead.isMissing then { units := low, rewrites := [], diverged := [], part := recheckLater p.id stripe bo false s }
  else { units := encodeStripe g.h.k g.h.m g.h.g (low.take g.h.k), rewrites := checkRewrites g low bo units, diverged := [], part := s }

def settle (s : Part) (p : PoolSt) (g : Geo) (stripe bo : Nat) (reads : List StripRead) (units : List (Option Bytes)) :
    Decoded → Settled
  | .beyond => { units := [], rewrites := [], diverged := [], part := s }
  | .clean u => { units := u, rewrites := [], diverged := [], part := s }
  | .wrong i u low =>
    if g.h.k ≤ i then
      { units := u, rewrites := [(i, bo, g.blockOf i (u.getD i []))], diverged := [], part := s }
    else
      let old := match reads.getD i .missing with
        | .ok b => b
        | _ => Block.zero
      let new := g.blockOf i (u.getD i [])
      match weigh s p g stripe i bo old new with
      | 1 => { units := u, rewrites := [(i, bo, new)], diverged := [], part := s }
      | 0 =>
        let kept := u.set i (codedUnit g.fmt old)
        { units := encodeStripe g.h.k g.h.m g.h.g (kept.take g.h.k),
          rewrites := checkRewrites g kept bo units, diverged := [], part := s }
      | 2 =>
        let s := blockDiverges p g stripe i bo s
        if byRank p g stripe bo [i] then settleRank p g stripe bo reads units low s
        else { units := low, rewrites := [], diverged := [i], part := s }
      | _ =>
        { units := u, rewrites := [], diverged := [],
          part := noted 8 412 2 (leBytes 1 p.id ++ leBytes 6 stripe ++ leBytes 1 i ++ leBytes 1 bo) s }
  | .unsettled u =>
    let s := (List.range g.h.k).foldl (fun st i => blockDiverges p g stripe i bo st) s
    if byRank p g stripe bo (List.range g.h.k) then settleRank p g stripe bo reads units u s
    else { units := u, rewrites := [], diverged := List.range g.h.k, part := s }

/-- No decode may use the checks of an offset: markers stand there that they do not cover (R145). -/
def PoolSt.checksStale (p : PoolSt) (stripe bo : Nat) : Bool := p.int.recheck.any (fun r => r.1 == stripe && r.2.1 == bo && r.2.2)

/-- The decode of an offset, where one may be made (R145). -/
def decodeAt (p : PoolSt) (g : Geo) (stripe bo : Nat) (units : List (Option Bytes)) : Decoded :=
  if p.checksStale stripe bo then
    (if (units.take g.h.k).all Option.isSome then .clean (encodeStripe g.h.k g.h.m g.h.g ((units.take g.h.k).filterMap id)) else .beyond)
  else decodeUnits g.h units

/-- Reads of one offset of a parity stripe, decoded and settled. -/
def restoreOffset (s : Part) (p : PoolSt) (g : Geo) (bad : BadReads) (stripe bo : Nat) : Decoded × Settled :=
  let reads := (List.range g.w).map (readSalvage s p g bad stripe bo)
  let units := reads.map (StripRead.unit? g.fmt)
  let d := decodeAt p g stripe bo units
  (d, settle s p g stripe bo reads units d)

/-- Units of an offset with those its local groups restore (R36 step 1), which stand whatever else fails there. -/
def localUnits (p : PoolSt) (g : Geo) (stripe bo : Nat) (units : List (Option Bytes)) : List (Option Bytes) :=
  if p.checksStale stripe bo then units else localRepair g.h.k g.h.m g.h.g units

/-- What is written for blocks that are lost (R145): the marker in every copy of a mirror; in a parity stripe the markers,
and the checks over the data when every other data block there can be read or its local group restores it. -/
def markerWrites (s : Part) (p : PoolSt) (g : Geo) (bad : BadReads) (stripe bo : Nat) (lost : List (Nat × LostEntry)) :
    List (Nat × Nat × Block) :=
  if g.mirror then
    match lost with
    | (_, e) :: _ => (List.range g.w).map (fun c => (c, bo, lostMarker p.id e))
    | [] => []
  else
    let there := localUnits p g stripe bo ((readStripe s p g bad stripe bo).map (StripRead.unit? g.fmt))
    let data := (List.range g.h.k).map (fun i =>
      match alGet i lost with
      | some e => some (codedUnit g.fmt (lostMarker p.id e))
      | none => there.getD i none)
    let markers := lost.map (fun x => (x.1, bo, lostMarker p.id x.2))
    if data.all Option.isSome then
      markers ++ ((encodeStripe g.h.k g.h.m g.h.g (data.filterMap id)).mapIdx (fun i u => (i, bo, g.blockOf i u))).drop g.h.k
    else markers

/-- Blocks repaired (R131): record BLOCK_REPAIRED and the pool's count. -/
def countRepaired (p vol lba member : Nat) (s : Part) : Part :=
  let s := s.modPool p (fun x => { x with int := { x.int with repaired := x.int.repaired + 1 } })
  log 0x0801 p (leBytes 2 vol ++ leBytes 6 lba ++ leBytes 2 member) s

/-- Member that holds a strip now, 0xFFFF when none. -/
def stripMember (p : PoolSt) (g : Geo) (stripe i : Nat) : Nat :=
  ((readPlace p g stripe i).map (·.1)).getD 0xFFFF

/-- Records of the repair of a data block's range. -/
def repairedAt (p : PoolSt) (g : Geo) (stripe i bo : Nat) (s : Part) : Part :=
  match p.charter.blockVol g stripe i bo with
  | some (v, lba) => countRepaired p.id v.id lba (stripMember p g stripe i) s
  | none => countRepaired p.id 0 0 (stripMember p g stripe i) s

end Sys2Proof.Machine
end

