-- ==== Sys2Proof/Machine/Entries.lean ====
section
/-! DEFINITION. The Manifest entry through which strips are written (R88, R103, R104, R107): staging, the start of the
member writes, the commit of a strip (R87) and the retirement of the entry, the stale map (R161) and the acknowledgement
of write-through commands (R80). -/

namespace Sys2Proof.Machine

/-! ### Ceiling and space -/

/-- `ceiling_mib` of R72. -/
def ceilingMib (eMj pW prot : Nat) : Int :=
  let tUs := if pW = 0 then 0 else (eMj * 1000) / pW
  if tUs ≤ 400000 then 0
  else
    let covered := ((tUs - 400000) * 30720) / 1000000
    (min prot covered : Nat) - 64

/-- Blocks of 4,160 bytes that lie below a ceiling (R71). -/
def blocksBelow (mib : Int) : Nat := mib.toNat * 1048576 / 4160

/-- Staged check blocks that count as held (R104): those of a destage from the protected region, unless CHK_OUT. -/
def stagedChecks (s : Part) : Nat :=
  s.man.entries.foldl (fun n e =>
    if e.chkOut || e.state = .through || e.state = .stalled then n
    else
      match s.charter? e.pool with
      | some c =>
        let g := c.geoOf e.stripe
        n + (if g.mirror then 0 else (e.staged.filter (fun x => decide (g.h.k ≤ x.1))).length)
      | none => n) 0

/-- Blocks the data area holds: held blocks of every pool and open transactions, staged checks, shadow blocks (R74, R104,
R300). -/
def Part.heldBlocks (s : Part) : Nat :=
  (s.man.held.filter (fun b => !b.through)).length + stagedChecks s +
    (s.pools.map (fun p => p.pair.shadow.length)).foldl (· + ·) 0

/-- The ceiling a pool's writes are admitted against (R73). -/
def Part.ceilingFor (s : Part) (p : PoolSt) : Int :=
  match s.sched.twinCeiling with
  | some t => if p.pair.state = 2 then min s.sched.ceiling t else s.sched.ceiling
  | none => s.sched.ceiling

/-- ADMIT_STATE (R75). -/
def admitStateOf (s : Part) : Nat :=
  if blocksBelow s.sched.ceiling < s.heldBlocks then 2
  else if s.sched.ceiling < 1024 then 3
  else if s.sched.ceiling < (s.sched.protMib : Int) - 64 then 1
  else 0

def refreshAdmitState (s : Part) : Part :=
  let new := admitStateOf s
  let old := s.sched.admitState
  if new = old then s
  else
    log 0x0502 0 (leBytes 1 old ++ leBytes 1 new ++ leBytes 4 (BitVec.ofInt 32 s.sched.ceiling).toNat)
      (s.modSched (fun x => { x with admitState := new }))

/-! ### Entries -/

/-- The generation in force changed the placement of a stripe and its checkpoint is not valid yet (R109 case 4). -/
def PoolSt.placementMoved (p : PoolSt) (stripe : Nat) : Bool :=
  if p.ckpt.moved.isEmpty then false
  else
    let g := p.charter.geoOf stripe
    (g.braid.homes (stripe - g.off)).any (fun o => g.braid.relocated o || p.ckpt.moved.contains (g.entries.getD o 0))

/-- A stripe whose member writes may start (R107; while a checkpoint is being written only those of both sets, R110). -/
def PoolSt.mayWrite (p : PoolSt) (stripe : Nat) : Bool :=
  p.inIntent stripe && !p.placementMoved stripe &&
    (match p.ckpt.build with
     | some b => b.image.intent.contains stripe
     | none => true)

/-- The places of the strips a destage is about to write, under the generation in force (R64, R65): (strip, member, MBA). -/
def placesNow (s : Part) (ps : PoolSt) (g : Geo) (e : MEntry) : List (Nat × Nat × Nat) :=
  e.mask.flatMap (fun i => (s.places ps g e.whole e.stripe i).map (fun pl => (i, pl.1, pl.2)))

/-- The member writes of a destage, at the places they were built for (R84 step 5, R65). -/
def issueStripWrites (p stripe : Nat) (s : Part) : Part :=
  match s.pool? p, s.entry? p stripe with
  | some ps, some e =>
    let g := ps.charter.geoOf stripe
    e.places.foldl (fun st x =>
      let fua := ((st.member? x.2.1).map MemberSt.needsFua).getD true
      enqueueCmd x.2.1 (.writeStrip p stripe x.1) e.cls false fua x.2.2 g.h.sb st) s
  | _, _ => s

/-- The twin has confirmed the tide that carries an entry's transition, or need not (R104, R299). -/
def Part.twinHas (s : Part) (p tide : Nat) : Bool :=
  match s.pool? p with
  | some ps => if ps.pair.state = 2 then decide (tide ≤ s.mark p) else true
  | none => true

/-- An owner's news for the twin goes with the next tide seal (R88, R118, R153). -/
def tellTwin (p : Nat) (n : TwinNews) (s : Part) : Part :=
  match s.pool? p with
  | some ps => if (ps.pair.state = 1 ∨ ps.pair.state = 2) ∧ ps.owned then s.modMan (fun m => { m with news := m.news ++ [n] }) else s
  | none => s

/-- Stale map (R161): the bit is set when a relocated ordinal's strip changed otherwise than by a write to its home member
alone: omitted, written to the lane slot, or in the dual-write window. -/
def markStale (ps : PoolSt) (g : Geo) (stripe i : Nat) (written : List (Nat × Nat)) (s : Part) : Part :=
  let (o, row) := g.braid.locate (stripe - g.off) i
  let e := g.entries.getD o 0
  if written = [(g.ids.getD o 16384, g.braid.rowMba row)] then s
  else
    s.modPool ps.id (fun x =>
      if x.reb.stale.contains (e, g.groupOf stripe) then x
      else { x with reb := { x.reb with stale := x.reb.stale ++ [(e, g.groupOf stripe)] } })

/-- The highest tide whose every block is committed (Table 5.4). -/
def Part.destagedThrough (s : Part) : Nat :=
  let tides := (s.man.held.filter (fun b => !b.through)).map (·.tide)
  match tides with
  | [] => s.sched.tideNow - 1
  | t :: ts => (ts.foldl min t) - 1

/-- Strips that still hold blocks of a stripe. -/
def heldStrips (l : List Held) : List Nat := sortNats (l.map (·.strip)).eraseDups

/-- Entries of stripes whose held blocks changed: one without blocks and without a destage returns to FREE (R117 step 1,
R93); TX follows the blocks left (Table 5.2). -/
def settleEntry (p stripe : Nat) (s : Part) : Part :=
  match s.entry? p stripe with
  | none => s
  | some e =>
    let l := s.heldOf p stripe
    if l.isEmpty && e.state = .held && !e.built && e.synd = 0 then dropEntry p stripe s
    else s.modEntry p stripe (fun x => { x with tx := l.any (·.tx.isSome), mask := if x.state = .held ∧ ¬ x.built then heldStrips l else x.mask })

def settleEntries (l : List Held) (s : Part) : Part :=
  ((l.map (fun b => (b.pool, b.stripe))).eraseDups).foldl (fun st x => settleEntry x.1 x.2 st) s

/-- A host write that is acknowledged replaces a lost block's marker and resolves a divergent block (R139, R148); where it
resolved one, the stripe is examined again. -/
def coverBlock (p stripe i bo : Nat) (s : Part) : Part :=
  let there := ((s.pool? p).map (fun x => x.int.diverged.any (fun d => d.stripe == stripe && d.bo == bo && d.strip == i))).getD false
  let s := clearDiverged p stripe i bo (clearLost p stripe i bo s)
  if there then examineLater p stripe s else s

/-- Every block an acknowledged command wrote. -/
def coverAll (l : List (Nat × Nat × Nat × Nat)) (s : Part) : Part :=
  l.foldl (fun st a => coverBlock a.1 a.2.1 a.2.2.1 a.2.2.2 st) s

/-- Write-through commands whose last stripe has committed are acknowledged (R67, R80). -/
def ackThrough (done : List (Nat × BitVec 32)) (s : Part) : Part :=
  done.eraseDups.foldl (fun st ch =>
    if st.man.held.any (fun b => b.through && b.chain == ch.1 && b.hseq == ch.2) then st
    else
      match st.cmd? ch.1 ch.2 with
      | some c => if c.through then complete ch.1 ch.2 0x00 0 (coverAll c.covers st) else st
      | none => st) s

/-- Strips of a stripe that hold its data once a write has committed: those it wrote where it could, and the others that are
not missing. -/
def afterWrite (s : Part) (ps : PoolSt) (g : Geo) (stripe : Nat) (mask written : List Nat) : List Bool :=
  (presence s ps g stripe).mapIdx (fun i b => if mask.contains i then written.contains i else b)

/-- More than M strips stay missing once the write's strips are placed (R80, R160): it cannot be committed. -/
def fallsShort (s : Part) (ps : PoolSt) (g : Geo) (stripe : Nat) (mask written : List Nat) : Bool :=
  decide (marginOf g.h (afterWrite s ps g stripe mask written) < 0)

/-- A write-through stripe that cannot be committed (R80): its blocks go, its commands complete with UNRECOVERED. -/
def failThrough (p : PoolSt) (stripe : Nat) (s : Part) : Part :=
  let mine := (s.heldOf p.id stripe).filter (·.through)
  let cmds := (mine.map (fun b => (b.chain, b.hseq))).eraseDups
  let s1 := cmds.foldl (fun st ch =>
    let lbas := (s.man.held.filter (fun b => b.through && b.chain == ch.1 && b.hseq == ch.2 && b.pool == p.id &&
      (b.stripe == stripe || beyondRepair s p (p.charter.geoOf b.stripe) b.stripe))).map (fun b => (b.vol, b.lba))
    match lbas with
    | [] => st
    | x :: xs => complete ch.1 ch.2 0x30 (infoOf x.1 (xs.foldl (fun a b => min a b.2) x.2)) st) s
  let s2 := settleEntries mine (s1.modMan (fun m => { m with held := m.held.filter (fun b =>
    !(b.pool == p.id && b.stripe == stripe && b.through)) }))
  match s2.entry? p.id stripe with
  | some e =>
    if (s2.heldOf p.id stripe).isEmpty && e.state == .through then dropEntry p.id stripe s2
    else s2.modEntry p.id stripe (fun x => { x with
      state := if x.state = .through then .held else x.state, built := false, staged := [], snap := [], left := [], places := [], done := [] })
  | none => s2

/-- The offset of a stripe is consistent as stored now (R136, R137). -/
def offsetClean (s : Part) (p : PoolSt) (g : Geo) (stripe bo : Nat) : Bool :=
  let units := ((List.range g.w).map (readStrip s p g [] stripe bo)).map (StripRead.unit? g.fmt)
  if g.mirror then ((units.filterMap id).eraseDups).length ≤ 1
  else
    match decodeAt p g stripe bo units with
    | .clean _ => true
    | _ => false

/-- Resolving rewrites of a stripe have committed (R139): the blocks named, and every block at an offset that is consistent
now, are resolved. -/
def resolutionsDone (p stripe : Nat) (s : Part) : Part :=
  match s.pool? p with
  | none => s
  | some ps =>
    let done := ps.int.resolving.filter (fun d => d.stripe == stripe)
    let g := ps.charter.geoOf stripe
    let clean := ((done.map (·.bo)).eraseDups).filter (fun bo => offsetClean s ps g stripe bo)
    s.modPool p (fun x => { x with int := { x.int with
      resolving := x.int.resolving.filter (fun d => d.stripe != stripe)
      diverged := x.int.diverged.filter (fun d => !(done.contains d || (d.stripe == stripe && clean.contains d.bo))) } })

/-- An entry between destages: HELD or THROUGH over the blocks `rest`. -/
def MEntry.resting (e : MEntry) (rest : List Held) : MEntry :=
  { e with state := if rest.all (·.through) then .through else .held, mask := heldStrips rest, left := [], places := [], done := []
           staged := [], snap := [], built := false, rmw := false, chkOut := false, syndFail := false, synd := 0, cls := 5
           whole := false, replay := false, tried := false, stalledAt := none, firstTide := (rest.map (·.tide)).foldl min (e.firstTide + 2 ^ 48) % 2 ^ 48 }

/-- The strips a whole-stripe write put into lane slots count as rebuilt (R64, R160). -/
def wholeRebuilt (g : Geo) (e : MEntry) (acc : List (Nat × Nat)) : List (Nat × Nat) :=
  e.done.foldl (fun acc x =>
    let (o, _) := g.braid.locate (e.stripe - g.off) x.1
    let en := g.entries.getD o 0
    let lane := (g.braid.place (e.stripe - g.off) x.1).map (fun z => (g.ids.getD z.1 16384, g.braid.rowMba z.2))
    if g.braid.relocated o && !acc.contains (en, e.stripe) && decide (lane = some x.2) then acc ++ [(en, e.stripe)] else acc) acc

/-- Blocks of a destage stay clean in the read cache where nothing newer is held (R88); what was there before them goes. -/
def keepClean (e : MEntry) (gone : List Held) (s : Part) : Part :=
  let s := dropClean e.pool (fun b => b.stripe == e.stripe && e.staged.any (fun x => x.1 == b.strip && x.2.1 == b.bo)) s
  let fresh := ((gone.filter (fun b => e.staged.any (fun x => x.1 == b.strip && x.2.1 == b.bo && decide (x.2.2 = b.block)) &&
    (s.heldAt e.pool e.stripe b.strip b.bo).isNone)).map (fun b =>
      ({ pool := b.pool, stripe := b.stripe, strip := b.strip, bo := b.bo, block := b.block } : CleanBlk))).eraseDups
  s.modMan (fun m => { m with clean := m.clean ++ fresh })

/-- The checks of an offset that a destage wrote whole are current (R145, R412). -/
def rechecked (g : Geo) (e : MEntry) (l : List (Nat × Nat × Bool)) : List (Nat × Nat × Bool) :=
  l.filter (fun r => !(r.1 == e.stripe && ((List.range g.w).filter (fun i => g.isCheck i)).all (fun i =>
    e.staged.any (fun x => x.1 == i && x.2.1 == r.2.1) && e.done.any (fun x => x.1 == i))))

/-- Every strip is committed: the entry retires (R88), or stays in flight for blocks written after the snapshot (R82). A write
that too few strips took is not committed: its blocks stay held, or are given up (R80, R85). -/
def retire (p stripe : Nat) (s : Part) : Part :=
  match s.pool? p, s.entry? p stripe with
  | some ps, some e =>
    let g := ps.charter.geoOf stripe
    let s := e.mask.foldl (fun st i => markStale ps g stripe i ((e.done.filter (fun x => x.1 == i)).map (·.2)) st) s
    let isGone (b : Held) : Bool := b.pool == p && b.stripe == stripe && e.snap.contains (b.strip, b.bo, b.gen)
    let gone := s.man.held.filter isGone
    if !gone.isEmpty && fallsShort s ps g stripe e.mask (e.done.map (·.1)) then
      if e.state = .through then failThrough ps stripe s
      else (s.modEntry p stripe (fun x => x.resting (s.heldOf p stripe))).modMan (fun m => { m with nChanges := m.nChanges + 1 })
    else
      let s := s.modPool p (fun x => { x with
        reb := if e.whole then { x.reb with rebuilt := wholeRebuilt g e x.reb.rebuilt } else x.reb
        int := { x.int with recheck := rechecked g e x.int.recheck } })
      let s := s.modMan (fun m => { m with held := m.held.filter (fun b => !isGone b), nRetired := m.nRetired + 1 })
      let s := keepClean e gone s
      let s := tellTwin p (.retired p stripe ((gone.filter (fun b => !b.through)).map (fun b => (b.strip, b.bo, b.gen)))) s
      let rest := s.heldOf p stripe
      let s := if rest.isEmpty then dropEntry p stripe s
        else (s.modEntry p stripe (fun x => x.resting rest)).modMan (fun m => { m with nChanges := m.nChanges + 1 })
      let s := refreshAdmitState (s.modMan (fun m => { m with destagedTide := max m.destagedTide s.destagedThrough }))
      ackThrough ((gone.filter (·.through)).map (fun b => (b.chain, b.hseq))) (resolutionsDone p stripe s)
  | _, _ => s

def retireIfDone (p stripe : Nat) (s : Part) : Part :=
  match s.entry? p stripe with
  | some e => if e.left.isEmpty && !e.built && (e.state = .writing || e.state = .through) && !e.mask.isEmpty then retire p stripe s
    else s
  | none => s

/-- A built stripe starts its member writes once it is in the intent set and the twin knows (R104, R107, R299). Strips
that no member can take are omitted (R64). -/
def promote (p stripe : Nat) (s : Part) : Part :=
  match s.pool? p, s.entry? p stripe with
  | some ps, some e =>
    if !e.built || !ps.mayWrite stripe || e.state = .stalled || !s.twinHas p e.readyTide then s
    else
      let pls := placesNow s ps (ps.charter.geoOf stripe) e
      let s := s.modEntry p stripe (fun x => { x with
        built := false, left := e.mask.filter (fun i => pls.any (fun y => y.1 == i)), places := pls, done := []
        state := if x.state = .held then .writing else x.state })
      let s := if e.state = .held then s.modMan (fun m => { m with nChanges := m.nChanges + 1 }) else s
      retireIfDone p stripe (issueStripWrites p stripe s)
  | _, _ => s

/-- Every built stripe of a pool that may now start does. -/
def promoteAll (p : Nat) (s : Part) : Part :=
  ((s.man.entries.filter (fun e => e.pool == p && e.built)).map (·.stripe)).foldl (fun st x => promote p x st) s

/-- Strips of a set of blocks, ascending and distinct. -/
def stripsOf (blocks : List (Nat × Nat × Block)) : List Nat := sortNats (blocks.map (·.1)).eraseDups

/-- What a destage or repair will write is staged under the stripe's entry (R104). -/
def stageWrites (p stripe : Nat) (blocks : List (Nat × Nat × Block)) (s : Part) : Part :=
  let s := s.modEntry p stripe (fun e => { e with
    staged := blocks, mask := stripsOf blocks, left := [], places := [], done := [], built := true, readyTide := s.sched.tideNow })
  promote p stripe (needIntent p stripe (tellTwin p (.writing p stripe) s))

/-- A rewrite of scrub, repair or arbitration: a member write under an entry within the intent set (R103, R131, R143).
A stripe whose entry is in use is left to be examined again (R137, R144). The class is that of the traffic that found the fault (R201). -/
def stageRepair (cls p stripe : Nat) (blocks : List (Nat × Nat × Block)) (s : Part) : Part :=
  if blocks.isEmpty then s
  else if (s.entry? p stripe).isSome || decide (maxEntries ≤ s.man.entries.length) then examineLater p stripe s
  else stageWrites p stripe blocks ((addEntry p stripe .through s).modEntry p stripe (fun e => { e with cls := cls }))

/-- A strip's staged blocks reach the members, at the places the writes were built for (R57, R65, R130). -/
def storeStrip (ps : PoolSt) (g : Geo) (e : MEntry) (i : Nat) (s : Part) : Part :=
  let blocks := e.staged.filter (fun x => x.1 == i)
  ((e.places.filter (fun x => x.1 == i && s.takes x.2.1)).map (·.2)).foldl (fun st pl =>
    st.modMember pl.1 (fun m =>
      let m := blocks.foldl (fun (m : MemberSt) x =>
        m.store (pl.2 + x.2.1) (stampBlock (g.isCheck i) g.fmt i ps.id (pl.2 + x.2.1) x.2.2)) m
      { m with recentWrites := (pl.2 :: m.recentWrites).take 4096 })) s

/-- A member reports a strip write durable (R87); the entry retires with its last strip (R88). -/
def commitStrip (p stripe strip : Nat) (s : Part) : Part :=
  match s.pool? p, s.entry? p stripe with
  | some ps, some e =>
    if (e.state = .writing || e.state = .through) && e.left.contains strip then
      let g := ps.charter.geoOf stripe
      let s := storeStrip ps g e strip s
      let s := s.modEntry p stripe (fun x => { x with
        left := x.left.filter (· != strip), done := x.done ++ x.places.filter (fun y => y.1 == strip && s.takes y.2.1) })
      retireIfDone p stripe s
    else s
  | _, _ => s

/-- Strips of a pool whose member can take no write any more are omitted from the destages in progress (R85, R64). -/
def dropUnwritable (p : Nat) (s : Part) : Part :=
  ((s.man.entries.filter (fun e => e.pool == p && !e.left.isEmpty)).map (·.stripe)).foldl (fun st stripe =>
    retireIfDone p stripe (st.modEntry p stripe (fun x =>
      let pls := x.places.filter (fun y => st.takes y.2.1)
      { x with places := pls, left := x.left.filter (fun i => pls.any (fun y => y.1 == i)) }))) s

end Sys2Proof.Machine
end

