-- ==== Sys2Proof/Machine/CkptOps.lean ====
section
/-! DEFINITION. Manifest homes (R113–R115), checkpoints and extensions (R107–R112). -/

namespace Sys2Proof.Machine

/-! ### Homes -/

/-- Ordinals that may be a home (R113; on a paired pool only members that support reservations, R294). -/
def eligibleHomes (s : Part) (ps : PoolSt) : List Nat :=
  (List.range ps.charter.geo.ids.length).filter (fun o =>
    [2, 3].contains (ps.charter.geo.sts.getD o 0) && !ps.reb.failing.contains o &&
      (match s.member? (ps.charter.idAt o) with
       | some m => decide (m.state = 2) && (!ps.charter.paired || m.info.reservations)
       | none => false))

/-- The unit of separation of R113: 0 racks, 1 enclosures, 2 members. -/
def sepKind (c : Charter) : Nat :=
  if 3 ≤ ((c.members.map (·.rack)).eraseDups).length then 0
  else if 3 ≤ ((c.members.map (·.encl)).eraseDups).length then 1
  else 2

def sepOf (c : Charter) (o : Nat) : Nat :=
  match c.memberAt o with
  | some m => if sepKind c = 0 then m.rack else if sepKind c = 1 then m.encl else o
  | none => o

/-- The lowest eligible ordinal whose unit of separation holds none of `keep`. -/
def pickHome (c : Charter) (eligible keep : List Nat) : Option Nat :=
  (sortNats eligible).find? (fun o => !keep.contains o && !(keep.map (sepOf c)).contains (sepOf c o))

/-- Three homes by R113, `n` picks. -/
def pickHomes (c : Charter) (eligible : List Nat) : Nat → List Nat → List Nat
  | 0, keep => keep
  | n + 1, keep =>
    match pickHome c eligible keep with
    | some o => pickHomes c eligible n (keep ++ [o])
    | none => keep

/-- Replacement of a lost home (R114): outside the lost home's enclosure, in a rack that holds no surviving home. -/
def replaceHome (c : Charter) (eligible survivors : List Nat) (lost : Nat) : Option Nat :=
  pickHome c (eligible.filter (fun o => decide ((c.memberAt o).map (·.encl) ≠ (c.memberAt lost).map (·.encl)))) survivors

/-- Homes of the next checkpoint: those in force with every lost one replaced (R114), or a first choice (R113). -/
def nextHomes (s : Part) (ps : PoolSt) : List Nat :=
  let el := eligibleHomes s ps
  if ps.ckpt.homes.isEmpty then pickHomes ps.charter el 3 []
  else
    let alive := ps.ckpt.homes.filter (fun o => !ps.ckpt.lostHomes.contains o)
    let repl := (ps.ckpt.homes.filter (fun o => ps.ckpt.lostHomes.contains o)).foldl (fun (acc : List Nat × List (Nat × Nat)) lost =>
      match replaceHome ps.charter el acc.1 lost with
      | some o => (acc.1 ++ [o], acc.2 ++ [(lost, o)])
      | none => acc) (alive, [])
    ps.ckpt.homes.filterMap (fun o => if alive.contains o then some o else alGet o repl.2)

/-- A checkpoint out of schedule is due for a case of R109. -/
def CkptSt.addDue (n : Nat) (x : CkptSt) : CkptSt := { x with due := if x.due.contains n then x.due else x.due ++ [n] }

def addDue (p n : Nat) (s : Part) : Part := s.modPool p (fun x => { x with ckpt := x.ckpt.addDue n })

/-- The homes of a checkpoint being written that can still complete it (R114). -/
def CkptBuild.alive (b : CkptBuild) : List Nat := b.image.homes.filter (fun o => !b.lost.contains o)

/-- A home is lost (R114): a checkpoint out of schedule is due; one being written that two homes cannot complete any more is
built anew; growth that becomes held is recorded (R115). -/
def loseHome (p o : Nat) (s : Part) : Part :=
  match s.pool? p with
  | none => s
  | some ps =>
    let inForce := ps.ckpt.homes.contains o && !ps.ckpt.lostHomes.contains o
    let s := match ps.ckpt.build with
      | some b =>
        if b.image.homes.contains o && !b.lost.contains o then
          let b := { b with lost := b.lost ++ [o] }
          s.modPool p (fun x => { x with ckpt := if b.alive.length < 2 then { x.ckpt with build := none }.addDue 1
            else { x.ckpt with build := some b } })
        else s
      | none => s
    if inForce then
      let s := s.modPool p (fun x => { x with ckpt := { x.ckpt with lostHomes := x.ckpt.lostHomes ++ [o] }.addDue 1 })
      match s.pool? p with
      | some ps2 => if !ps.growthHeld && ps2.growthHeld then log 0x0B02 p (leBytes 8 ps2.ckpt.seq) s else s
      | none => s
    else s

/-! ### Checkpoints -/

/-- Stripes with a member write waiting or outstanding (R109). -/
def stripesWriting (s : Part) (p : Nat) : List Nat :=
  s.members.flatMap (fun m => (m.outstanding ++ m.waiting).filterMap (fun c =>
    match c.op with
    | .writeStrip q stripe _ => if q = p then some stripe else none
    | _ => none))

/-- The intent set of a checkpoint built now (R109), with the old intent set of a takeover (R308). -/
def intentNow (s : Part) (ps : PoolSt) : List Nat :=
  sortNats (((s.man.entries.filter (fun e => e.pool == ps.id)).map (·.stripe)) ++ stripesWriting s ps.id ++
    ps.pair.oldIntent).eraseDups

/-- Writes built under an older charter generation are still outstanding (R109 case 4). -/
def oldWritesOut (s : Part) (ps : PoolSt) : Bool :=
  s.man.entries.any (fun e => e.pool == ps.id && !e.left.isEmpty && e.genLo != ps.charter.gen % 65536)

/-- Ranges (first, count) of an ascending list of stripes (Table 5.7: at most 65,536 stripes a range). -/
def rangesOf : List Nat → List (Nat × Nat)
  | [] => []
  | x :: xs =>
    match rangesOf xs with
    | (f, c) :: r => if f = x + 1 ∧ c < 65536 then (x, c + 1) :: r else (x, 1) :: (f, c) :: r
    | [] => [(x, 1)]

/-- First block of a checkpoint's slot (Table 5.5) and of its lost-block table slot (R147). -/
def slotAt (seq : Nat) : Nat := 2576 + seq % 2 * 4096
def lostSlotAt (seq : Nat) : Nat := 2064 + seq % 2 * 256

/-- Block of an extension in the ring (Table 5.5). -/
def extAt (seq : Nat) : Nat := 10768 + (seq - 1)

/-- Structure writes to each of the homes: FUA, class 0 (R110). -/
def writeToHomes (ps : PoolSt) (homes : List Nat) (mba count : Nat) (s : Part) : Part :=
  homes.foldl (fun st o => enqueueCmd (ps.charter.idAt o) .structureWrite 0 false true mba count st) s

/-- A checkpoint goes to its homes: the lost-block table slot, the intent blocks, then the header (R110, R147). -/
def writeCkpt (ps : PoolSt) (b : CkptBuild) (s : Part) : Part :=
  let c := b.image.seq
  let blocks := ceilDiv (rangesOf b.image.intent).length 512
  let s := writeToHomes ps b.image.homes (lostSlotAt c) (1 + ceilDiv b.lostImage.entries.length 128) s
  let s := if blocks = 0 then s else writeToHomes ps b.image.homes (slotAt c + 1) blocks s
  writeToHomes ps b.image.homes (slotAt c) 1 s

/-- An extension goes to the homes of its base (R108). -/
def writeExt (ps : PoolSt) (e : ExtImage) (s : Part) : Part := writeToHomes ps ps.ckpt.homes (extAt e.seq) 1 s

/-- The order of a table slot's entries (R147). -/
def LostEntry.upTo (a b : LostEntry) : Bool :=
  decide (a.stripe < b.stripe) || (a.stripe == b.stripe && (decide (a.bo < b.bo) || (a.bo == b.bo && decide (a.strip ≤ b.strip))))

/-- Entries a table slot holds (R147). -/
def lostMax : Nat := 32640

/-- The lost-block table as the slot written with checkpoint `seq` holds it (R147). -/
def lostImageOf (ps : PoolSt) (seq : Nat) : LostImage where
  seq := seq
  poolUuid := ps.charter.uuid
  overflow := decide (lostMax < ps.int.lost.length)
  entries := (ps.int.lost.mergeSort LostEntry.upTo).take lostMax

/-- POOL_LOST_STATE (R149): 1 while the survey runs, 2 while the slot in force is in OVERFLOW. -/
def refreshLostState (p : Nat) (s : Part) : Part :=
  s.modPool p (fun x => { x with int := { x.int with
    lostState := if !x.int.survey.isEmpty then 1 else if x.ckpt.inForce.any (fun i => i.2.overflow) then 2 else 0 } })

/-- A checkpoint is built (R109, R110): at the interval, or out of schedule when one is due; after a generation that moves
strips, once no write built under the old one is outstanding. -/
def buildCheckpoint (p : Nat) (s : Part) : Part :=
  match s.pool? p with
  | none => s
  | some ps =>
    if ps.life = 0 || !ps.owned || ps.ckpt.build.isSome || (ps.ckpt.due.contains 4 && oldWritesOut s ps) then s
    else
      let image : CkptImage :=
        { seq := max ps.ckpt.seq ps.pair.announcedSeq + 1, tide := s.sched.tideNow - 1, destagedTide := s.man.destagedTide,
          charterGen := ps.charter.gen, homes := nextHomes s ps, outOfSchedule := !ps.ckpt.due.isEmpty,
          writeThrough := ps.writeState == 1, noManifest := decide (s.sched.ceiling ≤ 0), intent := intentNow s ps,
          lostCount := ps.int.lost.length, written := s.timeUs, poolUuid := ps.charter.uuid }
      let b : CkptBuild := { image := image, lostImage := lostImageOf ps image.seq, reported := [], lost := []
                             announceTide := if ps.pair.state = 2 then some s.sched.tideNow else none }
      let s := if sepKind ps.charter = 2 then noted 11 113 3 (leBytes 1 p ++ leBytes 8 image.seq) s else s
      let s := tellTwin p (.checkpoint p image.seq) (s.modPool p (fun x => { x with ckpt := { x.ckpt with build := some b, due := [] } }))
      if ps.pair.state = 2 then s else writeCkpt ps b s

/-- The twin knows of an announced structure (R299), or the pool is not paired. -/
def announced (s : Part) (p : Nat) : Option Nat → Bool
  | some t => s.twinHas p t
  | none => true

/-- A checkpoint with its table slot stored in the slots of a member's home area (R110, R147: slot c mod 2). -/
def MemberSt.putCkpt (m : MemberSt) (i : CkptImage × LostImage) : MemberSt :=
  { m with ckpts := m.ckpts.filter (fun x => x.seq % 2 != i.1.seq % 2) ++ [i.1]
           lostSlots := m.lostSlots.filter (fun x => x.seq % 2 != i.2.seq % 2) ++ [i.2] }

/-- An extension stored in its block of the ring. -/
def MemberSt.putExt (m : MemberSt) (e : ExtImage) : MemberSt := { m with exts := m.exts.filter (fun x => x.seq != e.seq) ++ [e] }

/-- Distinct ordinals of the homes that report. -/
def reporting (homes : List Nat) (who : List (Fin 3)) : List Nat :=
  (who.filterMap (fun h => homes[h.val]?)).eraseDups

/-- Homes replaced between two checkpoints, in order of their positions. -/
def rehomed (old new : List Nat) : List (Nat × Nat) :=
  (old.zip new).filter (fun p => p.1 != p.2)

/-- A checkpoint that two of its homes hold takes force (R110, R112): extensions of the one before lapse. -/
def takeForce (p : Nat) (b : CkptBuild) (s : Part) : Part :=
  match s.pool? p with
  | none => s
  | some ps =>
    let s := (rehomed ps.ckpt.homes b.image.homes).foldl (fun st h =>
      log 0x0B01 p (leBytes 2 (ps.charter.idAt h.1) ++ leBytes 2 (ps.charter.idAt h.2) ++ leBytes 8 b.image.seq) st) s
    let dropped := ps.ckpt.intent.filter (fun z => !b.image.intent.contains z &&
      s.man.entries.any (fun e => e.pool == p && e.stripe == z && e.built))
    let s := s.modPool p (fun x =>
      let y : CkptSt := { x.ckpt with
        seq := b.image.seq, homes := b.image.homes, lostHomes := b.lost, intent := b.image.intent, extSeq := 0, build := none
        extBuild := none, extReported := [], inForce := some (b.image, b.lostImage), exts := []
        ready := ((x.ckpt.ready ++ dropped).eraseDups).filter (fun z => !b.image.intent.contains z)
        moved := if x.ckpt.due.contains 4 then x.ckpt.moved else [], tide := b.image.tide, destagedTide := b.image.destagedTide }
      { x with pair := { x.pair with oldIntent := [] }, ckpt := if b.lost.isEmpty then y else y.addDue 1 })
    promoteAll p (refreshLostState p s)

/-- Homes report a checkpoint committed (R110): they hold it; the second makes it valid, a later one only stores it. -/
def checkpointTakesForce (p : Nat) (who : List (Fin 3)) (s : Part) : Part :=
  match s.pool? p with
  | none => s
  | some ps =>
    let put (homes : List Nat) (i : CkptImage × LostImage) (s : Part) : Part :=
      homes.foldl (fun st o => st.modMember (ps.charter.idAt o) (fun m => m.putCkpt i)) s
    match ps.ckpt.build with
    | none =>
      match ps.ckpt.inForce with
      | some i => put (reporting ps.ckpt.homes who) i s
      | none => s
    | some b =>
      if !announced s p b.announceTide then s
      else
        let homes := reporting b.alive who
        let b := { b with reported := (b.reported ++ homes).eraseDups }
        let s := put homes (b.image, b.lostImage) (s.modPool p (fun x => { x with ckpt := { x.ckpt with build := some b } }))
        if 2 ≤ b.reported.length then takeForce p b s else s

/-! ### Extensions -/

/-- Range entries a checkpoint holds (Table 5.6). -/
def maxRanges : Nat := 2096640

/-- Ready stripes that fit the 504 ranges of one extension (R108, Table 5.8). -/
def extensionStripes (ready : List Nat) : List Nat :=
  ((rangesOf (sortNats ready)).take 504).flatMap (fun r => (List.range r.2).map (fun i => r.1 + i))

/-- An extension is built with every stripe that became ready (R108); none while growth is held (R115). When EXT_SEQ would
reach 4,097, or the ranges would exceed a checkpoint's capacity, a checkpoint out of schedule is due instead (R109 cases 2 and
3). -/
def buildExtension (p : Nat) (s : Part) : Part :=
  match s.pool? p with
  | none => s
  | some ps =>
    if !ps.owned || ps.ckpt.ready.isEmpty || ps.ckpt.extBuild.isSome || ps.growthHeld || ps.ckpt.seq = 0 then s
    else if 4096 ≤ ps.ckpt.extSeq then addDue p 2 s
    else
      let e : ExtImage := { seq := ps.ckpt.extSeq + 1, baseSeq := ps.ckpt.seq, tide := s.sched.tideNow,
                            intent := extensionStripes ps.ckpt.ready, poolUuid := ps.charter.uuid }
      if maxRanges < (rangesOf (sortNats (ps.ckpt.intent ++ e.intent).eraseDups)).length then addDue p 3 s
      else
        let s := tellTwin p (.extension p e.intent)
          (s.modPool p (fun x => { x with ckpt := { x.ckpt with extBuild := some e, extReported := [] } }))
        if ps.pair.state = 2 then s else writeExt ps e s

/-- Homes of the base report an extension committed (R108, R112): the second makes it valid, and it takes effect at once. -/
def extensionTakesEffect (p : Nat) (who : List (Fin 3)) (s : Part) : Part :=
  match s.pool? p with
  | none => s
  | some ps =>
    let homes := (reporting ps.ckpt.homes who).filter (fun o => !ps.ckpt.lostHomes.contains o)
    let put (e : ExtImage) (s : Part) : Part :=
      homes.foldl (fun st o => st.modMember (ps.charter.idAt o) (fun m => m.putExt e)) s
    match ps.ckpt.extBuild with
    | none =>
      match ps.ckpt.exts.getLast? with
      | some e => put e s
      | none => s
    | some e =>
      if decide (ps.pair.state = 2) && !s.twinHas p e.tide then s
      else
        let reported := (ps.ckpt.extReported ++ homes).eraseDups
        let s := put e (s.modPool p (fun x => { x with ckpt := { x.ckpt with extReported := reported } }))
        if reported.length < 2 then s
        else
          promoteAll p (s.modPool p (fun x => { x with ckpt := { x.ckpt with
            extBuild := none, extReported := [], extSeq := e.seq, exts := x.ckpt.exts ++ [e]
            intent := sortNats (x.ckpt.intent ++ e.intent).eraseDups, ready := x.ckpt.ready.filter (fun z => !e.intent.contains z) } }))

/-- POOL_HOME_STATE (Table 5.12). -/
def PoolSt.homeState (p : PoolSt) : Nat := if p.growthHeld then 2 else if p.ckpt.lostHomes.isEmpty then 0 else 1

end Sys2Proof.Machine
end

