-- ==== Sys2Proof/Machine/CharterOps.lean ====
section
/-! DEFINITION. Charter changes (R45), member labels and their release
(R25). -/

namespace Sys2Proof.Machine

/-! ### Labels -/

def labelOf (s : Part) (c : Charter) (m : CMember) (capacity : Nat) : Label where
  format := 1
  inPool := true
  poolUuid := c.uuid
  memberId := m.id
  ordinal := m.ordinal
  capacity := capacity
  charterGen := c.gen
  charterB := capacity - 512
  identity := m.identity
  written := s.timeUs

/-- The label of a released member (R25). -/
def releasedLabel (s : Part) (m : MemberSt) : Label where
  format := 1
  inPool := false
  poolUuid := List.replicate 16 0
  memberId := 0
  ordinal := 0
  capacity := m.info.capacity
  charterGen := 0
  charterB := m.info.capacity - 512
  identity := m.info.identity
  written := s.timeUs

/-- Last block range of a member: charter copy B (Table 2.4). -/
def MemberSt.copyBAt (m : MemberSt) : Nat := m.info.capacity - 512

/-- Copy B's range of a member. -/
def Part.copyBAt (s : Part) (k : Nat) : Nat := ((s.member? k).map MemberSt.copyBAt).getD 0

/-- A release (R25): the label overwritten, both charter copies zeroed; a member flush before it (R203). -/
def releaseMember (k : Nat) (s : Part) : Part :=
  let s := enqueueCmd k .flushCache 0 false false 0 0 s
  let s := enqueueCmd k .structureWrite 0 false true 0 1 s
  let s := enqueueCmd k .structureWrite 0 false true (s.copyBAt k) 512 (enqueueCmd k .structureWrite 0 false true 16 512 s)
  s.modMember k (fun m => { m with label := .good (releasedLabel s m), charterA := none, charterB := none
                                   state := if m.state = 0 ∨ m.state = 4 then m.state else 1, presentAt := s.timeUs
                                   registered := false, fenced := false })

/-- A label makes a member foreign (R25). -/
def LabelRead.foreign : LabelRead → Bool
  | .absent => false
  | .badCrc => true
  | .good l => l.inPool || l.format != 1

/-! ### Content of a change -/

def Charter.modMemberAt (c : Charter) (o : Nat) (g : CMember → CMember) : Charter :=
  { c with members := c.members.modify o g }

def Charter.insertVol (c : Charter) (v : CVol) : Charter :=
  { c with vols := (c.vols.filter (fun x => decide (x.id < v.id))) ++ [v] ++ (c.vols.filter (fun x => decide (v.id < x.id))) }

/-- A state that only a Crossing gives (Table 2.7) ends with it. -/
def afterCross (st : Nat) : Nat := if st = 6 ∨ st = 7 then 2 else st

/-- The pool in its target shape (R177): target parameters, member table in target ordinal order, target BASEs. -/
def Charter.crossed (c : Charter) : Charter :=
  match c.cross with
  | none => c
  | some x =>
    if x.isShape then
      let ms := (x.target.filterMap (fun e => c.members[e]?)).mapIdx (fun i m => { m with ordinal := i, state := afterCross m.state })
      let bases := c.targetBases x
      { c with shape := x.shape, members := ms, cross := none
               vols := c.vols.map (fun v => { v with base := (alGet v.id bases).getD v.base }) }
    else { c with cross := none, members := c.members.map (fun m => { m with state := afterCross m.state }) }

/-- The pool without its Crossing after an abort (R176 step 4): members that belong only to the target leave. -/
def Charter.uncrossed (c : Charter) : Charter :=
  match c.cross with
  | none => c
  | some x => { c with cross := none, members := (c.members.take x.srcCount).map (fun m => { m with state := afterCross m.state }) }

def applyDelta (c : Charter) : CharterDelta → Charter
  | .memberState o st => c.modMemberAt o (fun m => { m with state := st })
  | .initDone => { c with initDone := true }
  | .addVol v => c.insertVol v
  | .growVol id size => { c with vols := c.vols.map (fun v => if v.id = id then { v with size := size } else v) }
  | .delVol id => { c with vols := c.vols.filter (fun v => v.id != id) }
  | .recovery v => { c with recovery := v }
  | .kek id wraps => { c with kekId := id, vols := c.vols.map (fun v => { v with wrapped := (alGet v.id wraps).getD v.wrapped }) }
  | .replace o m => c.modMemberAt o (fun x => { x with id := m.id, protocol := m.protocol, identity := m.identity, state := 1 })
  | .crossStart x new =>
    { c with cross := some x
             members := (c.members.mapIdx (fun e m =>
               if x.isShape && !x.target.contains e && m.state = 2 then { m with state := 6 } else m)) ++ new }
  | .crossSet x => { c with cross := some x }
  | .crossVol x v w => { c with cross := some x, vols := c.vols.map (fun y => if y.id = v then { y with wrapped := w, keyGen := y.keyGen + 1 } else y) }
  | .crossAborted => c.uncrossed
  | .crossDone => c.crossed
  | .paired on uuid pref => { c with paired := on, pairUuid := uuid, prefOwner := pref }

/-- Members a change must reach (R45 step 2). -/
def Charter.listed (c : Charter) : List Nat :=
  (c.members.filter (fun m => [2, 3, 5, 6, 7].contains m.state)).map (·.id)

/-! ### Steps of a change -/

/-- A change is requested (R45): it waits its turn. -/
def queueDelta (p : Nat) (d : CharterDelta) (s : Part) : Part :=
  s.modPool p (fun x => if x.queue.contains d then x else { x with queue := x.queue ++ [d] })

/-- Moves of member state that write no generation by themselves (R45): between ACTIVE and SUSPECT, and among the states of an
ordinal whose member is out of use. -/
def sameStanding (a b : Nat) : Bool := ([2, 3].contains a && [2, 3].contains b) || ([0, 1, 4].contains a && [0, 1, 4].contains b)

/-- Every entry records the state in force when the generation is built (R45). -/
def recordStates (s : Part) (c : Charter) : Charter :=
  { c with members := c.members.map (fun m =>
      match s.member? m.id with
      | some x => if sameStanding m.state x.state then { m with state := x.state } else m
      | none => m) }

/-- Step 1 of R45: number H + 1, CHANGED, CHANGE_TIDE. -/
def numberGeneration (s : Part) (ps : PoolSt) (content : Charter) : Charter :=
  { content with gen := ps.highGen + 1, changed := s.timeUs
                 cross := content.cross.map (fun x => if x.startGen = 0 then { x with startGen := ps.highGen + 1 } else x)
                 changeTide := if ps.charter.paired then s.sched.tideNow + s.leadTides else s.sched.tideNow }

/-- Copy A goes to a member, then its label (R45 step 2): the label's block, at a creation the 16 blocks of its region and
zeros to the reserved one (Table 2.4). -/
def sendCopyA (creation : Bool) (k : Nat) (s : Part) : Part :=
  let s := enqueueCmd k .structureWrite 0 false true 0 (if creation then 16 else 1) (enqueueCmd k .structureWrite 0 false true 16 512 s)
  if creation then enqueueCmd k .structureWrite 0 false true 14864 1520 s else s

/-- Copy B of a generation goes to a member that holds copy A (R45 step 4). -/
def sendCopyB (p gen k : Nat) (s : Part) : Part := enqueueCmd k (.copyB p gen) 0 false true (s.copyBAt k) 512 s

/-- Copy A writes to the reachable listed members that do not hold it. -/
def sendCopies (c : Charter) (creation : Bool) (holders : List Nat) (s : Part) : Part :=
  (c.listed.filter (fun k => s.takes k && !holders.contains k)).foldl (fun st k => sendCopyA creation k st) s

/-- Step 2 of R45: copy A goes to every reachable listed member, on a paired pool once the twin knows (R299). -/
def writeGeneration (p : Nat) (c : Charter) (d : Option CharterDelta) (restoring creation : Bool) (s : Part) : Part :=
  let s := s.modPool p (fun x => { x with
    highGen := c.gen
    change := some { charter := c, delta := d, holders := [], failed := [], restoring := restoring,
                     announceTide := if x.pair.state = 2 then some s.sched.tideNow else none, creation := creation } })
  if ((s.pool? p).map (·.pair.state)).getD 0 = 2 then s else sendCopies c creation [] s

/-- The next waiting change is built (R45): one at a time per pool. -/
def startChange (p : Nat) (s : Part) : Part :=
  match s.pool? p with
  | none => s
  | some ps =>
    match ps.queue with
    | [] => s
    | d :: rest =>
      if ps.life = 0 || !ps.owned || ps.change.isSome || ps.coming.isSome then s
      else
        let s := s.modPool p (fun x => { x with queue := rest })
        writeGeneration p (numberGeneration s ps (recordStates s (applyDelta ps.charter d))) (some d) false false s

/-- The charter as the changes already accepted leave it: what a new definition is checked against. -/
def PoolSt.latest (p : PoolSt) : Charter :=
  let base := match p.change with
    | some ch => if ch.restoring then p.charter else ch.charter
    | none => p.coming.getD p.charter
  p.queue.foldl applyDelta base

/-- A charter change of the pool is under way (R45): the next one waits and is answered PENDING (R368). -/
def PoolSt.changing (p : PoolSt) : Bool := p.change.isSome || p.coming.isSome || !p.queue.isEmpty

/-- A member stands in a pool of this part, or a change under way puts it there (R23). -/
def Part.memberNamed (s : Part) (k : Nat) : Bool :=
  s.pools.any (fun p => p.life != 0 && (p.charter.members ++ p.latest.members).any (fun m => m.id == k))

/-- POOL_COMMIT_RESULT of a rule: status RULE, then DETAIL (Table 15.9). -/
def ruleResult (rule item : Nat) : Nat := 6 + (rule % 65536 + (item % 256) * 65536) * 256

/-- A copy stored on a member with its label (R45 step 2). -/
def putCopyA (c : Charter) (k : Nat) (s : Part) : Part :=
  match c.members.find? (fun m => m.id == k) with
  | none => s
  | some m => s.modMember k (fun x => { x with charterA := some c, label := .good (labelOf s c m x.info.capacity) })

/-- Copy B of generation `gen` is stored on a member, unless a later one follows it there (R45 step 4). -/
def copyBStored (p gen k : Nat) (s : Part) : Part :=
  match s.pool? p with
  | none => s
  | some ps =>
    let c := ps.coming.getD ps.charter
    if ps.life != 0 && c.gen == gen then s.modMember k (fun x => { x with charterB := some c }) else s

/-- A member that returns is brought up to date (R45 step 3): the generation committed or being written goes to it again where
its copy is an older one. -/
def updateCopies (k : Nat) (s : Part) : Part :=
  match s.poolOfMember k, s.member? k with
  | some (p, _), some m =>
    match s.pool? p with
    | none => s
    | some ps =>
      let c := match ps.change with
        | some ch => if announced s p ch.announceTide then ch.charter else ps.coming.getD ps.charter
        | none => ps.coming.getD ps.charter
      if m.charterA.all (fun a => a.gen != c.gen) && c.listed.contains k && s.takes k then sendCopyA false k s
      else if ps.change.isNone && m.charterB.all (fun b => b.gen != c.gen) && s.takes k then sendCopyB p c.gen k s
      else s
  | _, _ => s

/-- The restoring generation (R45): G's content under the next number. -/
def restoreGeneration (p : Nat) (s : Part) : Part :=
  match s.pool? p with
  | some ps => writeGeneration p (numberGeneration s ps ps.charter) none true false s
  | none => s

/-- A change that the part asks of itself: it stays due when a generation that carries it is abandoned. -/
def CharterDelta.internal : CharterDelta → Bool
  | .memberState _ _ | .initDone | .crossSet _ | .crossVol _ _ _ | .crossAborted | .crossDone => true
  | _ => false

/-- The pool keeps generation G (R45): a change of the part's own waits again, a volume that was to go stays. -/
def dropChange (p : Nat) (d : Option CharterDelta) (s : Part) : Part :=
  let s := s.modPool p (fun x => { x with change := none })
  match d with
  | some (.delVol v) => s.modVol v (fun x => { x with life := 1 })
  | some d => if d.internal then queueDelta p d s else s
  | none => s

/-- The creation failed (R45): every reachable member it wrote to, or is writing to, is released. -/
def failCreation (p : Nat) (ch : ChangeBuild) (s : Part) : Part :=
  let wrote := if announced s p ch.announceTide then ch.charter.listed.filter (fun k => s.takes k && !ch.failed.contains k) else []
  (wrote.foldl (fun st k => releaseMember k st) s).modPool p (fun x => { x with
    life := 0, change := none, queue := [], commitResult := ruleResult 45 0 })

/-- A change that cannot reach a majority is abandoned (R45): a creation fails, any other restores generation G. -/
def abandonChange (p : Nat) (s : Part) : Part :=
  match s.pool? p with
  | none => s
  | some ps =>
    match ps.change with
    | none => s
    | some ch =>
      let s := noted 20 45 1 (leBytes 1 p ++ leBytes 8 ch.charter.gen) s
      if ch.creation then failCreation p ch s
      else if ch.restoring then s
      else restoreGeneration p (dropChange p ch.delta s)

/-- Copy A on more than half of the listed members commits the change (R45 step 3); a paired pool's is then proposed. -/
def commitIfMajority (p : Nat) (s : Part) : Part :=
  match s.pool? p with
  | none => s
  | some ps =>
    match ps.change with
    | none => s
    | some ch =>
      let n := ch.charter.listed.length
      if n < 2 * ch.holders.length then
        let s := s.modPool p (fun x => { x with change := none, coming := some ch.charter })
        let s := (ch.holders.filter (fun k => s.takes k)).foldl (fun st k => sendCopyB p ch.charter.gen k st) s
        if ch.charter.paired && decide (s.pair.state = 2 ∨ s.pair.state = 3) then
          proposeAt (.charter ⟨p % 64, Nat.mod_lt _ (by decide)⟩ ch.charter.gen) ch.charter.changeTide s
        else s
      else if 2 * (n - ch.failed.length) ≤ n then abandonChange p s
      else s

/-- A charter copy write ends on a member (R45). After the commit the remaining members are brought up to date. -/
def copyWritten (p k : Nat) (ok : Bool) (s : Part) : Part :=
  match s.pool? p with
  | none => s
  | some ps =>
    match ps.change with
    | none =>
      if ok && ps.life != 0 then
        let c := ps.coming.getD ps.charter
        sendCopyB p c.gen k (putCopyA c k s)
      else s
    | some ch =>
      if !ch.charter.listed.contains k || ch.holders.contains k || !announced s p ch.announceTide then s
      else if ok then
        commitIfMajority p (s.modPool p (fun x => { x with change := some { ch with
          holders := ch.holders ++ [k], failed := ch.failed.filter (· != k) } }) |> putCopyA ch.charter k)
      else
        commitIfMajority p (s.modPool p (fun x => { x with change := some { ch with
          failed := if ch.failed.contains k then ch.failed else ch.failed ++ [k] } }))

/-- A restoring generation is written again where it is not yet (R45: every 10 s). -/
def retryRestore (p : Nat) (s : Part) : Part :=
  match s.pool? p with
  | none => s
  | some ps =>
    match ps.change with
    | none => s
    | some ch =>
      if ch.restoring then
        let s := s.modPool p (fun x => { x with change := some { ch with failed := [] } })
        sendCopies ch.charter false ch.holders s
      else s

/-- A paired pool's generation not committed 10 tides before its CHANGE_TIDE is abandoned; a restoring one is built afresh
with a later tide (R45). -/
def abandonLate (p : Nat) (s : Part) : Part :=
  match s.pool? p with
  | none => s
  | some ps =>
    match ps.change with
    | none => s
    | some ch =>
      if ch.charter.paired && decide (ch.charter.changeTide < s.sched.tideNow + 10) then
        (if ch.restoring then restoreGeneration p s else abandonChange p s)
      else s

/-- What a paired pool announced in the tides after `before` up to `after` may now be written (R299). -/
def startAnnounced (p before after : Nat) (s : Part) : Part :=
  match s.pool? p with
  | none => s
  | some ps =>
    let due (t : Option Nat) : Bool := t.any (fun x => decide (before < x) && decide (x ≤ after))
    let s := match ps.ckpt.build with
      | some b => if due b.announceTide then writeCkpt ps b s else s
      | none => s
    let s := match ps.ckpt.extBuild with
      | some e => if due (some e.tide) then writeExt ps e s else s
      | none => s
    match ps.change with
    | some ch => if due ch.announceTide then sendCopies ch.charter ch.creation ch.holders s else s
    | none => s

end Sys2Proof.Machine
end

