-- ==== Sys2Proof/Machine/WriteOps.lean ====
section
/-! DEFINITION. Protection and write states (R69, R70), transactions
(R89–R93), confirmation marks and the release of acknowledgements (R76–R79, R105, R106), FLUSH (R68, R95). -/

namespace Sys2Proof.Machine

/-! ### Transactions -/

def Part.tx? (s : Part) (c tag : Nat) : Option TxSt := (s.chain c).txs.find? (fun t => t.tag == tag)
def Part.modTx (s : Part) (c tag : Nat) (g : TxSt → TxSt) : Part :=
  s.modChain c (fun x => { x with txs := updBy (fun t => t.tag == tag) g x.txs })
def Part.dropTx (s : Part) (c tag : Nat) : Part :=
  s.modChain c (fun x => { x with txs := x.txs.filter (fun t => t.tag != tag) })

/-- A transaction that has ended and keeps only its tag reserved (R93). -/
def TxSt.ended (t : TxSt) : Bool := t.timedOut || t.noProtect

/-- Transactions open or committing across the device (R89). -/
def Part.openTxs (s : Part) : Nat := (s.chains.flatMap (fun c => c.txs.filter (fun t => !t.ended))).length

/-- A transaction's blocks leave the protected region without effect (R93). -/
def releaseTxBlocks (c tag : Nat) (s : Part) : Part :=
  let gone := s.man.held.filter (fun b => decide (b.tx = some (c, tag)))
  let s := ((gone.map (·.pool)).eraseDups).foldl (fun st p => tellTwin p (.txEnded p c tag) st) s
  settleEntries gone (s.modMan (fun m => { m with held := m.held.filter (fun b => !decide (b.tx = some (c, tag))) }))

/-- Writes of a transaction not yet written back end with `status` (R93). -/
def endTxWrites (c tag status : Nat) (s : Part) : Part :=
  ((s.chain c).cmds.filter (fun x =>
      (x.phase = .waiting || x.phase = .admitted || x.phase = .landed) && x.desc.getLsbD 26 &&
      ([2, 4].contains (descField x.desc 23 16)) && descField x.desc 223 216 == tag)).foldl
    (fun st x => complete c x.hseq status 0 st) s

/-- A TX_COMMIT of the tag that is already posted and taken. -/
def placedCommit (s : Part) (c tag : Nat) : Option Cmd :=
  (s.chain c).cmds.find? (fun x => (x.phase = .placed || x.phase = .admitted) && descField x.desc 23 16 == 0x11 &&
    descField x.desc 223 216 == tag)

/-- A transaction ends without effect because its pool left PROTECTED (R93): before its TX_COMMIT is placed, or on a paired pool
before the tide of the commit is confirmed. -/
def txLosesProtection (c tag : Nat) (s : Part) : Part :=
  let s := endTxWrites c tag 0x42 (releaseTxBlocks c tag s)
  match placedCommit s c tag with
  | some x => (complete c x.hseq 0x41 0 s).dropTx c tag
  | none => s.modTx c tag (fun t => { t with noProtect := true })

def poolTxsLose (p : Nat) (s : Part) : Part :=
  let paired := ((s.pool? p).map (fun x => x.pair.state == 2)).getD false
  (s.chains.flatMap (fun c => (c.txs.filter (fun t => t.pool == p && !t.ended && (t.commitTide.isNone || paired))).map (fun t => (c.id, t.tag)))).foldl
    (fun st x => txLosesProtection x.1 x.2 st) s

/-! ### Write states -/

/-- POOL_WRITE_MODE. -/
def Part.writeMode (s : Part) (p : Nat) : Nat := s.objNum (poolIdx p 0x12) 1

/-- The first condition of Table 4.1 that fails for a pool, 0 when protection is available (R69). -/
def protectionRow (s : Part) (p : PoolSt) : Nat :=
  if s.sched.protMib = 0 ∨ s.sched.badChannels ≠ [] then 1
  else if s.sched.ceiling < 1024 then 2
  else if 2 ≤ s.dump.state then 3
  else if s.writeMode p.id ≠ 0 then 4
  else if (p.pair.state = 2 ∨ p.pair.state = 4) ∧ s.pair.declared.isSome then 5
  else 0

def protected? (s : Part) (p : PoolSt) : Bool := protectionRow s p == 0

/-- Write state a pool should be in (Table 4.2). -/
def wantedWriteState (s : Part) (p : PoolSt) : Nat × Nat :=
  if s.sched.brace || s.sched.frozen then (2, 0)
  else
    let r := protectionRow s p
    (if r = 0 then 0 else 1, r)

/-- A pool's write state changes (R70): logged with the condition; open transactions of a pool that leaves PROTECTED end
(R93), but an activation freeze aborts nothing (R98) and a dump leaves them to the image (R100); between PROTECTED and
WRITE_THROUGH a checkpoint is due (R109 case 5). -/
def setWriteState (p new row : Nat) (s : Part) : Part :=
  match s.pool? p with
  | none => s
  | some ps =>
    if ps.writeState = new then s
    else
      let s := s.modPool p (fun x => { x with
        writeState := new
        ckpt := if new = 2 ∨ x.writeState = 2 then x.ckpt else x.ckpt.addDue 5 })
      let s := log 0x0501 p (leBytes 1 ps.writeState ++ leBytes 1 new ++ leBytes 1 row) s
      if (ps.writeState = 0 ∨ new = 1) ∧ ¬ s.sched.frozen ∧ s.dump.state ≠ 3 then poolTxsLose p s else s

/-- Protection is not available: what the pool holds stops being durable until it is committed on its members (R68). -/
def loseProtection (p : Nat) (s : Part) : Part :=
  s.modMan (fun m => { m with held := m.held.map (fun b => if b.pool = p ∧ ¬ b.through then { b with weak := true } else b) })

def refreshWriteStates (s : Part) : Part :=
  (s.pools.filter (fun p => p.life != 0)).foldl (fun st p =>
    match st.pool? p.id with
    | some ps =>
      let w := wantedWriteState st ps
      let st := setWriteState p.id w.1 w.2 st
      if protected? st ps then st else loseProtection p.id st
    | none => st) s

/-- After any change of what Tables 4.1 and 4.2 depend on. -/
def refreshProtection (s : Part) : Part := refreshWriteStates (refreshAdmitState s)

/-! ### Acknowledgements -/

/-- The pool of a command's volume. -/
def Part.poolOfVol (s : Part) (v : Nat) : Option PoolSt := (s.volume? v).map (·.1)

/-- A write is acknowledged: SUCCESS, and the blocks it covered leave the lost-block table and the divergent list
(R77, R139, R148). -/
def ackWrite (c : Nat) (x : Cmd) (s : Part) : Part :=
  complete c x.hseq 0x00 0 (coverAll x.covers s)

/-- A transaction is committed (R92): its writes become visible together, its TX_COMMIT is acknowledged. -/
def ackCommit (c : Nat) (x : Cmd) (s : Part) : Part :=
  let tag := descField x.desc 223 216
  let mine := s.man.held.filter (fun b => decide (b.tx = some (c, tag)))
  let s := mine.foldl (fun st b => coverBlock b.pool b.stripe b.strip b.bo st) s
  let s := s.modMan (fun m => { m with
    held := m.held.map (fun b => if b.tx = some (c, tag) then { b with tx := none } else b) })
  (complete c x.hseq 0x00 0 (settleEntries mine s)).dropTx c tag

/-- Pool whose mark releases a command. -/
def Part.ackPool (s : Part) (c : Nat) (x : Cmd) : Option Nat :=
  if x.phase = .placed then (s.tx? c (descField x.desc 223 216)).map (·.pool)
  else
    let v := if descField x.desc 23 16 = 6 then descField x.desc 123 112 else descField x.desc 187 176
    (s.poolOfVol v).map (·.id)

/-- Commands whose tide is at or below their pool's confirmation mark, in tide order (R77–R79). -/
def ackReady (s : Part) : List (Nat × Cmd) :=
  ((s.chains.flatMap (fun ch => ch.cmds.map (fun x => (ch.id, x)))).filter (fun cx =>
    (cx.2.phase = .landed || cx.2.phase = .placed) && !cx.2.through &&
      (match s.ackPool cx.1 cx.2 with
       | some p => decide (cx.2.tide ≤ s.mark p)
       | none => false))).mergeSort (fun a b => decide (a.2.tide ≤ b.2.tide))

/-- Acknowledgements are released (R77, R79); none from the start of a dump on (R100). -/
def releaseAcks (s : Part) : Part :=
  if s.dump.state = 3 then s
  else (ackReady s).foldl (fun st cx => if cx.2.phase = .placed then ackCommit cx.1 cx.2 st else ackWrite cx.1 cx.2 st) s

/-- Newest tide such that it and every older tide in the ring is sealed (R105). -/
def Part.sealedThrough (s : Part) : Nat :=
  let open_ := ((s.man.seals.filter (fun x => !x.complete)).map (·.tide))
  match open_ with
  | [] => ((s.man.seals.map (·.tide)).foldl max 0)
  | t :: ts => (ts.foldl min t) - 1

def Part.setMark (s : Part) (p t : Nat) : Part :=
  if s.mark p < t then s.modMan (fun m => { m with marks := alSet p (((alGet p m.marks).getD MarkSt.none_).write t) m.marks }) else s

/-- Marks of the pools that wait for no confirmation follow the seals (R106). -/
def advanceUnpaired (s : Part) : Part :=
  (s.pools.filter (fun p => p.life != 0 && p.owned && p.pair.state != 2 && p.pair.state != 4)).foldl
    (fun st p => st.setMark p.id s.sealedThrough) s

/-- The tide up to which every tide after `mark` is sealed and confirmed. -/
def Part.confirmedAfter (s : Part) (mark : Nat) : Nat :=
  let open_ := (s.man.seals.filter (fun x => decide (mark < x.tide) && !(x.complete && x.confirmed))).map (·.tide)
  match open_ with
  | [] => max mark ((s.man.seals.map (·.tide)).foldl max 0)
  | t :: ts => max mark ((ts.foldl min t) - 1)

/-- A pool's mark goes to `t`: what waited for it starts (R104, R299). -/
def moveMark (p t : Nat) (s : Part) : Part :=
  let before := s.mark p
  promoteAll p (startAnnounced p before (max before t) (s.setMark p t))

/-- The twin's confirmations advance the marks of the paired pools over the tides confirmed without a gap (R106). -/
def advancePaired (s : Part) : Part :=
  (s.pools.filter (fun p => p.life != 0 && p.owned && p.pair.state == 2)).foldl
    (fun st p => moveMark p.id (st.confirmedAfter (st.mark p.id)) st) s

/-- A pool released to run unpaired, or won: its mark goes to the last sealed tide (R106). -/
def advanceReleased (p : Nat) (s : Part) : Part := moveMark p s.sealedThrough s

/-! ### FLUSH -/

/-- Acknowledged blocks of a volume up to tide `t` that are not durable (R68, R95): held while protection is not available, or
since before it was lost. -/
def flushPending (s : Part) (v t : Nat) : Bool :=
  match s.poolOfVol v with
  | none => false
  | some p =>
    s.man.held.any (fun b => b.vol == v && !b.through && b.tx.isNone && decide (b.tide ≤ t) && (b.weak || !protected? s p))

end Sys2Proof.Machine
end

