-- ==== Sys2Proof/Machine/FleetOps.lean ====
section
/-! DEFINITION. The member settings of fleet-wide changes (07: R179–R181; 08: R186, R200, R208, R210): the committed values, how a
setting is applied, what a member that enters a scope receives. -/

namespace Sys2Proof.Machine

/-! ### Values -/

/-- Protocol default of the queue depth ceiling (R200). -/
def protoDepth : Protocol → Nat
  | .sata => 32
  | .sas => 64
  | .nvme => 128

/-- The lower of the fleet ceiling and the member's own limit (R200). -/
def MemberSt.depthLimit (m : MemberSt) : Nat :=
  match m.info.protocol with
  | .sata => min m.depthCap 32
  | .nvme => min m.depthCap m.info.ownDepth
  | .sas => m.depthCap

/-- MEMBER_DEPTH. -/
def MemberSt.depth (m : MemberSt) : Nat := min m.depthLimit m.workDepth

/-- A FLEET_VALUE in the range of its kind (Table 7.9). -/
def fleetValueGood (kind value : Nat) : Bool :=
  match kind with
  | 0 => decide (value ≤ 1)
  | 1 => decide (1 ≤ value) && decide (value ≤ 4)
  | 2 => decide (1 ≤ value) && decide (value ≤ 256)
  | 3 => true
  | _ => false

/-- The committed value of a scope and kind; a pool without one of its own has the device's. -/
def FleetSt.value? (f : FleetSt) (scope kind : Nat) : Option Nat :=
  let at_ (sc : Nat) : Option Nat := (f.committed.find? (fun x => x.1 == sc && x.2.1 == kind)).map (·.2.2)
  match at_ scope with
  | some v => some v
  | none => at_ 0xFFFF

/-- A member lies in a scope (R178). -/
def inScope (s : Part) (scope k : Nat) : Bool :=
  scope == 0xFFFF || (match s.poolOfMember k with
    | some (p, _) => p == scope
    | none => false)

/-- The committed value of a kind for a member (R181). -/
def fleetValueFor (s : Part) (k kind : Nat) : Option Nat :=
  s.fleet.value? (((s.poolOfMember k).map (·.1)).getD 0xFFFF) kind

/-- A member's committed cache setting, 0 at manufacture (R208). -/
def cacheSetting (s : Part) (k : Nat) : Nat := (fleetValueFor s k 0).getD 0

/-! ### Applying a setting -/

/-- The cache setting is written (R208): a flush before a cache is disabled (R203). A SATA member drains for it but where it
reports a queued feature set (R202). -/
def writeCache (k value : Nat) (s : Part) : Part :=
  match s.member? k with
  | none => s
  | some m =>
    let nq := decide (m.info.protocol = .sata)
    let s := if value = 0 then enqueueCmd k .flushCache 0 nq false 0 0 s else s
    enqueueCmd k .cacheControl 0 (nq && !m.info.queuedSet) false 0 0 s

/-- MEMBER_FLEET: 2 with a PARTIAL setting, 1 with a pending one (Table 7.10). -/
def MemberSt.fleetMark (m : MemberSt) : Nat :=
  if m.fleet.any (fun x => x.2 == 2) then 2 else if m.fleet.isEmpty then 0 else 1

/-- A setting is not confirmed: `mark` 1 pending, 2 PARTIAL. -/
def MemberSt.markSetting (m : MemberSt) (kind mark : Nat) : MemberSt :=
  { m with fleet := m.fleet.filter (fun x => x.1 != kind) ++ [(kind, mark)] }

/-- Lane of a member's path (Table 8.9 MEMBER_PATH), and whether no expander or switch lies below it. -/
def MemberSt.onLane (m : MemberSt) (l : Nat) : Bool := m.info.path % 256 == l
def MemberSt.direct (m : MemberSt) : Bool := m.info.path / 256 % 16 == 0

/-- The tier cap goes onto the link that attaches the member (R186): its own lane runs no faster at once. -/
def capLink (k value : Nat) (s : Part) : Part :=
  match s.member? k with
  | none => s
  | some m =>
    let s := s.modMember k (fun x => { x with rateCap := value })
    if !m.direct || value = 0 then s
    else s.modFab (fun f => { f with lanes := f.lanes.map (fun x =>
      if m.onLane x.lane then { x with rate := min x.rate value } else x) })

/-- The member commands of a setting of a kind (R178 step 3, R186, R210). -/
def applySetting (kind value k : Nat) (s : Part) : Part :=
  match s.member? k with
  | none => s
  | some m =>
    let nq := decide (m.info.protocol = .sata)
    match kind with
    | 0 => writeCache k value s
    | 1 => capLink k (if m.rateCap = 0 then value else min m.rateCap value) s
    | 2 => s.modMember k (fun x => { x with depthCap := min x.depthCap value })
    | 3 => if m.info.protocol = .nvme then s else enqueueCmd k .spinControl 0 nq false 0 0 s
    | _ => s

/-- A member that has not confirmed (Table 7.9): pending, the conservative union in force. -/
def beginSetting (kind value k : Nat) (s : Part) : Part :=
  applySetting kind value k (s.modMember k (fun m => m.markSetting kind 1))

/-- A member that enters a scope, or returns to it, receives the committed values (R181). -/
def receiveCommitted (k : Nat) (s : Part) : Part :=
  [0, 1, 2, 3].foldl (fun st kind =>
    match fleetValueFor st k kind, st.member? k with
    | some v, some m =>
      -- a cache not yet read back is read first, and takes the committed value then (R208)
      if kind = 0 ∧ (m.wce = 2 ∨ m.wce = v) then st else beginSetting kind v k st
    | _, _ => st) s

end Sys2Proof.Machine
end

