-- ==== Sys2Proof/Machine/MemberOps.lean ====
section
/-! DEFINITION. Member state changes and what reacts to them (R61, R65, R114, R153, R206), and what the taking effect of a
charter generation changes (R45, R58, R60, R158). -/

namespace Sys2Proof.Machine

def modReb (p : Nat) (g : PoolReb → PoolReb) (s : Part) : Part := s.modPool p (fun x => { x with reb := g x.reb })

/-! ### Initialisation (R26, R196) -/

/-- One command of a member's zeroing. The zeroing commands of a SATA member are not queued (R196, R202). -/
def zeroCmd (k : Nat) (op : MOp) (byCommand : Bool) (mba count : Nat) (s : Part) : Part :=
  let (sata, fua) := ((s.member? k).map (fun m => (decide (m.info.protocol = .sata), m.needsFua))).getD (false, true)
  enqueueCmd k op 8 (sata && byCommand) (fua && !byCommand) mba count s

/-- A member's data area is zeroed (R26): by ordinary writes, or by its deterministic zeroing command once the first strip slot
has passed the check of R196. -/
def startZero (p : Nat) (c : Charter) (k : Nat) (s : Part) : Part :=
  match ((s.member? k).bind (·.info.zeroing)) with
  | some _ => zeroCmd k (.zeroSlot p) true c.shape.dataStart c.shape.sb s
  | none => zeroCmd k (.zeroRest p false) false c.shape.dataStart c.shape.usable s

/-- The initialisation of a pool runs from the beginning (R26): on every member that takes commands. -/
def startInit (p : Nat) (c : Charter) (s : Part) : Part :=
  let left := (c.members.filter (fun m => !relocState m.state)).map (·.id)
  (left.filter s.takes).foldl (fun st k => startZero p c k st) (s.modPool p (fun x => { x with initLeft := left }))

/-- Blocks of a range of a member read as zero (R127). -/
def MemberSt.zeroed (m : MemberSt) (mba count : Nat) : MemberSt :=
  { m with media := m.media.filter (fun b => decide (b.1 < mba) || decide (mba + count ≤ b.1)) }

/-- The next command of a member's zeroing after `op` ended (R26, R196): the slot is read back, the rest follows by the command
only when every byte of the slot reads zero, and the member reports completion with its last write. -/
def zeroStep (p k : Nat) (op : MOp) (good : Bool) (s : Part) : Part :=
  match s.pool? p with
  | none => s
  | some ps =>
    if !ps.initLeft.contains k then s
    else
      let h := ps.charter.shape
      let works := ((s.member? k).bind (·.info.zeroing)).getD false
      match op with
      | .zeroSlot _ =>
        if good then
          zeroCmd k (.zeroCheck p) false h.dataStart h.sb (if works then s.modMember k (fun m => m.zeroed h.dataStart h.sb) else s)
        else zeroCmd k (.zeroRest p false) false h.dataStart h.usable s
      | .zeroCheck _ => zeroCmd k (.zeroRest p (good && works)) (good && works) h.dataStart h.usable s
      | .zeroRest _ _ =>
        if good then
          (s.modMember k (fun m => m.zeroed h.dataStart h.usable)).modPool p (fun x => { x with initLeft := x.initLeft.filter (· != k) })
        else s
      | _ => s

/-- A member of a pool is FAILED (R65): its strips are missing at once, its home is lost, the charter change is asked for,
its pending strip writes are omitted, an initialisation goes on without it (R26). -/
def memberFailedInPool (p o : Nat) (s : Part) : Part :=
  let s := s.modPool p (fun x => { x with initLeft := x.initLeft.filter (· != x.charter.idAt o) })
  let s := modReb p (fun r => { r with failing := if r.failing.contains o then r.failing else r.failing ++ [o] }) s
  let s := (loseHome p o s).modPool p (fun x => { x with pair := { x.pair with
    fenceLeft := x.pair.fenceLeft.filter (fun k => k != x.charter.idAt o) } })
  dropUnwritable p (queueDelta p (.memberState o 4) s)

/-- The commands of a member that is gone end: writes are omitted, the rest are dropped; host reads that waited for it run
without it (R205, R206). -/
def dropMemberCmds (k : Nat) (s : Part) : Part :=
  match s.member? k with
  | none => s
  | some m =>
    let s := (m.outstanding ++ m.waiting).foldl (fun st c =>
      match c.op with
      | .readStrip _ _ _ ch h => st.modCmd ch h (fun x => if x.phase = .waiting then { x with phase := .accepted } else x)
      | _ => st) s
    s.modMember k (fun m => { m with waiting := [], outstanding := [], draining := false, escStep := 0 })

/-- Table 8.3: the protocol has a form of the block format. -/
def formatOf (p : Protocol) (fmt : Nat) : Bool :=
  match p with
  | .nvme => [0, 1, 4].contains fmt
  | _ => [0, 2, 3, 4].contains fmt

/-- A member may join a pool of a block format (R23, R195). -/
def suitsFormat (i : MemberInfo) (fmt : Nat) : Bool := i.format == fmt && formatOf i.protocol fmt

/-- When a SUSPECT clearance that starts now ends (R206, R20). -/
def Part.suspectUntil (s : Part) : Nat := s.timeUs + hour (s.objNum 0x2107 8)

/-- A member of a paired pool that becomes PRESENT: this unit registers its key on it again (R305). -/
def registerAgain (k p : Nat) (s : Part) : Part :=
  if ((s.charter? p).map (·.paired)).getD false then
    s.modMember k (fun m => if m.info.reservations then { m with registered := true } else m)
  else s

/-- A member changes state by row `row` of Table 8.7 (R206), with its record. -/
def setMemberState (k new row : Nat) (s : Part) : Part :=
  match s.member? k with
  | none => s
  | some m =>
    if m.state = new then
      (if new = 3 then s.modMember k (fun x => { x with suspectEnd := some s.suspectUntil }) else s)
    else
      let s := log 0x0E01 0 (leBytes 2 k ++ leBytes 1 m.state ++ leBytes 1 new ++ leBytes 1 row) s
      let s := s.modMember k (fun x => { x with
        state := new
        suspectEnd := if new = 3 then some s.suspectUntil else x.suspectEnd
        presentAt := if new = 1 then s.timeUs else x.presentAt })
      match new with
      | 4 =>
        let s := match s.poolOfMember k with
          | some (p, o) => memberFailedInPool p o s
          | none => s
        dropMemberCmds k s
      | 0 =>
        let s := match s.poolOfMember k with
          | some (p, o) => dropUnwritable p (loseHome p o s)
          | none => s
        dropMemberCmds k s
      | 1 =>
        match s.poolOfMember k with
        | some (p, o) =>
          let s := registerAgain k p s
          let st := ((s.charter? p).bind (fun c => c.memberAt o)).map (·.state)
          -- a relocated ordinal stays relocated: no generation is written for the move (R45, R63)
          if (st.map relocState).getD true then s else queueDelta p (.memberState o 1) s
        | none => s
      | _ => s

/-- A SUSPECT cause (R206): an ACTIVE member becomes SUSPECT, a SUSPECT one starts its clearance anew. -/
def suspect (k : Nat) (s : Part) : Part :=
  match s.member? k with
  | some m =>
    if m.state = 2 then setMemberState k 3 1 s
    else if m.state = 3 then s.modMember k (fun x => { x with suspectEnd := some s.suspectUntil })
    else s
  | none => s

/-- A FAILED cause (R206 row 3); a donor and a member of a Crossing fail as ACTIVE ones do. -/
def failMember (k : Nat) (s : Part) : Part :=
  match s.member? k with
  | some m => if [2, 3, 5, 6, 7].contains m.state then setMemberState k 4 3 s else s
  | none => s

/-- A medium error (R206): 16 within 24 h are a SUSPECT cause, 256 make the member FAILED. -/
def mediumError (k : Nat) (s : Part) : Part :=
  match s.member? k with
  | none => s
  | some m =>
    let l := s.timeUs :: m.mediumErrs.filter (fun t => decide (s.timeUs < t + hour 24))
    let s := s.modMember k (fun x => { x with mediumErrs := l })
    if 256 ≤ l.length then failMember k s else if 16 ≤ l.length then suspect k s else s

/-- The reads that members reported in error while a step ran count as medium errors. -/
def countMedium (bad : BadReads) (s : Part) : Part := bad.foldl (fun st x => mediumError x.1 st) s

/-! ### A generation takes effect -/

/-- Ordinals relocated in one generation and not in the other. -/
def relocChanged (a b : Charter) : List Nat :=
  (List.range (max a.members.length b.members.length)).filter (fun o =>
    ((a.members[o]?).map (fun m => relocState m.state)).getD false != ((b.members[o]?).map (fun m => relocState m.state)).getD false)

/-- Strips of an ordinal in the pool's stripes: those a rebuild has to make (R153), each row of its data positions. -/
def strandsOf (g : Geo) (o : Nat) : List (Nat × Nat) :=
  (List.range g.h.stripeCount).filterMap (fun σ =>
    ((g.braid.homes σ).idxOf? o).map (fun i => (σ + g.off, i)))

/-- A lane's blocks as `from_` holds them, copied to another lane (R60). -/
def moveLane (from_ : Part) (g : Geo) (src dst : Nat × Nat) (s : Part) : Part :=
  (List.range g.h.sb).foldl (fun st bo =>
    let b := from_.mediaAt src.1 (src.2 + bo)
    st.modMember dst.1 (fun m => m.store (dst.2 + bo) b)) s

/-- Lane reassignment (R60, R158): a rebuilt strip follows its new lane, or becomes missing. Every strip that moves is copied
as its old slot holds it before any is written. -/
def reassignLanes (p : Nat) (old new : Charter) (s : Part) : Part :=
  match s.pool? p with
  | none => s
  | some ps =>
    ps.reb.rebuilt.foldl (fun st es =>
      let go := old.geoOf es.2
      let gn := new.geoOf es.2
      let o := (gn.entries.idxOf? es.1).getD gn.ids.length
      let oOld := (go.entries.idxOf? es.1).getD go.ids.length
      if !gn.braid.relocated o then modReb p (fun r => { r with rebuilt := r.rebuilt.filter (· != es) }) st
      else
        let iOld := ((go.braid.homes (es.2 - go.off)).idxOf? oOld).getD 0
        let iNew := ((gn.braid.homes (es.2 - gn.off)).idxOf? o).getD 0
        let place (g : Geo) (i : Nat) : Option (Nat × Nat) :=
          (g.braid.place (es.2 - g.off) i).map (fun x => (g.ids.getD x.1 16384, g.braid.rowMba x.2))
        match place go iOld, place gn iNew with
        | some a, some b => if a = b then st else if s.serves a.1 && s.takes b.1 then moveLane s gn a b st
                            else modReb p (fun r => { r with rebuilt := r.rebuilt.filter (· != es) }) st
        | _, _ => modReb p (fun r => { r with rebuilt := r.rebuilt.filter (· != es) }) st) s

/-- A rebuild starts for an ordinal that the generation lists as relocated (R153): record REBUILD_START. -/
def startRebuild (p : Nat) (c : Charter) (o : Nat) (s : Part) : Part :=
  let strips := (strandsOf c.geo o).length
  log 0x0F01 p (leBytes 2 o ++ leBytes 8 strips) (modReb p (fun r => { r with started := alSet o s.timeUs r.started }) s)

/-- Strips of a shape in a lane of class 2, and those that place gives no lane, over the rows of its relocated ordinals. -/
def Geo.spareCounts (g : Geo) : Nat × Nat :=
  let b := g.braid
  if b.reloc.all (! ·) then (0, 0)
  else
    (List.range (g.h.usable / max 1 g.h.sb)).foldl (fun acc row =>
      (b.claims (row / max 1 b.w) (row % max 1 b.w)).foldl (fun (a : Nat × Nat) cl =>
        match cl.2 with
        | none => (a.1, a.2 + 1)
        | some (_, 2) => (a.1 + 1, a.2)
        | some _ => a) acc) (0, 0)

/-- POOL_OVERLIMIT and POOL_UNPLACED (R59), in every shape of the pool. -/
def spareCounts (p : PoolSt) : Nat × Nat :=
  (p.shapes.map Geo.spareCounts).foldl (fun a c => (a.1 + c.1, a.2 + c.2)) (0, 0)

/-- A change of either count is logged, at most once a minute per pool (R59). -/
def noteSpare (p : Nat) (s : Part) : Part :=
  match s.pool? p with
  | none => s
  | some ps =>
    let (ov, un) := spareCounts ps
    let (o0, u0, t0) := ps.reb.spareLogged.getD (0, 0, 0)
    if (ov = o0 ∧ un = u0) ∨ (ps.reb.spareLogged.isSome ∧ s.timeUs < t0 + sec 60) then s
    else
      log 0x0602 p (leBytes 8 ov ++ leBytes 8 un)
        (modReb p (fun r => { r with spareLogged := some (ov, un, s.timeUs) }) s)

/-- Volumes that appear or leave with a generation (R24, R29, R218, R219, R221). -/
def volumesChange (old new : Charter) (s : Part) : Part :=
  let gone := (old.vols.map (·.id)).filter (fun v => !(new.vols.map (·.id)).contains v)
  let s := gone.foldl (fun st v =>
    let st := clearSlot v st
    let st := st.modPool new.poolId (fun x => { x with int := { x.int with
      lost := x.int.lost.filter (fun e => e.unalloc || e.vol != v), diverged := x.int.diverged.filter (fun d => d.vol != v) } })
    st.modVol v (fun _ => { VolSt.fresh v with commitResult := 0 })) s
  let fresh := (new.vols.map (·.id)).filter (fun v => !(old.vols.map (·.id)).contains v)
  let s := fresh.foldl (fun st v => beginSlotLoad v (st.modVol v (fun x => { x with life := 1 }))) s
  -- wraps or keys that changed: a slot that failed may load again (R219), a new KEY_GEN loads (R232)
  let changed := (new.vols.filter (fun v => old.vols.any (fun w => w.id == v.id && (w.wrapped != v.wrapped || w.keyGen != v.keyGen)))).map (·.id)
  changed.foldl (fun st v => if st.slotState v = 3 ∨ (old.vols.any (fun w => w.id == v && new.vols.any (fun u => u.id == v && u.keyGen != w.keyGen)))
    then finishSlotLoad v st else st) s

/-- A held block as the twin's shadow keeps it. -/
def Held.mirror (b : Held) : MirrorBlock :=
  { stripe := b.stripe, strip := b.strip, bo := b.bo, vol := b.vol, lba := b.lba, gen := b.gen, tide := b.tide, block := b.block, tx := b.tx }

/-- A pool goes to SYNCING (R295): the owner copies to the twin what it holds, the entries begun, the rebuild record and the
committed fleet values. -/
def beginSync (p : Nat) (s : Part) : Part :=
  let s := s.modPool p (fun x => { x with pair := { x.pair with
    state := 1, syncTide := none, failbackAt := none, lagZero := 0, contest := none, gap := false } })
  if ((s.pool? p).map PoolSt.owned).getD false && !s.pair.path1Lost then
    let begun := (s.man.entries.filter (fun e => e.pool == p && (e.state == .writing || e.built || !e.left.isEmpty))).map (·.stripe)
    let ready := ((s.pool? p).map (·.reb.rebuilt)).getD []
    let seq := ((s.pool? p).map (·.ckpt.seq)).getD 0
    let news := [TwinNews.checkpoint p seq] ++ begun.map (fun x => .writing p x) ++ ready.map (fun x => .rebuilt p x.1 x.2)
    let s := s.modMan (fun m => { m with news := m.news ++ news })
    let s := s.fleet.committed.foldl (fun st x => emit (.hawserFleet x.1 x.2.1 x.2.2) st) s
    (s.man.held.filter (fun b => b.pool == p && !b.through)).foldl (fun st b => emit (.hawserBlock p b.mirror) st) s
  else s

/-- This unit registers its key on the members of a pool that support reservations (R305). -/
def registerOn (p : Nat) (s : Part) : Part :=
  match s.pool? p with
  | none => s
  | some ps =>
    (ps.charter.members.map (·.id)).foldl (fun st k =>
      st.modMember k (fun m => if m.info.reservations then { m with registered := true } else m)) s

/-- A change of recovery model (R124): to Progress starts the POISON_AFTER wait of every stall, to Strict ends it. -/
def stallsFollow (p : Nat) (progress : Bool) (s : Part) : Part :=
  s.modMan (fun m => { m with entries := m.entries.map (fun e =>
    if e.pool = p ∧ e.stuck = true then
      { e with state := if progress then (if (s.heldOf p e.stripe).any (fun b => !b.through) then .held else .through) else .stalled
               stalledAt := if progress then some s.timeUs else none }
    else e) })

/-- CROSS_STATE changes (Table 7.8): record CROSS_STATE. -/
def setCrossState (p new : Nat) (s : Part) : Part :=
  match s.pool? p with
  | none => s
  | some ps =>
    if ps.cross.state = new then s
    else
      let kinds := (ps.charter.cross.map (·.kinds)).getD 0
      let vol := (ps.charter.cross.map (·.curVolume)).getD 0xFFFF
      log 0x1001 p (leBytes 1 ps.cross.state ++ leBytes 1 new ++ leBytes 1 kinds ++ leBytes 2 vol ++ leBytes 8 ps.cross.live)
        (s.modPool p (fun x => { x with cross := { x.cross with state := new } }))

/-- The re-key slot takes the new key of the volume in progress (R173, R232). -/
def loadRekey (p : Nat) (c : Charter) (s : Part) : Part :=
  match c.cross with
  | none => clearRekeySlot p s
  | some x =>
    if !bitAt x.kinds 4 || x.curVolume = 0xFFFF then clearRekeySlot p s
    else
      match (s.kekLoaded? c.kekId).bind (fun k => unwrapMaterial k x.newKey) with
      | some m => s.setRekeySlot { SlotSt.loading p with state := 2, material := m, loadedAt := s.timeUs }
      | none => clearRekeySlot p s

/-- What a generation changes of a Crossing (R170–R177): its start, the next volume, the abort, its end. -/
def crossingChanges (old new : Charter) (s : Part) : Part :=
  let p := new.poolId
  match old.cross, new.cross with
  | none, none => s
  | none, some x =>
    let fresh := (new.members.drop x.srcCount).map (·.id)
    let s := fresh.foldl (fun st k => st.modMember k (fun m => { m with state := 7 })) s
    setCrossState p 1 (loadRekey p new (s.modPool p (fun y => { y with cross := { y.cross with live := 0, stepLeft := [], crossed := [] } })))
  | some o, some x =>
    let s := if o.curVolume = x.curVolume then s
      else
        let back := x.stage = 1
        loadRekey p new (s.modPool p (fun y => { y with cross := { y.cross with
          stepLeft := [], live := if back then x.cursor else 0
          crossed := if back then y.cross.crossed.filter (· != x.curVolume) else y.cross.crossed ++ [o.curVolume] } }))
    if o.stage = 0 ∧ x.stage = 1 then
      setCrossState p 4 (s.modPool p (fun y => { y with cross := { y.cross with
        stepLeft := [], live := if x.isShape then x.cursor else y.cross.live } }))
    else s
  | some _, none =>
    let gone := (old.members.map (·.id)).filter (fun k => !(new.members.map (·.id)).contains k)
    let s := (gone.filter (fun k => s.takes k)).foldl (fun st k => releaseMember k st) s
    clearRekeySlot p ((setCrossState p 0 s).modPool p (fun y => { y with cross := { y.cross with live := 0, stepLeft := [], crossed := [] } }))

/-- A generation that pairs a pool, or takes it out of the pair (R294, R295). -/
def pairingChanges (old : Option Charter) (new : Charter) (s : Part) : Part :=
  let was := (old.map (·.paired)).getD false
  if new.paired && !was then
    registerOn new.poolId ((beginSync new.poolId s).modPool new.poolId (fun x => { x with pair := { x.pair with owner := 0 } }))
  else if !new.paired && was then
    s.modPool new.poolId (fun x => { x with pair := { x.pair.dropShadow with state := 0, syncTide := none } })
  else s

/-- A pool that took its target shape (R177): target stripe σ', numbered STRIPE_COUNT + σ' while the Crossing ran (R171),
is σ' from now on; what the source shape still had in the Manifest and the tables goes. -/
def renumber (p n : Nat) (s : Part) : Part :=
  let keep (x : Nat) : Bool := decide (n ≤ x)
  let op (o : MOp) : MOp := match o with
    | .writeStrip q x i => if q = p then .writeStrip q (x - n) i else o
    | o => o
  let s := s.modMan (fun m => { m with
    entries := (m.entries.filter (fun e => e.pool != p || keep e.stripe)).map (fun e =>
      if e.pool = p then { e with stripe := e.stripe - n } else e)
    held := (m.held.filter (fun b => b.pool != p || keep b.stripe)).map (fun b =>
      if b.pool = p then { b with stripe := b.stripe - n } else b) })
  let cmds (l : List MCmd) : List MCmd := l.map (fun c => { c with op := op c.op })
  let mem (m : MemberSt) : MemberSt := { m with waiting := cmds m.waiting, outstanding := cmds m.outstanding }
  let s : Part := { s with members := s.members.map mem }
  let down (l : List Nat) : List Nat := (l.filter keep).map (fun x => x - n)
  let tables (i : PoolInt) : PoolInt :=
    { i with lost := (i.lost.filter (fun e => keep e.stripe)).map (fun e => { e with stripe := e.stripe - n })
             diverged := (i.diverged.filter (fun d => keep d.stripe)).map (fun d => { d with stripe := d.stripe - n })
             resolving := [], toResolve := [], reconcile := down i.reconcile, survey := down i.survey, again := down i.again
             recheck := (i.recheck.filter (fun r => keep r.1)).map (fun r => (r.1 - n, r.2)), scrubCursor := 0, scrubStart := s.timeUs }
  s.modPool p (fun x => { x with
    int := tables x.int
    ckpt := { x.ckpt with intent := down x.ckpt.intent, ready := down x.ckpt.ready, build := none, extBuild := none, extReported := []
                          inForce := none, exts := [] }
    pair := { x.pair with oldIntent := down x.pair.oldIntent, shadowWriting := down x.pair.shadowWriting, shadowRebuilt := []
                          shadow := (x.pair.shadow.filter (fun b => keep b.stripe)).map (fun b => { b with stripe := b.stripe - n }) } })

/-- The committed generation takes effect (R45): charter, volumes, relocation, homes, Crossing. -/
def takeEffect (p : Nat) (s : Part) : Part :=
  match s.pool? p with
  | none => s
  | some ps =>
    match ps.coming with
    | none => s
    | some new =>
      let old := ps.charter
      let creation := ps.life = 1
      let s := s.modPool p (fun x => { x with
        charter := new, coming := none
        life := if creation then 2 else if new.initDone && x.life = 2 then 3 else x.life
        initLeft := x.initLeft.filter (fun k => new.members.any (fun m => m.id == k && !relocState m.state))
        commitResult := if creation then 0 else x.commitResult
        int := { x.int with scrubStart := if !creation && new.initDone && x.life == 2 then s.timeUs else x.int.scrubStart
                            asStrict := x.int.asStrict && decide (old.recovery = new.recovery) }
        reb := { x.reb with failing := x.reb.failing.filter (fun o =>
          !(((new.members[o]?).map (fun m => relocState m.state)).getD true)) } })
      let s := if creation then startInit p new s else volumesChange old new s
      let s := pairingChanges (if creation then none else some old) new (dropClean p (fun _ => true) s)
      let s := if old.recovery ≠ new.recovery then stallsFollow p (new.recovery == 1) s else s
      let s := if creation then s else crossingChanges old new s
      -- the target shape is adopted (R177), even where it equals the source's
      let shapeChanged := decide (old.shape ≠ new.shape) || (old.cross.any (fun x => x.isShape && x.stage == 0) && new.cross.isNone)
      let s := if shapeChanged then
          (renumber p old.shape.stripeCount s).modPool p (fun x => { x with
            ckpt := { x.ckpt with homes := [], lostHomes := [] }.addDue 4
            reb := { x.reb with rebuilt := [], writing := [], stale := [], staleAll := [], failing := [], copyback := [], started := [] } })
        else s
      let ch := if shapeChanged then [] else relocChanged old new
      let s := if ch.isEmpty then s else
          let s := reassignLanes p old new s
          let s := ch.foldl (fun st o =>
            if ((new.members[o]?).map (fun m => relocState m.state)).getD false then
              startRebuild p new o (loseHome p o st)
            else modReb p (fun r => { r with
              rebuilt := r.rebuilt.filter (fun e => e.1 != o), stale := r.stale.filter (fun e => e.1 != o)
              staleAll := r.staleAll.filter (· != o), copyback := alDel o r.copyback, started := alDel o r.started }) st) s
          noteSpare p (s.modPool p (fun x => { x with ckpt := { x.ckpt with moved := (x.ckpt.moved ++ ch).eraseDups }.addDue 4 }))
      let s := (new.members.filter (fun m => decide (m.state = 6))).foldl (fun st m => loseHome p m.ordinal st) s
      -- a replacement starts with every group stale (R164, R161)
      let repl := (List.range new.members.length).filter (fun o =>
        decide ((old.members[o]?).map (·.id) ≠ (new.members[o]?).map (·.id)) && !shapeChanged && old.members.length == new.members.length)
      let s := repl.foldl (fun st o => modReb p (fun r => { r with staleAll := if r.staleAll.contains o then r.staleAll else r.staleAll ++ [o]
                                                                   copyback := alDel o r.copyback }) st) s
      -- a member that left the pool otherwise than by failing is out of use
      let s := ((old.members.map (·.id)).filter (fun k => !(new.members.map (·.id)).contains k)).foldl (fun st k =>
        st.modMember k (fun m => if [2, 3, 5, 6, 7].contains m.state then { m with state := 1, presentAt := s.timeUs } else m)) s
      -- members in the state the generation gives them
      let s := new.members.foldl (fun st m =>
        match st.member? m.id with
        | some x => if m.state = 2 ∧ (x.state = 1 ∨ x.state = 6 ∨ x.state = 7) ∨ m.state = 6 ∨ m.state = 7 ∨ m.state = 5 then
            (if x.state = 4 ∨ x.state = 0 then st else st.modMember m.id (fun y => { y with state := m.state })) else st
        | none => st) s
      -- a member that enters the pool receives the committed values of its scope (R166, R181)
      ((new.members.map (·.id)).filter (fun k => creation || !(old.members.map (·.id)).contains k)).foldl (fun st k =>
        receiveCommitted k st) s

end Sys2Proof.Machine
end

