-- ==== Sys2Proof/Machine/Operands.lean ====
section
/-! DEFINITION. The descriptor's fields (Table 11.1), the address mapping of R269, and the field rules that decide a
command's status (R268, R269, R271, R272, R275). -/

namespace Sys2Proof.Machine

/-! ### Fields -/

abbrev Desc := BitVec 512

def dOwn (d : Desc) : Bool := d.getLsbD 0
def dOpcode (d : Desc) : Nat := descField d 23 16
def dEoc (d : Desc) : Bool := d.getLsbD 24
def dBarrier (d : Desc) : Bool := d.getLsbD 25
def dTxn (d : Desc) : Bool := d.getLsbD 26
def dPeer (d : Desc) : Bool := d.getLsbD 27
def dHseq (d : Desc) : BitVec 32 := BitVec.ofNat 32 (descField d 63 32)
def dHostAddr (d : Desc) : Nat := descField d 127 64
def dLba (d : Desc) : Nat := descField d 175 128
def dVol (d : Desc) : Nat := descField d 187 176
def dCopySel (d : Desc) : Nat := descField d 191 188
def dBlocks (d : Desc) : Nat := descField d 215 192
def dTag (d : Desc) : Nat := descField d 223 216
def dLineLen (d : Desc) : Nat := descField d 255 224
def dHStride (d : Desc) : Nat := descField d 287 256
def dRun (d : Desc) : Nat := descField d 303 288
def dWays (d : Desc) : Nat := descField d 307 304
def dUnitLog2 (d : Desc) : Nat := descField d 311 308
def dRsDir (d : Desc) : Bool := d.getLsbD 312
def dPiMode (d : Desc) : Nat := descField d 314 313
def dVerifyFull (d : Desc) : Bool := d.getLsbD 315
def dDStride (d : Desc) : Nat := descField d 351 320
def dPiAddr (d : Desc) : Nat := descField d 415 352
/-- COPY's destination in HOST_ADDR. -/
def dDstLba (d : Desc) : Nat := descField d 111 64
def dDstVol (d : Desc) : Nat := descField d 123 112
def dDstTop (d : Desc) : Nat := descField d 127 124

/-- The opcodes of Table 11.2. -/
def knownOpcode (o : Nat) : Bool := [0x01, 0x02, 0x03, 0x04, 0x05, 0x06, 0x10, 0x11, 0x12].contains o

/-! ### Mapping (R269) -/

/-- Block of the volume that device-stream block `b` is. -/
def deviceLba (d : Desc) (b : Nat) : Nat :=
  if dRun d = 0 then dLba d + b else dLba d + (b / dRun d) * dDStride d + b % dRun d

/-- Device stream blocks of a command, in stream order. COPY uses neither mapping. -/
def deviceLbas (d : Desc) : List Nat :=
  (List.range (dBlocks d)).map (fun b => if dOpcode d = 6 then dLba d + b else deviceLba d b)

/-- Position in the host stream of device-stream byte `x`: the interleave of R269. -/
def interleave (d : Desc) (x : Nat) : Nat :=
  let w := dWays d
  if w < 2 then x
  else
    let u := 2 ^ (6 + dUnitLog2 d)
    let seg := dBlocks d * 4096 / u / w
    let q := x / u
    if dRsDir d then ((q % seg) * w + q / seg) * u + x % u
    else ((q % w) * seg + q / w) * u + x % u

/-- Host byte that device-stream byte `x` moves to or from. -/
def hostAddrOf (d : Desc) (x : Nat) : Nat :=
  let h := interleave d x
  if dLineLen d = 0 then dHostAddr d + h
  else dHostAddr d + (h / dLineLen d) * dHStride d + h % dLineLen d

/-- Host footprint: one past the highest byte touched. -/
def hostEnd (d : Desc) : Nat :=
  let n := dBlocks d * 4096
  if dLineLen d = 0 then dHostAddr d + n
  else dHostAddr d + (n / dLineLen d - 1) * dHStride d + dLineLen d

/-! ### Field rules the descriptor alone decides -/

/-- BLOCKS, D_RUN and D_STRIDE (R269; VERIFY accepts any D_STRIDE). -/
def runsGood (d : Desc) : Bool :=
  decide (1 ≤ dBlocks d) && decide (dBlocks d ≤ 65536) &&
    (dRun d == 0 || (decide (dBlocks d % dRun d = 0) && (dOpcode d == 5 || decide (dRun d ≤ dDStride d))))

/-- Host lines, alignment and interleave of READ and WRITE (R269). -/
def hostGood (d : Desc) : Bool :=
  let n := dBlocks d * 4096
  (dLineLen d == 0 || (decide (n % dLineLen d = 0) && decide (dLineLen d ≤ dHStride d))) &&
    decide (dHostAddr d % 4 = 0) && decide (dLineLen d % 4 = 0) && decide (dHStride d % 4 = 0) &&
    (decide (dWays d < 2) || (decide (dUnitLog2 d ≤ 14) && decide (n % (dWays d * 2 ^ (6 + dUnitLog2 d)) = 0)))

/-- R268 check 2 for each opcode, with the peer footprint of R272. -/
def fieldsGood (peerMib : Nat) (d : Desc) : Bool :=
  match dOpcode d with
  | 0x01 | 0x02 =>
    runsGood d && hostGood d && decide (dPiMode d < 2) && (!dPeer d || decide (hostEnd d ≤ peerMib * 1048576))
  | 0x04 => runsGood d && !dPeer d
  | 0x05 => runsGood d && !dPeer d
  | 0x06 => decide (1 ≤ dBlocks d) && decide (dBlocks d ≤ 65536) && dRun d == 0 && !dTxn d && !dPeer d
  | _ => true

/-- R268 check 4: COPY_SEL against the pool's code (R275), PI_MODE 1 against HOST_PI (R271). -/
def volumeFieldsGood (d : Desc) (p : PoolSt) (v : CVol) : Bool :=
  let copySel := match dOpcode d with
    | 0x01 | 0x05 => dCopySel d == 0 || (p.charter.shape.codeType == 1 && decide (dCopySel d ≤ p.charter.shape.m + 1))
    | _ => true
  let pi := match dOpcode d with
    | 0x01 | 0x02 => dPiMode d != 1 || v.hostPi != 0
    | _ => true
  copySel && pi

/-- R268 check 5. -/
def rangeGood (d : Desc) (v : CVol) : Bool :=
  match dOpcode d with
  | 0x01 | 0x02 | 0x04 | 0x05 | 0x06 => (deviceLbas d).all (fun l => decide (l < v.size))
  | _ => true

/-- What R268 answers a command. -/
inductive Check
  | run
  /-- the key slot is being loaded (R220) -/
  | wait
  | stop (status : Nat) (info : BitVec 64)
deriving DecidableEq, Repr

/-- Opcodes that name a volume. -/
def namesVolume (o : Nat) : Bool := [0x01, 0x02, 0x03, 0x04, 0x05, 0x06, 0x10].contains o
/-- Opcodes whose command moves blocks through a key slot. -/
def usesKey (o : Nat) : Bool := [0x01, 0x02, 0x04, 0x05, 0x06].contains o

def keyCheck (s : Part) (v : Nat) (info : BitVec 64) : Check :=
  match s.keyGate v with
  | 0 => .run
  | 1 => .wait
  | _ => .stop 0x14 info

/-- COPY's destination checks (R277), in order, with INFO bit 63. -/
def copyCheck (s : Part) (d : Desc) (v : CVol) : Check :=
  if dDstTop d ≠ 0 then .stop 0x11 (infoDest 0)
  else
    match s.volume? (dDstVol d) with
    | none => .stop 0x12 (infoDest 0)
    | some (_, dv) =>
      if dv.hostPi ≠ v.hostPi then .stop 0x11 (infoDest 0)
      else if dv.size < dDstLba d + dBlocks d then .stop 0x13 (infoDest 0)
      else keyCheck s (dDstVol d) (infoDest 0)

/-- The checks of R268, in order. -/
def commandCheck (s : Part) (d : Desc) : Check :=
  if !knownOpcode (dOpcode d) then .stop 0x10 0
  else if !fieldsGood s.sched.peerMib d then .stop 0x11 0
  else if !namesVolume (dOpcode d) then .run
  else
    match s.volume? (dVol d) with
    | none => .stop 0x12 0
    | some (p, v) =>
      if !volumeFieldsGood d p v then .stop 0x11 0
      else if !rangeGood d v then .stop 0x13 0
      else if usesKey (dOpcode d) then
        match keyCheck s (dVol d) 0 with
        | .run => if dOpcode d = 6 then copyCheck s d v else .run
        | r => r
      else .run

/-! ### Taking a command in chain order -/

/-- Commands of the chain that stand before this one. -/
def ChainSt.before (c : ChainSt) (h : BitVec 32) : List Cmd := c.cmds.takeWhile (fun x => x.hseq != h)

/-- The chain lets the scheduler take commands: not paused (R288), not frozen or stopped (Tables 4.5, 4.6, 13.5), not
halted by a reset or the loss of Bus Master Enable. -/
def chainRuns (s : Part) (c : ChainSt) : Bool :=
  [ChainState.running, .parked, .draining, .halted].contains c.st && !s.sched.frozen && !s.sched.resetting &&
    !s.sched.stopped && s.dump.state != 3 && c.halt != 0x80 && c.halt != 0x84

/-- Chain order and barriers (R81, R96): every earlier command has been taken and admitted; a barrier waits for every
earlier command, and holds every later one. -/
def orderAllows (c : ChainSt) (x : Cmd) : Bool :=
  let prior := c.before x.hseq
  prior.all (fun y => y.phase != .accepted && y.phase != .waiting) &&
    prior.all (fun y => !dBarrier y.desc || y.phase == .done) &&
    (!dBarrier x.desc || prior.all (fun y => y.phase == .done))

/-- The command of a chain that stands in `phase` and may be taken now. -/
def takeable (s : Part) (c : Nat) (h : BitVec 32) (phase : CmdPhase) : Option Cmd :=
  match s.cmd? c h with
  | some x => if x.phase = phase && chainRuns s (s.chain c) && orderAllows (s.chain c) x then some x else none
  | none => none

/-- The pool serves host commands from this unit (R297, R304, R311). -/
def poolServes (p : PoolSt) : Bool := p.life == 3 && p.owned && p.pair.state != 4 && !p.pair.handing && !p.pair.gap

/-- A command taken whose checks pass runs `k`; one that fails completes at once; one whose key is loading waits. -/
def withCheck (s : Part) (c : Nat) (x : Cmd) (k : Part → Part) : Part :=
  match commandCheck s x.desc with
  | .run => k s
  | .wait => s
  | .stop status info => complete c x.hseq status info s

end Sys2Proof.Machine
end

