-- ==== Sys2Proof/Machine/Reconcile.lean ====
section
/-! DEFINITION. The examination of a mirror block (R136, R140), stalls (R104, R121, R122), reconciliation of a stripe (R119) and
the survey for lost markers (R149). -/

namespace Sys2Proof.Machine

/-! ### Mirrors -/

/-- The examination of a mirror block (R136, R140): winner, copies to rewrite, whether it is divergent. -/
structure MirrorExam where
  winner : Option (Nat × Block)
  rewrites : List (Nat × Nat × Block)
  divergent : Bool

def examineMirror (s : Part) (p : PoolSt) (g : Geo) (stripe bo : Nat) (reads : List StripRead) : MirrorExam :=
  let ok := (reads.mapIdx (fun i r => (i, r))).filterMap (fun x =>
    match x.2 with
    | .ok b => if qualifies s p g stripe 0 bo b then some (x.1, b) else none
    | _ => none)
  let gen (b : Block) : Nat := if g.fmt = 4 then 0 else b.gen
  let top := (ok.map (fun x => gen x.2)).foldl max 0
  let best := ok.filter (fun x => gen x.2 == top)
  match best.head? with
  | none => { winner := none, rewrites := [], divergent := false }
  | some w =>
    let div := best.any (fun x => decide (codedUnit g.fmt x.2 ≠ codedUnit g.fmt w.2))
    let others := (reads.mapIdx (fun i r => (i, r))).filter (fun x =>
      match x.2 with
      | .missing => false
      | .bad => true
      | .ok b => decide (codedUnit g.fmt b ≠ codedUnit g.fmt w.2))
    { winner := some w, rewrites := others.map (fun x => (x.1, bo, w.2)), divergent := div }

/-! ### Blocks written at once -/

/-- Blocks stored as a strip of a member (R57, R130). -/
def putStrip (p : PoolSt) (g : Geo) (k mba i : Nat) (blocks : List (Nat × Block)) (s : Part) : Part :=
  s.modMember k (fun m =>
    let m := blocks.foldl (fun (m : MemberSt) x =>
      m.store (mba + x.1) (stampBlock (g.isCheck i) g.fmt i p.id (mba + x.1) x.2)) m
    { m with recentWrites := (mba :: m.recentWrites).take 4096 })

/-- Blocks written to the places of a stripe's strips now. -/
def writeStripe (ps : PoolSt) (g : Geo) (stripe : Nat) (blocks : List (Nat × Nat × Block)) (s : Part) : Part :=
  (stripsOf blocks).foldl (fun st i =>
    (st.places ps g false stripe i).foldl (fun st2 pl =>
      putStrip ps g pl.1 pl.2 i ((blocks.filter (fun x => x.1 == i)).map (fun x => (x.2.1, x.2.2))) st2) st)
    (dropClean ps.id (fun b => b.stripe == stripe) s)

/-! ### Stalls -/

/-- The state an entry without a destage has: HELD over held blocks, THROUGH otherwise. -/
def idleState (s : Part) (p stripe : Nat) : EntryState := if (s.heldOf p stripe).any (fun b => !b.through) then .held else .through

/-- A stripe that cannot be made consistent: a Strict pool stalls it, its entry STALLED (R104, R121); in a Progress pool the
POISON_AFTER wait starts (R122). -/
def stallStripe (p stripe : Nat) (s : Part) : Part :=
  let progress := ((s.pool? p).map PoolSt.progress).getD false
  log 0x0B03 p (leBytes 6 stripe) ((addEntry p stripe .stalled s).modEntry p stripe (fun e =>
    { e with state := if progress then idleState s p stripe else .stalled, built := false, left := [], places := [], done := []
             staged := [], replay := false, stalledAt := if progress then some s.timeUs else none }))

/-! ### Reconciliation (R119) -/

/-- What is to be rewritten at an offset, and the state with its records. -/
abbrev Exam := List (Nat × Nat × Block) × Part

/-- One offset of a parity stripe whose data strips are all present: blocks that fail are lost with cause RECONCILE, the
checks follow the data (steps 2 and 4). -/
def reconcileParity (p : PoolSt) (g : Geo) (bad : BadReads) (stripe bo : Nat) (s : Part) : Exam :=
  let units := (readStripe s p g bad stripe bo).map (StripRead.unit? g.fmt)
  let lost := ((List.range g.h.k).filter (fun i => (units.getD i none).isNone)).map (fun i => (i, lostEntryFor s p.charter g 3 stripe i bo))
  let data := (List.range g.h.k).map (fun i => match alGet i lost with
    | some e => codedUnit g.fmt (lostMarker p.id e)
    | none => (units.getD i none).getD [])
  let full := encodeStripe g.h.k g.h.m g.h.g data
  let checks := ((List.range g.w).filter (fun i => decide (g.h.k ≤ i) && decide (units.getD i none ≠ some (full.getD i [])))).map
    (fun i => (i, bo, g.blockOf i (full.getD i [])))
  (lost.map (fun x => (x.1, bo, lostMarker p.id x.2)) ++ checks, lost.foldl (fun t e => enterLost p.id e.2 t) s)

/-- One block of a mirror (steps 3 and 4). -/
def reconcileCopies (p : PoolSt) (g : Geo) (bad : BadReads) (stripe bo : Nat) (s : Part) : Exam :=
  let x := examineMirror s p g stripe bo (readStripe s p g bad stripe bo)
  match x.winner with
  | none =>
    let e := lostEntryFor s p.charter g 3 stripe 0 bo
    (markerWrites s p g bad stripe bo [(0, e)], enterLost p.id e s)
  | some _ =>
    if x.divergent then (if byRank p g stripe bo [0] then x.rewrites else [], blockDiverges p g stripe 0 bo s)
    else (x.rewrites, s)

/-- A strip the reconciliation of a stripe needs is missing (step 5): a data strip, or every copy of a mirror. -/
def reconcileBlocked (s : Part) (p : PoolSt) (g : Geo) (stripe : Nat) : Bool :=
  let pr := presence s p g stripe
  if g.mirror then pr.all (! ·) else (pr.take g.h.k).any (! ·)

/-- A stripe is reconciled, or stalls; the second component says that it was reconciled. -/
def reconcileStripe (p : Nat) (bad : BadReads) (stripe : Nat) (s : Part) : Bool × Part :=
  match s.pool? p with
  | none => (false, s)
  | some ps =>
    let g := ps.charter.geoOf stripe
    if reconcileBlocked s ps g stripe then (false, stallStripe p stripe s)
    else
      let r := (List.range g.h.sb).foldl (fun (acc : Exam) bo =>
        let x := (if g.mirror then reconcileCopies else reconcileParity) ps g bad stripe bo acc.2
        (acc.1 ++ x.1, x.2)) ([], s)
      (true, writeStripe ps g stripe r.1 r.2)

/-- The record of a recovery (Table 16.3). -/
def recoveryRecord (p source tide destaged reconciled lost : Nat) (s : Part) : Part :=
  log 0x0B04 p (leBytes 1 source ++ leBytes 8 tide ++ leBytes 8 destaged ++ leBytes 4 reconciled ++ leBytes 4 lost) s

/-- The record of a reconciliation once no stripe of it is left. -/
def reconcileEnds (p : Nat) (s : Part) : Part :=
  match s.pool? p with
  | none => s
  | some ps =>
    if ps.int.reconcile.isEmpty then recoveryRecord p 3 ps.ckpt.tide ps.ckpt.destagedTide ps.int.reconDone ps.int.reconLost s else s

/-- A stripe that awaits reconciliation is reconciled (R119): in its turn, or first of all when a read needs it. -/
def reconcileOne (p : Nat) (bad : BadReads) (stripe : Nat) (s : Part) : Part :=
  match s.pool? p with
  | none => s
  | some ps =>
    let before := ps.int.lost.length
    let r := reconcileStripe p bad stripe s
    reconcileEnds p (r.2.modPool p (fun x => { x with int := { x.int with
      reconcile := x.int.reconcile.filter (· != stripe), reconDone := x.int.reconDone + b2n r.1
      reconLost := x.int.reconLost + (x.int.lost.length - before) } }))

/-- The next stripe of the intent set is reconciled, those behind a link that is down excepted (R206). -/
def reconcileNext (p : Nat) (s : Part) : Part :=
  match (s.pool? p).bind (fun ps => ps.int.reconcile.find? (fun x => !linkWaits s ps (ps.charter.geoOf x) x)) with
  | some stripe => reconcileOne p [] stripe s
  | none => s

/-! ### The survey for markers (R149) -/

/-- The table entry that a lost marker holds (Tables 6.6, 6.8). -/
def LostEntry.ofMarker (b : Block) : LostEntry :=
  let d := (padTo 40 b.ct).drop 8
  let num (lo n : Nat) : Nat := ofLe ((d.drop lo).take n)
  { vol := num 0 2 % 4096, cause := num 0 2 / 4096, lba := num 2 6, stripe := num 8 6, strip := num 14 1 % 128
    unalloc := decide (128 ≤ num 14 1), bo := num 15 1, tide := num 16 8, gen := num 24 8 }

/-- The markers in the data strips of a stripe. -/
def markersIn (s : Part) (p : PoolSt) (stripe : Nat) : List LostEntry :=
  let g := p.charter.geoOf stripe
  (List.range (if g.mirror then g.w else g.h.k)).flatMap (fun i => (List.range g.h.sb).filterMap (fun bo =>
    match readStrip s p g [] stripe bo i with
    | .ok b => if lostBit b then some { LostEntry.ofMarker b with stripe := stripe, strip := if g.mirror then 0 else i, bo := bo } else none
    | _ => none))

/-- The survey reads the next stripe that awaits no replay: markers it finds enter the table. -/
def surveyNext (p : Nat) (s : Part) : Part :=
  match s.pool? p with
  | none => s
  | some ps =>
    match ps.int.survey.find? (fun z => !((s.entry? p z).map (·.replay)).getD false && !linkWaits s ps (ps.charter.geoOf z) z) with
    | none => s
    | some stripe =>
      refreshLostState p (s.modPool p (fun x => { x with int := { x.int with
        survey := x.int.survey.filter (· != stripe)
        lost := (markersIn s ps stripe).foldl (fun l e => if l.any (fun y => decide (y.key = e.key)) then l else l ++ [e]) x.int.lost } }))

/-! ### Resolution of divergent blocks (R139) -/

/-- Rewrites of a resolution (R139): a mirror keeps the copy named; a parity offset keeps the stored data, or takes the
block's version from the checks. -/
def resolveWrites (s : Part) (p : PoolSt) (d : DivEntry) (choice : Nat) : List (Nat × Nat × Block) :=
  let g := p.charter.geoOf d.stripe
  let reads := readStripe s p g [] d.stripe d.bo
  let units := reads.map (StripRead.unit? g.fmt)
  if g.mirror then
    match reads.getD choice .missing with
    | .ok b => ((List.range g.w).filter (· != choice)).map (fun c => (c, d.bo, b))
    | _ => []
  else if choice = 0 then
    let data := units.take g.h.k
    if data.all Option.isSome then
      ((encodeStripe g.h.k g.h.m g.h.g (data.filterMap id)).mapIdx (fun i u => (i, d.bo, g.blockOf i u))).drop g.h.k
    else
      match decodeStripe g.h.k g.h.m g.h.g units with
      | some f => ((encodeStripe g.h.k g.h.m g.h.g (f.take g.h.k)).mapIdx (fun i u => (i, d.bo, g.blockOf i u))).drop g.h.k
      | none => []
  else
    match decodeStripe g.h.k g.h.m g.h.g (units.set d.strip none) with
    | some f => [(d.strip, d.bo, g.blockOf d.strip (f.getD d.strip []))]
    | none => []

/-- The first resolution that waits and whose stripe has no entry now rewrites its block; one whose block is no longer divergent
has nothing left to do. -/
def resolveNext (p : Nat) (s : Part) : Part :=
  match s.pool? p with
  | none => s
  | some ps =>
    match ps.int.toResolve.find? (fun x => (s.entry? p x.1.stripe).isNone) with
    | none => s
    | some (d, choice) =>
      let s := s.modPool p (fun x => { x with int := { x.int with toResolve := x.int.toResolve.filter (fun y => decide (y.1 ≠ d)) } })
      if ps.int.diverged.contains d then
        stageRepair 8 p d.stripe (resolveWrites s ps d choice)
          (s.modPool p (fun x => { x with int := { x.int with resolving := x.int.resolving ++ [d] } }))
      else s

end Sys2Proof.Machine
end

