-- ==== Sys2Proof/Machine/ReadOps.lean ====
section
/-! DEFINITION. The read path of a block (R134, Table 6.4): routing during a Crossing (R172), held blocks, strips and
copies, reconstruction with repair and loss (R131, R145, R160), the mirror rule (R136), the verdict rule (R224), the host
PI check after decryption (R133). -/

namespace Sys2Proof.Machine

/-! ### Routing -/

/-- Blocks a step of a Crossing moves (R171). -/
def crossStepBlocks (c : Charter) (x : CrossBlk) : Nat :=
  if x.isShape then Nat.lcm c.shape.kb x.shape.kb else c.shape.kb

/-- The shape a read of a volume block uses: true for the target (Table 7.7). -/
def readsTarget (p : PoolSt) (v lba : Nat) : Bool :=
  match p.charter.cross with
  | none => false
  | some x => x.isShape && (p.cross.crossed.contains v || (x.curVolume == v && decide (lba < p.cross.live)))

/-- The shapes a write of a volume block goes to (Table 7.7; aborting, with the roles exchanged, R176). -/
def writesTargets (p : PoolSt) (v lba : Nat) : List Bool :=
  match p.charter.cross with
  | none => [false]
  | some x =>
    if !x.isShape then [false]
    else if p.cross.crossed.contains v then [true]
    else if x.curVolume != v then [false]
    else
      let step := crossStepBlocks p.charter x
      if x.stage = 1 then
        if x.cursor ≤ lba then [false] else if p.cross.live ≤ lba + step then [false, true] else [true]
      else
        if lba < x.cursor then [true] else if lba < p.cross.live + step then [false, true] else [false]

/-- The shape and address of a block. -/
def addrOf (p : PoolSt) (target : Bool) (v : CVol) (lba : Nat) : Geo × Nat × Nat × Nat :=
  let a := p.charter.addrIn target v lba
  (p.charter.geoOf a.1, a.1, a.2.1, a.2.2)

/-! ### Tollgate and host PI on the way out -/

/-- AUTH_FAIL is counted, and recorded at most once per second per volume (R224). -/
def countAuthFail (p v lba member : Nat) (s : Part) : Part :=
  let s := s.modToll (fun t => { t with
    authFailTotal := t.authFailTotal + 1
    slots := t.slots.map (fun x => if x.id = v then { x with authFails := x.authFails + 1 } else x) })
  let recent := match alGet v s.toll.authLogged with
    | some t => decide (s.timeUs < t + sec 1)
    | none => false
  if recent then s
  else
    log 0x0901 p (leBytes 2 v ++ leBytes 6 lba ++ leBytes 2 member)
      (s.modToll (fun t => { t with authLogged := alSet v s.timeUs t.authLogged }))

/-- A host PI double failure (R133): recorded; two within 1 s start the self-test. -/
def integrityFault (v lba lane : Nat) (s : Part) : Part :=
  let s := log 0x0804 lane (leBytes 2 v ++ leBytes 6 lba) s
  let again := match s.toll.lastDouble with
    | some t => decide (s.timeUs < t + sec 1)
    | none => false
  let s := s.modToll (fun t => { t with lastDouble := some s.timeUs })
  if again then selfTestClean s else s

/-- Plaintext and host PI of a stored block under the first key whose tag verifies; a format without tags takes the first
key (R129). -/
def openBlock (s : Part) (p : PoolSt) (g : Geo) (v : CVol) (lba : Nat) (b : Block) : Option (Bytes × Bytes) :=
  if g.fmt = 4 then
    (s.materials p v.id lba).head?.map (fun m =>
      let pt := (decryptBlock m 4 v.id lba b).1
      (pt, hostPiOf v.hostPi [0, 0] lba pt))
  else
    (s.materials p v.id lba).findSome? (fun m => if tagGood m v.id lba b then some (decryptBlock m g.fmt v.id lba b) else none)

/-- First data lane in service. -/
def firstLane (t : TollSt) : Nat := ((List.range 24).find? (fun u => !t.retired.contains u)).getD 0

/-- How one block of a command ends. -/
inductive BlockEnd
  | deliver (pt hpi : Bytes)
  | status (code copy : Nat)
deriving DecidableEq, Repr

/-- The host PI check after decryption (R133), with what the lanes do in this step. -/
def finishBlock (lf : LaneFaults) (v : CVol) (lba copy : Nat) (pt hpi : Bytes) (s : Part) : BlockEnd × Part :=
  if hostPiCheck v.hostPi lba hpi pt ≠ 0 then (.status 0x32 copy, integrityFault v.id lba (firstLane s.toll) s)
  else
    match lf.hostPi.find? (fun x => x.1 == lba) with
    | some (_, lane, true) => (.status 0x32 copy, integrityFault v.id lba lane s)
    | some (_, lane, false) => (.deliver pt hpi, noted 8 133 2 (leBytes 1 lane ++ leBytes 2 v.id ++ leBytes 6 lba) s)
    | none => (.deliver pt hpi, s)

/-- The zeros of a never-written block with generated host PI (R127). -/
def zeroEnd (v : CVol) (lba : Nat) : BlockEnd :=
  let pt := List.replicate 4096 0
  .deliver pt (hostPiOf v.hostPi [0, 0] lba pt)

/-! ### Mirrors -/

/-- The examination acted on: a Strict divergence is recorded and nothing rewritten; otherwise the winner stands. -/
def actOnMirror (cls : Nat) (p : PoolSt) (g : Geo) (stripe bo : Nat) (x : MirrorExam) (s : Part) : Part :=
  if x.divergent then
    let s := blockDiverges p g stripe 0 bo s
    if p.progress || (p.charter.blockVol g stripe 0 bo).isNone then stageRepair cls p.id stripe x.rewrites s else s
  else
    let s := x.rewrites.foldl (fun st r => repairedAt p g stripe r.1 bo st) s
    stageRepair cls p.id stripe x.rewrites s

/-! ### One block -/

/-- At an offset that cannot be decoded, data ranges that fail while no strip too many is missing are lost (R145); a block whose
strip is missing, or the stripe behind a link that may still return (R206), is unreadable for now (R160). -/
def unreadable (cls : Nat) (bad : BadReads) (p : PoolSt) (g : Geo) (stripe bo : Nat) (s : Part) : Part :=
  if beyondRepair s p g stripe || linkWaits s p g stripe then s
  else
    let reads := (List.range g.w).map (readSalvage s p g bad stripe bo)
    let there := localUnits p g stripe bo (reads.map (StripRead.unit? g.fmt))
    let lost := ((List.range (if g.mirror then 1 else g.h.k)).filter (fun j =>
      decide (reads.getD j .missing = .bad) && (there.getD j none).isNone)).map (fun j => (j, lostEntryFor s p.charter g 0 stripe j bo))
    let ws := markerWrites s p g bad stripe bo lost
    let s := lost.foldl (fun t e => enterLost p.id e.2 t) s
    let s := if !g.mirror && !lost.isEmpty && !ws.any (fun x => g.isCheck x.1) then recheckLater p.id stripe bo true s else s
    stageRepair cls p.id stripe ws s

/-- A stored block through Tables 6.4 steps 2 to 6; `none` when its tag fails. -/
def judge (lf : LaneFaults) (p : PoolSt) (g : Geo) (v : CVol) (lba copy : Nat) (b : Block) (s : Part) : Option (BlockEnd × Part) :=
  if lostBit b then some (.status 0x30 copy, s)
  else if b.isZero then some (zeroEnd v lba, s)
  else (openBlock s p g v lba b).map (fun x => finishBlock lf v lba copy x.1 x.2 s)

/-- A data block reconstructed from the other strips (R36, R40, R412, R160): `failed` says what its own strip answered, and the
block `own` it holds where that one's tag failed. A block that passes is delivered and, where its own strip had failed,
rewritten (R131, Table 6.4 step 4). -/
def rebuildBlock (cls : Nat) (bad : BadReads) (lf : LaneFaults) (p : PoolSt) (g : Geo) (v : CVol) (lba stripe i bo : Nat)
    (own : Option StripRead) (s : Part) : BlockEnd × Part :=
  let reads := ((List.range g.w).map (readSalvage s p g bad stripe bo)).set i .missing
  let units := reads.map (StripRead.unit? g.fmt)
  let authFail (st : Part) : BlockEnd × Part := (.status 0x31 0, countAuthFail p.id v.id lba (stripMember p g stripe i) st)
  let nothing : BlockEnd × Part :=
    match own with
    | some (.ok _) => authFail s
    | _ => (.status 0x30 0, unreadable cls bad p g stripe bo s)
  if beyondRepair s p g stripe && (localUnits p g stripe bo units).getD i none = none then nothing
  else
    match decodeAt p g stripe bo units with
    | .beyond =>
      match (localUnits p g stripe bo units).getD i none with
      | some u =>
        (match judge lf p g v lba 0 (g.blockOf i u) s with
         | some x => x
         | none => authFail s)
      | none => nothing
    | d =>
      let r := settle s p g stripe bo reads units d
      let b := g.blockOf i (r.units.getD i [])
      let others := r.rewrites.filter (fun x => x.1 != i)
      if r.diverged.contains i then (.status 0x33 0, stageRepair cls p.id stripe others r.part)
      else
        match judge lf p g v lba 0 b r.part with
        | some x =>
          if own.isSome then (x.1, stageRepair cls p.id stripe ((i, bo, b) :: others) (repairedAt p g stripe i bo x.2))
          else (x.1, stageRepair cls p.id stripe others x.2)
        | none => authFail (stageRepair cls p.id stripe others r.part)

/-- A parity block from its members (Table 6.4); a read that needs reconstruction in a stripe not yet reconciled reconciles it
first (R119). -/
def readParity (cls : Nat) (bad : BadReads) (lf : LaneFaults) (p : PoolSt) (g : Geo) (v : CVol) (lba stripe i bo : Nat) (s : Part) :
    BlockEnd × Part :=
  let direct (bad : BadReads) (p : PoolSt) (s : Part) : BlockEnd × Part :=
    match readStrip s p g bad stripe bo i with
    | .missing => rebuildBlock cls bad lf p g v lba stripe i bo none s
    | .bad => rebuildBlock cls bad lf p g v lba stripe i bo (some .bad) s
    | .ok b =>
      match judge lf p g v lba 0 b s with
      | some x => x
      | none => rebuildBlock cls bad lf p g v lba stripe i bo (some (.ok b)) s
  let well := match readStrip s p g bad stripe bo i with
    | .ok b => (judge lf p g v lba 0 b s).isSome
    | _ => false
  if well || !p.int.reconcile.contains stripe then direct bad p s
  else
    let s := reconcileOne p.id bad stripe s
    direct (bad.filter (fun x => some x ≠ (readPlace p g stripe i).map (fun pl => (pl.1, pl.2 + bo)))) ((s.pool? p.id).getD p) s

/-- One copy of a mirror block, as COPY_SEL asks for it (R275): nothing is repaired. -/
def readCopy (bad : BadReads) (lf : LaneFaults) (p : PoolSt) (g : Geo) (v : CVol) (lba stripe bo c : Nat) (s : Part) : BlockEnd × Part :=
  match readStrip s p g bad stripe bo c with
  | .ok b =>
    (match judge lf p g v lba c b s with
     | some x => x
     | none => (.status 0x31 c, countAuthFail p.id v.id lba (stripMember p g stripe c) s))
  | _ => (.status 0x30 c, s)

/-- Every copy of a mirror block examined (R136): the winner is delivered and the losing copies are rewritten; a divergence that
stays recorded returns DIVERGED. -/
def readAll (cls : Nat) (bad : BadReads) (lf : LaneFaults) (p : PoolSt) (g : Geo) (v : CVol) (lba stripe bo : Nat) (s : Part) :
    BlockEnd × Part :=
  let reads := readStripe s p g bad stripe bo
  let x := examineMirror s p g stripe bo reads
  let st := actOnMirror cls p g stripe bo x s
  if x.divergent && !p.progress then (.status 0x33 0, st)
  else
    match x.winner with
    | some (_, b) =>
      (match judge lf p g v lba 0 b st with
       | some y => y
       | none => (.status 0x31 0, countAuthFail p.id v.id lba (stripMember p g stripe 0) st))
    | none =>
      if reads.any (fun r => match r with | .ok _ => true | _ => false) then
        (.status 0x31 0, countAuthFail p.id v.id lba (stripMember p g stripe 0) st)
      else (.status 0x30 0, unreadable cls bad p g stripe bo st)

/-- The copy an ordinary read takes among those that can be read: which is open (R136, log entry 8). -/
def readChoice (s : Part) (p : PoolSt) (g : Geo) (stripe bo : Nat) : Nat :=
  let l := (List.range g.w).filter (fun c => (readPlace p g stripe c).any (fun pl => s.serves pl.1))
  l.getD (Config.mirrorReadCopy p.id (g.h.join stripe 0 bo) % max 1 l.length) 0

/-- An ordinary read of a mirror block (R134, R136): one copy; where it fails, all of them are examined. -/
def readMirror (cls : Nat) (bad : BadReads) (lf : LaneFaults) (p : PoolSt) (g : Geo) (v : CVol) (lba stripe bo : Nat) (s : Part) :
    BlockEnd × Part :=
  match readStrip s p g bad stripe bo (readChoice s p g stripe bo) with
  | .ok b =>
    (match judge lf p g v lba 0 b s with
     | some x => x
     | none => readAll cls bad lf p g v lba stripe bo s)
  | _ => readAll cls bad lf p g v lba stripe bo s

/-- One block of a READ, VERIFY or COPY (R134, R275). `copySel` 0 reads any copy. -/
def readBlock (cls copySel : Nat) (bad : BadReads) (lf : LaneFaults) (p : PoolSt) (v : CVol) (lba : Nat) (s : Part) : BlockEnd × Part :=
  let (g, stripe, i, bo) := addrOf p (readsTarget p v.id lba) v lba
  match (if copySel = 0 then s.heldAt p.id stripe i bo else none) with
  | some h =>
    match judge lf p g v lba 0 h.block s with
    | some x => x
    | none => (.status 0x31 0, countAuthFail p.id v.id lba 0xFFFF s)
  | none =>
    if copySel = 0 && !p.progress && p.int.diverged.any (fun d => d.stripe == stripe && d.strip == i && d.bo == bo) then
      (.status 0x33 0, s)
    else if !g.mirror then readParity cls bad lf p g v lba stripe i bo s
    else if copySel ≠ 0 then readCopy bad lf p g v lba stripe bo (copySel - 1) s
    else if s.objNum (poolIdx p.id 0x14) 3 = 1 then readAll cls bad lf p g v lba stripe bo s
    else readMirror cls bad lf p g v lba stripe bo s

/-- A list of blocks read one after the other: how each ended, in order. The pool is looked up anew for each block. -/
def readBlocks (cls copySel : Nat) (bad : BadReads) (lf : LaneFaults) (v : Nat) : List Nat → Part → List (Nat × BlockEnd) × Part
  | [], s => ([], s)
  | lba :: rest, s =>
    match s.volume? v with
    | none => ([], s)
    | some (p, cv) =>
      let (e, s1) := readBlock cls copySel bad lf p cv lba s
      let (es, s2) := readBlocks cls copySel bad lf v rest s1
      ((lba, e) :: es, s2)

/-- The status a command completes with: the first block that failed, in stream order (R134). -/
def firstFailure (v : Nat) (one : Bool) (l : List (Nat × BlockEnd)) : Nat × BitVec 64 :=
  match l.find? (fun x => match x.2 with | .status _ _ => true | _ => false) with
  | some (lba, .status code copy) => (code, if one then infoCopy v lba copy else infoOf v lba)
  | _ => (0x00, 0)

/-- A block of a read that has to wait: its stripe is stalled (R121) or, its block not held, awaits its replay (R117); the strip
it needs may still be read within LINK_HOLD_MS (R206); it needs a reconstruction that reconciliation does not allow yet
(R119). -/
def readAwaits (s : Part) (p : PoolSt) (v : CVol) (lba : Nat) : Bool :=
  let (g, stripe, i, bo) := addrOf p (readsTarget p v.id lba) v lba
  let held := (s.heldAt p.id stripe i bo).isSome
  let gone := match readPlace p g stripe i with
    | some pl => !s.serves pl.1
    | none => true
  (match s.entry? p.id stripe with
   | some e => e.stuck || (e.replay && !held)
   | none => false) ||
    (!held && !g.mirror && ((gone && awaitsLink s p g stripe) ||
      (p.int.reconcile.contains stripe && (linkWaits s p g stripe || (gone && reconcileBlocked s p g stripe)))))

/-- A command touches a block that has to wait. -/
def touchesStalled (s : Part) (p : PoolSt) (v : CVol) (lbas : List Nat) : Bool := lbas.any (readAwaits s p v)

end Sys2Proof.Machine
end

