-- ==== Sys2Proof/Machine/DictOps.lean ====
section
/-! DEFINITION. What every accepted dictionary request passes through: session and privilege (R350, R352), staging locks
(R367), the response (R357, Table 15.4). -/

namespace Sys2Proof.Machine

/-! ### Status codes of Table 15.4 -/
def stOk : Nat := 0x00
def stNoObject : Nat := 0x01
def stReadOnly : Nat := 0x02
def stPrivilege : Nat := 0x03
def stTypeLen : Nat := 0x04
def stRange : Nat := 0x05
def stRule : Nat := 0x06
def stConflict : Nat := 0x07
def stState : Nat := 0x08
def stSequence : Nat := 0x09
def stSession : Nat := 0x0A
def stNoSession : Nat := 0x0B
def stAuth : Nat := 0x0C
def stLocked : Nat := 0x0D
def stTwinUnreachable : Nat := 0x0E
def stSegment : Nat := 0x0F
def stPending : Nat := 0x10
def stBadOp : Nat := 0x11

def roleOperator : Nat := 1
def roleCustodian : Nat := 2

/-- DETAIL of RULE and STATE: the binding statement and the item within it. -/
def ruleDetail (rule item : Nat) : Nat := rule % 65536 + (item % 256) * 65536

/-! ### Frames (R357, R358) -/

/-- Flag byte of a frame header. -/
def frameFlags (last twin response : Bool) (rsvd : Nat) : Nat := b2n last + 2 * b2n twin + 4 * b2n response + 8 * (rsvd % 32)

/-- Frame header (Table 15.3). -/
def frameHeader (op flags seq session index sub status len offset total : Nat) : Bytes :=
  [BitVec.ofNat 8 op, BitVec.ofNat 8 flags] ++ leBytes 2 seq ++ leBytes 2 session ++
    leBytes 2 index ++ leBytes 1 sub ++ leBytes 1 status ++ leBytes 2 len ++ leBytes 2 offset ++ leBytes 2 total

/-- MAC of a frame (R358): direction 0 for a request, 1 for a response. -/
def frameMac (kMac : Bytes) (dir : Nat) (body : Bytes) : Bytes := (cmac kMac (leBytes 1 dir ++ body)).take 8

def zeroMac : Bytes := List.replicate 8 0

/-- A response leaves on the transport its request came by; a mailbox holds it in MBX_RSP (R364). -/
def deliver (t : Transport) (node : Nat) (bytes : Bytes) (s : Part) : Part :=
  let mbx (f : Fn) (s : Part) : Part := raiseEvent 0 f (s.modFn f (fun x => { x with
    mbxRsp := bytes, mbxBusy := false, mbxReady := true }))
  match t with
  | .mbx0 => mbx .f0 s
  | .mbx1 => mbx .f1 s
  | _ => emit (.dictFrame t node bytes) s

/-- The response frame of a session to the request in hand. -/
def responseFrame (x : SessSt) (op : Nat) (f : Frame) (r : DResp) : Bytes :=
  let body := frameHeader op (frameFlags f.last (f.twin || decide (x.transport = .twin)) true 0) x.devSeq x.id f.index f.sub r.status
    r.data.length f.offset
    (if op = 0x11 then f.total else r.total) ++ r.data
  body ++ (if x.noAuth then zeroMac else frameMac x.kMac 1 body)

/-- A session ends (R352): its locks are released, its partial value goes with it. -/
def endSession (id : Nat) (s : Part) : Part :=
  s.modDict (fun d => { d with sessions := d.sessions.filter (fun x => x.id != id)
                               locks := d.locks.filter (fun l => l.2 != id) })

def endSessionsWhere (p : SessSt → Bool) (s : Part) : Part :=
  (s.dict.sessions.filter p).foldl (fun st x => endSession x.id st) s

/-- The response of a request (R357): a status other than OK or PENDING carries its DETAIL as data. A request that came in a
frame is answered by one, with the next device SEQ (R359); a session ends with the answer to SEQ 0xFFFF (R352). -/
def respondValue (q : Req) (status detail : Nat) (data : Bytes) (total : Nat) (s : Part) : Part :=
  let r : DResp := { status := status, detail := detail, total := total
                     data := if status = stOk ∨ status = stPending then data else leBytes 4 detail }
  let s := s.modDict (fun d => { d with resp := some r })
  match s.dict.sessions.find? (fun x => x.id == q.session) with
  | some x =>
    match x.inHand with
    | some (op, f) =>
      let bytes := responseFrame x op f r
      let y : SessSt := { x with devSeq := x.devSeq + 1, lastResp := some bytes, inHand := none }
      let s := s.modDict (fun d => { d with sessions := updBy (fun z => z.id == x.id) (fun _ => y) d.sessions })
      let s := deliver x.transport x.node bytes s
      if f.seq = 0xFFFF then endSession x.id s else s
    | none => emit (.dictResponse q.transport q.session r) s
  | none => emit (.dictResponse q.transport q.session r) s

def respond (q : Req) (status detail : Nat) (data : Bytes) (s : Part) : Part := respondValue q status detail data data.length s

def ok (q : Req) (s : Part) : Part := respond q stOk 0 [] s
def refuse (q : Req) (status detail : Nat) (s : Part) : Part := respond q status detail [] s
def refuseRule (q : Req) (rule item : Nat) (s : Part) : Part := refuse q stRule (ruleDetail rule item) s
def refuseState (q : Req) (rule item : Nat) (s : Part) : Part := refuse q stState (ruleDetail rule item) s

def Part.sess? (s : Part) (id : Nat) : Option SessSt := s.dict.sessions.find? (fun x => x.id == id)

def Part.modSess (s : Part) (id : Nat) (g : SessSt → SessSt) : Part :=
  s.modDict (fun d => { d with sessions := updBy (fun x => x.id == id) g d.sessions })

/-- The open session a request names on its own transport and node (R352). -/
def Part.openSess? (s : Part) (q : Req) : Option SessSt :=
  s.dict.sessions.find? (fun x => x.id == q.session && decide (x.transport = q.transport) && x.node == q.node && x.isOpen)

/-- Holder of a staging lock. -/
def Part.lockHolder (s : Part) (scope : Nat × Nat) : Option Nat := alGet scope s.dict.locks

def Part.releaseLock (s : Part) (scope : Nat × Nat) : Part :=
  s.modDict (fun d => { d with locks := alDel scope d.locks })

/-- Transport number of a session, for the DETAIL of CONFLICT. -/
def Part.sessTransport (s : Part) (id : Nat) : Nat := ((s.sess? id).map (fun x => x.transport.num)).getD 0

/-- Checks of R361 that depend on who asks: the session is open here (step 2), its privilege reaches `need` (step 7), no
other session holds the scope's lock (step 10). -/
def checked (q : Req) (need : Nat) (scope : Option (Nat × Nat)) (k : Part → Part) (s : Part) : Part :=
  match s.openSess? q with
  | none => refuse q stSession 0 s
  | some x =>
    if x.role < need then refuse q stPrivilege 0 s
    else
      match scope with
      | none => k s
      | some sc =>
        match s.lockHolder sc with
        | some h => if h = q.session then k s else refuse q stConflict (h % 65536 + s.sessTransport h * 65536) s
        | none => k s

/-- Staging scopes of R367. -/
def scopePool (p : Nat) : Nat × Nat := (0, p)
def scopeVol (v : Nat) : Nat × Nat := (1, v)
def scopeMember (k : Nat) : Nat × Nat := (2, k)
def scopeFleet : Nat × Nat := (3, 0)
def scopeFw : Nat × Nat := (4, 0)

/-- A session's first write to a staged object takes the scope's lock (R367). -/
def Part.takeLock (s : Part) (scope : Nat × Nat) (session : Nat) : Part :=
  match s.lockHolder scope with
  | some _ => s
  | none => s.modDict (fun d => { d with locks := alSet scope session d.locks })

/-- A write to a pair-wide object (R369): answered when the twin accepts; PENDING at once behind another proposal. -/
def askPair (q : Req) (ch : PairChange) (s : Part) : Part :=
  match s.pair.proposal with
  | none => propose ch ((s.modPair (fun x => { x with asker := some q })).modDict (fun d => { d with resp := none }))
  | some _ => respond q stPending 0 [] (propose ch s)

/-- An object that triggers an action and is kept reads back the last value written (Table 15.2): an accepted write stores
it. -/
def keepWritten (index sub v : Nat) (s : Part) : Part :=
  if s.dict.resp.all (fun r => r.status == stOk || r.status == stPending) then s.setObjNum index sub v else s

def keepWrittenBlob (index sub : Nat) (b : Bytes) (s : Part) : Part :=
  if s.dict.resp.all (fun r => r.status == stOk || r.status == stPending) then s.setObjBlob index sub b else s

/-- A commit's answer OK releases the scope's lock (R367). -/
def okCommit (q : Req) (scope : Nat × Nat) (s : Part) : Part := ok q (s.releaseLock scope)

end Sys2Proof.Machine
end

