-- ==== Sys2Proof/Machine/PairOps.lean ====
section
/-! DEFINITION. Shared operations of a pair (12): pair-wide changes as they apply at their tide (R314), hand-over of a pool
(R311), release to run unpaired (R303), a pool that goes back to SYNCING. -/

namespace Sys2Proof.Machine

def PoolSt.isPaired (p : PoolSt) : Bool := p.life != 0 && p.charter.paired

def Part.pairedPools (s : Part) : List PoolSt := s.pools.filter PoolSt.isPaired

/-- Paired pools this unit owns, and those it stands by for (R297). -/
def Part.ownPaired (s : Part) : List PoolSt := s.pairedPools.filter (fun p => p.pair.owner == 0)
def Part.standbyPools (s : Part) : List PoolSt := s.pairedPools.filter (fun p => p.pair.owner == 1)

def modPoolPair (p : Nat) (g : PoolPairSt → PoolPairSt) (s : Part) : Part :=
  s.modPool p (fun x => { x with pair := g x.pair })

/-- PATH_STATE (Table 12.8). -/
def PairSt.pathBits (x : PairSt) : Nat := b2n x.path1Lost + 2 * b2n x.path2Lost + 4 * b2n x.relReceived

/-- PAIR_STATE of a formed pair by its paths (Table 12.2). -/
def pairStateOf (path1Lost path2Lost : Bool) : Nat :=
  if path1Lost && path2Lost then 4 else if path1Lost || path2Lost then 3 else 2

/-- What follows a change of the paths: PAIR_STATE of a formed pair, PATH2_ALARM (Table 12.7), the PATH_CHANGE record. -/
def changePaths (g : PairSt → PairSt) (s : Part) : Part :=
  let a := s.pair
  let b := g a
  let st := if 2 ≤ b.state then pairStateOf b.path1Lost b.path2Lost else b.state
  let alarm := b.path2Lost && !b.path1Lost && decide (2 ≤ st)
  let b := { b with state := st, health := if alarm then b.health ||| 2 else b.health &&& ~~~ 2 }
  let s := { s with pair := b }
  if a.pathBits = b.pathBits ∧ a.state = b.state then s else log 0x1101 0 (leBytes 1 b.pathBits ++ leBytes 1 b.state) s

/-- Path 1 is up. -/
def PairSt.path1Up (x : PairSt) : Bool := !x.path1Lost

/-- A pool's recovery model changes at the agreed tide (R124); the owner's next generation records it. -/
def applyRecovery (p v : Nat) (s : Part) : Part :=
  match s.pool? p with
  | none => s
  | some ps =>
    let s := strictMeanwhile p false s
    if ps.charter.recovery = v then s
    else
      let s := stallsFollow p (v == 1) (s.modPool p (fun x => { x with charter := { x.charter with recovery := v } }))
      if ps.owned then queueDelta p (.recovery v) s else s

/-- The boundary opening h (R311 step 2): the old owner admits nothing more. -/
def handoverOpens (p : Nat) (toPartner : Bool) (s : Part) : Part :=
  s.modPool p (fun x => { x with pair := { x.pair with handing := toPartner } })

/-- A pair-wide change at the boundary that opens its tide (R314). -/
def applyPairChange (ch : PairChange) (s : Part) : Part :=
  match ch with
  | .tideUs v => (s.setObjNum 0x2101 1 v).modSched (fun x => { x with tideUs := v })
  | .recovery p v => applyRecovery p.val v s
  | .charter p gen =>
    match s.pool? p.val with
    | some ps => if (ps.coming.map (·.gen)) = some gen then takeEffect p.val s else s
    | none => s
  | .handover p toPartner => handoverOpens p.val toPartner s

/-- Own proposal that is due at tide `t`: accepted, or the twin declared failed before it (R314 step 6). -/
def Part.ownDue (s : Part) (t : Nat) : Option PairChange :=
  match s.pair.proposal with
  | some (ch, p, acc, _) => if p ≤ t && (acc || s.pair.declared.isSome) then some ch else none
  | none => none

/-- Every pair-wide change due at the boundary that opens tide `t` (R314). -/
def applyDue (t : Nat) (s : Part) : Part :=
  let theirs := (s.pair.agreed.filter (fun x => decide (x.2 ≤ t))).map (·.1)
  let s1 := s.modPair (fun x => { x with agreed := x.agreed.filter (fun y => !decide (y.2 ≤ t)) })
  let s2 := theirs.foldl (fun st ch => applyPairChange ch st) s1
  match s.ownDue t with
  | some ch => proposeNext (applyPairChange ch (s2.modPair (fun x => { x with proposal := none, changeState := 2 })))
  | none => s2

/-- A hand-over is agreed (R311 step 1): POOL_OWNER_NEXT and POOL_HANDOVER_TIDE are set. -/
def announceHandover (ch : PairChange) (tide : Nat) (s : Part) : Part :=
  match ch with
  | .handover p toPartner =>
    noted 17 311 1 (leBytes 1 p.val ++ leBytes 1 (b2n toPartner) ++ leBytes 8 tide)
      (s.modPool p.val (fun x => { x with pair := { x.pair with ownerNext := b2n toPartner, handoverTide := tide } }))
  | _ => s

/-- The members that are not yet fenced gate the stripes of the old intent set (R307, R308). -/
def PoolSt.gapStripe (p : PoolSt) (stripe : Nat) : Bool := !p.pair.fenceLeft.isEmpty && p.pair.oldIntent.contains stripe

/-- An owned pool is released to run unpaired (R303, R79): its marks advance over the held tides. -/
def releasePool (p : Nat) (s : Part) : Part :=
  advanceReleased p (s.modPool p (fun x => { x with pair := { x.pair with state := 3, contest := none, lagZero := 0, failbackAt := none } }))

end Sys2Proof.Machine
end

