-- ==== Sys2Proof/Machine/TowOps.lean ====
section
/-! DEFINITION. The Towpath's shared operations (13, 14): the readings of the sentinel channels (R316, R405), the energy
estimate (R325), the dump path's readiness (R328), brace (R327), the end of a calibration without effect (R343), and the
meaning of the 1 ms refresh (R72, R73, R325). -/

namespace Sys2Proof.Machine

/-! ### Readings -/

/-- Pin voltage of a code in nV under the coefficients in force: LSB 19.53125 µV, offset in 1/256 LSB, gain in ppb
(Table 17.15, R339). -/
def pinNv (s : Part) (code : Nat) : Int :=
  ((code : Int) * 256 + s.cal.offset) * 78125 / 1024 * (1000000000 + s.cal.gain) / 1000000000

/-- The board quantity of a channel's standard network (Tables 13.2 and 17.14). -/
def standardValue (ch : Nat) (nv : Int) : Int :=
  match ch with
  | 0 => nv * 16 / 1000000
  | 1 => nv * 64 / 1000000
  | 2 => (nv - 640000000) * 40 / 1000000
  | 3 | 4 => (nv - 500000000) / 10000
  | 5 => nv / 1000000
  | _ => nv / 1000

/-- SENSE_VALUE of a code (R316, R405): SENSE_SCALE is the board's ratio to the standard network. -/
def senseOf (s : Part) (ch code : Nat) : Int := standardValue ch (pinNv s code) * s.objInt 0x2712 (ch + 1) / 65536

/-- A code at an end of the converter's range (Table 17.15). -/
def outOfRange (code : Nat) : Bool := code == 0 || decide (65535 ≤ code)

def codeList (c : SenseCodes) : List Nat := [c.in0, c.in1, c.in2, c.in3, c.in4, c.in5, c.in6, c.in7]

/-- SENSE_VALUE and SENSE_FLAGS follow the readings; during a calibration run they hold, with STALE (R318, R341). -/
def takeReadings (codes : List Nat) (s : Part) : Part :=
  if s.cal.state = 1 then s
  else
    s.modTow (fun t => { t with sense := codes.mapIdx (fun ch c => senseOf s ch c)
                                flags := codes.map (fun c => if outOfRange c then 2 else 0) })

def Part.senseAt (s : Part) (ch : Nat) : Int := s.tow.sense.getD ch 0

/-! ### The estimate (R325) -/

/-- `energy_mj` of R325. -/
def energyMj (v cap esr floor eff pW : Nat) : Nat :=
  let iMa := if floor = 0 then 0 else pW * 1000000 / floor
  let fl := floor + iMa * esr / 1000
  if v ≤ fl then 0 else cap * (v * v - fl * fl) / 2000000 * eff / 100

/-- DUMP_POWER_W. -/
def Part.dumpPower (s : Part) : Nat := s.objNum 0x2100 2

/-- The estimate e of R325 for a reading of SENSE_IN1. -/
def energyEstimate (s : Part) (v : Int) (bad : Bool) : Nat :=
  let cap := if s.tow.capMf = 0 then s.objNum 0x2701 3 else s.tow.capMf
  if s.tow.store = 3 ∨ s.tow.store = 4 ∨ bad ∨ cap = 0 then 0
  else energyMj v.toNat cap s.tow.esrMohm (s.objNum 0x2701 1) (s.objNum 0x2701 2) s.dumpPower

/-- The ceiling in force after a newly computed one (R73): a lower one at once, a higher one once every estimate of the
last second gives it. -/
def nextCeiling (now : Nat) (est : List (Nat × Int)) (old new : Int) : Int × List (Nat × Int) :=
  let recent := est.takeWhile (fun e => decide (now < e.1 + sec 1))
  let older := (est.drop recent.length).head?
  let kept := (now, new) :: recent ++ older.toList
  if new ≤ old then (new, kept)
  else
    match older with
    | some o => (max old ((recent.map (·.2)).foldl min (min new o.2)), kept)
    | none => (old, kept)

/-- The scheduler takes an estimate (R72, R73). -/
def takeEstimate (e : Nat) (s : Part) : Part :=
  let new := ceilingMib e s.dumpPower s.sched.protMib
  let (c, est) := nextCeiling s.timeUs s.sched.estimates s.sched.ceiling new
  let s := (s.modTow (fun t => { t with energyMj := e })).modSched (fun x => { x with ceiling := c, estimates := est })
  let s := if 2 ≤ s.pair.state ∧ ¬ s.pair.path1Lost then emit (.hawserCeiling c) s else s
  refreshProtection s

def energyEstimateRefreshEff (codes : SenseCodes) (s : Part) : Part :=
  let s := takeReadings (codeList codes) s
  takeEstimate (energyEstimate s (senseOf s 1 codes.in1) (outOfRange codes.in1)) s

/-- R72, R73, R325: every 1 ms the estimate is refreshed and the admission ceiling follows. -/
def execEnergyEstimateRefresh (codes : SenseCodes) (s : State) : Answer :=
  .next (s.onPart (energyEstimateRefreshEff codes))

/-! ### The dump path (R328) -/

/-- A dump target that meets every condition of R328. -/
def DumpTarget.live (t : DumpTarget) : Bool :=
  t.linkUp && t.width == 4 && t.tier == 3 && decide (t.label = some deviceUuid) && !t.warning && decide (8389888 ≤ t.blocks)

def Part.target (s : Part) (x : Nat) : DumpTarget := (s.dump.targets.find? (fun t => t.idx == x)).getD (DumpTarget.reset x)
def Part.modTarget (s : Part) (x : Nat) (g : DumpTarget → DumpTarget) : Part :=
  s.modDump (fun d => { d with targets := updBy (fun t => t.idx == x) g d.targets })

/-- Targets that are live. -/
def Part.liveTargets (s : Part) : List Nat := (s.dump.targets.filter DumpTarget.live).map (·.idx)

/-- READY, READY_DEGRADED or NOT_READY. -/
def dumpReadiness (s : Part) : Nat :=
  if !(s.island .d).powered then 2
  else if s.liveTargets.length = 4 then 0
  else if s.liveTargets.length = 3 then 1
  else 2

/-- DUMP_STATE follows its conditions while no dump or restore runs, STANDBY_HEALTH bit 3 with it (Table 12.7), and the
pools' protection follows (R69). -/
def refreshDump (s : Part) : Part :=
  if 3 ≤ s.dump.state then s
  else
    let r := dumpReadiness s
    let s := s.modDump (fun d => { d with state := r })
    let s := s.modPair (fun p => { p with
      health := if r = 2 then p.health ||| BitVec.twoPow 32 3 else p.health &&& ~~~ (BitVec.twoPow 32 3) })
    refreshProtection s

/-! ### Calibration without effect -/

/-- The record of a calibration that ends (R348), with its outcome; the Logbook carries the same. -/
def recordCal (outcome : Nat) (runs : Option CalRuns) (s : Part) : Part :=
  let c := s.cal
  let r : CalRecord := { start := c.startAt, what := c.what, refUv := s.objNum 0x2800 5, refId := s.objBlob 0x2800 6,
                         fref := c.fref, dieC := s.tow.dieC, runs := runs, outcome := outcome }
  let s := s.modCal (fun x => { x with result := outcome, history := (r :: x.history).take 16 })
  log 0x1403 0 (leBytes 1 c.what ++ leBytes 1 outcome ++ leBytes 4 (BitVec.ofInt 32 c.tGain).toNat ++
    leBytes 4 (BitVec.ofInt 32 c.tOffset).toNat ++ leBytes 4 (BitVec.ofInt 32 c.tTime).toNat) s

/-- A coefficient is still on its way to its target. -/
def CalSt.slewing (c : CalSt) : Bool :=
  c.gain != c.tGain || c.offset != c.tOffset || c.time != c.tTime || c.xtal != c.tXtal

/-- STALE falls (R340 step 6). -/
def clearStale (s : Part) : Part := s.modTow (fun t => { t with flags := t.flags.map (fun f => f / 2 * 2) })

/-- R343: a calibration run ends without effect. -/
def abandonCal (s : Part) : Part :=
  if s.cal.state = 1 then
    clearStale ((recordCal 7 none s).modCal (fun c => { c with state := if c.slewing then 2 else 0 }))
  else s

/-! ### Brace (R327) -/

/-- A store capacity test that ends at once (R326): the load off, the charger on. -/
def endStoreTest (s : Part) : Part :=
  if s.tow.store = 2 ∨ s.tow.storeTest then
    s.modTow (fun t => { t with storeTest := false, chgEn := true, testDue := true
                                store := if t.store = 2 then t.storeUnder else t.store })
  else s

/-- Brace is entered (R327): every pool HELD, a calibration abandoned, a store test ended. -/
def enterBrace (mv : Nat) (s : Part) : Part :=
  if s.sched.brace then s
  else
    let s := log 0x1301 0 (leBytes 1 0 ++ leBytes 4 mv) s
    let s := s.modTow (fun t => { t with braceCount := t.braceCount + 1, power := if t.power ≤ 2 then 2 else t.power })
    let s := endStoreTest (abandonCal s)
    refreshProtection (s.modSched (fun x => { x with brace := true }))

/-- Brace is released (R327): the pools return to the state R69 gives. -/
def leaveBrace (mv : Nat) (s : Part) : Part :=
  if s.sched.brace then
    let s := log 0x1301 0 (leBytes 1 1 ++ leBytes 4 mv) s
    let s := s.modTow (fun t => { t with power := if t.power = 2 then 0 else t.power })
    refreshProtection (s.modSched (fun x => { x with brace := false }))
  else s

/-- WARN_MV and DUMP_MV. -/
def Part.warnMv (s : Part) : Nat := s.objNum 0x2700 9
def Part.dumpMv (s : Part) : Nat := s.objNum 0x2700 0xA

end Sys2Proof.Machine
end

