-- ==== Sys2Proof/Machine/Bridges.lean ====
section
/-! DEFINITION. Meanings of the bridge and island commands (01_architecture: R11–R18). -/

namespace Sys2Proof.Machine

/-- Number of an island, for the identity of a bridge. -/
def islandIdx : Island → Nat
  | .h => 0
  | .t => 1
  | .c => 2
  | .k => 3
  | .m => 4
  | .l g => 5 + g.val
  | .d => 17
  | .x => 18
  | .g => 19
  | .s => 20

/-- A bridge joins two islands, one FIFO in each direction: its identity does not depend on the direction. -/
def BridgeSt.joins (b : BridgeSt) (i j : Island) : Bool :=
  decide ((b.src = i ∧ b.dst = j) ∨ (b.src = j ∧ b.dst = i))

def bridgeInst (i j : Island) : Nat := 21 * min (islandIdx i) (islandIdx j) + max (islandIdx i) (islandIdx j)

def Part.bridge (s : Part) (i j : Island) : BridgeSt :=
  (s.bridges.find? (fun b => b.joins i j)).getD { src := i, dst := j, corrected := 0, faults := 0, recent := [] }

def Part.setBridge (s : Part) (b : BridgeSt) : Part :=
  { s with bridges := s.bridges.filter (fun x => !x.joins b.src b.dst) ++ [b] }

/-- A request to an island whose incoming bridges are closed (R14): ISLAND_ASLEEP, and the requester is remembered for the
ready notice (R16). -/
def answerAsleep (src dst : Island) (s : Part) : Part :=
  emit (.bridgeAnswer src .islandAsleep)
    (s.modIsland dst (fun x => { x with refused := if x.refused.contains src then x.refused else x.refused ++ [src] }))

/-- A bridge of Landing's island carries Landing's requests: a corrected error on it is a Corrected Internal Error, reported by
both ports (R262; which port, the spec leaves open: log entry 158). -/
def reportCorrected (src dst : Island) (s : Part) : Part :=
  if src = .h ∨ dst = .h then emit (.aer .f1 0) (emit (.aer .f0 0) s) else s

/-- A single-bit error corrected and counted (R18, Table 16.3 code 0x1401 byte 0). -/
def correctWord (src dst : Island) (s : Part) : Part :=
  let b := s.bridge src dst
  reportCorrected src dst <| log 0x1401 (bridgeInst src dst) [0, BitVec.ofNat 8 (b.recent.filter (fun t => decide (s.timeUs < t + sec 1))).length]
    (s.setBridge { b with corrected := b.corrected + 1 })

def bridgeRequestEff (src dst : Island) (word : Nat) (singleBit : Bool) (s : Part) : Part :=
  if !s.ready dst then answerAsleep src dst s
  else
    let s := if singleBit then correctWord src dst s else s
    emit (.bridgeAnswer src .done) (emit (.bridgeWord src dst word) s)

/-- R12, R14, R18: a word sent over a bridge. -/
def execBridgeRequest (src dst : Island) (word : Nat) (singleBit : Bool) (s : State) : Answer :=
  .next (s.onPart (bridgeRequestEff src dst word singleBit))

/-- Archive sleep (Table 13.3). -/
def Part.asleep (s : Part) : Bool := s.tow.power == 5

/-- Lanes of a member link group. -/
def groupLanes (g : Fin 12) : List Nat := (List.range 12).map (fun i => 12 * g.val + i)

/-- A lane; one not listed is at its reset values with LANE_MODE as persisted. -/
def Part.lane (s : Part) (l : Nat) : LaneSt :=
  (s.fabric.lanes.find? (fun x => x.lane == l)).getD { LaneSt.reset l with mode := s.objNum (0x2200 + l) 1 }

def Part.setLane (s : Part) (x : LaneSt) : Part :=
  s.modFab (fun f => { f with lanes := f.lanes.filter (fun y => y.lane != x.lane) ++ [x] })

def Part.modLane (s : Part) (l : Nat) (g : LaneSt → LaneSt) : Part := s.setLane (g (s.lane l))

/-- LANE_MODE 4 in force (R183). -/
def Part.laneDisabled (s : Part) (l : Nat) : Bool := (s.lane l).mode == 4

/-- Protected data exists: held blocks, staged write-through, shadow blocks. -/
def Part.protectedData (s : Part) : Bool :=
  !s.man.held.isEmpty || s.pools.any (fun p => !p.pair.shadow.isEmpty)

/-- Table 1.2: the island may be powered down now. -/
def mayPowerDown (i : Island) (s : Part) : Bool :=
  match i with
  | .s => false
  | .c => s.asleep || s.man.entries.all (fun e => e.synd == 0)
  | .l g => s.asleep || (groupLanes g).all s.laneDisabled
  | .d => s.asleep || !s.protectedData
  | .x => s.asleep || s.pair.state == 0
  | _ => s.asleep

/-- An island goes down (R15): its bridges close with no request lost. Island K loses its keys (R217). -/
def powerDown (i : Island) (s : Part) : Part :=
  let s := s.modIsland i (fun x => { x with powered := false, ready := false, waking := false, refused := [] })
  if i = .k then (clearKeys s).modToll (fun t => { t with testing := false }) else s

/-- What follows the power of an island: the dump path is ready only with island D powered (R328). -/
def islandFollows (i : Island) (s : Part) : Part := if i = .d then refreshDump s else s

def islandPowerDownEff (i : Island) (s : Part) : Part :=
  if (s.island i).powered && mayPowerDown i s then islandFollows i (powerDown i s) else s

/-- R15, Table 1.2: an island is powered down where its table entry permits it, and stays up otherwise. -/
def execIslandPowerDown (i : Island) (s : State) : Answer := .next (s.onPart (islandPowerDownEff i))

/-- The Towpath's held decisions at the wake of island G (R380): written first, in timestamp order, with LATE 1; those
beyond 64 are reported by their count. -/
def writeHeldLog (s : Part) : Part :=
  let evs := s.tow.heldLog.mergeSort (fun a b => decide (a.time ≤ b.time))
  let over_ := s.tow.heldOver
  let s := s.modTow (fun t => { t with heldLog := [], heldOver := 0 })
  let s := evs.foldl (fun st e => logAccept true e st) s
  if over_ = 0 then s
  else
    logAccept false { code := 0x1202, subsystem := 18, inst := 0, sev := 9, detail := leBytes 4 over_ ++ [1], time := s.timeUs }
      (s.modLog (fun g => { g with dropped := g.dropped + over_ }))

/-- What an island does once it has power again: island K tests itself and loads the KEKs with AUTOLOAD (R217, R230; its
test lasts until it is ready); island G writes what the Towpath held (R380). -/
def wakeWork (i : Island) (s : Part) : Part :=
  match i with
  | .k => (wakeK s).modToll (fun t => { t with testing := true })
  | .g => writeHeldLog s
  | _ => islandFollows i s

def islandWakeEff (i : Island) (s : Part) : Part :=
  if (s.island i).ready || (s.island i).waking then s
  else wakeWork i (s.modIsland i (fun x => { x with powered := true, waking := true }))

/-- R11, R16: an island is ordered up; its bridges stay closed until it is ready. -/
def execIslandWake (i : Island) (s : State) : Answer := .next (s.onPart (islandWakeEff i))

def islandReadyEff (i : Island) (s : Part) : Part :=
  if (s.island i).waking then
    let s := if i = .k then s.modToll (fun t => { t with testing := false }) else s
    islandUp i s
  else s

/-- R16: the island raises its ready flag, its bridges open, every island it turned away gets the notice. -/
def execIslandReady (i : Island) (s : State) : Answer := .next (s.onPart (islandReadyEff i))

end Sys2Proof.Machine
end

