-- ==== Sys2Proof/Machine/Logbook.lean ====
section
/-! DEFINITION. Meanings of the Logbook commands (16: R376–R385): acceptance, the write to non-volatile memory, reports of
dropped events, the boot record, the export to members. -/

namespace Sys2Proof.Machine

/-- R378–R381: an event is reported to the engine. -/
def execLogEvent (e : LogEv) (s : State) : Answer := .next (s.onPart (logEvent e))

def permSlots : Nat := 4096
def circSlots : Nat := 65536

/-- A record enters its region (R376). -/
def LogSt.store (g : LogSt) (r : LogRec) : LogSt :=
  if g.perm.length < permSlots then { g with perm := g.perm ++ [{ r with permanent := true }] }
  else { g with circ := alSet (g.circWritten % circSlots) r g.circ, circWritten := g.circWritten + 1 }

/-- Overflow entries take the room the queue has (R379). -/
def LogSt.refill (g : LogSt) : LogSt :=
  let room := logQueueMax - g.queue.length
  { g with queue := g.queue ++ g.overflow.take room, overflow := g.overflow.drop room }

/-- The oldest queued record is written. -/
def LogSt.writeOne (g : LogSt) : LogSt :=
  match g.queue with
  | [] => g.refill
  | r :: rest => ({ g with queue := rest }.store r).refill

/-- R379: an accepted record is written to non-volatile memory. -/
def execLogRecordWrite (s : State) : Answer :=
  .next (s.onPart (fun s => if s.ready .g then s.modLog LogSt.writeOne else s))

/-- Everything accepted is written: before island G loses power in order. -/
def flushLog (s : Part) : Part :=
  s.modLog (fun g => (List.range (g.queue.length + g.overflow.length)).foldl (fun x _ => x.writeOne) g)

/-- A LOG_DROPPED record of one kind (Table 16.3). -/
def reportDrops (n kind : Nat) (s : Part) : Part :=
  if n = 0 then s
  else logAccept false { code := 0x1202, subsystem := 18, inst := 0, sev := 9, detail := leBytes 4 n ++ [BitVec.ofNat 8 kind], time := s.timeUs } s

def logDroppedEff (s : Part) : Part :=
  if !s.ready .g || decide (logQueueMax ≤ s.log.queue.length) then s
  else
    let low := s.log.sinceLow
    let high := s.log.sinceHigh
    reportDrops high 2 (reportDrops low 0 (s.modLog (fun g => { g with sinceLow := 0, sinceHigh := 0 })))

/-- R379: the queue has room again, the drops are reported. -/
def execLogDropped (s : State) : Answer := .next (s.onPart logDroppedEff)

/-- Highest sequence in the non-volatile store. -/
def LogSt.highest (g : LogSt) : Nat := ((g.perm ++ g.circ.map (·.2)).map (·.seq)).foldl max 0

/-- The engine starts anew (R378): LOG_BOOT takes the stored mark, a new mark stands 1,024 above it. -/
def logBoot (cause : Nat) (s : Part) : Part :=
  let h := s.log.highest
  log 0x1201 0 (leBytes 6 h ++ leBytes 1 cause) (s.modLog (fun g => { g with
    seqNext := g.mark, mark := g.mark + 1024, queue := [], overflow := [], recent := [], sinceLow := 0, sinceHigh := 0 }))

/-! ### Export (R385) -/

/-- The export as a home holds it after this one. -/
def exportOf (s : Part) (count : Nat) : LogExport :=
  let g := s.log
  { uuid := deviceUuid, permCount := g.perm.length, circWritten := g.circWritten, lastSeq := g.highest, exported := s.timeUs
    count := count, perm := g.perm, circ := g.circ }

/-- Ranges of the export area to write (Table 16.4): at the first export all but the header, the reserved blocks zero; later
the record blocks that changed since (R385). -/
def exportRanges (old : Option LogExport) (g : LogSt) : List (Nat × Nat) :=
  match old with
  | none => [(529, 1535)]
  | some x =>
    let perm := ((List.range g.perm.length).filter (fun j => decide (x.perm[j]? ≠ g.perm[j]?))).map (fun j => 529 + j / 64)
    let circ := (g.circ.filter (fun c => decide (alGet c.1 x.circ ≠ some c.2))).map (fun c => 593 + c.1 / 64)
    (sortNats (perm ++ circ).eraseDups).map (fun b => (b, 1))

/-- One home is written: the record blocks, the header last; a foreign export is replaced. -/
def exportTo (k : Nat) (s : Part) : Part :=
  match s.member? k with
  | none => s
  | some m =>
    let foreign : Bool := match m.logExport with
      | some x => decide (x.uuid ≠ deviceUuid)
      | none => false
    let count : Nat := match m.logExport with
      | some x => if x.uuid = deviceUuid then x.count + 1 else 1
      | none => 1
    let e := exportOf s count
    let s := s.modMember k (fun x => { x with logExport := some e })
    let s := (exportRanges (if foreign then none else m.logExport) s.log).foldl
      (fun st r => enqueueCmd k .structureWrite 8 false true r.1 r.2 st) s
    let s := enqueueCmd k .structureWrite 8 false true 528 1 s
    log 0x1203 0 (leBytes 2 k ++ leBytes 6 e.lastSeq ++ leBytes 1 (b2n foreign)) s

/-- Homes of the pools this unit owns that can be written. -/
def exportHomes (s : Part) : List Nat :=
  ((s.pools.filter PoolSt.owned).flatMap (fun p =>
    ((p.ckpt.homes.filter (fun o => !p.ckpt.lostHomes.contains o)).map p.charter.idAt).filter s.serves)).eraseDups

def exportLog (s : Part) : Part :=
  let homes := exportHomes s
  if homes.isEmpty then s
  else (homes.foldl (fun st k => exportTo k st) s).modLog (fun g => { g with exportLast := s.timeUs })

/-- R385: the Logbook is exported every LOG_EXPORT_INTERVAL_S. -/
def execLogExport (s : State) : Answer := .next (s.onPart exportLog)

def logExportNowEff (q : Req) (s : Part) : Part := checked q roleOperator none (fun s => ok q (exportLog s)) s

/-- R385: an export on command. -/
def execLogExportNow (q : Req) (s : State) : Answer := .next (s.onPart (logExportNowEff q))

end Sys2Proof.Machine
end

