-- ==== Sys2Proof/Machine/SleepOps.lean ====
section
/-! DEFINITION. Archive sleep (13: R321, R323; 08: R213; 16: R385): when it is refused, how it is carried out, when the wake
timer next fires. -/

namespace Sys2Proof.Machine

/-- A host port has its link up with its function in D0. -/
def FnSt.inUse (x : FnSt) : Bool := x.linkUp && x.d0

/-- Cause of a refusal (SLEEP_REFUSED), 0 when the request is carried out (R321). -/
def sleepRefusal (forced : Bool) (s : Part) : Nat :=
  if s.fn0.inUse || s.fn1.inUse then 1
  else if !forced && s.pools.any (fun p => decide (2 ≤ p.life) && poolState s p != 0) then 2
  else if s.cal.state == 1 || s.fw.activating then 3
  else 0

/-- Paired pools whose twin stays awake: each is handed over before this unit sleeps (R321 step 3). -/
def toHandOver (s : Part) : List PoolSt :=
  s.ownPaired.filter (fun p => p.pair.state == 2 && !s.pair.sleepAnnounced.contains p.id)

/-- A member's turn in R213: its cache is flushed where MEMBER_WCE is not 0, it stops. -/
def stopMember (m : MemberSt) (s : Part) : Part :=
  emit (.memberStop m.id (m.wce != 0)) (s.modMember m.id (fun x => { x with
    waiting := [], outstanding := [], draining := false, spun := if x.info.rotating then 0 else x.spun }))

/-- The twin hears of the sleep; at the announced tide the shadows are dropped and both paths stop (R321 step 3). -/
def leavePair (s : Part) : Part :=
  if s.pair.state = 2 ∨ s.pair.state = 3 then
    let s := emit (.hawserSleep (s.pairedPools.map (·.id))) s
    let s := s.standbyPools.foldl (fun st p => modPoolPair p.id PoolPairSt.dropShadow st) s
    changePaths (fun x => { x with path1Lost := true, path2Lost := true, txIdle := true, driveRelease := true }) s
  else s

/-- The load of a store test comes off. -/
def endStoreLoad (s : Part) : Part := s.modTow (fun t => { t with storeTest := false, store := if t.store = 2 then t.storeUnder else t.store })

/-- Steps 3 to 5 of R321: the Logbook is exported, the twin told, the members stopped, the islands powered down, G last. -/
def goToSleep (s : Part) : Part :=
  let s := endStoreLoad (leavePair (exportLog s))
  let s := (s.members.filter (·.linkUp)).foldl (fun st m => stopMember m st) s
  let s := flushLog (endSessionsWhere (fun _ => true) s)
  let s := (Island.all.filter (fun i => decide (i ≠ .s ∧ i ≠ .g))).foldl (fun st i => powerDown i st) s
  ((powerDown .g s).modTow (fun t => { t with power := 5, coreEn := false, sleeping := false })).modSched (fun x => { x with ready := false })

/-- Nothing keeps the unit from sleeping any longer: no block is held, no entry in use, no member command out, no pool to
hand over. -/
def sleepReady (s : Part) : Bool :=
  s.tow.sleeping && s.man.held.isEmpty && s.man.entries.isEmpty && (toHandOver s).isEmpty &&
    s.members.all (fun m => m.waiting.isEmpty && m.outstanding.isEmpty)

/-- A sleep asked for is carried out as soon as it can be (R321). -/
def sleepIfReady (s : Part) : Part := if sleepReady s then goToSleep s else s

/-- A request that is not refused: hand-overs are proposed, destage empties the region (R321 steps 1 to 3). -/
def beginSleep (s : Part) : Part :=
  let s := s.modTow (fun t => { t with sleepRefused := 0, sleeping := true })
  let s := ((toHandOver s).filter (fun p => p.pair.ownerNext == 2)).foldl (fun st p => propose (.handover (Fin.ofNat 64 p.id) true) st) s
  sleepIfReady s

/-- The time the scrub pass of a pool must resume to stay within its cycle (R142, R323): its share of the cycle. -/
def scrubResume (s : Part) (p : PoolSt) : Nat :=
  p.int.scrubStart + hour (24 * s.objNum 0x2104 1) * p.int.scrubCursor / max 1 p.charter.shape.stripeCount

/-- SCHED_WAKE (R323). -/
def schedWake (s : Part) : Nat :=
  let timer := s.tow.schedNext.getD (s.timeUs + hour (s.objNum 0x2104 2))
  ((s.pools.filter (fun p => p.life == 3 && p.owned && s.objNum (poolIdx p.id 0x14) 1 == 1)).map (scrubResume s)).foldl min timer

end Sys2Proof.Machine
end

