-- ==== Sys2Proof/Machine/WritePath.lean ====
section
/-! DEFINITION. Meanings of the write-path commands (04_write_path): admission, landing, tides and their seals,
confirmations, the open limit of transactions, the end of a FLUSH. -/

namespace Sys2Proof.Machine

/-! ### The blocks of a write -/

/-- A place a write puts a block: LBA, Manifest stripe, strip, block offset. -/
structure Spot where
  lba : Nat
  stripe : Nat
  strip : Nat
  bo : Nat
deriving DecidableEq, Repr

/-- The places of the blocks of a write, in stream order (R55, R172). -/
def spotsOf (p : PoolSt) (v : CVol) (lbas : List Nat) : List Spot :=
  lbas.flatMap (fun lba => (writesTargets p v.id lba).map (fun t =>
    let a := p.charter.addrIn t v lba
    { lba := lba, stripe := a.1, strip := a.2.1, bo := a.2.2 }))

/-- Volume that a writing command changes, and its blocks: COPY writes its destination. -/
def writeVol (d : Desc) : Nat := if dOpcode d = 6 then dDstVol d else dVol d
def writeLbas (d : Desc) : List Nat :=
  if dOpcode d = 6 then (List.range (dBlocks d)).map (fun b => dDstLba d + b) else deviceLbas d

def Part.spots (s : Part) (d : Desc) : List Spot :=
  match s.volume? (writeVol d) with
  | some (p, v) => spotsOf p v (writeLbas d)
  | none => []

def stripesOf (l : List Spot) : List Nat := (l.map (·.stripe)).eraseDups

/-- The write joins a transaction. -/
def isTx (d : Desc) : Bool := dTxn d && (dOpcode d == 2 || dOpcode d == 4)

/-- Chain and tag of the transaction a write joins. -/
def txOf (c : Nat) (d : Desc) : Option (Nat × Nat) := if isTx d then some (c, dTag d) else none

/-! ### Admission -/

/-- Writes admitted to the protected region whose blocks have not landed. -/
def Part.unlanded (s : Part) : List (Nat × Cmd) :=
  s.chains.flatMap (fun ch => (ch.cmds.filter (fun x =>
    x.phase == .admitted && !x.through && (dOpcode x.desc == 2 || dOpcode x.desc == 4))).map (fun x => (ch.id, x)))

/-- Blocks the data area holds or has promised (R74). -/
def Part.promised (s : Part) : Nat :=
  s.heldBlocks + (s.unlanded.map (fun x => (s.spots x.2.desc).length)).foldl (· + ·) 0

/-- An open or committing transaction other than `own` has blocks at one of the places (R91). -/
def txOverlap (s : Part) (p : Nat) (own : Option (Nat × Nat)) (l : List Spot) : Bool :=
  let here (stripe strip bo : Nat) : Bool := l.any (fun x => x.stripe == stripe && x.strip == strip && x.bo == bo)
  s.man.held.any (fun b => b.pool == p && b.tx.isSome && decide (b.tx ≠ own) && here b.stripe b.strip b.bo) ||
    s.unlanded.any (fun x => isTx x.2.desc && decide (txOf x.1 x.2.desc ≠ own) &&
      decide ((s.poolOfVol (dVol x.2.desc)).map (·.id) = some p) && (s.spots x.2.desc).any (fun y => here y.stripe y.strip y.bo))

/-- SEQ the next write to a volume takes in this tide (R135). -/
def Part.nextSeq (s : Part) (v : Nat) : Nat :=
  if (s.vol v).genTide = s.sched.tideNow then (s.vol v).genSeq + 1 else 0

/-- The write's blocks and entries fit: space below the ceiling (R74), Manifest entries (R103), SEQ (R135). -/
def writeFits (s : Part) (p : PoolSt) (v : CVol) (l : List Spot) : Bool :=
  let fresh := (stripesOf l).filter (fun x => (s.entry? p.id x).isNone)
  decide (s.man.entries.length + fresh.length ≤ maxEntries) && decide (s.nextSeq v.id < 0xFFFF) &&
    (p.writeState == 1 || decide (s.promised + l.length ≤ blocksBelow (s.ceilingFor p)))

/-- On a source of format 4 a write that overlaps the step in progress of a Crossing waits (R172). -/
def crossHolds (p : PoolSt) (l : List Spot) : Bool :=
  p.charter.shape.blockFmt == 4 && l.any (fun x => p.cross.stepLeft.contains x.stripe)

/-- What holds a write in its chain besides space: the pool's and the part's state (R18, R41, R70, R75, R297, R327),
stalled or unreconciled stripes (R119, R121), the old intent set of a takeover (R308), held growth (R115), transactions
(R91). -/
def writeHeld (s : Part) (p : PoolSt) (own : Option (Nat × Nat)) (l : List Spot) : Bool :=
  !poolServes p || p.writeState == 2 || s.sched.brace || s.sched.admitState == 2 ||
    s.writesHalted (p.charter.shape.codeType == 1) ||
    (stripesOf l).any (fun x =>
      ((s.entry? p.id x).map (fun e => e.stuck || e.replay)).getD false || p.int.reconcile.contains x || p.gapStripe x ||
        (p.writeState == 1 && p.growthHeld && !p.inIntent x)) ||
    crossHolds p l ||
    txOverlap s p.id own l

/-- A write that covers every data block of a stripe beyond repair can be carried out when it leaves at most M strips
without a place (R160). -/
def wholeWrite (s : Part) (p : PoolSt) (l : List Spot) (stripe : Nat) : Bool :=
  let g := p.charter.geoOf stripe
  let mine := ((l.filter (fun x => x.stripe == stripe)).map (fun x => (x.strip, x.bo))).eraseDups
  decide (mine.length = g.h.kb) &&
    decide (((List.range g.w).filter (fun i => (s.places p g true stripe i).isEmpty)).length ≤ g.h.m)

def beyondAt (s : Part) (p : PoolSt) (stripe : Nat) : Bool := beyondRepair s p (p.charter.geoOf stripe) stripe

/-- The write meets a stripe beyond repair that it may not write (R160). -/
def writeRefused (s : Part) (p : PoolSt) (l : List Spot) : Bool :=
  (stripesOf l).any (fun x => beyondAt s p x && !wholeWrite s p l x)

/-- The generation is taken and every stripe of the write has its entry (R103, R135). -/
def takeGeneration (p : PoolSt) (v : CVol) (l : List Spot) (s : Part) : Nat × Part :=
  let seq := s.nextSeq v.id
  let gen := (s.sched.tideNow % 2 ^ 48) * 65536 + seq
  let s := s.modVol v.id (fun x => { x with genTide := s.sched.tideNow, genSeq := seq })
  let st : EntryState := if p.writeState = 1 then .through else .held
  (gen, (stripesOf l).foldl (fun t x =>
    let whole := beyondAt t p x
    let t := addEntry p.id x st t
    if whole then t.modEntry p.id x (fun e => { e with whole := true }) else t) s)

/-- A failed write of an open transaction: its TX_COMMIT will complete with TX_ABORTED (R279). -/
def failTx (c : Nat) (d : Desc) (s : Part) : Part :=
  if isTx d then s.modTx c (dTag d) (fun t => { t with failed := true }) else s

/-- A command ends with a status that is no success; a transaction it belongs to cannot commit any more. -/
def endFailed (c : Nat) (x : Cmd) (status : Nat) (info : BitVec 64) (s : Part) : Part :=
  complete c x.hseq status info (failTx c x.desc s)

/-- A write is admitted (R71–R75, R80), or waits. -/
def admitWrite (c : Nat) (x : Cmd) (s : Part) : Part :=
  match s.volume? (dVol x.desc) with
  | none => endFailed c x 0x12 0 s
  | some (p, v) =>
    let l := s.spots x.desc
    if writeHeld s p (txOf c x.desc) l then s
    else if writeRefused s p l then endFailed c x 0x30 (infoOf v.id (dLba x.desc)) s
    else if !writeFits s p v l then s
    else
      let (gen, s) := takeGeneration p v l s
      let f := s.chainFn c
      let s := if dOpcode x.desc = 2 ∧ ¬ dPeer x.desc ∧ (s.fn f).bme then
          emit (.dataRead f c x.hseq (x.noSnoop && (s.fn f).noSnoopEn)) s else s
      s.modCmd c x.hseq (fun y => { y with phase := .admitted, gen := gen, tide := s.sched.tideNow, through := p.writeState == 1 })

def writeAdmitEff (c : Nat) (h : BitVec 32) (s : Part) : Part :=
  match takeable s c h .waiting with
  | some x => admitWrite c x s
  | none => s

/-- R74, R81, R103, R135: a write that waits in its chain is admitted when it fits. -/
def execWriteAdmit (c : ChainId) (hseq : BitVec 32) (s : State) : Answer := .next (s.onPart (writeAdmitEff c.val hseq))

/-! ### Landing -/

/-- Bytes of block `b` of the data stream in a memory image (R269). -/
def streamBlock (d : Desc) (cells : List (Nat × Byte)) (b : Nat) : Bytes :=
  (List.range 4096).map (fun j => (alGet (hostAddrOf d (b * 4096 + j)) cells).getD 0)

/-- Host PI entry of block `b` at PI_ADDR (R271). -/
def piEntry (d : Desc) (hostPi : Nat) (cells : List (Nat × Byte)) (b : Nat) : Bytes :=
  let n : Nat := if hostPi = 2 then 16 else 8
  (List.range n).map (fun j => (alGet (dPiAddr d + n * b + j) cells).getD 0)

/-- Plaintext and host PI of block `b` with volume LBA `lba`, and the check of R132 (0 good). -/
def incoming (d : Desc) (v : CVol) (data pis : List (Nat × Byte)) (b lba : Nat) : Bytes × Bytes × Nat :=
  if dOpcode d = 4 then
    let pt := List.replicate 4096 0
    (pt, hostPiOf v.hostPi [0, 0] lba pt, 0)
  else
    let pt := streamBlock d data b
    if dPiMode d = 1 && v.hostPi != 0 then
      let e := padTo 16 (piEntry d v.hostPi pis b)
      (pt, e, hostPiCheck v.hostPi lba e pt)
    else (pt, hostPiOf v.hostPi [0, 0] lba pt, 0)

/-- A block encrypted for its place (R222) and held in Pontoon (R71, R80). -/
def heldBlock (s : Part) (p : PoolSt) (v : CVol) (c : Nat) (x : Cmd) (sp : Spot) (pt hpi : Bytes) : Option Held :=
  (s.materialFor p (decide (p.charter.shape.stripeCount ≤ sp.stripe)) v.id sp.lba).map (fun m =>
    { pool := p.id, stripe := sp.stripe, strip := sp.strip, bo := sp.bo, vol := v.id, lba := sp.lba, gen := x.gen
      tide := s.sched.tideNow
      block := encryptBlock m (p.charter.geoOf sp.stripe).fmt v.id p.id sp.lba x.gen pt hpi
      tx := txOf c x.desc, through := x.through, chain := c, hseq := x.hseq, weak := false })

/-- Blocks written into Pontoon: counted in the open tide, streamed to the twin (R76, R78, R295). -/
def holdBlocks (p : PoolSt) (l : List Held) (s : Part) : Part :=
  let kept := l.filter (fun b => !b.through)
  let s := if kept.isEmpty then s else orderUp .d s
  let s := s.modMan (fun m => { m with held := m.held ++ l, nBlocks := m.nBlocks + kept.length })
  let s := refreshAdmitState (settleEntries kept s)
  if p.pair.state = 1 ∨ p.pair.state = 2 then kept.foldl (fun st b => emit (.hawserBlock p.id b.mirror) st) s else s

/-- A TX_COMMIT that has been taken is placed in the open tide once every earlier write of its transaction has landed
(R92, R279). -/
def placeCommit (c : Nat) (x : Cmd) (s : Part) : Part :=
  let tag := dTag x.desc
  match s.tx? c tag with
  | none => s
  | some t =>
    let earlier := ((s.chain c).before x.hseq).filter (fun y => isTx y.desc && dTag y.desc == tag)
    if !earlier.all (fun y => y.phase == .done) then s
    else if t.failed then (complete c x.hseq 0x42 0 (releaseTxBlocks c tag s)).dropTx c tag
    else
      let s := tellTwin t.pool (.txPlaced t.pool c tag) (s.modTx c tag (fun t => { t with commitTide := some s.sched.tideNow }))
      let s := s.modMan (fun m => { m with nCommits := m.nCommits + 1 })
      s.modCmd c x.hseq (fun y => { y with phase := .placed, tide := s.sched.tideNow })

/-- The TX_COMMITs of a chain that wait to be placed. -/
def placeCommits (c : Nat) (s : Part) : Part :=
  ((s.chain c).cmds.filter (fun x => x.phase == .admitted && dOpcode x.desc == 0x11)).foldl (fun st x => placeCommit c x st) s

/-- The write's last block is in Pontoon (R76, R80, R90). -/
def landed (c : Nat) (x : Cmd) (s : Part) : Part :=
  if isTx x.desc then complete c x.hseq 0x01 0 s
  else if x.through then s.modCmd c x.hseq (fun y => { y with phase := .through, covers := x.covers })
  else s.modCmd c x.hseq (fun y => { y with phase := .landed, tide := s.sched.tideNow, covers := x.covers })

/-- Another admitted write has blocks of the stripe on the way. -/
def unlandedOn (s : Part) (p stripe : Nat) : Bool :=
  s.chains.any (fun ch => ch.cmds.any (fun y => y.phase == .admitted &&
    (dOpcode y.desc == 2 || dOpcode y.desc == 4) && decide ((s.poolOfVol (dVol y.desc)).map (·.id) = some p) &&
    (s.spots y.desc).any (fun z => z.stripe == stripe)))

/-- An admitted write ends without effect: its stripes keep their entries only for other blocks (R132). -/
def dropWrite (c : Nat) (x : Cmd) (status : Nat) (info : BitVec 64) (s : Part) : Part :=
  let l := s.spots x.desc
  let p := ((s.poolOfVol (writeVol x.desc)).map (·.id)).getD 64
  let s := endFailed c x status info s
  (stripesOf l).foldl (fun st y =>
    match st.entry? p y with
    | some e =>
      if (st.heldOf p y).isEmpty && !e.built && e.left.isEmpty && e.synd == 0 && (e.state == .held || e.state == .through) &&
          !unlandedOn st p y then dropEntry p y st else st
    | none => st) s

/-- R132, R222, R227, R251: the data of an admitted write arrives from memory image `data`, its host PI from `pis`. -/
def landWrite (c : Nat) (x : Cmd) (data pis : List (Nat × Byte)) (lf : LaneFaults) (s : Part) : Part :=
  match s.volume? (dVol x.desc) with
  | none => dropWrite c x 0x12 0 s
  | some (p, v) =>
    let blocks := (deviceLbas x.desc).mapIdx (fun b lba => (lba, incoming x.desc v data pis b lba))
    match blocks.find? (fun y => y.2.2.2 != 0) with
    | some (lba, _, _, k) => dropWrite c x (if k = 1 then 0x20 else 0x21) (infoOf v.id lba) s
    | none =>
      let s := lf.mismatch.foldl (fun st u => checkMismatch u st) s
      let held := blocks.flatMap (fun y => (spotsOf p v [y.1]).map (fun sp => heldBlock s p v c x sp y.2.1 y.2.2.1))
      if held.all Option.isSome then
        let l := held.filterMap id
        placeCommits c (landed c { x with covers := l.map (fun b => (b.pool, b.stripe, b.strip, b.bo)) } (holdBlocks p l s))
      else dropWrite c x 0x14 0 s

/-- The admitted write of a chain whose data may arrive. -/
def landable (s : Part) (c : Nat) (h : BitVec 32) : Option Cmd :=
  match s.cmd? c h with
  | some x => if x.phase = .admitted && (dOpcode x.desc == 2 || dOpcode x.desc == 4) && s.dump.state != 3 && !s.toll.faulty
      then some x else none
  | none => none

/-- Data that arrives for an abandoned command is discarded and counted (R252). -/
def discardLate (c : Nat) (h : BitVec 32) (s : Part) : Part :=
  match s.cmd? c h with
  | some x => if x.phase = .abandoned then s.modFn (s.chainFn c) (fun y => { y with bmeDiscards := y.bmeDiscards + 1 }) else s
  | none => s

/-- The data and PI images of a write: host memory, or the peer buffer area with PEER set (R272). -/
def writeLandedEff (c : Nat) (h : BitVec 32) (host : HostRead) (lf : LaneFaults) (peer : List Host.Cell) (s : Part) : Part :=
  match landable s c h with
  | none => discardLate c h s
  | some x =>
    match host with
    | .failed => if dOpcode x.desc = 4 then landWrite c x [] [] lf s else placeCommits c (dropWrite c x 0x22 0 s)
    | .ok cells => landWrite c x (if dPeer x.desc then peer else cells) cells lf s

/-- R251: the last byte of a write's data has arrived and its last block is in Pontoon. -/
def execWriteLanded (c : ChainId) (hseq : BitVec 32) (host : HostRead) (lf : LaneFaults) (s : State) : Answer :=
  .next (s.onPart (writeLandedEff c.val hseq host lf s.peerMem))

/-! ### Ceilings -/

/-- R73: the twin reports its ceiling; the owner admits against the lower of the two. -/
def execTwinCeilingReport (mib : Int) (s : State) : Answer :=
  .next (s.onPart (fun s => if s.pair.state = 0 then s else s.modSched (fun x => { x with twinCeiling := some mib })))

/-! ### Tides -/

/-- A tide seal record (Table 5.4); CONFIRMED is not covered by the CRC. -/
def Seal.fields (t : Seal) (confirmed : Bool) : Bytes :=
  layout 124 [(0, 64, t.tide), (64, 32, t.blocks), (96, 32, t.entryChanges), (128, 16, t.txCommits),
    (160, 32, t.retired), (192, 64, t.ckptSeq), (256, 64, t.destagedTide), bit t.empty 320, bit t.paired 321, bit confirmed 322,
    bit t.frozen 323, (352, 32, t.prev)]

/-- CRC field of a seal record: over bytes 0–123 with CONFIRMED taken as 0 (R105). -/
def Seal.crc (t : Seal) : Nat := (crc32c (t.fields false)).toNat

def Seal.bytes (t : Seal) : Bytes := t.fields t.confirmed ++ leBytes 4 t.crc

/-- The lowest-numbered pool this unit owns. -/
def Part.lowestOwned (s : Part) : Option PoolSt :=
  (s.pools.filter PoolSt.owned).foldl (fun best p => match best with
    | none => some p
    | some b => if p.id < b.id then some p else some b) none

/-- The seal record of the closing tide (R105, Table 5.4). -/
def sealOf (s : Part) : Seal :=
  let m := s.man
  { tide := s.sched.tideNow, blocks := m.nBlocks, entryChanges := m.nChanges, txCommits := m.nCommits, retired := m.nRetired
    ckptSeq := (s.lowestOwned.map (·.ckpt.seq)).getD 0, destagedTide := max m.destagedTide s.destagedThrough
    empty := m.nBlocks == 0 && m.nChanges == 0 && m.nCommits == 0 && m.nRetired == 0, prev := (m.seals.head?.map Seal.crc).getD 0
    paired := s.pools.any (fun p => p.life != 0 && p.pair.state == 2), confirmed := false, frozen := s.sched.frozen, complete := false }

/-- The closing tide's record takes its slot of the ring; the counts of the next tide start at 0. -/
def sealTide (s : Part) : Part :=
  let r := sealOf s
  (s.modMan (fun m => { m with seals := r :: m.seals.filter (fun x => x.tide % 8192 != r.tide % 8192)
                               nBlocks := 0, nChanges := 0, nCommits := 0, nRetired := 0, destagedTide := r.destagedTide })).modSched
    (fun x => { x with tideNow := x.tideNow + 1 })

/-- Blocks of a tide that a paired pool streamed to the twin (R78): those it holds, and those already retired. -/
def streamedIn (s : Part) (p t : Nat) : Nat :=
  (s.man.held.filter (fun b => b.pool == p && !b.through && b.tide == t)).length +
    (s.man.news.map (fun n => match n with
      | .retired q _ l => if q = p then (l.filter (fun b => b.2.2 / 65536 == t % 2 ^ 48)).length else 0
      | _ => 0)).foldl (· + ·) 0

/-- What the seal of a tide vouches for: its paired pools with their blocks. -/
def sealBlocks (s : Part) (t : Nat) : List (Nat × Nat) :=
  (s.pools.filter (fun p => p.owned && p.pair.state == 2)).map (fun p => (p.id, streamedIn s p.id t))

/-- POOL_MIRROR_LAG: tides sealed and not confirmed (R78). -/
def mirrorLag (s : Part) (p : PoolSt) : Nat :=
  if p.pair.state = 2 ∨ p.pair.state = 4 then s.sealedThrough - s.mark p.id else 0

/-- The counts a boundary keeps for a pool: zero lag in a row (R310), the sync tide a SYNCING pool names (R295). -/
def countBoundary (closed : Nat) (s : Part) : Part :=
  { s with pools := s.pools.map (fun p =>
      { p with pair := { p.pair with
          lagZero := if p.pair.state = 2 then (if mirrorLag s p ≤ 0 then p.pair.lagZero + 1 else 0) else 0
          syncTide := if p.pair.state = 1 ∧ p.pair.owner = 0 ∧ p.pair.syncTide = none ∧ s.pair.path1Up then some closed
            else p.pair.syncTide } }) }

/-- A committed generation takes effect at this boundary without the twin: an unpaired pool's at the first one (R45), a
paired pool's that runs alone from the one that opens its CHANGE_TIDE (R66, R314 step 6). -/
def PoolSt.effectDue (p : PoolSt) (tide : Nat) : Bool :=
  p.owned && p.coming.any (fun c => !p.charter.paired || (p.pair.state != 2 && decide (c.changeTide ≤ tide)))

/-- The committed generations due at the boundary take effect (R45, R66). -/
def unpairedTakeEffect (s : Part) : Part :=
  (s.pools.filter (fun p => p.effectDue s.sched.tideNow)).foldl (fun st p => takeEffect p.id st) s

/-- What waits in a pool goes on at a boundary: one stripe of its reconciliation (R119) and of its survey for markers (R149), a
change of its unplaced and over-limit counts that is due (R59). -/
def poolBoundary (p : Nat) (s : Part) : Part :=
  match s.pool? p with
  | none => s
  | some ps => if ps.life = 0 || !ps.owned then s else noteSpare p (resolveNext p (surveyNext p (reconcileNext p s)))

/-- A boundary (R76): the tide closes and is sealed, the next one opens with what was agreed for it. -/
def tideBoundaryEff (s : Part) : Part :=
  if !s.ready .t then s
  else
    let t := s.sched.tideNow
    let blocks := sealBlocks s t
    let s := sealTide s
    let s := if s.pair.state = 0 ∨ s.pair.path1Lost then s
      else
        let news := s.man.news
        emit (.hawserSeal t blocks news) ((s.modMan (fun m => { m with
          news := [], sentNews := if news.isEmpty then m.sentNews else m.sentNews ++ [(t, news)] })).modPair (fun x => { x with missed := x.missed + 1 }))
    let s := applyDue (t + 1) s
    let s := unpairedTakeEffect s
    let s := (s.pools.map (·.id)).foldl (fun st p => poolBoundary p (abandonLate p st)) s
    countBoundary t s

/-- R76, R105, R314: the boundary between two tides. -/
def execTideBoundary (s : State) : Answer := .next (s.onPart tideBoundaryEff)

def tideSealCompleteEff (t : Nat) (s : Part) : Part :=
  releaseAcks (advancePaired (advanceUnpaired (s.modMan (fun m => { m with seals := m.seals.map (fun x =>
    if x.tide = t then { x with complete := true } else x) }))))

/-- R76, R77, R106: Pontoon reports a seal record written. -/
def execTideSealComplete (tide : Nat) (s : State) : Answer := .next (s.onPart (tideSealCompleteEff tide))

def tideConfirmationEff (t : Nat) (s : Part) : Part :=
  if s.pair.path1Lost then s
  else
    let s := s.modMan (fun m => { m with
      seals := m.seals.map (fun x => if x.tide = t then { x with confirmed := true } else x)
      sentNews := m.sentNews.filter (fun x => decide (t < x.1)) })
    releaseAcks (advancePaired s)

/-- R78, R105, R106: the twin confirms a tide. -/
def execTideConfirmation (tide : Nat) (s : State) : Answer := .next (s.onPart (tideConfirmationEff tide))

/-- The shadow of a pool of the twin. -/
def modShadow (p : Nat) (g : PoolPairSt → PoolPairSt) (s : Part) : Part :=
  s.modPool p (fun x => if x.pair.owner = 1 then { x with pair := g x.pair } else x)

/-- An owner's news of a pool that this unit keeps the shadow of (R88, R118, R153). -/
def hearNews (s : Part) : TwinNews → Part
  | .writing p stripe => modShadow p (fun x => { x with shadowWriting := if x.shadowWriting.contains stripe then x.shadowWriting
      else x.shadowWriting ++ [stripe] }) s
  | .retired p stripe l => modShadow p (fun x => { x with
      shadow := x.shadow.filter (fun b => !(b.stripe == stripe && l.contains (b.strip, b.bo, b.gen)))
      shadowWriting := x.shadowWriting.filter (· != stripe) }) s
  | .rebuilt p o stripe => modShadow p (fun x => { x with shadowRebuilt := if x.shadowRebuilt.contains (o, stripe) then x.shadowRebuilt
      else x.shadowRebuilt ++ [(o, stripe)] }) s
  | .txPlaced p c tag => modShadow p (fun x => { x with shadow := x.shadow.map (fun b =>
      if b.tx = some (c, tag) then { b with tx := none } else b) }) s
  | .checkpoint p n => modShadow p (fun x => { x with announcedSeq := max x.announcedSeq n, announcedExt := [] }) s
  | .extension p l => modShadow p (fun x => { x with announcedExt := (x.announcedExt ++ l).eraseDups }) s
  | .txEnded p c tag => modShadow p (fun x => { x with shadow := x.shadow.filter (fun b => decide (b.tx ≠ some (c, tag))) }) s

/-- Every block a seal vouches for is held here (R78). -/
def sealHeld (s : Part) (f : SealFrame) : Bool :=
  f.blocks.all (fun x => match s.pool? x.1 with
    | some p => p.pair.owner != 1 || p.pair.coverage == 0 || decide (x.2 ≤ (p.pair.shadow.filter (fun b => b.tide == f.tide)).length)
    | none => true)

/-- A seal whose blocks are held is confirmed (R78): the shadows this unit keeps are complete through its tide, and what it
brings of them takes effect. -/
def confirmSeal (f : SealFrame) (s : Part) : Part :=
  let s := f.news.foldl hearNews s
  refreshAdmitState (emit (.hawserConfirm f.tide)
    { s with pools := s.pools.map (fun p =>
        if p.pair.owner = 1 ∧ p.pair.coverage ≠ 0 then { p with pair := { p.pair with shadowTide := max p.pair.shadowTide f.tide } }
        else p) })

/-- Seals are confirmed in order, each as soon as its blocks are held. -/
def confirmSeals : List SealFrame → Part → List SealFrame × Part
  | [], s => ([], s)
  | f :: rest, s => if sealHeld s f then confirmSeals rest (confirmSeal f s) else (f :: rest, s)

def confirmWaiting (s : Part) : Part :=
  let r := confirmSeals s.pair.sealsWaiting s
  r.2.modPair (fun x => { x with sealsWaiting := r.1 })

/-- A frame of the twin: path 1 lives (R293); a seal waits until its blocks are held (R78). -/
def sealFrameReceivedEff (f : SealFrame) (s : Part) : Part :=
  if s.pair.state = 0 ∨ s.pair.path1Lost then s
  else
    let s := s.modPair (fun x => { x with missed := 0 })
    let s := if f.fromLeader && s.pair.role == 0 then s.modSched (fun x => { x with tideNow := max x.tideNow f.tide }) else s
    if f.keepalive then s else confirmWaiting (s.modPair (fun x => { x with sealsWaiting := x.sealsWaiting ++ [f] }))

/-- R78, R293: a seal or keepalive frame of the twin arrives. -/
def execSealFrameReceived (f : SealFrame) (s : State) : Answer := .next (s.onPart (sealFrameReceivedEff f))

def shadowBlockEff (p : Nat) (b : MirrorBlock) (s : Part) : Part :=
  if s.pair.path1Lost then s
  else
    confirmWaiting (refreshAdmitState ((orderUp .d s).modPool p (fun x =>
      if x.pair.owner = 1 then { x with pair := { x.pair with shadow := x.pair.shadow.filter (fun y =>
            !(y.stripe == b.stripe && y.strip == b.strip && y.bo == b.bo && y.gen == b.gen)) ++ [b]
                                                              coverage := if x.pair.coverage = 0 then 1 else x.pair.coverage } }
      else x)))

/-- R300: a block of the owner is written into this unit's protected data area. -/
def execShadowBlock (p : PoolId) (b : MirrorBlock) (s : State) : Answer := .next (s.onPart (shadowBlockEff p.val b))

/-! ### Transactions and FLUSH -/

/-- The open limit ends a transaction (R93): blocks released, writes not written back and a posted TX_COMMIT complete with
TX_TIMEOUT; otherwise the tag stays reserved. -/
def txOpenTimeoutEff (c tag : Nat) (s : Part) : Part :=
  match s.tx? c tag with
  | none => s
  | some t =>
    if t.ended || t.commitTide.isSome || s.dump.state = 3 then s
    else
      let s := endTxWrites c tag 0x43 (releaseTxBlocks c tag s)
      match placedCommit s c tag with
      | some x => (complete c x.hseq 0x43 0 s).dropTx c tag
      | none => s.modTx c tag (fun t => { t with timedOut := true })

/-- R93: a transaction has stayed open longer than TX_OPEN_LIMIT_MS. -/
def execTxOpenTimeout (c : ChainId) (tag : BitVec 8) (s : State) : Answer := .next (s.onPart (txOpenTimeoutEff c.val tag.toNat))

def flushCompleteEff (c : Nat) (h : BitVec 32) (s : Part) : Part :=
  match s.cmd? c h with
  | some x =>
    if x.phase = .admitted && dOpcode x.desc == 3 && s.dump.state != 3 && !flushPending s (dVol x.desc) x.tide then
      complete c h 0x00 0 s
    else s
  | none => s

/-- R95: the blocks a FLUSH waits for are durable. -/
def execFlushComplete (c : ChainId) (hseq : BitVec 32) (s : State) : Answer := .next (s.onPart (flushCompleteEff c.val hseq))

end Sys2Proof.Machine
end

