-- ==== Sys2Proof/Machine/Destage.lean ====
section
/-! DEFINITION. Meanings of the destage commands (04: R82–R88; 02: R35, R39–R41): the snapshot, the method of a stripe, its
strips and checks, the syndrome check of an encoding, the commit of a strip. -/

namespace Sys2Proof.Machine

/-! ### Coding pipelines (R39, R41) -/

/-- Pipelines in service. -/
def Part.pipes (s : Part) : List Nat := (List.range 4).filter (fun q => !s.sched.retiredPipes.contains q)

/-- Pipelines of `len` in the order of a stripe's encodings (R41): the first, then a third one after its checker, then the
remaining ones. -/
def pipeOrder (len : Nat) : List Nat :=
  if len ≤ 2 then List.range len else [0, 2, 1] ++ (List.range (len - 3)).map (· + 3)

/-- The pipeline of the `n`th encoding of a stripe. -/
def Part.pipeOf (s : Part) (n : Nat) : Nat :=
  s.pipes.getD ((pipeOrder s.pipes.length).getD (n % max 1 s.pipes.length) 0) 0

/-- A pipeline is named in a failure: the second within 24 h retires it, and with none left the part is faulty. -/
def pipeFailure (q p stripe attempt : Nat) (s : Part) : Part :=
  let again := s.sched.pipeFails.any (fun x => x.1 == q && decide (s.timeUs < x.2 + hour 24))
  let s := log 0x0701 q (leBytes 1 p ++ leBytes 6 stripe ++ leBytes 1 attempt) s
  let s := s.modSched (fun x => { x with pipeFails := (q, s.timeUs) :: x.pipeFails })
  if again && !s.sched.retiredPipes.contains q then
    let s := s.modSched (fun x => { x with retiredPipes := x.retiredPipes ++ [q] })
    let s := log 0x0702 q (leBytes 1 s.pipes.length) s
    if s.pipes.isEmpty then partFaulty 7 s else s
  else s

/-- The encodings of a parity stripe that fail their syndrome check (R39, R41); with one pipeline in service the check does not
compare two. -/
def encodeFailures (p stripe fails : Nat) (s : Part) : Part :=
  let s := if s.pipes.length = 1 then noted 7 39 1 (leBytes 1 p ++ leBytes 6 stripe) s else s
  let s := if 1 ≤ fails then pipeFailure (s.pipeOf 0) p stripe 1 s else s
  if 2 ≤ fails then pipeFailure (s.pipeOf 1) p stripe 2 s else s

/-- A stripe that is encoded is staged under its entry (R39, R41, R104): once an encoding passes its check; after two that
failed, its strips wait for another. -/
def stageEncoded (p stripe : Nat) (mirror : Bool) (fails : Nat) (writes : List (Nat × Nat × Block)) (s : Part) : Part :=
  if mirror then stageWrites p stripe writes s
  else
    let s := encodeFailures p stripe fails (useIsland .c s)
    let s := s.modEntry p stripe (fun e => { e with synd := if fails < 2 then 0 else fails, syndFail := decide (0 < fails) })
    if fails < 2 then stageWrites p stripe writes s
    else s.modEntry p stripe (fun e => { e with staged := writes, mask := stripsOf writes, left := [], places := [], done := [] })

/-- Class of a destage's member writes (R86, R201): 2 at full rate, 5 at the normal rate. -/
def destageClass (s : Part) (p : Nat) : Nat :=
  match s.pool? p with
  | some ps =>
    if ps.writeState = 0 ∧ s.sched.admitState ≠ 2 ∧ ¬ s.sched.brace ∧
        s.heldBlocks * 100 ≤ blocksBelow s.sched.ceiling * s.objNum 0x2101 3 then 5 else 2
  | none => 5

/-! ### The snapshot (R82) -/

/-- An admitted write that has not landed has an older generation at the place of a block. -/
def olderOnTheWay (s : Part) (p : Nat) (b : Held) : Bool :=
  s.unlanded.any (fun x => decide (x.2.gen < b.gen) && decide ((s.poolOfVol (dVol x.2.desc)).map (·.id) = some p) &&
    (s.spots x.2.desc).any (fun z => z.stripe == b.stripe && z.strip == b.strip && z.bo == b.bo))

/-- Blocks a destage takes: none of an open or committing transaction (R90). -/
def snapshot (s : Part) (p stripe : Nat) : List Held :=
  (s.heldOf p stripe).filter (fun b => b.tx.isNone && !olderOnTheWay s p b)

/-- The newest block of each address of a snapshot: (strip, offset, block). -/
def newestOf (l : List Held) : List (Nat × Nat × Block) :=
  ((l.map (fun b => (b.strip, b.bo))).eraseDups).filterMap (fun a =>
    ((l.filter (fun b => b.strip == a.1 && b.bo == a.2)).foldl (fun (best : Option Held) b => match best with
      | none => some b
      | some x => if x.gen ≤ b.gen then some b else best) none).map (fun b => (a.1, a.2, b.block)))

def newAt (l : List (Nat × Nat × Block)) (i bo : Nat) : Option Block :=
  (l.find? (fun x => x.1 == i && x.2.1 == bo)).map (·.2.2)

/-! ### One block offset of a parity stripe (R83–R85) -/

/-- How one offset ends: the blocks to write, or `none` when the stripe stays held. -/
abbrev OffsetPlan := Option (List (Nat × Nat × Block)) × Part

/-- Every strip of the offset from its data units; data strips keep the block they have. -/
def wholeOffset (g : Geo) (bo : Nat) (data : List Bytes) (new : List (Nat × Nat × Block)) : List (Nat × Nat × Block) :=
  (encodeStripe g.h.k g.h.m g.h.g data).mapIdx (fun i u => (i, bo, (newAt new i bo).getD (g.blockOf i u)))

/-- The offset when strips it needs cannot be read: reconstruction with arbitration, loss at margin zero, or hold (R85). -/
def restoredOffset (p : PoolSt) (g : Geo) (bad : BadReads) (stripe : Nat) (new : List (Nat × Nat × Block)) (bo : Nat) (s : Part) :
    OffsetPlan :=
  let reads := (List.range g.w).map (readStrip s p g bad stripe bo)
  let unit (i : Nat) (u : Bytes) : Bytes := ((newAt new i bo).map (codedUnit g.fmt)).getD u
  match restoreOffset s p g bad stripe bo with
  | (.beyond, _) =>
    let lacking := (List.range g.h.k).filter (fun i => (newAt new i bo).isNone && ((reads.getD i .missing).unit? g.fmt).isNone)
    if lacking.any (fun i => (reads.getD i .missing).isMissing) || linkWaits s p g stripe then (none, s)
    else
      let lost := lacking.map (fun i => (i, lostEntryFor s p.charter g 0 stripe i bo))
      let st := lost.foldl (fun t e => enterLost p.id e.2 t) s
      let data := (List.range g.h.k).map (fun i =>
        match alGet i lost with
        | some e => codedUnit g.fmt (lostMarker p.id e)
        | none => unit i (((reads.getD i .missing).unit? g.fmt).getD []))
      (some (wholeOffset g bo data new), st)
  | (_, r) =>
    if r.diverged.any (fun i => (newAt new i bo).isNone) then (none, r.part)
    else
      let st := ((List.range g.w).filter (fun i => decide (reads.getD i .missing = .bad))).foldl
        (fun t i => repairedAt p g stripe i bo t) r.part
      (some (wholeOffset g bo ((List.range g.h.k).map (fun i => unit i (r.units.getD i []))) new), st)

/-- Full stripe and fill: the data neither held nor clean in the read cache (R83) is read, the checks are encoded (R35). -/
def fillOffset (p : PoolSt) (g : Geo) (bad : BadReads) (stripe : Nat) (new : List (Nat × Nat × Block)) (bo : Nat) (s : Part) :
    OffsetPlan :=
  let data := (List.range g.h.k).map (fun i =>
    match newAt new i bo with
    | some b => some (codedUnit g.fmt b)
    | none => ((s.cleanAt p.id stripe i bo).map (codedUnit g.fmt)).or ((readStrip s p g bad stripe bo i).unit? g.fmt))
  if data.all Option.isSome then (some (wholeOffset g bo (data.filterMap id) new), s)
  else restoredOffset p g bad stripe new bo s

/-- Read-modify-write: the old checks and the deltas give the new checks (R35, R84). -/
def rmwOffset (p : PoolSt) (g : Geo) (bad : BadReads) (stripe : Nat) (new : List (Nat × Nat × Block)) (bo : Nat) (s : Part) :
    OffsetPlan :=
  let h := g.h
  let here := (List.range h.k).filter (fun i => (newAt new i bo).isSome)
  if here.isEmpty then (some [], s)
  else
    let old (i : Nat) : Option Bytes :=
      ((s.cleanAt p.id stripe i bo).map (codedUnit g.fmt)).or ((readStrip s p g bad stripe bo i).unit? g.fmt)
    let touched := (List.range h.g).filter (fun t => here.any (fun i => (groupOf h.k h.g t).contains i))
    let need := here ++ (List.range h.m).map (h.k + ·) ++ touched.map (h.k + h.m + ·)
    if need.all (fun i => (old i).isSome) then
      let deltas := here.map (fun i => (i, xorAll [(old i).getD [], ((newAt new i bo).map (codedUnit g.fmt)).getD []]))
      let globals := (List.range h.m).map (fun i => (h.k + i, bo, g.blockOf (h.k + i) (rmwGlobal i ((old (h.k + i)).getD []) deltas)))
      let locals := touched.map (fun t =>
        let i := h.k + h.m + t
        (i, bo, g.blockOf i (xorAll ((old i).getD [] ::
          (deltas.filter (fun d => (groupOf h.k h.g t).contains d.1)).map (·.2)))))
      (some (here.map (fun i => (i, bo, (newAt new i bo).getD Block.zero)) ++ globals ++ locals), s)
    else restoredOffset p g bad stripe new bo s

/-! ### A stripe -/

/-- The block offsets the held blocks span. -/
def spanOf (new : List (Nat × Nat × Block)) : List Nat :=
  match new.map (·.2.1) with
  | [] => []
  | x :: xs =>
    let lo := xs.foldl min x
    (List.range (xs.foldl max x + 1 - lo)).map (lo + ·)

/-- A data strip need not be read over a range: its blocks are clean in the read cache (R83). -/
def strandClean (s : Part) (p stripe : Nat) (span : List Nat) (i : Nat) : Bool := span.all (fun bo => (s.cleanAt p stripe i bo).isSome)

/-- Read-modify-write reads fewer strip ranges than fill, or as many (R83); not where the checks may not be used (R145). -/
def choosesRmw (s : Part) (p : PoolSt) (h : Shape) (stripe : Nat) (new : List (Nat × Nat × Block)) : Bool :=
  let strips := stripsOf new
  let span := spanOf new
  let read (l : List Nat) : Nat := (l.filter (fun i => !strandClean s p.id stripe span i)).length
  let gt := ((List.range h.g).filter (fun t => strips.any (fun i => (groupOf h.k h.g t).contains i))).length
  decide (new.length < h.kb) && !p.int.recheck.any (fun r => r.1 == stripe) &&
    decide (read strips + h.m + gt ≤ read ((List.range h.k).filter (fun i => !strips.contains i)))

/-- Everything a destage of a stripe writes; `none` when it stays held. -/
def planStripe (p : PoolSt) (g : Geo) (bad : BadReads) (stripe : Nat) (rmw : Bool) (new : List (Nat × Nat × Block)) (s : Part) :
    OffsetPlan :=
  if g.mirror then (some (new.flatMap (fun x => (List.range g.w).map (fun c => (c, x.2.1, x.2.2)))), s)
  else
    (spanOf new).foldl (fun (acc : OffsetPlan) bo =>
      match acc with
      | (none, st) => (none, st)
      | (some w, st) =>
        match (if rmw then rmwOffset else fillOffset) p g bad stripe new bo st with
        | (some w2, st2) => (some (w ++ w2), st2)
        | (none, st2) => (none, st2)) (some [], s)

/-- The staged checks find room below the ceiling, else they lie outside the protected region (R104). -/
def checksFit (s : Part) (p : PoolSt) (n : Nat) : Bool := decide (s.promised + n ≤ blocksBelow (s.ceilingFor p))

/-- The strips of a destage stand under its entry; an encoding that failed twice waits for another (R41). -/
def stageDestage (p : PoolSt) (g : Geo) (stripe : Nat) (rmw : Bool) (snap : List Held) (writes : List (Nat × Nat × Block))
    (fails : Nat) (s : Part) : Part :=
  let checks := if g.mirror then 0 else (writes.filter (fun x => decide (g.h.k ≤ x.1))).length
  let through := ((s.entry? p.id stripe).map (fun e => e.state == .through)).getD false
  let fit := through || checksFit s p checks
  let cls := destageClass s p.id
  let s := s.modEntry p.id stripe (fun e => { e with
    rmw := rmw, chkOut := !fit, cls := cls, genLo := p.charter.gen % 65536, tried := false, stalledAt := none
    snap := snap.map (fun b => (b.strip, b.bo, b.gen)) })
  let s := if fit && !through then s.modMan (fun m => { m with nBlocks := m.nBlocks + checks }) else s
  stageEncoded p.id stripe g.mirror fails writes s

/-- A destage of the stripe may start now (R82, R98, R157, R297, R304, R307). -/
def mayDestage (s : Part) (p : PoolSt) (stripe : Nat) (e : MEntry) : Bool :=
  p.life != 0 && p.owned && p.pair.state != 4 && !s.sched.frozen && s.dump.state != 3 &&
    (e.state == .held || e.state == .through) && !e.built && e.left.isEmpty && e.synd == 0 &&
    !e.stuck && !p.reb.writing.any (fun w => w.stripe == stripe) && !p.int.reconcile.contains stripe && !p.gapStripe stripe &&
    (p.charter.shape.codeType == 1 || !s.pipes.isEmpty)

/-- An older stripe that could be destaged comes first (R86): the oldest tide among held blocks decides; a stripe whose held
blocks cover all its data goes ahead, and one that a destage has left held is not waited for. -/
def olderFirst (s : Part) (p : PoolSt) (e : MEntry) (covered : Bool) : Bool :=
  !covered && e.state == .held && s.man.entries.any (fun x =>
    x.pool == e.pool && x.state == .held && !x.tried && decide (x.firstTide < e.firstTide) && mayDestage s p x.stripe x &&
      !(snapshot s p.id x.stripe).isEmpty)

/-- A stripe that no destage could write yet stays held, to be tried again (R85). -/
def leaveHeld (p stripe : Nat) (s : Part) : Part := s.modEntry p stripe (fun e => { e with tried := true })

/-- R82–R86: a destage of a stripe; `again` for one that stayed held. -/
def destage (again : Bool) (p stripe : Nat) (bad : BadReads) (fails : Nat) (s : Part) : Part :=
  match s.pool? p, s.entry? p stripe with
  | some ps, some e =>
    let snap := snapshot s p stripe
    let g := ps.charter.geoOf stripe
    let new := newestOf snap
    if !mayDestage s ps stripe e || snap.isEmpty || (!again && olderFirst s ps e (decide (new.length = g.h.kb))) then s
    else
      let rmw := !g.mirror && choosesRmw s ps g.h stripe new
      let short (st : Part) (writes : List (Nat × Nat × Block)) : Bool :=
        fallsShort st ps g stripe (stripsOf writes) ((stripsOf writes).filter (fun i => !(st.places ps g e.whole stripe i).isEmpty))
      let heldOn (st : Part) : Part :=
        leaveHeld p stripe (if snap.any (·.through) && (beyondAt s ps stripe || g.mirror) then failThrough ps stripe st else st)
      match planStripe ps g bad stripe rmw new s with
      | (some writes, st) =>
        let st := countMedium bad (active st)
        if short st writes then heldOn st else stageDestage ps g stripe rmw snap writes (if g.mirror then 0 else fails) st
      | (none, st) => heldOn (countMedium bad st)
  | _, _ => s

/-- R82, R83: a destage takes its snapshot and its method. -/
def execDestageStart (p : PoolId) (stripe : Nat) (bad : BadReads) (encodeFails : Nat) (s : State) : Answer :=
  .next (s.onPart (destage false p.val stripe bad encodeFails))

/-- R87: a member reports a strip write durable; the entry retires with its last strip (R88). -/
def execStripCommit (p : PoolId) (stripe strip : Nat) (s : State) : Answer :=
  .next (s.onPart (fun s => sleepIfReady (commitStrip p.val stripe strip s)))

def syndromeRetryEff (p stripe : Nat) (good : Bool) (s : Part) : Part :=
  match s.entry? p stripe with
  | none => s
  | some e =>
    if e.synd = 0 || s.pipes.isEmpty then s
    else if good then
      stageWrites p stripe e.staged
        ((noted 7 41 3 (leBytes 1 p ++ leBytes 6 stripe ++ leBytes 1 (min 255 (e.synd + 1))) s).modEntry p stripe
          (fun x => { x with synd := 0 }))
    else
      pipeFailure (s.pipeOf e.synd) p stripe (min 255 (e.synd + 1)) (s.modEntry p stripe (fun x => { x with synd := x.synd + 1 }))

/-- R41: a stripe whose encodings failed is encoded again on the remaining pipelines, every 1 ms. -/
def execSyndromeRetry (p : PoolId) (stripe : Nat) (good : Bool) (s : State) : Answer :=
  .next (s.onPart (syndromeRetryEff p.val stripe good))

end Sys2Proof.Machine
end

