-- ==== Sys2Proof/Machine/Scrub.lean ====
section
/-! DEFINITION. Meanings of the integrity commands (06_block_integrity): patrol scrub and the examination of a stripe
(R136–R145, R412), the resolution of a divergent block (R139), the acknowledgement of deferred errors (R150). -/

namespace Sys2Proof.Machine

/-! ### Examination of a stripe -/

/-- The decode that a syndrome pattern names (Table 6.5). -/
def patternDecode (h : Shape) (units : List Bytes) : Decoded :=
  let some_ := units.map some
  let without (i : Nat) : Decoded :=
    match decodeStripe h.k h.m h.g (some_.set i none) with
    | some f => .wrong i f units
    | none => .unsettled units
  match classify h.k h.m h.g (syndrome h.k h.m h.g units) with
  | .consistent => .clean units
  | .globalWrong i => .wrong (h.k + i) (encodeStripe h.k h.m h.g (units.take h.k)) units
  | .localWrong t => .wrong (h.k + h.m + t) (encodeStripe h.k h.m h.g (units.take h.k)) units
  | .dataWrong j => without j
  | .notLocatable => .unsettled units

/-- Tags and host PI of the data blocks of an offset (R143): a block that fails is taken from the other strips where that
passes, else counted. -/
def verifyTags (p : PoolSt) (g : Geo) (stripe bo : Nat) (units : List Bytes) (s : Part) : Exam :=
  (List.range g.h.k).foldl (fun (acc : Exam) i =>
    let b := g.blockOf i (units.getD i [])
    if qualifies acc.2 p g stripe i bo b then acc
    else
      match p.charter.blockVol g stripe i bo, decodeStripe g.h.k g.h.m g.h.g ((units.map some).set i none) with
      | some (v, lba), some f =>
        let b2 := g.blockOf i (f.getD i [])
        if qualifies acc.2 p g stripe i bo b2 then (acc.1 ++ [(i, bo, b2)], repairedAt p g stripe i bo acc.2)
        else (acc.1, countAuthFail p.id v.id lba (stripMember p g stripe i) acc.2)
      | some (v, lba), none => (acc.1, countAuthFail p.id v.id lba (stripMember p g stripe i) acc.2)
      | none, _ => acc) ([], s)

/-- The checks of an offset computed anew from its data, every block of which is there (R145, R412). -/
def recomputeChecks (g : Geo) (bo : Nat) (units : List (Option Bytes)) : List (Nat × Nat × Block) :=
  (((encodeStripe g.h.k g.h.m g.h.g ((units.take g.h.k).filterMap id)).mapIdx (fun i u => (i, bo, u))).drop g.h.k).filterMap
    (fun x => if units.getD x.1 none = some x.2.2 then none else some (x.1, bo, g.blockOf x.1 x.2.2))

/-- Blocks at an offset that an examination no longer finds divergent leave the list (R139, R141). -/
def offsetSettled (p stripe bo : Nat) (diverged : List Nat) (s : Part) : Part :=
  s.modPool p (fun x => { x with int := { x.int with
    diverged := x.int.diverged.filter (fun d => !(d.stripe == stripe && d.bo == bo && !diverged.contains d.strip)) } })

/-- A parity offset none of whose strips is missing: failing ranges are repaired, or lost at margin zero (R131, R145); then
the syndrome decides (R137, R138). Checks that wait to be recomputed are, once every data block is there. -/
def examineParity (p : PoolSt) (g : Geo) (bad : BadReads) (tags : Bool) (stripe bo : Nat) (s : Part) : Exam :=
  let reads := readStripe s p g bad stripe bo
  let units := reads.map (StripRead.unit? g.fmt)
  let failed := (List.range g.w).filter (fun i => (units.getD i none).isNone)
  if p.int.recheck.any (fun r => r.1 == stripe && r.2.1 == bo) && (units.take g.h.k).all Option.isSome then
    (recomputeChecks g bo units, s)
  else if failed.isEmpty then
    let full := units.filterMap id
    match patternDecode g.h full with
    | .clean u =>
      let s := offsetSettled p.id stripe bo [] s
      if tags then verifyTags p g stripe bo u s else ([], s)
    | d =>
      let r := settle s p g stripe bo reads units d
      (r.rewrites, offsetSettled p.id stripe bo r.diverged r.part)
  else
    match decodeAt p g stripe bo units with
    | .beyond =>
      let there := localUnits p g stripe bo units
      let lost := (failed.filter (fun i => decide (i < g.h.k) && (there.getD i none).isNone)).map
        (fun i => (i, lostEntryFor s p.charter g 0 stripe i bo))
      let fix := (failed.filter (fun i => (there.getD i none).isSome)).map (fun i => (i, bo, g.blockOf i ((there.getD i none).getD [])))
      let ws := markerWrites s p g bad stripe bo lost
      (fix.filter (fun x => !ws.any (fun y => y.1 == x.1)) ++ ws,
        fix.foldl (fun t x => repairedAt p g stripe x.1 bo t) (lost.foldl (fun t e => enterLost p.id e.2 t) s))
    | d =>
      let r := settle s p g stripe bo reads units d
      let fix := (failed.filter (fun i => !r.diverged.contains i)).map (fun i => (i, bo, g.blockOf i (r.units.getD i [])))
      (fix ++ r.rewrites.filter (fun x => !failed.contains x.1),
        fix.foldl (fun t x => repairedAt p g stripe x.1 bo t) (offsetSettled p.id stripe bo r.diverged r.part))

/-- A parity offset with strips missing is examined by its decode (R412). -/
def examineMissing (p : PoolSt) (g : Geo) (bad : BadReads) (stripe bo : Nat) (s : Part) : Exam :=
  match restoreOffset s p g bad stripe bo with
  | (.beyond, _) => ([], s)
  | (_, r) => (r.rewrites, r.part)

/-- A mirror block (R136, R140): the winner is written over the other copies; a block of which no copy is good is lost; one of
which no copy passes its tag is counted (R143). -/
def examineCopies (p : PoolSt) (g : Geo) (bad : BadReads) (tags : Bool) (stripe bo : Nat) (s : Part) : Exam :=
  let reads := readStripe s p g bad stripe bo
  let x := examineMirror s p g stripe bo reads
  match x.winner with
  | none =>
    if reads.all (fun r => decide (r = .bad)) then
      let e := lostEntryFor s p.charter g 0 stripe 0 bo
      (markerWrites s p g bad stripe bo [(0, e)], enterLost p.id e s)
    else
      match tags, p.charter.blockVol g stripe 0 bo with
      | true, some (v, lba) => ([], countAuthFail p.id v.id lba (stripMember p g stripe 0) s)
      | _, _ => ([], s)
  | some _ =>
    if x.divergent then
      let s := blockDiverges p g stripe 0 bo s
      if byRank p g stripe bo [0] then (x.rewrites, offsetSettled p.id stripe bo [] s) else ([], s)
    else (x.rewrites, x.rewrites.foldl (fun st r => repairedAt p g stripe r.1 bo st) (offsetSettled p.id stripe bo [] s))

/-- The examination of a whole stripe; its rewrites are made under a Manifest entry (R143), of class `cls`. -/
def examineStripe (cls : Nat) (p : PoolSt) (bad : BadReads) (tags : Bool) (stripe : Nat) (s : Part) : Part :=
  let g := p.charter.geoOf stripe
  let missing := (presence s p g stripe).any (! ·)
  let one (bo : Nat) (st : Part) : Exam :=
    if g.mirror then examineCopies p g bad tags stripe bo st
    else if missing then examineMissing p g bad stripe bo st
    else examineParity p g bad tags stripe bo st
  let r := (List.range g.h.sb).foldl (fun (acc : Exam) bo =>
    let x := one bo acc.2
    (acc.1 ++ x.1, x.2)) ([], s)
  stageRepair cls p.id stripe r.1 r.2

/-! ### Patrol scrub -/

/-- Some stripe of the pool is at margin 0 or below (R142, R152). -/
def atMargin (s : Part) (p : PoolSt) (m : Int) : Bool := p.allStripes.any (fun x => decide (margin s p x.1 x.2 ≤ m))

/-- Stripes a scrub pass takes: the source's, and those of a Crossing's target that hold data (R142, R175). -/
def PoolSt.scrubTotal (p : PoolSt) : Nat :=
  p.charter.shape.stripeCount + (match p.charter.cross with
    | some x =>
      if x.isShape then
        let kb := max 1 x.shape.kb
        ((p.charter.targetBases x).map (fun vb =>
          let size := ((p.charter.vols.find? (fun v => v.id == vb.1)).map (·.size)).getD 0
          if p.cross.crossed.contains vb.1 then ceilDiv (vb.2 + size) kb
          else if x.curVolume = vb.1 then ceilDiv (vb.2 + p.cross.live) kb else 0)).foldl max 0
      else 0
    | none => 0)

/-- The cursor moves on; the last stripe ends the pass (R142). -/
def scrubAdvance (p : Nat) (total : Nat) (s : Part) : Part :=
  s.modPool p (fun x =>
    let next := x.int.scrubCursor + 1
    if total ≤ next then
      { x with int := { x.int with scrubCursor := 0, scrubEnd := s.timeUs, scrubStart := s.timeUs, scrubBehind := false } }
    else { x with int := { x.int with scrubCursor := next } })

/-- POOL_SCRUB_BEHIND follows the projected end of the pass (R142). -/
def scrubProject (p : Nat) (total : Nat) (s : Part) : Part :=
  match s.pool? p with
  | none => s
  | some ps =>
    let cycle := hour (24 * s.objNum 0x2104 1)
    let behind := decide (cycle * max 1 ps.int.scrubCursor < (s.timeUs - ps.int.scrubStart) * total) && ps.int.scrubCursor != 0
    let s1 := s.modPool p (fun x => { x with int := { x.int with scrubBehind := behind } })
    if behind && !ps.int.scrubBehind then noted 8 142 1 (leBytes 1 p) s1 else s1

/-- A stripe to be examined again that no entry holds, no strip is missing from and no link keeps (R131, R137, R144, R206). -/
def PoolSt.againDue (s : Part) (p : PoolSt) : Option Nat :=
  p.int.again.find? (fun x => (s.entry? p.id x).isNone && !(presence s p (p.charter.geoOf x) x).any (! ·) &&
    !linkWaits s p (p.charter.geoOf x) x)

/-- Scrub may read the pool now (R98, R142, R297). -/
def scrubAwake (s : Part) (p : PoolSt) : Bool :=
  p.life == 3 && p.owned && p.pair.state != 4 && !s.sched.frozen && !s.tow.sleeping && s.dump.state != 3

/-- R142–R144: a stripe that is to be examined again comes first, then the one at the cursor. -/
def scrubStripeEff (p : Nat) (bad : BadReads) (s : Part) : Part :=
  match s.pool? p with
  | none => s
  | some ps =>
    if !scrubAwake s ps then s
    else
      let tags := s.objNum (poolIdx p 0x14) 2 == 1
      match ps.againDue s with
      | some x =>
        countMedium bad (examineStripe 8 ps bad tags x ((active s).modPool p (fun y => { y with int := { y.int with
          again := y.int.again.filter (· != x) } })))
      | none =>
        if s.objNum (poolIdx p 0x14) 1 == 0 || atMargin s ps 0 then s
        else
          let stripe := ps.int.scrubCursor
          let total := ps.scrubTotal
          let g := ps.charter.geoOf stripe
          match s.entry? p stripe with
          | some e => if e.stuck then scrubAdvance p total s else s
          | none =>
            if linkWaits s ps g stripe then s
            else
            let s := active s
            let s := if (presence s ps g stripe).any (! ·) || decide (total ≤ stripe) then s
              else countMedium bad (examineStripe 8 ps bad tags stripe s)
            scrubProject p total (scrubAdvance p total s)

/-- R142–R144: scrub reads and examines the stripe at its cursor; a stripe whose entry is in use is left until it
retires, one behind a link that is down until the link returns or the member is ABSENT. -/
def execScrubStripe (p : PoolId) (bad : BadReads) (s : State) : Answer := .next (s.onPart (scrubStripeEff p.val bad))

/-! ### Resolution -/

def poolDivResolveEff (q : Req) (p : Nat) (value : BitVec 64) (s : Part) : Part :=
  checked q roleOperator none (fun s =>
    let lba := bitsOf value.toNat 47 0
    let vol := bitsOf value.toNat 59 48
    let choice := bitsOf value.toNat 63 60
    match s.pool? p with
    | none => refuseRule q 139 0 s
    | some ps =>
      match ps.int.diverged.find? (fun d => d.vol == vol && d.lba == lba) with
      | none => refuseRule q 139 0 s
      | some d =>
        let g := ps.charter.geoOf d.stripe
        if (if g.mirror then g.w else 2) ≤ choice then refuseRule q 139 0 s
        else if !ps.owned then refuseRule q 297 0 s
        else if (resolveWrites s ps d choice).isEmpty then refuseState q 139 0 s
        else
          resolveNext p ((ok q (s.setObjNum (poolIdx p 0x14) 0x0A value.toNat)).modPool p (fun x => { x with int := { x.int with
            toResolve := x.int.toResolve.filter (fun y => decide (y.1 ≠ d)) ++ [(d, choice)] } }))) s

/-- R139: the operator resolves a divergent block. -/
def execPoolDivResolve (q : Req) (p : PoolId) (value : BitVec 64) (s : State) : Answer :=
  .next (s.onPart (poolDivResolveEff q p.val value))

def volDeferredAckEff (q : Req) (v n : Nat) (s : Part) : Part :=
  checked q roleOperator none (fun s =>
    ok q (if s.vols.any (fun x => x.id == v) then
        s.modVol v (fun x => { x with deferred := x.deferred.drop n, deferredCount := x.deferredCount - n })
      else s)) s

/-- R150: the driver acknowledges deferred errors. -/
def execVolDeferredAck (q : Req) (v : VolId) (n : Nat) (s : State) : Answer := .next (s.onPart (volDeferredAckEff q v.val n))

end Sys2Proof.Machine
end

