-- ==== Sys2Proof/Machine/Rebuild.lean ====
section
/-! DEFINITION. Meanings of the rebuild commands (07: R153–R166): rebuild tasks, the commit of a rebuilt strip, abandonment
of a FAILED group, replacement, copy-back. -/

namespace Sys2Proof.Machine

/-- R153: REBUILD_ABSENT_HOLD_S has passed with the member ABSENT; the charter change is asked for. -/
def rebuildAbsentHoldEff (k : Nat) (s : Part) : Part :=
  match s.member? k, s.poolOfMember k with
  | some m, some (p, o) =>
    if m.state = 0 ∧ ((s.charter? p).bind (fun c => (c.memberAt o).map (·.state))) ≠ some 0 then queueDelta p (.memberState o 0) s
    else s
  | _, _ => s

def execRebuildAbsentHold (k : MemberId) (s : State) : Answer := .next (s.onPart (rebuildAbsentHoldEff k.val))

/-! ### Strips to rebuild -/

/-- A stripe whose data lies wholly below the committed cursor of a Crossing is not rebuilt in the source, and one beyond
what has been crossed not in the target (R175). -/
def rebuildWanted (p : PoolSt) (g : Geo) (stripe : Nat) : Bool :=
  match p.charter.cross with
  | none => true
  | some x =>
    if !x.isShape then true
    else
      let ends := (List.range (if g.mirror then 1 else g.h.k)).flatMap (fun i =>
        (List.range g.h.sb).filterMap (fun bo => p.charter.blockVol g stripe i bo))
      let behind (vl : CVol × Nat) : Bool := p.cross.crossed.contains vl.1.id || (vl.1.id == x.curVolume && decide (vl.2 < x.cursor))
      let reached (vl : CVol × Nat) : Bool := p.cross.crossed.contains vl.1.id || (vl.1.id == x.curVolume && decide (vl.2 < p.cross.live))
      if g.off = 0 then ends.isEmpty || !ends.all behind else ends.any reached

/-- Stripes of a group. -/
def Geo.groupStripes (g : Geo) (grp : Nat) : List Nat :=
  ((List.range g.braid.dn).map (fun d => grp * g.braid.dn + d)).filterMap (fun x =>
    if x < g.h.stripeCount then some (x + g.off) else none)

/-- Strip index of an ordinal in a stripe. -/
def Geo.stripAt (g : Geo) (stripe o : Nat) : Option Nat := (g.braid.homes (stripe - g.off)).idxOf? o

/-- The strip an ordinal holds in a stripe is missing from its lane and has a lane (R57, R154). -/
def needsRebuild (s : Part) (p : PoolSt) (g : Geo) (o stripe : Nat) : Option Nat :=
  let e := g.entries.getD o 0
  match g.stripAt stripe o with
  | some i =>
    if g.braid.relocated o && !p.isRebuilt e stripe && !p.reb.writing.any (fun w => w.ordinal == e && w.stripe == stripe) &&
        (g.braid.place (stripe - g.off) i).isSome && !beyondRepair s p g stripe && rebuildWanted p g stripe then some i
    else none
  | none => none

/-- A strip that a task can rebuild now: its stripe has no entry (R156 step 1) and waits on no link (R206). -/
def canRebuild (s : Part) (p : PoolSt) (g : Geo) (o stripe : Nat) : Bool :=
  (needsRebuild s p g o stripe).isSome && (s.entry? p.id stripe).isNone && !linkWaits s p g stripe

/-- Rebuild tasks of a shape: (margin of the group, group, ordinal), those with a strip to rebuild (R154); a STALLED stripe is
skipped (R156 step 1). -/
def tasksOf (s : Part) (p : PoolSt) (g : Geo) : List (Int × Nat × Nat) :=
  (List.range g.braid.groups).flatMap (fun grp =>
    let stripes := g.groupStripes grp
    let m := (stripes.map (fun x => margin s p g x)).foldl min (g.h.m : Int)
    ((List.range g.ids.length).filter (fun o => g.braid.relocated o && stripes.any (fun x =>
      (needsRebuild s p g o x).isSome && !((s.entry? p.id x).any MEntry.stuck)))).map
      (fun o => (m, grp, o)))

/-- The order of tasks (R154). -/
def taskBefore (a b : Int × Nat × Nat) : Bool :=
  decide (a.1 < b.1 ∨ (a.1 = b.1 ∧ (a.2.1 < b.2.1 ∨ (a.2.1 = b.2.1 ∧ a.2.2 ≤ b.2.2))))

/-- Tasks of a pool in both shapes. -/
def poolTasks (s : Part) (p : PoolSt) : List (Geo × Int × Nat × Nat) :=
  p.shapes.flatMap (fun g => (tasksOf s p g).map (fun t => (g, t)))

/-- A task has a stripe that can be rebuilt now; one all of whose stripes are deferred lets the next task run. -/
def taskRuns (s : Part) (p : PoolSt) (t : Geo × Int × Nat × Nat) : Bool :=
  (t.1.groupStripes t.2.2.1).any (fun x => canRebuild s p t.1 t.2.2.2 x)

/-- The task that ranks first of those that can run. -/
def firstTask (s : Part) (p : PoolSt) : Option (Geo × Int × Nat × Nat) :=
  ((poolTasks s p).filter (taskRuns s p)).foldl (fun best t => match best with
    | none => some t
    | some b => if taskBefore b.2 t.2 then some b else some t) none

/-! ### The content of a strip -/

/-- Blocks for the strip being restored, rewrites of other strips, the state with its records. -/
structure Restored where
  blocks : List (Nat × Block)
  rewrites : List (Nat × Nat × Block)
  part : Part

/-- One offset of strip `i` restored from the others (R36, R156, R159, R412). -/
def restoreBlock (p : PoolSt) (g : Geo) (bad : BadReads) (stripe i bo : Nat) (s : Part) : Restored :=
  if g.mirror then
    let x := examineMirror s p g stripe bo (readStripe s p g bad stripe bo)
    match x.winner with
    | some (_, b) =>
      let st := if x.divergent then blockDiverges p g stripe 0 bo s else s
      { blocks := [(bo, b)], rewrites := if x.divergent && !byRank p g stripe bo [0] then [] else x.rewrites, part := st }
    | none =>
      let e := lostEntryFor s p.charter g 0 stripe 0 bo
      { blocks := [(bo, lostMarker p.id e)], rewrites := markerWrites s p g bad stripe bo [(0, e)], part := enterLost p.id e s }
  else
    match restoreOffset s p g bad stripe bo with
    | (.beyond, _) =>
      let reads := (List.range g.w).map (readSalvage s p g bad stripe bo)
      let there := localUnits p g stripe bo (reads.map (StripRead.unit? g.fmt))
      let lost := ((List.range g.h.k).filter (fun j => (j == i || decide (reads.getD j .missing = .bad)) && (there.getD j none).isNone)).map
        (fun j => (j, lostEntryFor s p.charter g 0 stripe j bo))
      let ws := markerWrites s p g bad stripe bo lost
      let st := lost.foldl (fun t e => enterLost p.id e.2 t) s
      { blocks := ((ws.find? (fun x => x.1 == i)).toList.map (fun x => (bo, x.2.2))) ++
          (if ws.any (fun x => x.1 == i) then [] else ((there.getD i none).map (fun u => (bo, g.blockOf i u))).toList)
        rewrites := ws.filter (fun x => x.1 != i)
        part := if ws.any (fun x => g.isCheck x.1) then st else recheckLater p.id stripe bo true st }
    | (_, r) =>
      let reads := (List.range g.w).map (readStrip s p g bad stripe bo)
      let failed := (List.range g.w).filter (fun j => j != i && decide (reads.getD j .missing = .bad) && !r.diverged.contains j)
      let fix := failed.map (fun j => (j, bo, g.blockOf j (r.units.getD j [])))
      { blocks := [(bo, g.blockOf i (r.units.getD i []))]
        rewrites := fix ++ r.rewrites.filter (fun x => x.1 != i && !failed.contains x.1)
        part := failed.foldl (fun t j => repairedAt p g stripe j bo t) r.part }

/-- A donor's block is copied from the donor while it can be read (R153), else restored. -/
def laneBlock (p : PoolSt) (g : Geo) (bad : BadReads) (stripe i bo : Nat) (s : Part) : Restored :=
  match readStrip s p g bad stripe bo i with
  | .ok b => { blocks := [(bo, b)], rewrites := [], part := s }
  | _ => restoreBlock p g bad stripe i bo s

def restoreStrip (p : PoolSt) (g : Geo) (bad : BadReads) (stripe i : Nat) (s : Part) : Restored :=
  (List.range g.h.sb).foldl (fun (acc : Restored) bo =>
    let r := laneBlock p g bad stripe i bo acc.part
    { blocks := acc.blocks ++ r.blocks, rewrites := acc.rewrites ++ r.rewrites, part := r.part })
    { blocks := [], rewrites := [], part := s }

/-- Class of a rebuild task's member commands (Table 8.5). -/
def rebuildClass (m : Int) : Nat := if m ≤ 0 then 1 else if m = 1 then 3 else 4

/-- A stripe of a task: read, decoded, settled, its lane write started (R156). A stripe with an entry, or behind a link that is down, is left. -/
def rebuildStripe (p o : Nat) (g : Geo) (m : Int) (bad : BadReads) (stripe : Nat) (s : Part) : Part :=
  match s.pool? p with
  | none => s
  | some ps =>
    match linkWaits s ps g stripe, s.entry? p stripe, needsRebuild s ps g o stripe with
    | false, none, some i =>
      let r := restoreStrip ps g bad stripe i s
      let e := g.entries.getD o 0
      let s := match g.braid.place (stripe - g.off) i with
        | some (z, row) =>
          let pl := (g.ids.getD z 16384, g.braid.rowMba row)
          enqueueCmd pl.1 (.laneWrite p stripe e) (rebuildClass m) false true pl.2 g.h.sb
            (modReb p (fun x => { x with writing := x.writing ++ [{ ordinal := e, stripe := stripe, place := pl, blocks := r.blocks }] }) r.part)
        | none => r.part
      stageRepair (rebuildClass m) p stripe r.rewrites s
    | _, _, _ => s

def rebuildTaskEff (p : Nat) (bad : BadReads) (s : Part) : Part :=
  match s.pool? p with
  | none => s
  | some ps =>
    if ps.life == 0 || !ps.owned || ps.pair.state == 4 || s.sched.frozen || s.dump.state == 3 then s
    else
      match firstTask s ps with
      | none => s
      | some (g, m, grp, o) => countMedium bad ((g.groupStripes grp).foldl (fun st x => rebuildStripe p o g m bad x st) (active s))

/-- R154–R156, R159: the task that ranks first runs. -/
def execRebuildTask (p : PoolId) (bad : BadReads) (s : State) : Answer := .next (s.onPart (rebuildTaskEff p.val bad))

/-! ### The lane write commits -/

/-- Every strip of a relocated ordinal that has a lane is rebuilt: record REBUILD_DONE. -/
def rebuildDone (p e : Nat) (s : Part) : Part :=
  match s.pool? p with
  | none => s
  | some ps =>
    match alGet e ps.reb.started with
    | none => s
    | some t0 =>
      let left := ps.shapes.any (fun g =>
        match g.entries.idxOf? e with
        | some o => (List.range g.h.stripeCount).any (fun x => (needsRebuild s ps g o (x + g.off)).isSome) ||
            ps.reb.writing.any (fun w => w.ordinal == e)
        | none => false)
      if left then s
      else
        log 0x0F02 p (leBytes 2 e ++ leBytes 4 ((s.timeUs - t0) / 1000000))
          (modReb p (fun r => { r with started := alDel e r.started }) s)

/-- R64, R156: the strip's lane write commits at the place it was built for (R65); where the strip's lane is still that one, the
lane slot is read and written from now on, and the twin hears of it (R153). -/
def stripeRebuilt (p stripe e : Nat) (s : Part) : Part :=
  match s.pool? p with
  | none => s
  | some ps =>
    match ps.reb.writing.find? (fun w => w.ordinal == e && w.stripe == stripe) with
    | none => s
    | some w =>
      let g := ps.charter.geoOf stripe
      let s := modReb p (fun r => { r with writing := r.writing.filter (fun x => !(x.ordinal == e && x.stripe == stripe)) }) s
      match (g.entries.idxOf? e).bind (fun o => g.stripAt stripe o) with
      | none => s
      | some i =>
        let s := putStrip ps g w.place.1 w.place.2 i w.blocks s
        if (g.braid.place (stripe - g.off) i).map (fun z => (g.ids.getD z.1 16384, g.braid.rowMba z.2)) = some w.place then
          rebuildDone p e (tellTwin p (.rebuilt p e stripe) (modReb p (fun r => { r with rebuilt := r.rebuilt ++ [(e, stripe)] }) s))
        else s

def execStripeRebuilt (p : PoolId) (stripe ordinal : Nat) (s : State) : Answer :=
  .next (s.onPart (stripeRebuilt p.val stripe ordinal))

/-! ### Abandoning a FAILED group -/

/-- Stripes of a group that are beyond repair (R160). -/
def beyondStripes (s : Part) (p : PoolSt) (grp : Nat) : List Nat :=
  p.shapes.flatMap (fun g => (g.groupStripes grp).filter (fun x => beyondRepair s p g x))

/-- R162: what an abandoned stripe becomes at one offset: unreadable data blocks are lost, checks cover the markers. -/
def abandonOffset (p : PoolSt) (g : Geo) (cause stripe : Nat) (new : List (Nat × Nat × Block)) (bo : Nat) (s : Part) :
    List (Nat × Nat × Block) × Part :=
  let n := if g.mirror then 1 else g.h.k
  let unit (i : Nat) : Option Bytes :=
    match newAt new i bo with
    | some b => some (codedUnit g.fmt b)
    | none =>
      if g.mirror then
        ((List.range g.w).findSome? (fun c => match readSalvage s p g [] stripe bo c with | .ok b => some (codedUnit g.fmt b) | _ => none))
      else (readSalvage s p g [] stripe bo i).unit? g.fmt
  let lost := ((List.range n).filter (fun i => (unit i).isNone)).map (fun i => (i, lostEntryFor s p.charter g cause stripe i bo))
  let s := lost.foldl (fun t e => enterLost p.id e.2 t) s
  let data := (List.range n).map (fun i => match alGet i lost with
    | some e => codedUnit g.fmt (lostMarker p.id e)
    | none => (unit i).getD [])
  if g.mirror then ((List.range g.w).map (fun c => (c, bo, (newAt new 0 bo).getD (g.blockOf 0 (data.getD 0 [])))), s)
  else
    let full := encodeStripe g.h.k g.h.m g.h.g data
    let keep := (List.range g.w).filter (fun i =>
      decide (i < g.h.k) || ((readPlace p g stripe i).any (fun pl => s.serves pl.1)))
    (keep.map (fun i => (i, bo, (newAt new i bo).getD (g.blockOf i (full.getD i [])))), s)

/-- A stripe whose unreadable blocks are given up with a cause: markers and checks are written under its entry. A destage or
repair of the stripe that was under way gives way to this write, which carries its blocks. -/
def abandonStripe (p cause fails stripe : Nat) (s : Part) : Part :=
  match s.pool? p with
  | none => s
  | some ps =>
    let g := ps.charter.geoOf stripe
    let snap := snapshot s p stripe
    let staged := ((s.entry? p stripe).map (·.staged)).getD []
    let new := newestOf snap
    let all := new ++ staged.filter (fun x => decide (x.1 < (if g.mirror then 1 else g.h.k)) && (newAt new x.1 x.2.1).isNone)
    let r := (List.range g.h.sb).foldl (fun (acc : List (Nat × Nat × Block) × Part) bo =>
      let x := abandonOffset ps g cause stripe all bo acc.2
      (acc.1 ++ x.1, x.2)) ([], s)
    let st := idleState s p stripe
    let s := addEntry p stripe st r.2
    let s := s.modEntry p stripe (fun e => { e with whole := true, stalledAt := none, replay := false, built := false, state := st })
    stageDestage ps g stripe false snap r.1 fails s

def poolGroupAbandonEff (q : Req) (p grp : Nat) (s : Part) : Part :=
  checked q roleCustodian none (fun s =>
    match s.pool? p with
    | none => refuseRule q 162 0 s
    | some ps =>
      let l := if ps.life = 0 then [] else beyondStripes s ps grp
      if l.isEmpty then refuseRule q 162 0 s
      else if !ps.owned then refuseRule q 297 0 s
      else ok q (l.foldl (fun st x => abandonStripe p 2 0 x st) (s.setObjNum (poolIdx p 0x15) 8 grp))) s

/-- R162: a Custodian abandons a FAILED group. -/
def execPoolGroupAbandon (q : Req) (p : PoolId) (group : Nat) (s : State) : Answer :=
  .next (s.onPart (poolGroupAbandonEff q p.val group))

/-! ### Replacement -/

/-- The first rule a replacement of an ordinal breaks (R25, R47, R62). -/
def replaceRefusal (s : Part) (c : Charter) (o : Nat) (m : MemberSt) : Option Nat :=
  match c.memberAt o with
  | none => some 164
  | some x =>
    if !relocState x.state then some 164
    else if m.state ≠ 1 || s.memberNamed m.id then some 164
    else if LabelRead.foreign m.label then some 25
    else if !suitsFormat m.info c.shape.blockFmt || m.info.capacity < c.shape.dataStart + c.shape.usable + 512 then some 47
    else if m.info.enclFound ≠ x.encl || !([0xFFFF, x.rack].contains (s.objNum (0x6000 + m.id) 0x11)) then some 62
    else none

def replaceDelta (o : Nat) (m : MemberSt) : CharterDelta :=
  .replace o { id := m.id, ordinal := o, state := 1, protocol := m.info.protocol, encl := m.info.enclFound, rack := 0,
               identity := m.info.identity }

/-- A member takes over a relocated ordinal (R62, R164), with the committed fleet values (R181). -/
def replaceOrdinal (p o : Nat) (m : MemberSt) (s : Part) : Part := queueDelta p (replaceDelta o m) s

/-- The pool whose ordinal a member may replace: the lowest that refuses nothing, else the lowest that has the ordinal. -/
def replaceTarget (s : Part) (o : Nat) (m : MemberSt) : Option PoolSt :=
  let ps := (s.pools.filter (fun p => p.life == 3 && (p.charter.memberAt o).isSome)).mergeSort (fun a b => decide (a.id ≤ b.id))
  match ps.find? (fun p => (replaceRefusal s p.latest o m).isNone) with
  | some p => some p
  | none => ps.head?

def memberReplacesEff (q : Req) (k o : Nat) (s : Part) : Part :=
  checked q roleCustodian none (fun s =>
    match s.member? k with
    | none => refuseRule q 164 0 s
    | some m =>
      match replaceTarget s o m with
      | none => refuseRule q 164 0 s
      | some p =>
        match replaceRefusal s p.latest o m with
        | some r => refuseRule q r 0 s
        | none =>
          if p.latest.cross.isSome then refuseRule q 168 0 s
          else if !p.owned then refuseRule q 297 0 s
          else
            let s := s.setObjNum (0x6000 + k) 0x13 o
            respond q (if p.changing then stPending else stOk) 0 [] (replaceOrdinal p.id o m s)) s

/-- R62, R164: a Custodian assigns a replacement. -/
def execMemberReplaces (q : Req) (k : MemberId) (ordinal : Nat) (s : State) : Answer :=
  .next (s.onPart (memberReplacesEff q k.val ordinal))

/-- Relocated ordinals of an enclosure domain, FAILED ones first, then by number. -/
def vacancies (s : Part) (c : Charter) (encl : Nat) : List Nat :=
  let at_ (sts : List Nat) := (List.range c.members.length).filter (fun o =>
    match c.memberAt o with
    | some x => x.encl == encl && sts.contains ((s.member? x.id).map (·.state) |>.getD x.state) && relocState x.state
    | none => false)
  at_ [4] ++ at_ [0]

def autoReplaceEff (k : Nat) (s : Part) : Part :=
  match s.member? k with
  | none => s
  | some m =>
    if m.state ≠ 1 || s.timeUs < m.presentAt + sec 60 then s
    else
      let cand := (s.pools.filter (fun p => p.life == 3 && p.owned && p.charter.cross.isNone && s.objNum (poolIdx p.id 0x15) 9 == 1)).findSome?
        (fun p => ((vacancies s p.latest m.info.enclFound).find? (fun o => (replaceRefusal s p.latest o m).isNone)).map (fun o => (p.id, o)))
      match cand with
      | some (p, o) => replaceOrdinal p o m s
      | none => s

/-- R164: with POOL_AUTO_REPLACE 1 the 7144 assigns a member that has stayed PRESENT for 60 s. -/
def execAutoReplace (k : MemberId) (s : State) : Answer := .next (s.onPart (autoReplaceEff k.val))

/-! ### Copy-back -/

/-- A strip of a returned ordinal goes home (R165 step 1): copied from its lane, left where its stale bit is clear, or
restored. -/
def copyHome (p o k : Nat) (g : Geo) (bad : BadReads) (stripe : Nat) (s : Part) : Part :=
  match s.pool? p, g.stripAt stripe o with
  | some ps, some i =>
    let e := g.entries.getD o 0
    let (_, row) := g.braid.locate (stripe - g.off) i
    let mba := g.braid.rowMba row
    let clean := !ps.reb.staleAll.contains e && !ps.reb.stale.contains (e, g.groupOf stripe)
    if !ps.isRebuilt e stripe && clean then s
    else
      let r := restoreStrip ps g bad stripe i s
      let s := stageRepair 6 p stripe r.rewrites (putStrip ps g k mba i r.blocks r.part)
      enqueueCmd k .structureWrite 6 false (((s.member? k).map MemberSt.needsFua).getD true) mba g.h.sb s
  | _, _ => s

/-- A strip of the ordinal that cannot go home yet: its stripe has an entry, or, stale at home and in no lane, cannot be
restored, its stripe being beyond repair or behind a link that is down. -/
def homeBlocked (s : Part) (p : PoolSt) (o : Nat) (g : Geo) (stripe : Nat) : Bool :=
  let e := g.entries.getD o 0
  let clean := !p.reb.staleAll.contains e && !p.reb.stale.contains (e, g.groupOf stripe)
  (g.stripAt stripe o).isSome && ((s.entry? p.id stripe).isSome ||
    (!p.isRebuilt e stripe && !clean && (beyondRepair s p g stripe || linkWaits s p g stripe)))

/-- R165: the next stripe group of a PRESENT ordinal is copied home, in both shapes of a Crossing (R175); after the last the
ordinal is to become ACTIVE. -/
def copybackEff (p o : Nat) (bad : BadReads) (s : Part) : Part :=
  match s.pool? p with
  | none => s
  | some ps =>
    let g := ps.charter.geo
    let k := g.ids.getD o 16384
    let e := g.entries.getD o 0
    let next := (alGet o ps.reb.copyback).getD 0
    -- the ordinal in each shape, with the stripes of its group `next`
    let work := ps.shapes.filterMap (fun h => (h.entries.idxOf? e).map (fun oh => (h, oh, h.groupStripes next)))
    let groups := (work.map (fun w => w.1.braid.groups)).foldl max 0
    if !ps.owned || ps.pair.state == 4 || ps.life != 3 || !s.returned g o || !s.takes k ||
        ((s.member? k).map (fun m => m.fleet.any (fun x => x.2 == 1))).getD false || !(poolTasks s ps).isEmpty || s.sched.frozen || s.dump.state == 3 then s
    else if groups ≤ next then s
    else if work.any (fun w => w.2.2.any (fun x => homeBlocked s ps w.2.1 w.1 x)) then s
    else
      let s := countMedium bad (work.foldl (fun st w =>
        w.2.2.foldl (fun st2 x => copyHome p w.2.1 k w.1 bad x st2) st) (active s))
      let s := modReb p (fun r => { r with copyback := alSet o (next + 1) r.copyback }) s
      if next + 1 = groups then queueDelta p (.memberState o 2) s else s

def execCopyback (p : PoolId) (ordinal : Nat) (bad : BadReads) (s : State) : Answer :=
  .next (s.onPart (copybackEff p.val ordinal bad))

end Sys2Proof.Machine
end

