-- ==== Sys2Proof/Machine/Checkpoint.lean ====
section
/-! DEFINITION. Meanings of the checkpoint and stall commands (05: R107–R112, R121–R123; 12: R300). -/

namespace Sys2Proof.Machine

/-- R109, R110, R113, R114: a checkpoint is built. -/
def execCheckpointBuild (p : PoolId) (s : State) : Answer := .next (s.onPart (buildCheckpoint p.val))

/-- R110, R112: homes report a checkpoint committed. -/
def execCheckpointValid (p : PoolId) (homes : List (Fin 3)) (s : State) : Answer :=
  .next (s.onPart (checkpointTakesForce p.val homes))

/-- R108: an extension lists every stripe that became ready. -/
def execExtensionWrite (p : PoolId) (s : State) : Answer := .next (s.onPart (buildExtension p.val))

/-- R108, R112: homes report an extension committed. -/
def execExtensionValid (p : PoolId) (homes : List (Fin 3)) (s : State) : Answer :=
  .next (s.onPart (extensionTakesEffect p.val homes))

/-- Entries of a pool's lost-block table. -/
def Part.lostCount (s : Part) (p : Nat) : Nat := ((s.pool? p).map (fun x => x.int.lost.length)).getD 0

/-- R122: POISON_AFTER has passed since a Progress pool found a stripe it cannot make consistent. -/
def poisonEff (p stripe : Nat) (s : Part) : Part :=
  match s.pool? p, s.entry? p stripe with
  | some ps, some e =>
    if e.stalledAt.isSome ∧ ps.progress ∧ ps.owned then
      let before := s.lostCount p
      let s := abandonStripe p 1 0 stripe s
      let n := s.lostCount p - before
      noted 11 122 1 (leBytes 1 p ++ leBytes 6 stripe ++ leBytes 4 n)
        (s.modPool p (fun x => { x with int := { x.int with poisoned := x.int.poisoned + n } }))
    else s
  | _, _ => s

def execPoison (p : PoolId) (stripe : Nat) (s : State) : Answer := .next (s.onPart (poisonEff p.val stripe))

def poolStallReleaseEff (q : Req) (p stripe : Nat) (s : Part) : Part :=
  checked q roleCustodian none (fun s =>
    match s.pool? p, s.entry? p stripe with
    | some ps, some e =>
      if e.state ≠ .stalled then refuseRule q 123 0 s
      else if !ps.owned then refuseRule q 297 0 s
      else
        ok q ((abandonStripe p 2 0 stripe s).modPool p (fun x => { x with int := { x.int with lastRelease := stripe } }))
    | _, _ => refuseRule q 123 0 s) s

/-- R123: a Custodian releases a stalled stripe. -/
def execPoolStallRelease (q : Req) (p : PoolId) (stripe : Nat) (s : State) : Answer :=
  .next (s.onPart (poolStallReleaseEff q p.val stripe))

/-- A Manifest entry as it is laid out (Table 5.2). -/
def MEntry.bytes (e : MEntry) : Bytes :=
  let st : Nat := match e.state with | .held => 1 | .writing => 2 | .through => 3 | .stalled => 4
  leBytes 2 (st + b2n e.tx * 8 + b2n e.syndFail * 16 + b2n e.rmw * 32 + b2n e.chkOut * 64 + (e.pool % 64) * 256) ++
    leBytes 6 e.stripe ++ leBytes 6 e.firstTide ++ leBytes 2 e.genLo ++
    leBytes 16 ((e.mask.filter (fun i => decide (i < 128))).foldl (fun n i => n ||| 2 ^ i) 0)

/-- The digest of a pool's Manifest entries in entry order (R300). -/
def poolDigest (s : Part) (p : Nat) : BitVec 32 :=
  crc32c (((s.man.entries.filter (fun e => e.pool == p)).mergeSort (fun a b => decide (a.slot ≤ b.slot))).flatMap MEntry.bytes)

/-- R300: the digest of a pool. The owner sends its own; the standby compares the owner's with its own, and a difference
returns the pool to SYNCING. -/
def manifestDigestEff (p : Nat) (digest : BitVec 32) (s : Part) : Part :=
  match s.pool? p with
  | none => s
  | some ps =>
    if ps.pair.state ≠ 2 ∨ s.pair.path1Lost then s
    else if ps.pair.owner = 0 then emit (.hawserDigest p (poolDigest s p)) s
    else if digest = poolDigest s p then
      let s := s.modPool p (fun x => { x with pair := { x.pair with digestBad := false } })
      if s.pools.any (fun x => x.pair.digestBad) then s
      else s.modPair (fun x => { x with health := x.health &&& ~~~ (BitVec.twoPow 32 10) })
    else
      let s := noted 17 300 1 (leBytes 1 p ++ leBytes 4 digest.toNat) s
      let s := (beginSync p s).modPool p (fun x => { x with pair := { x.pair with digestBad := true, coverage := 1 } })
      s.modPair (fun x => { x with health := x.health ||| BitVec.twoPow 32 10 })

def execManifestDigest (p : PoolId) (digest : BitVec 32) (s : State) : Answer :=
  .next (s.onPart (manifestDigestEff p.val digest))

end Sys2Proof.Machine
end

