-- ==== Sys2Proof/Machine/PeerMem.lean ====
section
/-! DEFINITION. The peer buffer area (R256): cells in rising order of address, none of value 0, which is what an unlisted
address reads as (log entry 4). -/

namespace Sys2Proof.Machine

/-- The canonical form: addresses strictly rising, no cell of value 0. -/
def Memory.wf : List Host.Cell → Bool
  | [] => true
  | [c] => c.2 != 0
  | c :: d :: r => c.2 != 0 && decide (c.1 < d.1) && Memory.wf (d :: r)

/-- The byte at an address. -/
def Memory.read (m : List Host.Cell) (a : Nat) : Byte := ((m.find? (fun c => c.1 == a)).map (·.2)).getD 0

/-- The area without an address. -/
def Memory.erase (m : List Host.Cell) (a : Nat) : List Host.Cell := m.filter (fun c => c.1 != a)

/-- A byte stored: an address that would hold 0 is not listed. -/
def Memory.write (m : List Host.Cell) (a : Nat) (b : Byte) : List Host.Cell :=
  if b = 0 then Memory.erase m a
  else (m.filter (fun c => decide (c.1 < a))) ++ (a, b) :: (m.filter (fun c => decide (a < c.1)))

/-- Cells stored one after the other. -/
def Memory.writeAll (m : List Host.Cell) (cells : List Host.Cell) : List Host.Cell :=
  cells.foldl (fun m c => Memory.write m c.1 c.2) m

/-- Bytes stored from an address on. -/
def Memory.writeBytes (m : List Host.Cell) (a : Nat) (bs : Bytes) : List Host.Cell :=
  Memory.writeAll m (bs.mapIdx (fun i b => (a + i, b)))

/-- `n` bytes from an address on. -/
def Memory.readBytes (m : List Host.Cell) (a n : Nat) : Bytes := (List.range n).map (fun i => Memory.read m (a + i))

end Sys2Proof.Machine
end

