-- ==== Sys2Proof/Machine/HostCmds.lean ====
section
/-! DEFINITION. Meanings of the host commands (11_ferry_chains, R268–R279): the command at the head of its chain's order is
taken, checked (R268), and runs or waits. -/

namespace Sys2Proof.Machine

/-- A command ends after its checks: with a status that fails a transaction it belongs to (R279). -/
def withTaken (s : Part) (c : Nat) (h : BitVec 32) (op : Nat → Bool) (k : Cmd → Part → Part) : Part :=
  match takeable s c h .accepted with
  | none => s
  | some x =>
    if !op (dOpcode x.desc) then s
    else
      match commandCheck s x.desc with
      | .run => k x s
      | .wait => s
      | .stop status info => endFailed c x status info s

/-- R268 check 1: an opcode outside Table 11.2. -/
def unknownOpcodeEff (c : Nat) (h : BitVec 32) (s : Part) : Part :=
  match takeable s c h .accepted with
  | some x => if knownOpcode (dOpcode x.desc) then s else complete c h 0x10 0 s
  | none => s

def execUnknownOpcode (c : ChainId) (hseq : BitVec 32) (s : State) : Answer :=
  .next (s.onPart (unknownOpcodeEff c.val hseq))

/-! ### READ -/

/-- What holds a read in its chain (R18, R121, R297, R304). -/
def readHeld (s : Part) (p : PoolSt) (v : CVol) (lbas : List Nat) : Bool :=
  !poolServes p || s.readsHalted || touchesStalled s p v lbas || (s.toll.faulty && s.pair.state == 2)

/-- Plaintext and host PI of a delivered block. -/
def BlockEnd.data? : BlockEnd → Option (Bytes × Bytes)
  | .deliver pt hpi => some (pt, hpi)
  | .status _ _ => none

/-- Data bytes a READ delivers, with the addresses they go to (R269, R273). -/
def deliverCells (d : Desc) (l : List (Nat × BlockEnd)) : List (Nat × Byte) :=
  (l.mapIdx (fun b e =>
    match e.2.data? with
    | some (pt, _) => (padTo 4096 pt).mapIdx (fun j x => (hostAddrOf d (b * 4096 + j), x))
    | none => [])).flatten

/-- Host PI entries a READ delivers to PI_ADDR (R271). -/
def deliverPi (d : Desc) (hostPi : Nat) (l : List (Nat × BlockEnd)) : List (Nat × Byte) :=
  let n : Nat := if hostPi = 2 then 16 else 8
  if dPiMode d = 1 && hostPi != 0 then
    (l.mapIdx (fun b e =>
      match e.2.data? with
      | some (_, hpi) => (padTo n hpi).mapIdx (fun j x => (dPiAddr d + n * b + j, x))
      | none => [])).flatten
  else []

/-- A READ's outcome: the part after it, and the bytes for the peer buffer area (R272). -/
def readRun (c : Nat) (bad : BadReads) (lf : LaneFaults) (x : Cmd) (s : Part) : Part × List (Nat × Byte) :=
  match s.volume? (dVol x.desc) with
  | none => (complete c x.hseq 0x12 0 s, [])
  | some (p, v) =>
    let d := x.desc
    let lbas := deviceLbas d
    if readHeld s p v lbas then (s, [])
    else if s.toll.faulty then (complete c x.hseq 0x32 (infoOf v.id (dLba d)) s, [])
    else
      let s := lf.mismatch.foldl (fun st u => checkMismatch u st) s
      let (l, s) := readBlocks 5 (dCopySel d) bad lf v.id lbas s
      let s := countMedium bad s
      let (status, info) := firstFailure v.id (dCopySel d != 0) l
      let cells := deliverCells d l
      let pis := deliverPi d v.hostPi l
      let f := s.chainFn c
      let out := (if dPeer d then [] else cells) ++ pis
      let s := if (s.fn f).bme && !out.isEmpty then emit (.hostData f c (x.noSnoop && (s.fn f).noSnoopEn) (s.fn f).relaxedEn out) s else s
      (complete c x.hseq status info s, if dPeer d then cells else [])

/-! ### Reads of members that may not answer (R202, R206) -/

/-- A member whose reads are hedged: SUSPECT, draining, or in escalation. -/
def slowMember (s : Part) (k : Nat) : Bool :=
  match s.member? k with
  | some m => m.state == 3 || m.draining || m.escStep != 0
  | none => false

/-- Strips of such members that a read needs: (member, MBA, stripe, strip). -/
def slowStrips (s : Part) (p : PoolSt) (v : CVol) (copySel : Nat) (lbas : List Nat) : List (Nat × Nat × Nat × Nat) :=
  (lbas.filterMap (fun lba =>
    let (g, stripe, i, bo) := addrOf p (readsTarget p v.id lba) v lba
    if copySel = 0 ∧ (s.heldAt p.id stripe i bo).isSome then none
    else
      let j := if g.mirror then (if copySel ≠ 0 then copySel - 1 else readChoice s p g stripe bo) else i
      (readPlace p g stripe j).bind (fun pl =>
        if s.serves pl.1 && slowMember s pl.1 then some (pl.1, pl.2, stripe, j) else none))).eraseDups

/-- A READ that needs such a strip issues it to the member and waits: the completion of the member command, HEDGE_TIMEOUT or
MEMBER_CMD_TIMEOUT ends it. -/
def readWaits (c : Nat) (x : Cmd) (s : Part) : Option Part :=
  match s.volume? (dVol x.desc) with
  | none => none
  | some (p, v) =>
    let slow := slowStrips s p v (dCopySel x.desc) (deviceLbas x.desc)
    if readHeld s p v (deviceLbas x.desc) || s.toll.faulty || slow.isEmpty then none
    else
      some ((slow.foldl (fun st y =>
        enqueueCmd y.1 (.readStrip p.id y.2.2.1 y.2.2.2 c x.hseq) 0 false false y.2.1 (p.charter.geoOf y.2.2.1).h.sb st) s).modCmd c x.hseq
          (fun y => { y with phase := .waiting }))

/-- R270, R272, R273: READ delivers each block through the checks of Table 6.4. -/
def execRead (c : ChainId) (hseq : BitVec 32) (bad : BadReads) (lf : LaneFaults) (s : State) : Answer :=
  match takeable s.part c.val hseq .accepted with
  | none => .next s
  | some x =>
    if dOpcode x.desc ≠ 1 then .next s
    else
      match commandCheck s.part x.desc with
      | .wait => .next s
      | .stop status info => .next (s.onPart (complete c.val hseq status info))
      | .run =>
        match readWaits c.val x s.part with
        | some p => .next { s with part := p }
        | none =>
        let r := readRun c.val bad lf x s.part
        .next { s with part := r.1, peerMem := Memory.writeAll s.peerMem r.2 }

/-! ### WRITE and UNMAP -/

/-- Runs of a command: each counts as one extent (R269). -/
def extentsOf (d : Desc) : Nat := if dRun d = 0 then 1 else dBlocks d / dRun d

/-- A write is taken (a TX_COMMIT taken before it has ended its tag, R279): one outside a transaction waits for its admission; one of a transaction joins it within its limits
(R89, R279). -/
def takeWrite (c : Nat) (x : Cmd) (s : Part) : Part :=
  let d := x.desc
  let wait (s : Part) : Part := s.modCmd c x.hseq (fun y => { y with phase := .waiting })
  if !isTx d then wait s
  else
    match s.tx? c (dTag d) with
    | none => complete c x.hseq 0x44 0 s
    | some t =>
      if t.timedOut then complete c x.hseq 0x43 0 s
      else if t.noProtect then complete c x.hseq 0x42 0 s
      else if (placedCommit s c (dTag d)).isSome then complete c x.hseq 0x44 0 s
      else if (s.poolOfVol (dVol d)).map (·.id) ≠ some t.pool || decide (64 < t.extents + extentsOf d) ||
          decide (4096 < t.blocks + dBlocks d) then endFailed c x 0x40 0 s
      else wait (s.modTx c (dTag d) (fun t => { t with extents := t.extents + extentsOf d, blocks := t.blocks + dBlocks d }))

/-- R274: a WRITE is taken in chain order; WRITE_ADMIT admits it and WRITE_LANDED lands it. -/
def execWrite (c : ChainId) (hseq : BitVec 32) (s : State) : Answer :=
  .next (s.onPart (fun s => withTaken s c.val hseq (· == 2) (takeWrite c.val)))

/-- R274: UNMAP is a WRITE of zeros. -/
def execUnmap (c : ChainId) (hseq : BitVec 32) (s : State) : Answer :=
  .next (s.onPart (fun s => withTaken s c.val hseq (· == 4) (takeWrite c.val)))

/-! ### FLUSH -/

def flushRun (c : Nat) (x : Cmd) (s : Part) : Part :=
  match s.poolOfVol (dVol x.desc) with
  | none => complete c x.hseq 0x12 0 s
  | some p =>
    if !poolServes p then s
    else
      let t := s.mark p.id
      let s := s.modCmd c x.hseq (fun y => { y with phase := .admitted, tide := t })
      if flushPending s (dVol x.desc) t then s else complete c x.hseq 0x00 0 s

/-- R95, R278: FLUSH completes when what was acknowledged before it is durable. -/
def execFlush (c : ChainId) (hseq : BitVec 32) (s : State) : Answer :=
  .next (s.onPart (fun s => withTaken s c.val hseq (· == 3) (flushRun c.val)))

/-! ### VERIFY -/

/-- VERIFY_FULL: every stripe touched is examined as scrub does (R276), one with an entry once it retires (R137), one behind a
link that is down once that is over (R206). -/
def verifyFull (v : Nat) (bad : BadReads) (lbas : List Nat) (s : Part) : Part :=
  match s.volume? v with
  | none => s
  | some (p, cv) =>
    ((lbas.map (fun lba => (addrOf p (readsTarget p v lba) cv lba).2.1)).eraseDups).foldl (fun st stripe =>
      match st.pool? p.id with
      | some ps =>
        if (st.entry? p.id stripe).isSome || linkWaits st ps (ps.charter.geoOf stripe) stripe then examineLater p.id stripe st
        else examineStripe 5 ps bad false stripe st
      | none => st) s

/-- The first block of a command that stands recorded as divergent in a Strict pool. -/
def firstDiverged (s : Part) (v : Nat) (lbas : List Nat) : Option Nat :=
  match s.volume? v with
  | some (p, _) => if p.progress then none else lbas.find? (fun l => p.int.diverged.any (fun d => d.vol == v && d.lba == l))
  | none => none

def verifyRun (c : Nat) (bad : BadReads) (lf : LaneFaults) (x : Cmd) (s : Part) : Part :=
  match s.volume? (dVol x.desc) with
  | none => complete c x.hseq 0x12 0 s
  | some (p, v) =>
    let d := x.desc
    let lbas := deviceLbas d
    if readHeld s p v lbas then s
    else if s.toll.faulty then complete c x.hseq 0x32 (infoOf v.id (dLba d)) s
    else
      let s := lf.mismatch.foldl (fun st u => checkMismatch u st) s
      let s := if dVerifyFull d then verifyFull v.id bad lbas s else s
      let (l, s) := readBlocks 5 (dCopySel d) bad lf v.id lbas s
      let s := countMedium bad s
      let (status, info) := firstFailure v.id (dCopySel d != 0) l
      match (if dVerifyFull d && status == 0 then firstDiverged s v.id lbas else none) with
      | some lba => complete c x.hseq 0x33 (infoOf v.id lba) s
      | none => complete c x.hseq status info s

/-- R276: VERIFY reads through the checks of Table 6.4 and delivers nothing. -/
def execVerify (c : ChainId) (hseq : BitVec 32) (bad : BadReads) (lf : LaneFaults) (s : State) : Answer :=
  .next (s.onPart (fun s => withTaken s c.val hseq (· == 5) (verifyRun c.val bad lf)))

/-! ### COPY -/

/-- Host PI of a copied block: guard and application tag kept, the reference tag is the destination LBA (R277). -/
def retag (hostPi : Nat) (hpi : Bytes) (lba : Nat) : Bytes :=
  if hostPi = 2 then padTo 10 hpi ++ beBytes 6 (lba % 2 ^ 48) else padTo 16 (padTo 4 hpi ++ beBytes 4 (lba % 2 ^ 32))

/-- A COPY whose source has been read is admitted, encrypted for its destination and held; it waits where a write would. -/
def copyInto (c : Nat) (x : Cmd) (l : List (Nat × BlockEnd)) (s0 s : Part) : Part :=
  match s.volume? (dDstVol x.desc) with
  | none => complete c x.hseq 0x12 (infoDest 0) s
  | some (p, v) =>
    let spots := s.spots x.desc
    if writeHeld s p none spots then s0
    else if writeRefused s p spots then complete c x.hseq 0x30 (infoDest (infoOf v.id (dDstLba x.desc))) s
    else if !writeFits s p v spots then s0
    else
      let (gen, s) := takeGeneration p v spots s
      let y : Cmd := { x with gen := gen, tide := s.sched.tideNow, through := p.writeState == 1 }
      let s := s.modCmd c x.hseq (fun z => { z with phase := .admitted, gen := gen, tide := y.tide, through := y.through })
      let held := (l.mapIdx (fun b e =>
        let lba := dDstLba x.desc + b
        match e.2.data? with
        | some (pt, hpi) => (spotsOf p v [lba]).map (fun sp => heldBlock s p v c y sp pt (retag v.hostPi hpi lba))
        | none => [])).flatten
      landed c y (holdBlocks p (held.filterMap id) s)

def copyRun (c : Nat) (bad : BadReads) (lf : LaneFaults) (x : Cmd) (s : Part) : Part :=
  match s.volume? (dVol x.desc) with
  | none => complete c x.hseq 0x12 0 s
  | some (p, v) =>
    let lbas := deviceLbas x.desc
    if readHeld s p v lbas then s
    else if s.toll.faulty then complete c x.hseq 0x32 (infoOf v.id (dLba x.desc)) s
    else
      let s1 := lf.mismatch.foldl (fun st u => checkMismatch u st) s
      let (l, s2) := readBlocks 5 0 bad lf v.id lbas s1
      let s2 := countMedium bad s2
      let (status, info) := firstFailure v.id false l
      if status = 0 then copyInto c x l s s2 else complete c x.hseq status info s2

/-- R277: COPY reads every source block, then writes the destination. -/
def execCopy (c : ChainId) (hseq : BitVec 32) (bad : BadReads) (lf : LaneFaults) (s : State) : Answer :=
  .next (s.onPart (fun s => withTaken s c.val hseq (· == 6) (copyRun c.val bad lf)))

/-! ### Transactions -/

/-- Transactions open or committing at once (R89). -/
def maxTxs : Nat := 16384

def txBeginRun (c : Nat) (x : Cmd) (s : Part) : Part :=
  let tag := dTag x.desc
  match s.poolOfVol (dVol x.desc) with
  | none => complete c x.hseq 0x12 0 s
  | some p =>
    if (s.tx? c tag).isSome then complete c x.hseq 0x44 0 s
    else if !poolServes p then s
    else if p.writeState ≠ 0 then complete c x.hseq 0x41 0 s
    else if maxTxs ≤ s.openTxs then s
    else
      complete c x.hseq 0x00 0 (s.modChain c (fun y => { y with txs := y.txs ++
        [{ tag := tag, pool := p.id, extents := 0, blocks := 0, failed := false, timedOut := false, noProtect := false,
           commitTide := none }] }))

/-- R89, R279: TX_BEGIN opens its tag in the pool of the volume. -/
def execTxBegin (c : ChainId) (hseq : BitVec 32) (s : State) : Answer :=
  .next (s.onPart (fun s => withTaken s c.val hseq (· == 0x10) (txBeginRun c.val)))

def txCommitRun (c : Nat) (x : Cmd) (s : Part) : Part :=
  let tag := dTag x.desc
  match s.tx? c tag with
  | none => complete c x.hseq 0x44 0 s
  | some t =>
    if t.timedOut then (complete c x.hseq 0x43 0 s).dropTx c tag
    else if t.noProtect then (complete c x.hseq 0x41 0 s).dropTx c tag
    else if (placedCommit s c tag).isSome then complete c x.hseq 0x44 0 s
    else if t.failed then
      (complete c x.hseq 0x42 0 (endTxWrites c tag 0x42 (releaseTxBlocks c tag s))).dropTx c tag
    else placeCommit c x (s.modCmd c x.hseq (fun y => { y with phase := .admitted }))

/-- R92, R279: TX_COMMIT is placed in a tide once every write of its transaction has landed. -/
def execTxCommit (c : ChainId) (hseq : BitVec 32) (s : State) : Answer :=
  .next (s.onPart (fun s => withTaken s c.val hseq (· == 0x11) (txCommitRun c.val)))

def txAbortRun (c : Nat) (x : Cmd) (s : Part) : Part :=
  let tag := dTag x.desc
  match s.tx? c tag with
  | none => complete c x.hseq 0x44 0 s
  | some t =>
    if t.timedOut then (complete c x.hseq 0x43 0 s).dropTx c tag
    else if t.commitTide.isSome || (placedCommit s c tag).isSome then complete c x.hseq 0x44 0 s
    else (complete c x.hseq 0x00 0 (endTxWrites c tag 0x42 (releaseTxBlocks c tag s))).dropTx c tag

/-- R93, R279: TX_ABORT ends the transaction without effect. -/
def execTxAbort (c : ChainId) (hseq : BitVec 32) (s : State) : Answer :=
  .next (s.onPart (fun s => withTaken s c.val hseq (· == 0x12) (txAbortRun c.val)))

end Sys2Proof.Machine
end

