-- ==== Sys2Proof/Machine/Fleet.lean ====
section
/-! DEFINITION. Meanings of the fleet-change commands (07: R178–R181) and the member settings they make (08: R186, R200,
R208, R210). -/

namespace Sys2Proof.Machine

/-! ### A change -/

/-- The owner of a paired pool applies a change to its members (R181). -/
def appliesHere (s : Part) (k : Nat) : Bool := ((s.poolOfMember k).bind (fun x => s.pool? x.1)).all PoolSt.owned

/-- Reachable members of a scope. -/
def scopeMembers (s : Part) (scope : Nat) : List Nat :=
  (s.members.filter (fun m => m.linkUp && m.state != 0 && inScope s scope m.id && appliesHere s m.id)).map (·.id)

/-- A change is committed (R178): recorded, FLEET_SEQ counted, sent to the twin, begun on every reachable member of the scope
(R181). -/
def startFleet (scope kind value old : Nat) (s : Part) : Part :=
  let ids := scopeMembers s scope
  let s := s.modFleet (fun f => { f with
    committed := (f.committed.filter (fun x => !(x.2.1 == kind && (scope == 0xFFFF || x.1 == scope)))) ++ [(scope, kind, value)]
    scope := scope, kind := kind, value := value, old := old, seq := f.seq + 1, left := ids
    state := if ids.isEmpty then 2 else 1 })
  let s := if s.pair.state = 0 ∨ s.pair.path1Lost then s else emit (.hawserFleet scope kind value) s
  ids.foldl (fun st k => beginSetting kind value k st) s

/-- FLEET_VALUE before a change: the committed value, else what members have at manufacture (R200, R208). -/
def fleetOld (s : Part) (scope kind : Nat) : Nat :=
  (s.fleet.value? scope kind).getD (if kind = 2 then 128 else 0)

def fleetCommitEff (q : Req) (s : Part) : Part :=
  checked q roleOperator (some scopeFleet) (fun s =>
    let kind := s.objNum 0x2106 1
    let value := s.objNum 0x2106 2
    let scope := s.objNum 0x2106 3
    if s.fleet.state = 1 then refuseRule q 178 0 s
    else if !fleetValueGood kind value || !(scope == 0xFFFF || decide (scope < 64)) then refuseRule q 179 0 s
    else okCommit q scopeFleet (startFleet scope kind value (fleetOld s scope kind) s)) s

/-- R178: the staged setting is committed and applied to each member of the scope. -/
def execFleetCommit (q : Req) (s : State) : Answer := .next (s.onPart (fleetCommitEff q))

/-! ### Confirmation -/

/-- A read-back that equals the committed value takes the member out of the conservative union (R178 step 4, R200). -/
def confirmSetting (kind value k : Nat) (s : Part) : Part :=
  s.modMember k (fun m =>
    match kind with
    | 0 => { m with wce := value }
    | 1 => { m with rateCap := value }
    | 2 => { m with depthCap := value, workDepth := min m.workDepth value }
    | _ => m)

/-- A member's setting of a kind is confirmed: its mark goes, and it counts as applied in a change of that kind. -/
def settingConfirmed (kind k : Nat) (s : Part) : Part :=
  let s := s.modMember k (fun m => { m with fleet := m.fleet.filter (fun x => x.1 != kind) })
  if s.fleet.kind ≠ kind then s
  else
    let left := s.fleet.left.filter (· != k)
    s.modFleet (fun f => { f with
      left := left, state := if left.isEmpty && (f.state == 1 || f.state == 3) then 2 else f.state })

/-- The read-back of a kind confirms a value: the value itself, of a rate ceiling the negotiated rate below it (R186). -/
def readBackGood (kind value readBack : Nat) : Bool :=
  if kind = 1 then decide (1 ≤ readBack) && decide (readBack ≤ value) else readBack == value

def fleetConfirmEff (k kind readBack : Nat) (s : Part) : Part :=
  match s.member? k, fleetValueFor s k kind with
  | some m, some v =>
    if !m.fleet.any (fun x => x.1 == kind) || !readBackGood kind v readBack then s
    else settingConfirmed kind k (confirmSetting kind v k s)
  | _, _ => s

/-- R178: a member's read-back confirms a setting. -/
def execFleetConfirm (k : MemberId) (x : FleetReadBack) (s : State) : Answer :=
  .next (s.onPart (fleetConfirmEff k.val x.kind.val x.value))

def fleetPartialEff (s : Part) : Part :=
  if s.fleet.state = 1 ∧ s.fleet.left ≠ [] then
    let s := s.fleet.left.foldl (fun st k => st.modMember k (fun m => m.markSetting s.fleet.kind 2)) s
    s.modFleet (fun f => { f with state := 3 })
  else s

/-- R180: members that have not applied the change 30 s after its commit are PARTIAL. -/
def execFleetPartial (s : State) : Answer := .next (s.onPart fleetPartialEff)

def fleetRetryEff (q : Req) (s : Part) : Part :=
  checked q roleOperator none (fun s =>
    if s.fleet.state ≠ 3 then refuseRule q 180 0 s
    else
      let s := s.fleet.left.foldl (fun st k => beginSetting s.fleet.kind s.fleet.value k st) s
      ok q (s.modFleet (fun f => { f with state := 1 }))) s

/-- R180: the change is applied again to the PARTIAL members. -/
def execFleetRetry (q : Req) (s : State) : Answer := .next (s.onPart (fleetRetryEff q))

def fleetRevertEff (q : Req) (s : Part) : Part :=
  checked q roleOperator none (fun s =>
    if s.fleet.state ≠ 3 then refuseRule q 180 0 s
    else ok q (startFleet s.fleet.scope s.fleet.kind s.fleet.old s.fleet.value s)) s

/-- R180: the old value is committed as a new change to the whole scope. -/
def execFleetRevert (q : Req) (s : State) : Answer := .next (s.onPart (fleetRevertEff q))

end Sys2Proof.Machine
end

