-- ==== Sys2Proof/Machine/Links.lean ====
section
/-! DEFINITION. Meanings of the member-link and discovery commands (08: R182–R196). -/

namespace Sys2Proof.Machine

/-! ### Lanes -/

/-- LANE_STATE of a protocol. -/
def laneStateOf : Protocol → Nat
  | .sata => 1
  | .sas => 2
  | .nvme => 3

/-- LANE_MODE lets the lane run a protocol (R183). -/
def modeAllows (mode : Nat) (p : Protocol) : Bool :=
  match mode with
  | 0 => true
  | 1 => decide (p = .sata)
  | 2 => decide (p = .sas)
  | 3 => decide (p = .nvme)
  | _ => false

/-- Lanes of a link (R184). -/
def linkLanes (l width : Nat) (p : Protocol) : List Nat :=
  if p = .nvme then (List.range (max 1 width)).map (l + ·) else [l]

/-- A width an NVMe link may have at its first lane (R184): no wider than LANE_NVME_WIDTH there lets its block train. -/
def widthGood (s : Part) (l width : Nat) (p : Protocol) : Bool :=
  if p = .nvme then
    ([1, 2, 4].contains width) && l % width == 0 && decide (l % 12 + width ≤ 12) && decide (width ≤ s.objNum (0x2200 + l) 2)
  else width == 1

/-- Lanes that train together with a lane (R182): the block of an NVMe link, else the lane alone. -/
def laneBlockOf (s : Part) (l : Nat) : List Nat :=
  let w := max 1 (s.lane l).width
  if (s.lane l).state = 3 then linkLanes (l - l % w) w .nvme else [l]

/-- Lanes of one SAS port of a lane (R185): those of its link group up to the same attached address, of which a fifth stands
alone. -/
def portLanes (s : Part) (l : Nat) : List Nat :=
  let x := s.lane l
  if x.state = 2 ∧ ¬ x.narrow ∧ x.attached ≠ 0 then
    ((List.range 12).map (l / 12 * 12 + ·)).filter (fun y =>
      (s.lane y).state == 2 && !(s.lane y).narrow && (s.lane y).attached == x.attached)
  else [l]

/-- A lane to an address that already has a wide port of four (R185). -/
def fifthLane (s : Part) (l attached : Nat) : Bool :=
  decide (4 ≤ (((List.range 12).map (l / 12 * 12 + ·)).filter (fun y =>
    y != l && (s.lane y).state == 2 && !(s.lane y).narrow && (s.lane y).attached == attached)).length)

/-- The lane a command to a member goes out on: any of its port (R185). -/
def laneFor (s : Part) (m : MemberSt) (tag : Nat) : Nat :=
  let own := m.info.path % 256
  let l := portLanes s own
  l.getD (Config.portLane m.id tag % max 1 l.length) own

/-- A tier capped by LANE_RATE_MAX, by a downshift, by the rate ceiling of a member attached without expander or switch (R186,
R188). -/
def cappedTier (s : Part) (l tier : Nat) : Nat :=
  let cap := s.objNum (0x2200 + l) 3
  let t := if cap = 0 then tier else min tier cap
  let t := match (s.lane l).cap with
    | some c => min t c
    | none => t
  (s.members.filter (fun m => m.onLane l && m.direct && m.rateCap != 0)).foldl (fun n m => min n m.rateCap) t

/-- A lane that is down takes a new LANE_MODE (R183). -/
def takeLaneMode (l : Nat) (s : Part) : Part :=
  let mode := s.objNum (0x2200 + l) 1
  s.modLane l (fun x => { x with mode := mode, state := if mode = 4 then 5 else 0, rate := 0, width := 0, attached := 0, narrow := false })

/-- R183: an Auto lane repeats its detection; an answer starts training. -/
def laneProbeRetryEff (l : Nat) (a : ProbeAnswer) (s : Part) : Part :=
  let x := s.lane l
  if x.mode = 0 ∧ x.state = 0 ∧ a ≠ .silent then s.modLane l (fun y => { y with state := 4 }) else s

def execLaneProbeRetry (l : Lane) (a : ProbeAnswer) (s : State) : Answer := .next (s.onPart (laneProbeRetryEff l.val a))

/-! ### Discovery -/

/-- The lowest enclosure number not bound. -/
def freeEncl (s : Part) : Nat :=
  ((List.range (s.fabric.encls.length + 1)).find? (fun n => !s.fabric.encls.any (fun e => e.1 == n))).getD 0

/-- An enclosure logical identifier keeps its number, or gets the lowest free one (R192). -/
def bindEncl (s : Part) (logical : Nat) : Part :=
  if s.fabric.encls.any (fun e => e.2 == logical) then s
  else s.modFab (fun f => { f with encls := f.encls ++ [(freeEncl s, logical)] })

/-- A present member that discovery no longer finds becomes ABSENT (Table 8.7). -/
def loseMember (k : Nat) (s : Part) : Part :=
  match s.member? k with
  | none => s
  | some m =>
    let s := s.modMember k (fun x => { x with linkUp := false })
    if [1, 2, 3, 5, 6, 7].contains m.state then setMemberState k 0 4 s else s

/-- A discovery (R190, R192): members not found become ABSENT, devices beyond a limit are counted and recorded. -/
def discovery (r : DiscoveryReport) (s : Part) : Part :=
  let s := (s.members.filter (fun m => !r.found.contains m.id)).foldl (fun st m => loseMember m.id st) s
  let s := r.enclosures.foldl bindEncl s
  let s := s.modFab (fun f => { f with
    discoveries := f.discoveries + 1, membersFound := r.found.length, discoverOver := f.discoverOver + r.beyond })
  if r.beyond = 0 then s else noted 12 190 0 (leBytes 4 r.beyond) s

/-- R190: a change below a lane starts a discovery. -/
def execDiscoveryEvent (r : DiscoveryReport) (s : State) : Answer := .next (s.onPart (discovery r))

def discoverNowEff (q : Req) (r : DiscoveryReport) (s : Part) : Part :=
  checked q roleOperator none (fun s => ok q (discovery r s)) s

/-- R190: a write of 1 to DISCOVER_NOW starts a full discovery. -/
def execDiscoverNow (q : Req) (r : DiscoveryReport) (s : State) : Answer := .next (s.onPart (discoverNowEff q r))

/-- A discovery that a link change starts counts (R190); what it finds is reported by the commands that follow. -/
def countDiscovery (s : Part) : Part := s.modFab (fun f => { f with discoveries := f.discoveries + 1 })

/-! ### Members after a link returns or a reset -/

/-- Outstanding commands wait again, not as retries (R205, R206). -/
def reissueAll (k : Nat) (s : Part) : Part :=
  s.modMember k (fun m => { m with waiting := m.outstanding ++ m.waiting, outstanding := [], draining := false })

/-- What every power-on, reset and link return of a member does (R200, R208): the working depth starts anew, the cache is
unknown until confirmed; a SATA member's setting is written without reading first. -/
def memberRestarts (k : Nat) (s : Part) : Part :=
  match s.member? k with
  | none => s
  | some m =>
    let s := s.modMember k (fun x => { x with wce := 2, workDepth := x.depthLimit })
    if m.info.protocol = .sata then writeCache k (cacheSetting s k) s else s

/-- A host command that waits for a member read (R205). -/
def readWanted (s : Part) (c : MCmd) : Bool :=
  match c.op with
  | .readStrip _ _ _ ch h => (s.cmd? ch h).any (fun x => x.phase == .waiting)
  | _ => true

/-- An escalation step the member answers ends the escalation (R205): what timed out is reissued once, what a reset
discarded is reissued. -/
def endEscalation (k : Nat) (s : Part) : Part :=
  match s.member? k with
  | none => s
  | some m =>
    if m.escStep = 0 then s
    else
      let timed := (m.outstanding.filter (fun c => c.timedOut && readWanted s c)).map (fun c => { c with timedOut := false, retried := true })
      let others := m.outstanding.filter (fun c => !c.timedOut)
      let wasReset := decide (2 ≤ m.escStep)
      let s := s.modMember k (fun x => { x with
        escStep := 0, draining := false
        waiting := timed ++ (if wasReset then others else []) ++ x.waiting
        outstanding := if wasReset then [] else others })
      if wasReset then memberRestarts k s else s

/-- A link returns within LINK_HOLD_MS (R206): the member receives the committed fleet values (R181). -/
def linkReturns (k : Nat) (s : Part) : Part :=
  match s.member? k with
  | none => s
  | some m =>
    if m.linkUp then s
    else
      let s := reissueAll k (s.modMember k (fun x => { x with linkUp := true }))
      let s := receiveCommitted k (memberRestarts k s)
      updateCopies k (if m.state = 2 ∨ m.state = 3 then suspect k s else s)

/-! ### Link up, down, retrain -/

/-- A dump link trains (R189). -/
def dumpLinkUp (x width tier : Nat) (s : Part) : Part :=
  refreshDump (s.modTarget x (fun t => { t with linkUp := true, width := width, tier := min tier 3 }))

/-- A lane that is down or training runs under LANE_MODE as it stands (R183). -/
def freshMode (l : Nat) (s : Part) : Part :=
  if (s.lane l).state = 0 ∨ (s.lane l).state = 4 then s.modLane l (fun x => { x with mode := s.objNum (0x2200 + l) 1 }) else s

/-- A member link comes up on its lanes, each of which must allow the protocol; a SAS lane joins the port of the address it
reaches (R183–R185, R190). -/
def memberLinkUp (l : Nat) (proto : Protocol) (width tier attached : Nat) (s : Part) : Part :=
  let lanes := linkLanes l width proto
  let s := lanes.foldl (fun st x => freshMode x st) s
  if !lanes.all (fun x => modeAllows (s.lane x).mode proto) then
    (if (s.lane l).mode = 1 ∧ proto = .sas then noted 12 183 1 (leBytes 1 l) s else s)
  else if !widthGood s l width proto then s
  else
    let rate := cappedTier s l (if proto = .sas then min tier 4 else min tier 3)
    let addr := if proto = .sas then attached else 0
    let narrow := decide (addr ≠ 0) && fifthLane s l addr
    let s := lanes.foldl (fun st x => st.modLane x (fun y => { y with
      state := laneStateOf proto, rate := rate, width := width, attached := addr, narrow := narrow })) s
    let s := ((s.members.filter (fun m => m.onLane l && [1, 2, 3, 5, 6, 7].contains m.state)).map (·.id)).foldl (fun st k => linkReturns k st) s
    countDiscovery s

def linkUpEff (l : LinkId) (proto : Protocol) (width tier attached : Nat) (s : Part) : Part :=
  match l with
  | .lane x => memberLinkUp x.val proto width tier attached s
  | .dump x => dumpLinkUp x.val width tier s

/-- R185, R187: a link completes training. -/
def execLinkUp (l : LinkId) (proto : Protocol) (width : Nat) (x : Trained) (s : State) : Answer :=
  .next (s.onPart (linkUpEff l proto width x.tier x.attached))

/-- A dump target is lost (R328, R333). During a dump it is dropped and recorded. -/
def loseTarget (x : Nat) (s : Part) : Part :=
  let s := if s.dump.state = 3 ∧ ¬ s.dump.lostNow.contains x then s.modDump (fun d => { d with lostNow := d.lostNow ++ [x] }) else s
  refreshDump s

/-- A member of a port that keeps other lanes (R185): it is reached over the lowest of them, and what went out on the lane lost
waits again. -/
def MemberSt.moveLane (m : MemberSt) (l : Nat) (rest : List Nat) : MemberSt :=
  let back := m.outstanding.filter (fun c => c.lane == l && !c.timedOut)
  { m with info := if m.onLane l then { m.info with path := m.info.path - l + (sortNats rest).headD l } else m.info
           waiting := back.map (fun c => { c with lane := 144 }) ++ m.waiting
           outstanding := m.outstanding.filter (fun c => !(c.lane == l && !c.timedOut)) }

/-- A member lane goes down with its block: the members reached over it are without a path, unless their port has other lanes
(R182, R185). -/
def memberLinkDown (l : Nat) (s : Part) : Part :=
  let lanes := laneBlockOf s l
  let rest := (portLanes s l).filter (· != l)
  let port := portLanes s l
  let s := lanes.foldl (fun st y => takeLaneMode y st) s
  let s := { s with members := s.members.map (fun m =>
    if !rest.isEmpty && port.any (fun y => m.onLane y) then m.moveLane l rest
    else if lanes.any (fun y => m.onLane y) then { m with linkUp := false } else m) }
  countDiscovery s

def linkDownEff (l : LinkId) (s : Part) : Part :=
  match l with
  | .dump x => loseTarget x.val (s.modTarget x.val (fun t => { t with linkUp := false, width := 0, tier := 0 }))
  | .lane x => memberLinkDown x.val s

/-- R190, R206: a member link goes down; its members' commands wait. -/
def execLinkDown (l : LinkId) (s : State) : Answer := .next (s.onPart (linkDownEff l))

/-- Cause code of LANE_RETRAIN (Table 16.3). -/
def causeCode : RetrainCause → Nat
  | .errorCount => 0
  | .syncLoss => 1
  | .pcieRecovery => 2

/-- Errors a lane counted in the second that made it retrain: more than 64, the number open (R188). -/
def errorBurst (s : Part) (l : Nat) : Nat := 65 + Config.laneErrors l (s.lane l).retrains

/-- R182, R188: the lanes of a link retrain together; the third retrain within 10 min comes back one tier lower, and a link at
tier 1 goes no lower. -/
def linkRetrainEff (l : Nat) (cause : RetrainCause) (s : Part) : Part :=
  let x := s.lane l
  if x.state ≠ 1 ∧ x.state ≠ 2 ∧ x.state ≠ 3 then s
  else
    let times := s.timeUs :: x.times.filter (fun t => decide (s.timeUs < t + sec 600))
    let n := if cause = .errorCount then errorBurst s l else 0
    let s := log 0x0C01 l [BitVec.ofNat 8 x.rate, BitVec.ofNat 8 (causeCode cause)] s
    let lanes := laneBlockOf s l
    let all (g : LaneSt → LaneSt) (s : Part) : Part := lanes.foldl (fun st y => st.modLane y g) s
    let s := (all (fun y => { y with retrains := y.retrains + 1, times := times }) s).modLane l (fun y => { y with errors := y.errors + n })
    if 3 ≤ times.length ∧ 1 < x.rate then
      log 0x0C02 l [BitVec.ofNat 8 x.rate, BitVec.ofNat 8 (x.rate - 1)]
        (all (fun y => { y with rate := x.rate - 1, cap := some (x.rate - 1), times := [] }) s)
    else s

def execLinkRetrain (l : Lane) (cause : RetrainCause) (s : State) : Answer := .next (s.onPart (linkRetrainEff l.val cause))

/-! ### A member is identified (R191, R193) -/

def MemberSt.fresh (k : Nat) (i : MemberInfo) (now : Nat) : MemberSt where
  id := k
  state := 1
  info := i
  linkUp := true
  label := i.label
  charterA := i.content.bind (·.charterA)
  charterB := i.content.bind (·.charterB)
  media := (i.content.map (·.media)).getD []
  ckpts := (i.content.map (·.ckpts)).getD []
  exts := (i.content.map (·.exts)).getD []
  lostSlots := (i.content.map (·.lostSlots)).getD []
  logExport := i.content.bind (·.logExport)
  wce := 2
  fleet := []
  rateCap := 0
  workDepth := protoDepth i.protocol
  depthCap := protoDepth i.protocol
  timeouts := 0
  resets := 0
  mediumErrs := []
  step3Times := []
  waiting := []
  outstanding := []
  nextTag := 0
  draining := false
  escStep := 0
  recentWrites := []
  suspectEnd := none
  presentAt := now
  spun := if i.rotating then 2 else 1
  spinRetried := false
  registered := false
  fenced := false

/-- The id a label gives: its pool is known to the part (R191 rule 1). -/
def labelId (s : Part) (i : MemberInfo) : Option Nat :=
  match i.label with
  | .good l => if l.inPool && s.pools.any (fun p => p.life != 0 && decide (p.charter.uuid = l.poolUuid)) then some l.memberId else none
  | _ => none

def boundId (s : Part) (identity : Bytes) : Option Nat := (s.fabric.bindings.find? (fun b => decide (b.1 = identity))).map (·.2)

/-- Ids in use: bound, borne by a member, or named by a pool of the part. -/
def idTaken (s : Part) (k : Nat) : Bool := s.fabric.bindings.any (fun b => b.2 == k) || (s.member? k).isSome || s.memberNamed k

/-- Ids that pools name, counted with repeats. -/
def Part.namedCount (s : Part) : Nat := (s.pools.map (fun p => p.charter.members.length + p.latest.members.length)).foldl (· + ·) 0

/-- The lowest free id (R191 rule 3): the ids in use bound the search. -/
def freeId (s : Part) : Option Nat :=
  (List.range (min 16384 (s.fabric.bindings.length + s.members.length + s.namedCount + 1))).find? (fun k => !idTaken s k)

/-- The id R191 gives, in the order of its rules. -/
def memberIdFor (s : Part) (i : MemberInfo) : Option Nat :=
  match labelId s i with
  | some k => some k
  | none =>
    match boundId s i.identity with
    | some k => some k
    | none => freeId s

def recordBinding (identity : Bytes) (k : Nat) (s : Part) : Part :=
  if (boundId s identity).isSome then s
  else s.modFab (fun f => { f with bindings := f.bindings ++ [(identity, k)] })

/-- The state a member of a pool the part holds takes from its entry (R193). -/
def entryState (st : Nat) : Nat := if st = 0 then 1 else st

/-- The ordinal's declared enclosure is not the one the member is found in (R53): recorded at discovery. -/
def noteDomain (k : Nat) (i : MemberInfo) (s : Part) : Part :=
  match s.poolOfMember k with
  | some (p, o) =>
    let encl := (((s.charter? p).bind (fun c => c.memberAt o)).map (·.encl)).getD i.enclFound
    if encl = i.enclFound then s else log 0x0601 0 (leBytes 2 k ++ leBytes 2 encl ++ leBytes 2 i.enclFound) s
  | none => s

/-- What a member holds as another part left it (R46). -/
def MemberSt.takeMedia (x : MemberSt) (c : MemberMedia) : MemberSt :=
  { x with charterA := c.charterA, charterB := c.charterB, ckpts := c.ckpts, exts := c.exts, lostSlots := c.lostSlots, logExport := c.logExport
           media := c.media }

/-- A member that is known again on its own id (R63, R193, R206): what another part wrote meanwhile is read with its label. -/
def knownMember (k : Nat) (m : MemberSt) (i : MemberInfo) (s : Part) : Part :=
  let changed := i.capacity != m.info.capacity || i.format != m.info.format
  let s := match i.content with
    | some c => s.modMember k (fun x => x.takeMedia c)
    | none => s
  let s := s.modMember k (fun x => { x with
    info := i, label := i.label, spun := if i.rotating && x.spun == 0 then 0 else 1, spinRetried := false })
  let s := if m.state = 0 then
      let s := s.modMember k (fun x => { x with linkUp := true })
      setMemberState k 1 5 (memberRestarts k s)
    else if m.linkUp then s
    else linkReturns k s
  let s := endEscalation k s
  let s := if changed then failMember k s else s
  receiveCommitted k (updateCopies k (noteDomain k i s))

/-- A member not known so far: it enters PRESENT, or takes the state its pool's charter in force records. -/
def newMember (k : Nat) (i : MemberInfo) (s : Part) : Part :=
  let s := recordBinding i.identity k { s with members := s.members ++ [MemberSt.fresh k i s.timeUs] }
  let s := match s.poolOfMember k with
    | some (p, o) =>
      match (s.charter? p).bind (fun c => c.memberAt o) with
      | some e => if e.identity = i.identity then s.modMember k (fun x => { x with
          state := entryState e.state, suspectEnd := if e.state = 3 then some s.suspectUntil else none }) else s
      | none => s
    | none => s
  receiveCommitted k (updateCopies k (noteDomain k i (memberRestarts k s)))

/-- The old member of a path on which another identity is found becomes ABSENT (R191). -/
def displace (i : MemberInfo) (s : Part) : Part :=
  ((s.members.filter (fun m => m.info.path == i.path && decide (m.info.identity ≠ i.identity))).map (·.id)).foldl
    (fun st k => loseMember k st) s

/-- An id bound in the table to another identity (R191). -/
def boundElsewhere (s : Part) (k : Nat) (i : MemberInfo) : Bool :=
  s.fabric.bindings.any (fun b => b.2 == k && decide (b.1 ≠ i.identity))

/-- A member whose label's id is bound to another identity: conflicting, under an id of its own (R191). -/
def conflicting (i : MemberInfo) (s : Part) : Part :=
  match freeId s with
  | some k =>
    let s := newMember k i s
    s.modMember k (fun x => { x with state := 0xFE })
  | none => s

def memberPresentEff (i : MemberInfo) (s : Part) : Part :=
  let s := displace i s
  match memberIdFor s i with
  | none => noted 12 190 0 (leBytes 4 1) (s.modFab (fun f => { f with discoverOver := f.discoverOver + 1 }))
  | some k =>
    match s.member? k with
    | none => if boundElsewhere s k i then conflicting i s else newMember k i s
    | some m => if m.info.identity = i.identity then knownMember k m i s else conflicting i s

/-- Two members change ids, and their bindings with them. -/
def swapIds (a b : Nat) (s : Part) : Part :=
  let f (k : Nat) : Nat := if k = a then b else if k = b then a else k
  { s with members := s.members.map (fun m => { m with id := f m.id })
           fabric := { s.fabric with bindings := s.fabric.bindings.map (fun x => (x.1, f x.2)) } }

/-- A member whose label bears id `k`, held back as conflicting (R191). -/
def Part.conflictingFor (s : Part) (k : Nat) : Option MemberSt :=
  s.members.find? (fun m => m.state == 0xFE && (match m.label with
    | .good l => l.inPool && l.memberId == k
    | _ => false))

/-- Member `k` was released: the member that conflicted with it takes the id its label bears (R191). -/
def settleConflict (k : Nat) (s : Part) : Part :=
  match s.conflictingFor k with
  | some x => (swapIds k x.id s).modMember k (fun m => { m with state := 1, presentAt := s.timeUs })
  | none => s

/-- R191, R193: a discovered member is identified and bound to its id. -/
def execMemberPresent (i : MemberInfo) (s : State) : Answer := .next (s.onPart (memberPresentEff i))

/-! ### Enclosures and formats -/

/-- A pool declares an enclosure number (R192). -/
def enclDeclared (s : Part) (n : Nat) : Bool :=
  s.pools.any (fun p => p.life != 0 && p.charter.members.any (fun m => m.encl == n))

def enclNumberEff (q : Req) (new : Nat) (s : Part) : Part :=
  keepWritten 0x2108 3 new <| checked q roleCustodian none (fun s =>
    let old := ((s.sess? q.session).map (·.enclSel)).getD 0
    if !s.fabric.encls.any (fun e => e.1 == old) || s.fabric.encls.any (fun e => e.1 == new) || enclDeclared s old then
      refuseRule q 192 0 s
    else
      let s := s.modFab (fun f => { f with encls := f.encls.map (fun e => if e.1 = old then (new, e.2) else e) })
      ok q { s with members := s.members.map (fun m =>
        if m.info.enclFound = old then { m with info := { m.info with enclFound := new } } else m) }) s

/-- R192: a Custodian moves the selected binding to a new free number. -/
def execEnclNumber (q : Req) (new : Nat) (s : State) : Answer := .next (s.onPart (enclNumberEff q new))

/-- A member that carries no label with IN_POOL 1 (R195). -/
def unlabelled (m : MemberSt) : Bool :=
  match m.label with
  | .good l => !l.inPool
  | _ => true

def memberReformatEff (q : Req) (k fmt : Nat) (s : Part) : Part :=
  keepWritten (0x6000 + k) 0x0D fmt <| checked q roleCustodian none (fun s =>
    match s.member? k with
    | none => refuseRule q 195 0 s
    | some m =>
      if !unlabelled m || s.memberNamed k || !formatOf m.info.protocol fmt || !m.info.reformats || !m.linkUp || m.state = 0 then
        refuseRule q 195 0 s
      else
        ok q (memberRestarts k (s.modMember k (fun x => { x with
          info := { x.info with format := fmt, capacity := Config.reformatCapacity x.info.identity fmt }
          label := .absent, charterA := none, charterB := none, media := [], ckpts := [], exts := [], lostSlots := []
          logExport := none, fleet := []
          waiting := [], outstanding := [] })))) s

/-- R195: a Custodian reformats a member outside any pool. -/
def execMemberReformat (q : Req) (k : MemberId) (fmt : Nat) (s : State) : Answer :=
  .next (s.onPart (memberReformatEff q k.val fmt))

end Sys2Proof.Machine
end

