-- ==== Sys2Proof/Machine/Queueing.lean ====
section
/-! DEFINITION. Meanings of the member-queueing commands (08: R197–R213): issue, completion, timeouts and escalation,
hedged reads, member states, caches, spin-up. -/

namespace Sys2Proof.Machine

/-! ### Issue (R198–R202) -/

/-- Member command contexts (R199). -/
def memberContexts : Nat := 131072

def MOp.isWrite : MOp → Bool
  | .writeStrip _ _ _ => true
  | .laneWrite _ _ _ => true
  | .structureWrite => true
  | .copyB _ _ => true
  | .zeroSlot _ => true
  | .zeroRest _ _ => true
  | _ => false

/-- Two commands that may not be outstanding at once (R198): overlapping ranges, one of them written. -/
def clashes (a b : MCmd) : Bool :=
  (a.op.isWrite || b.op.isWrite) && decide (a.mba < b.mba + b.count) && decide (b.mba < a.mba + a.count)

/-- The first command that clashes with none outstanding and none before it. -/
def pickCmd (seen : List MCmd) : List MCmd → Option MCmd
  | [] => none
  | c :: rest => if seen.any (clashes c) then pickCmd (seen ++ [c]) rest else some c

/-- A write waits while its member is not fenced against the old owner (R306). -/
def heldBack (s : Part) (m : MemberSt) (c : MCmd) : Bool :=
  c.op.isWrite && s.pools.any (fun p => p.pair.fenceLeft.contains m.id)

/-- The member belongs to a pool that fenced itself, which issues no new member command (R304). -/
def selfFenced (s : Part) (m : MemberSt) : Bool :=
  s.pools.any (fun p => p.life != 0 && p.pair.state == 4 && (p.charter.ordinalOf m.id).isSome)

/-- The command a member is issued next: lowest class, then arrival (R201). -/
def nextCmd (s : Part) (m : MemberSt) : Option MCmd :=
  pickCmd m.outstanding ((m.waiting.filter (fun c => !heldBack s m c)).mergeSort (fun a b => decide (a.cls ≤ b.cls)))

/-- The member may be issued a command (R200, R202, R205, R211, R212). -/
def mayIssue (s : Part) (m : MemberSt) : Bool :=
  m.linkUp && m.escStep == 0 && [1, 2, 3, 5, 6, 7].contains m.state && !s.sched.frozen && !s.sched.memberStop && s.dump.state != 3 &&
    !m.outstanding.any (·.nonQueued) && !selfFenced s m

/-- Shared contexts in use, with the four guaranteed to each member set aside (R199). -/
def contextsTaken (s : Part) : Nat := (s.members.map (fun x => x.outstanding.length - 4)).foldl (· + ·) 0 + 4 * s.members.length

/-- Waiting commands that take a shared context before one of class `cls`: of members past their guarantee that may be issued
one, of a class before it in Table 8.5 (R199). -/
def contextsAhead (s : Part) (cls : Nat) : Nat :=
  ((s.members.filter (fun x => decide (4 ≤ x.outstanding.length) && decide (x.outstanding.length < x.depth) &&
      !x.draining && mayIssue s x)).map
    (fun x => (x.waiting.filter (fun c => decide (c.cls < cls))).length)).foldl (· + ·) 0

/-- A context is free for the member's next command (R199): 4 are guaranteed to each, the rest go in the order of the classes. -/
def memberContextFree (s : Part) (m : MemberSt) : Bool :=
  decide (m.outstanding.length < 4) ||
    decide (contextsTaken s + contextsAhead s (((nextCmd s m).map (·.cls)).getD 0) < memberContexts)

def issueCmd (k : Nat) (c : MCmd) (s : Part) : Part :=
  emit (.memberCmd k c.id) (s.modMember k (fun m => { m with
    waiting := m.waiting.filter (fun x => x.id != c.id), outstanding := m.outstanding ++ [{ c with lane := laneFor s m c.id }] }))

def memberCmdIssueEff (k : Nat) (s : Part) : Part :=
  match s.member? k with
  | none => s
  | some m =>
    match nextCmd s m with
    | none => s
    | some c =>
      if !mayIssue s m || m.draining || decide (m.depth ≤ m.outstanding.length) || !memberContextFree s m then s
      else if c.nonQueued && !m.outstanding.isEmpty then s.modMember k (fun x => { x with draining := true })
      else issueCmd k c s

/-- R199–R201: a waiting command is issued; a non-queued one first drains the member (R202). -/
def execMemberCmdIssue (k : MemberId) (s : State) : Answer := .next (s.onPart (memberCmdIssueEff k.val))

/-! ### Host reads that wait for a member -/

def noFaults : LaneFaults := { mismatch := [], hostPi := [] }

/-- A host read no longer waits: its member commands that were not issued go, and it runs (R202, R205, R206), without
member `excl` where the reconstruction stands in for it. -/
def finishRead (c : Nat) (h : BitVec 32) (excl : Option Nat) (bad : BadReads) (s : State) : State :=
  match s.part.cmd? c h with
  | none => s
  | some x =>
    if x.phase ≠ .waiting ∨ dOpcode x.desc ≠ 1 then s
    else
      let mine (y : MCmd) : Bool := match y.op with
        | .readStrip _ _ _ ch hs => ch == c && hs == h
        | _ => false
      let drop (m : MemberSt) : MemberSt := { m with waiting := m.waiting.filter (fun y => !mine y) }
      let p : Part := { s.part with members := s.part.members.map drop }
      let p := p.modCmd c h (fun y => { y with phase := .accepted })
      let hide (on : Bool) (q : Part) : Part := match excl with
        | some k => q.modMember k (fun m => { m with linkUp := on })
        | none => q
      let was := (excl.bind p.member?).any (·.linkUp)
      let r := readRun c bad noFaults x (hide false p)
      { s with part := hide was r.1, peerMem := Memory.writeAll s.peerMem r.2 }

/-- The strip can be had without its member (R36, R119, R205). -/
def canReconstruct (s : Part) (p stripe strip : Nat) : Bool :=
  match s.pool? p with
  | none => false
  | some ps =>
    let g := ps.charter.geoOf stripe
    let pr := (presence s ps g stripe).set strip false
    decide (0 ≤ marginOf g.h pr) && !ps.int.reconcile.contains stripe

/-- A read that is also served by reconstruction, where that is possible (R205, R206). -/
def hedge (k : Nat) (c : MCmd) (s : State) : State :=
  match c.op with
  | .readStrip p stripe strip ch h => if canReconstruct s.part p stripe strip then finishRead ch h (some k) [] s else s
  | _ => s

/-! ### Completion -/

def takeOut (k id : Nat) (s : Part) : Part :=
  s.modMember k (fun m => { m with outstanding := m.outstanding.filter (fun x => x.id != id) })

/-- A write that fails is tried once more, and fails its member the second time (R206 row 3). -/
def writeFails (k : Nat) (c : MCmd) (s : Part) : Part :=
  if c.retried then failMember k s
  else s.modMember k (fun m => { m with waiting := { c with retried := true } :: m.waiting })

/-- TASK SET FULL or BUSY (R200): the working depth falls by a quarter, rounded up, and the command waits again. -/
def memberBusy (k : Nat) (c : MCmd) (s : Part) : Part :=
  s.modMember k (fun m => { m with workDepth := max 1 (m.workDepth - ceilDiv m.workDepth 4), waiting := c :: m.waiting })

/-- A member confirms its fencing (R306). -/
def memberFenced (k : Nat) (s : Part) : Part :=
  let f (p : PoolSt) : PoolSt := { p with pair := { p.pair with fenceLeft := p.pair.fenceLeft.filter (fun x => x != k) } }
  { s.modMember k (fun m => { m with fenced := true, registered := m.info.reservations }) with
    pools := (s.pools.map f) }

/-- A command that ends good. -/
def cmdGood (k : Nat) (c : MCmd) (s : State) : State :=
  match c.op with
  | .writeStrip p stripe strip => s.onPart (commitStrip p stripe strip)
  | .laneWrite p stripe e => s.onPart (stripeRebuilt p stripe e)
  | .readStrip _ _ _ ch h => finishRead ch h none [] s
  | .spinControl => s.onPart (fun p => p.modMember k (fun m => { m with spun := 1, spinRetried := false }))
  | .fence => s.onPart (memberFenced k)
  | .copyB p gen => s.onPart (copyBStored p gen k)
  | .zeroSlot p | .zeroCheck p | .zeroRest p _ => s.onPart (zeroStep p k c.op true)
  | _ => s

/-- A command that fails: a write is retried, a read is served from the other strips. -/
def cmdFails (k : Nat) (c : MCmd) (s : State) : State :=
  match c.op with
  | .readStrip _ _ _ ch h => finishRead ch h (some k) [] s
  | .zeroSlot p | .zeroCheck p => s.onPart (zeroStep p k c.op false)
  | _ => if c.op.isWrite then s.onPart (writeFails k c) else s

def cmdEnds (k : Nat) (c : MCmd) (r : CmdResult) (s : State) : State :=
  match r with
  | .good => cmdGood k c s
  | .mediumError mba =>
    let s := s.onPart (mediumError k)
    (match c.op with
     | .readStrip _ _ _ ch h => finishRead ch h none [(k, mba)] s
     | _ => cmdFails k c s)
  | .busy => s.onPart (memberBusy k c)
  | .deviceFault => (cmdFails k c s).onPart (failMember k)
  | .predictiveFailure => (cmdGood k c s).onPart (suspect k)
  | .failed => cmdFails k c s

/-- The last non-queued command of a drained member lets queued issue resume (R202). -/
def endDrain (k : Nat) (s : Part) : Part :=
  s.modMember k (fun m =>
    if m.draining && !(m.outstanding ++ m.waiting).any (·.nonQueued) then { m with draining := false } else m)

def memberCmdComplete (k id : Nat) (r : CmdResult) (s : State) : State :=
  match (s.part.member? k).bind (fun m => m.outstanding.find? (fun x => x.id == id)) with
  | none => s
  | some c =>
    if c.timedOut then s.onPart (endEscalation k)
    else (cmdEnds k c r (s.onPart (takeOut k id))).onPart (endDrain k)

/-- R198, R205: a member command completes; the answer for one that timed out ends the escalation. -/
def execMemberCmdComplete (k : MemberId) (id : Nat) (r : CmdResult) (s : State) : Answer :=
  .next ((memberCmdComplete k.val id r s).onPart sleepIfReady)

/-! ### Timeouts (R205) -/

/-- A step of Table 8.6 is taken: recorded, a SUSPECT cause; the third escalation to step 3 within 1 h is a FAILED cause. -/
def takeStep (k n : Nat) (s : Part) : Part :=
  let s := log 0x0E02 0 (leBytes 2 k ++ leBytes 1 n) s
  let s := emit (.memberReset k n) s
  let s := suspect k (s.modMember k (fun m => { m with escStep := n }))
  if n = 3 then
    match s.member? k with
    | none => s
    | some m =>
      let l := s.timeUs :: m.step3Times.filter (fun t => decide (s.timeUs < t + hour 1))
      let s := s.modMember k (fun x => { x with resets := x.resets + 1, step3Times := l })
      if 3 ≤ l.length then failMember k s else s
  else s

/-- The first step a protocol has (Table 8.6). -/
def firstStep : Protocol → Nat
  | .sata => 3
  | _ => 1

/-- A command times out (R205): SUSPECT, the escalation starts. -/
def timeOutCmd (k id : Nat) (s : Part) : Part :=
  match s.member? k with
  | none => s
  | some m =>
    let s := s.modMember k (fun x => { x with
      timeouts := x.timeouts + 1, outstanding := updBy (fun c => c.id == id) (fun c => { c with timedOut := true }) x.outstanding })
    let s := suspect k s
    if m.escStep = 0 then takeStep k (firstStep m.info.protocol) s else s

def memberCmdTimeout (k id : Nat) (s : State) : State :=
  match (s.part.member? k).bind (fun m => m.outstanding.find? (fun x => x.id == id)) with
  | none => s
  | some c => if c.timedOut then s else hedge k c (s.onPart (timeOutCmd k id))

/-- R205: a command not complete T after its issue. -/
def execMemberCmdTimeout (k : MemberId) (id : Nat) (s : State) : Answer := .next (memberCmdTimeout k.val id s)

def escalationStepTimeoutEff (k : Nat) (s : Part) : Part :=
  match s.member? k with
  | none => s
  | some m =>
    match m.escStep with
    | 0 => s
    | 1 => takeStep k 2 s
    | 2 => takeStep k 3 s
    | _ => failMember k s

/-- R205: an unanswered step leads to the next; after step 3 and T the member is FAILED. -/
def execEscalationStepTimeout (k : MemberId) (s : State) : Answer := .next (s.onPart (escalationStepTimeoutEff k.val))

def hedgeTimeout (k id : Nat) (s : State) : State :=
  match (s.part.member? k).bind (fun m => m.outstanding.find? (fun x => x.id == id)) with
  | none => s
  | some c => if s.part.objNum 0x2107 7 = 0 ∨ ¬ slowMember s.part k then s else hedge k c s

/-- R202, R206: a read of a SUSPECT or draining member is also served by reconstruction. -/
def execHedgeTimeout (k : MemberId) (id : Nat) (s : State) : Answer := .next (hedgeTimeout k.val id s)

/-! ### SATA drains and NCQ errors (R202, R204) -/

def drainForNonQueued (k : Nat) (s : State) : State :=
  match s.part.member? k with
  | none => s
  | some m =>
    if !m.draining then s
    else
      let left := m.outstanding.filter (fun c => !c.nonQueued && !c.timedOut)
      if !left.isEmpty then left.foldl (fun st c => memberCmdTimeout k c.id st) s
      else if m.outstanding.isEmpty && mayIssue s.part m then
        match m.waiting.find? (·.nonQueued) with
        | some c => s.onPart (issueCmd k c)
        | none => s.onPart (endDrain k)
      else s

/-- R202: the tags have drained and the non-queued commands are issued, or the drain limit makes timeouts of them. -/
def execDrainForNonQueued (k : MemberId) (s : State) : Answer := .next (drainForNonQueued k.val s)

def ncqError (k id : Nat) (s : State) : State :=
  match s.part.member? k with
  | none => s
  | some m =>
    match m.outstanding.find? (fun x => x.id == id && !x.nonQueued) with
    | none => s
    | some c =>
      if m.info.protocol ≠ .sata then s
      else
        let others := m.outstanding.filter (fun x => x.id != id && !x.timedOut)
        let keep := m.outstanding.filter (fun x => x.timedOut)
        let s := s.onPart (fun p => p.modMember k (fun x => { x with outstanding := keep, waiting := others ++ x.waiting }))
        let s := s.onPart (fun p => enqueueCmd k .healthLog 0 true false 0 0 p)
        cmdFails k c s

/-- R204: the tag the error log names fails, the other tags are reissued. -/
def execNcqError (k : MemberId) (id : Nat) (s : State) : Answer := .next (ncqError k.val id s)

/-! ### Deferred errors of members (R207) -/

/-- Where a member block lies: pool, shape, stripe, strip, block offset. -/
def findStrip (s : Part) (k mba : Nat) : Option (PoolSt × Geo × Nat × Nat × Nat) :=
  s.pools.findSome? (fun p =>
    if p.life = 0 then none
    else
      p.shapes.findSome? (fun g =>
        if mba < g.h.dataStart ∨ g.h.dataStart + g.h.usable ≤ mba ∨ g.w = 0 then none
        else
          let row := (mba - g.h.dataStart) / g.h.sb
          (g.groupStripes (row / g.w)).findSome? (fun stripe =>
            (List.range g.w).findSome? (fun i =>
              match readPlace p g stripe i with
              | some pl => if pl.1 = k ∧ pl.2 ≤ mba ∧ mba < pl.2 + g.h.sb then some (p, g, stripe, i, mba - pl.2) else none
              | none => none))))

/-- A failing range is reconstructed and rewritten (R131, R207); one that cannot be yet is left to be examined again. -/
def repairAt (k mba : Nat) (bad : BadReads) (s : Part) : Part :=
  match findStrip s k mba with
  | none => s
  | some (p, g, stripe, i, bo) =>
    if (s.entry? p.id stripe).isSome || linkWaits s p g stripe then examineLater p.id stripe s
    else
      let r := restoreBlock p g bad stripe i bo s
      let lost := r.blocks.any (fun b => lostBit b.2)
      let s := if lost then r.part else repairedAt p g stripe i bo r.part
      stageRepair 5 p.id stripe (r.blocks.map (fun b => (i, b.1, b.2)) ++ r.rewrites.filter (fun w => w.1 != i)) s

/-- The ranges of the last writes committed to a member are read back; those that fail their check are repaired (R207). -/
def readBack (k : Nat) (s : Part) : Part :=
  match s.member? k with
  | none => s
  | some m =>
    m.recentWrites.foldl (fun st start =>
      match findStrip st k start with
      | none => st
      | some (_, g, _, i, _) =>
        (List.range g.h.sb).foldl (fun t bo =>
          match readAt t g i bo [] (k, start) with
          | .bad => repairAt k (start + bo) [(k, start + bo)] t
          | _ => t) st) s

def memberDeferredEff (k : Nat) (lba : Option Nat) (s : Part) : Part :=
  match s.member? k with
  | none => s
  | some m =>
    let mba := lba.map (fun x => if m.info.format = 1 ∨ m.info.format = 2 ∨ m.info.format = 3 then x / 8 else x)
    let s := log 0x0E03 0 (leBytes 2 k ++ leBytes 8 (mba.getD (2 ^ 64 - 1))) s
    match mba with
    | some b => repairAt k b [(k, b)] s
    | none => readBack k (suspect k s)

/-- R207: a member reports an error on a write it had completed. -/
def execMemberDeferred (k : MemberId) (lba : Option Nat) (s : State) : Answer := .next (s.onPart (memberDeferredEff k.val lba))

/-! ### Depth, holds, SUSPECT and the operator (R200, R206) -/

/-- R200: 1 s without TASK SET FULL or BUSY. -/
def execDepthRise (k : MemberId) (s : State) : Answer :=
  .next (s.onPart (fun p => p.modMember k.val (fun m => { m with workDepth := min m.depthLimit (m.workDepth + 1) })))

def linkHoldExpireEff (k : Nat) (s : Part) : Part :=
  match s.member? k with
  | none => s
  | some m => if m.linkUp then s else loseMember k s

/-- R206: every path stayed down longer than LINK_HOLD_MS. -/
def execLinkHoldExpire (k : MemberId) (s : State) : Answer := .next (s.onPart (linkHoldExpireEff k.val))

def suspectClearEff (k : Nat) (s : Part) : Part :=
  match s.member? k with
  | none => s
  | some m =>
    let due : Bool := match m.suspectEnd with
      | some t => decide (t ≤ s.timeUs)
      | none => true
    if m.state = 3 ∧ due then setMemberState k 2 2 s else s

/-- R206: SUSPECT_CLEAR_H passed with no SUSPECT cause. -/
def execSuspectClear (k : MemberId) (s : State) : Answer := .next (s.onPart (suspectClearEff k.val))

/-- An action of Table 8.7 that the operator takes on a member in one of the named states. -/
def memberAction (q : Req) (k : Nat) (states : List Nat) (act : Part → Part) (s : Part) : Part :=
  checked q roleOperator none (fun s =>
    match s.member? k with
    | none => refuseRule q 206 0 s
    | some m => if states.contains m.state then ok q (act s) else refuseRule q 206 0 s) s

/-- R206: MEMBER_ACTION 1 forces FAILED. -/
def execMemberForceFailed (q : Req) (k : MemberId) (s : State) : Answer :=
  .next (s.onPart (memberAction q k.val [2, 3, 5, 6, 7] (failMember k.val)))

/-- R206: MEMBER_ACTION 2 clears SUSPECT. -/
def execMemberClearSuspect (q : Req) (k : MemberId) (s : State) : Answer :=
  .next (s.onPart (memberAction q k.val [3] (setMemberState k.val 2 2)))

def memberReinstateEff (q : Req) (k : Nat) (s : Part) : Part :=
  if ((s.member? k).map (·.linkUp)).getD true then memberAction q k [4] (setMemberState k 1 6) s
  else memberAction q k [] id s

/-- R206: MEMBER_ACTION 3 returns an attached FAILED member to PRESENT. -/
def execMemberReinstate (q : Req) (k : MemberId) (s : State) : Answer := .next (s.onPart (memberReinstateEff q k.val))

/-! ### Caches (R208) -/

def memberWceConfirmEff (k : Nat) (a : WceAnswer) (s : Part) : Part :=
  match s.member? k with
  | none => s
  | some m =>
    let want := cacheSetting s k
    let set (n : Nat) (s : Part) : Part :=
      let s := s.modMember k (fun x => { x with wce := n })
      if n = want ∨ a = .noCache then settingConfirmed 0 k s else s
    match a with
    | .noCache => set 0 s
    | .refused => set 1 s
    | .disabled => if want = 1 ∧ m.wce = 2 then writeCache k 1 (set 0 s) else set 0 s
    | .enabled => if want = 0 ∧ m.wce = 2 then writeCache k 0 (set 1 s) else set 1 s

/-- R208: the read-back of a member's cache setting; a setting that differs from the committed value is written. -/
def execMemberWceConfirm (k : MemberId) (a : WceAnswer) (s : State) : Answer := .next (s.onPart (memberWceConfirmEff k.val a))

/-! ### Spin-up (R209) -/

/-- The next group: in ascending id, at most SPINUP_GROUP, at most SPINUP_PER_ENCL of one enclosure. -/
def spinGroup (s : Part) : List Nat :=
  let per := s.objNum 0x2107 3
  let encl (k : Nat) : Nat := ((s.member? k).map (·.info.enclFound)).getD 0xFFFF
  (sortNats s.fabric.spinQueue).foldl (fun acc k =>
    if decide (s.objNum 0x2107 4 ≤ acc.length) || decide (per ≤ (acc.filter (fun x => encl x == encl k)).length) then acc else acc ++ [k]) []

def startSpin (k : Nat) (s : Part) : Part :=
  match s.member? k with
  | none => s
  | some m => enqueueCmd k .spinControl 0 (decide (m.info.protocol = .sata)) false 0 0 (s.modMember k (fun x => { x with spun := 2 }))

def spinupGroupEff (s : Part) : Part :=
  let g := spinGroup s
  let s := s.modFab (fun f => { f with spinQueue := f.spinQueue.filter (fun k => !g.contains k) })
  g.foldl (fun st k => startSpin k st) s

/-- R209: the next group of rotating members is started. -/
def execSpinupGroup (s : State) : Answer := .next (s.onPart spinupGroupEff)

def spinupAllowExpireEff (k : Nat) (s : Part) : Part :=
  match s.member? k with
  | none => s
  | some m =>
    if m.spun ≠ 2 ∨ ¬ m.info.rotating then s
    else if m.spinRetried then loseMember k (s.modMember k (fun x => { x with spun := 0 }))
    else startSpin k (s.modMember k (fun x => { x with spinRetried := true }))

/-- R209: a rotating member not ready within SPINUP_ALLOW_S is started once more, then becomes ABSENT. -/
def execSpinupAllowExpire (k : MemberId) (s : State) : Answer := .next (s.onPart (spinupAllowExpireEff k.val))

end Sys2Proof.Machine
end

