-- ==== Sys2Proof/Machine/Pools.lean ====
section
/-! DEFINITION. Meanings of the pool, charter and volume commands but for import (02_pools_codes: R23–R30, R45; R51,
R52, R124, R218, R294, R411). An item of a refusal is the place in the rule's own list, 0 when the rule has none. -/

namespace Sys2Proof.Machine

/-! ### A pool as it begins -/

def CkptSt.empty : CkptSt where
  seq := 0
  homes := []
  lostHomes := []
  intent := []
  extSeq := 0
  build := none
  extBuild := none
  ready := []
  extReported := []
  inForce := none
  exts := []
  due := []
  moved := []
  tide := 0
  destagedTide := 0

def PoolInt.empty : PoolInt where
  lost := []
  lostState := 0
  poisoned := 0
  diverged := []
  resolving := []
  toResolve := []
  repaired := 0
  scrubCursor := 0
  scrubStart := 0
  scrubEnd := 0
  scrubBehind := false
  reconcile := []
  reconDone := 0
  reconLost := 0
  survey := []
  again := []
  recheck := []
  lastRecovery := 0
  lastRelease := 0
  region := false
  asStrict := false
  commits := []

def PoolReb.empty : PoolReb where
  rebuilt := []
  writing := []
  stale := []
  staleAll := []
  failing := []
  copyback := []
  started := []
  spareLogged := none

def PoolPairSt.empty : PoolPairSt where
  owner := 0
  state := 0
  ownerNext := 2
  handoverTide := 0
  handing := false
  failbackAt := none
  lagZero := 0
  syncTide := none
  shadow := []
  shadowTide := 0
  coverage := 0
  shadowWriting := []
  shadowRebuilt := []
  announcedSeq := 0
  announcedExt := []
  contest := none
  fenceLeft := []
  gap := false
  oldIntent := []
  digestBad := false

def CrossSt.none_ : CrossSt where
  state := 0
  live := 0
  stepLeft := []
  crossed := []
  named := []

/-- A pool under a charter, nothing of it in the protected region. -/
def PoolSt.begin_ (c : Charter) (life : Nat) : PoolSt where
  id := c.poolId
  life := life
  commitResult := 0
  charter := c
  coming := none
  change := none
  queue := []
  highGen := c.gen
  initLeft := []
  writeState := 1
  ckpt := CkptSt.empty
  int := PoolInt.empty
  reb := PoolReb.empty
  pair := PoolPairSt.empty
  cross := CrossSt.none_
  found := []

def Shape.none_ : Shape where
  codeType := 0
  k := 0
  m := 0
  g := 0
  stripLog2 := 16
  blockFmt := 0
  enclLimit := 0
  rackLimit := 0
  spare := 0
  seed := 0
  dataStart := 16384
  usable := 0
  stripeCount := 0

/-- The charter of a pool that does not exist. -/
def Charter.none_ (p : Nat) : Charter where
  uuid := List.replicate 16 0
  gen := 0
  poolId := p
  shape := Shape.none_
  recovery := 0
  initDone := false
  paired := false
  created := 0
  changed := 0
  changeTide := 0
  kekId := zeroId
  pairUuid := List.replicate 16 0
  prefOwner := List.replicate 16 0
  members := []
  vols := []
  cross := none

/-- A pool enters or replaces its entry in the state. -/
def Part.putPool (s : Part) (x : PoolSt) : Part :=
  { s with pools := s.pools.filter (fun y => y.id != x.id) ++ [x] }

/-- The pool is gone; POOL_COMMIT_RESULT of its last commit stays readable. -/
def erasePool (p result : Nat) (s : Part) : Part :=
  let s := s.putPool { PoolSt.begin_ (Charter.none_ p) 0 with commitResult := result }
  s.modMan (fun m => { m with entries := m.entries.filter (fun e => e.pool != p), held := m.held.filter (fun b => b.pool != p)
                              marks := alDel p m.marks })

def Part.poolLife (s : Part) (p : Nat) : Nat := ((s.pool? p).map (·.life)).getD 0

/-! ### The staged definition -/

/-- Member ids a 2,048-byte bitmap names. -/
def bitmapIds (b : Bytes) : List Nat :=
  (b.mapIdx (fun i x => ((List.range 8).filter (fun j => x.getLsbD j)).map (fun j => 8 * i + j))).flatten

/-- MEMBER_ENCL: staged, else proposed from discovery (R51). -/
def Part.memberEncl (s : Part) (k : Nat) : Nat :=
  match alGet (0x6000 + k, 0x10) s.dict.objs with
  | some (.num n) => n
  | _ => ((s.member? k).map (·.info.enclFound)).getD 0xFFFF

def Part.memberRack (s : Part) (k : Nat) : Nat := s.objNum (0x6000 + k) 0x11

def stagedShape (s : Part) (p : Nat) : Shape :=
  let g (i : Nat) : Nat := s.objNum (poolIdx p 0x10) i
  { Shape.none_ with
    codeType := g 4, k := g 1, m := g 2, g := g 3, stripLog2 := g 5, blockFmt := g 6
    enclLimit := s.objNum (poolIdx p 0x11) 1, rackLimit := s.objNum (poolIdx p 0x11) 2, spare := s.objNum (poolIdx p 0x11) 3 }

/-- Table 2.1. -/
def shapePermitted (h : Shape) : Bool :=
  let strips := decide (14 ≤ h.stripLog2) && decide (h.stripLog2 ≤ 20)
  let code :=
    if h.codeType = 1 then h.k == 1 && decide (1 ≤ h.m) && decide (h.m ≤ 3) && h.g == 0
    else decide (2 ≤ h.k) && decide (h.k ≤ 120) && decide (1 ≤ h.m) && decide (h.m ≤ 12) && decide (h.k + h.m ≤ 128) &&
      decide (h.g ≤ 8) && decide (h.k + h.m + h.g ≤ 128) && (h.g == 0 || (h.k % h.g == 0 && decide (2 ≤ h.k / h.g)))
  strips && code

/-- USABLE_BLOCKS and STRIPE_COUNT of R28, the 16,384 blocks before and the 512 after the data area left out. -/
def sizeShape (h : Shape) (caps : List Nat) : Shape :=
  let area := (caps.map (fun c => c - 16896)).foldl min ((caps.headD 0) - 16896)
  let usable := area / h.sb * h.sb
  { h with usable := usable, stripeCount := (caps.length - h.spare) * (usable / h.sb) / max 1 h.w }

/-- A member that can be fenced (Table 12.3). -/
def MemberSt.fenceable (m : MemberSt) : Bool :=
  match m.info.protocol with
  | .sata => decide (m.info.path / 256 % 16 ≠ 0)
  | _ => m.info.reservations

/-- The first refusal of R294 that holds, by its place in the list. -/
def pairingRefusal (s : Part) (ids racks : List Nat) : Option (Nat × Nat) :=
  let ms := ids.filterMap s.member?
  if s.pair.state ≠ 2 then some (294, 1)
  else if !ms.all MemberSt.fenceable then some (294, 2)
  else if (((ids.zip racks).filter (fun x => ((s.member? x.1).map (·.info.reservations)).getD false)).map (·.2)).eraseDups.length < 3 then
    some (294, 3)
  else none

/-- The first of R52's checks that fails. -/
def layoutRefusal (h : Shape) (encl rack : List Nat) : Option (Nat × Nat) :=
  let n := encl.length
  if !((encl.zip rack).all (fun a => (encl.zip rack).all (fun b => a.1 != b.1 || a.2 == b.2))) then some (52, 1)
  else if !(decide (1 ≤ h.enclLimit) && decide (h.enclLimit ≤ h.rackLimit) && decide (h.rackLimit ≤ h.w)) then some (52, 2)
  else if h.spare ≠ 0 && decide (n / h.spare < h.w + 1) then some (52, 3)
  else if !(Braid.make h encl rack (List.replicate n false)).rule4 then some (52, 4)
  else none

/-- A pool creation's first refusal, in ascending label order (R24). -/
def createRefusal (s : Part) (p : Nat) (ids : List Nat) : Option (Nat × Nat) :=
  let h := stagedShape s p
  let ms := ids.filterMap s.member?
  let encl := ids.map s.memberEncl
  let rack := ids.map s.memberRack
  let kek := s.objBlob (poolIdx p 0x17) 1
  if ids.isEmpty || ms.length != ids.length || ids.any s.memberNamed ||
      ms.any (fun m => m.state != 1 || !suitsFormat m.info h.blockFmt) then some (23, 0)
  else if ms.any (fun m => LabelRead.foreign m.label) then some (25, 0)
  else if !shapePermitted h || decide (ids.length < h.w + h.spare) then some (30, 0)
  else if (encl ++ rack).contains 0xFFFF then some (51, 0)
  else
    match layoutRefusal h encl rack with
    | some r => some r
    | none =>
      match (if s.objNum (poolIdx p 0x18) 1 = 1 then pairingRefusal s ids rack else none) with
      | some r => some r
      | none => if (s.kekLoaded? kek).isNone then some (411, 0) else none

/-! ### POOL_COMMIT -/

/-- PREF_OWNER_UUID for POOL_PREF_OWNER. -/
def prefUuid (s : Part) (p : Nat) : Bytes :=
  if s.objNum (poolIdx p 0x18) 2 = 1 then s.objBlob 0x2500 1 else deviceUuid

/-- The first generation of a pool (R23, R26, R28). -/
def newCharter (s : Part) (p : Nat) (ids : List Nat) (uuid seed : Bytes) : Charter :=
  let paired := s.objNum (poolIdx p 0x18) 1 == 1
  let h := sizeShape (stagedShape s p) (ids.map (fun k => ((s.member? k).map (·.info.capacity)).getD 0))
  { uuid := uuid, gen := 1, poolId := p, shape := { h with seed := ofLe seed }, recovery := s.objNum (poolIdx p 0x13) 1
    initDone := false, paired := paired, created := s.timeUs, changed := s.timeUs
    changeTide := if paired then s.sched.tideNow + s.leadTides else s.sched.tideNow
    kekId := s.objBlob (poolIdx p 0x17) 1
    pairUuid := if paired then s.pair.uuid else List.replicate 16 0
    prefOwner := if paired then prefUuid s p else List.replicate 16 0
    members := ids.mapIdx (fun i k =>
      { id := k, ordinal := i, state := 2, protocol := ((s.member? k).map (·.info.protocol)).getD .sas
        encl := s.memberEncl k, rack := s.memberRack k, identity := ((s.member? k).map (·.info.identity)).getD [] })
    vols := [], cross := none }

/-- POOL_COMMIT_RESULT. -/
def setPoolResult (p result : Nat) (s : Part) : Part :=
  match s.pool? p with
  | some _ => s.modPool p (fun x => { x with commitResult := result })
  | none => s.putPool { PoolSt.begin_ (Charter.none_ p) 0 with commitResult := result }

/-- A refused pool commit: the answer and POOL_COMMIT_RESULT name the rule. -/
def refusePool (q : Req) (p rule item : Nat) (s : Part) : Part :=
  refuseRule q rule item (setPoolResult p (ruleResult rule item) s)

def createPool (q : Req) (p : Nat) (s : Part) : Part :=
  let ids := bitmapIds (s.objBlob (poolIdx p 0x10) 7)
  match createRefusal s p ids with
  | some (r, i) => refusePool q p r i s
  | none =>
    let (uuid, s) := s.draw 16
    let (seed, s) := s.draw 4
    let c := newCharter s p ids uuid seed
    let s := writeGeneration p c none false true (s.putPool { PoolSt.begin_ c 1 with highGen := 0 })
    okCommit q (scopePool p) s

/-- An accepted change answers OK, or PENDING when it waits behind another (R368), and releases the lock (R367). -/
def answerChange (q : Req) (p : Nat) (scope : Nat × Nat) (d : CharterDelta) (s : Part) : Part :=
  let wait := ((s.pool? p).map PoolSt.changing).getD false
  respond q (if wait then stPending else stOk) 0 [] (queueDelta p d (s.releaseLock scope))

/-- A staged number of the pool's block, or what it reads without one. -/
def stagedOr (s : Part) (p ix sub dflt : Nat) : Nat :=
  match alGet (poolIdx p ix, sub) s.dict.objs with
  | some (.num n) => n
  | _ => dflt

/-- The staged change of a pool that exists: its recovery model (R124), its pairing (R294). -/
def changePool (q : Req) (p : Nat) (ps : PoolSt) (s : Part) : Part :=
  let now := ps.latest
  let staged := stagedOr s p
  let rec_ : Nat := staged 0x13 1 now.recovery
  let pair : Bool := staged 0x18 1 (b2n now.paired) == 1
  let refusal := if pair && !now.paired then pairingRefusal s (now.members.map (·.id)) (now.members.map (·.rack)) else none
  if ps.latest.cross.isSome && pair != now.paired then refusePool q p 168 0 s
  else
    match refusal with
    | some (r, i) => refusePool q p r i s
    | none =>
      if !ps.owned then refusePool q p 297 0 s
      else
      let s := setPoolResult p 0 s
      let wait := ps.changing
      let s := if rec_ ≠ now.recovery ∧ ps.pair.state ≠ 2 then queueDelta p (.recovery rec_) s else s
      let s := if pair ≠ now.paired then
          queueDelta p (.paired pair (if pair then s.pair.uuid else List.replicate 16 0)
            (if pair then prefUuid s p else List.replicate 16 0)) s
        else s
      let s := s.releaseLock (scopePool p)
      if rec_ ≠ now.recovery ∧ ps.pair.state = 2 then askPair q (.recovery (Fin.ofNat 64 p) rec_) s
      else respond q (if wait && ((s.pool? p).map (·.queue.length)).getD 0 > ps.queue.length then stPending else stOk) 0 [] s

def poolCommitEff (q : Req) (p : Nat) (s : Part) : Part :=
  keepWritten (poolIdx p 0) 3 1 <| checked q roleCustodian (some (scopePool p)) (fun s =>
    match s.pool? p with
    | none => createPool q p s
    | some ps => if ps.life = 0 then createPool q p s else changePool q p ps s) s

/-- R24: POOL_COMMIT 1 creates the pool or applies the staged change. -/
def execPoolCommit (q : Req) (p : PoolId) (s : State) : Answer := .next (s.onPart (poolCommitEff q p.val))

/-- A deleted pool releases its members (R29, R25). -/
def deletePool (p : Nat) (ps : PoolSt) (s : Part) : Part :=
  let s := ((ps.charter.members.map (·.id)).filter (fun k => s.takes k)).foldl (fun st k => releaseMember k st) s
  erasePool p 0 s

def poolDeleteEff (q : Req) (p : Nat) (s : Part) : Part :=
  keepWritten (poolIdx p 0) 3 2 <| checked q roleCustodian (some (scopePool p)) (fun s =>
    match s.pool? p with
    | none => refusePool q p 29 0 s
    | some ps =>
      if ps.life = 0 || !ps.latest.vols.isEmpty || !ps.charter.vols.isEmpty then refusePool q p 29 0 s
      else if !ps.owned then refusePool q p 297 0 s
      else okCommit q (scopePool p) (deletePool p ps s)) s

/-- R29: POOL_COMMIT 2 deletes a pool that holds no volumes. -/
def execPoolDelete (q : Req) (p : PoolId) (s : State) : Answer := .next (s.onPart (poolDeleteEff q p.val))

def poolInitCompleteEff (p : Nat) (s : Part) : Part :=
  match s.pool? p with
  | none => s
  | some ps => if ps.life = 2 && ps.initLeft.isEmpty && !ps.latest.initDone then queueDelta p .initDone s else s

/-- R26: every member has reported its zeroing complete (`initLeft` is empty); INIT_DONE is set by a charter update. -/
def execPoolInitComplete (p : PoolId) (s : State) : Answer := .next (s.onPart (poolInitCompleteEff p.val))

def memberReleaseEff (q : Req) (k : Nat) (s : Part) : Part :=
  keepWritten (0x6000 + k) 0x15 1 <| checked q roleCustodian none (fun s =>
    if s.memberNamed k || !((s.member? k).map (fun m => m.linkUp && m.state != 0)).getD false then refuseRule q 25 0 s
    else ok q (settleConflict k (releaseMember k s))) s

/-- R25: a Custodian releases a member that no pool here holds. -/
def execMemberRelease (q : Req) (k : MemberId) (s : State) : Answer := .next (s.onPart (memberReleaseEff q k.val))

/-! ### Charter changes -/

/-- R45 step 1: the next waiting change is built and copy A goes out. -/
def execCharterChange (p : PoolId) (s : State) : Answer := .next (s.onPart (startChange p.val))

/-- R45 steps 2 to 4: a copy write ends on a member. -/
def execCharterCopyWritten (p : PoolId) (k : MemberId) (ok : Bool) (s : State) : Answer :=
  .next (s.onPart (copyWritten p.val k.val ok))

/-- R45: a restoring generation is retried every 10 s. -/
def execCharterRestoreRetry (p : PoolId) (s : State) : Answer := .next (s.onPart (retryRestore p.val))

/-! ### Volumes -/

/-- VOL_COMMIT_RESULT. -/
def setVolResult (v result : Nat) (s : Part) : Part := s.modVol v (fun x => { x with commitResult := result })

def refuseVol (q : Req) (v rule item : Nat) (s : Part) : Part :=
  refuseRule q rule item (setVolResult v (ruleResult rule item) s)

/-- Blocks a volume of a size occupies (R27: whole stripes). -/
def allocBlocks (h : Shape) (size : Nat) : Nat := ceilDiv size (max 1 h.kb) * h.kb

/-- The lowest free range of whole stripes that fits (R27): at 0 or at the end of an allocation. -/
def freeBase (c : Charter) (size : Nat) : Option Nat :=
  let need := allocBlocks c.shape size
  let ends := sortNats (0 :: c.vols.map (fun v => v.base + allocBlocks c.shape v.size))
  ends.find? (fun b => decide (b + need ≤ c.shape.stripeCount * c.shape.kb) &&
    c.vols.all (fun v => decide (b + need ≤ v.base) || decide (v.base + allocBlocks c.shape v.size ≤ b)))

/-- The pool in which a volume stands or is about to stand. -/
def Part.volHome (s : Part) (v : Nat) : Option PoolSt :=
  s.pools.find? (fun p => p.life != 0 && (p.latest.vols.any (fun x => x.id == v) || p.charter.vols.any (fun x => x.id == v)))

/-- The wrapped data key of a new volume (R218): supplied, or drawn and wrapped under the pool's KEK. -/
def newKey (kek supplied : Bytes) (s : Part) : Option Bytes × Part :=
  if supplied.isEmpty then
    let (m, s) := drawMaterial 8 s
    (some (kwpWrap kek m), s)
  else
    match unwrapMaterial kek supplied with
    | some m => (if materialGood m then some supplied else none, s)
    | none => (none, s)

def createVol (q : Req) (v : Nat) (s : Part) : Part :=
  let p := s.objNum (0xA000 + v) 7
  let size := s.objNum (0xA000 + v) 8
  match s.pool? p, s.volHome v with
  | some ps, none =>
    let c := ps.latest
    if ps.life = 0 || size = 0 then refuseVol q v 24 0 s
    else if !ps.charter.initDone then refuseVol q v 26 1 s
    else
      match freeBase c size with
      | none => refuseVol q v 27 4 s
      | some base =>
        if ps.latest.cross.isSome then refuseVol q v 168 0 s
        else
        match s.kekLoaded? c.kekId with
        | none => refuseVol q v 218 0 s
        | some kek =>
          let (w, s) := newKey kek (s.objBlob (0xA000 + v) 5) s
          match w with
          | none => refuseVol q v 218 0 s
          | some wrapped =>
            let cv : CVol := { id := v, hostPi := s.objNum (0xA000 + v) 9, keyGen := 0, size := size, base := base,
                               wrapped := wrapped }
            if !ps.owned then refuseVol q v 297 0 s
            else answerChange q p (scopeVol v) (.addVol cv) (setVolResult v 0 s)
  | _, _ => refuseVol q v 24 0 s

def volCreateEff (q : Req) (v : Nat) (s : Part) : Part :=
  keepWritten (0xA000 + v) 0x0A 1 <| checked q roleCustodian (some (scopeVol v)) (createVol q v) s

/-- R27, R218: VOL_COMMIT 1 creates the volume. -/
def execVolCreate (q : Req) (v : VolId) (s : State) : Answer := .next (s.onPart (volCreateEff q v.val))

def growVol (q : Req) (v : Nat) (s : Part) : Part :=
  let size := s.objNum (0xA000 + v) 8
  match s.volHome v with
  | none => refuseVol q v 24 0 s
  | some ps =>
    match ps.latest.vols.find? (fun x => x.id == v) with
    | none => refuseVol q v 24 0 s
    | some cv =>
      let c := ps.latest
      let end_ := cv.base + allocBlocks c.shape size
      if end_ > c.shape.stripeCount * c.shape.kb ||
          c.vols.any (fun x => x.id != v && decide (cv.base < x.base) && decide (x.base < end_)) then refuseVol q v 27 5 s
      else if size < cv.size then refuseVol q v 27 6 s
      else if ps.latest.cross.isSome then refuseVol q v 168 0 s
      else if !ps.owned then refuseVol q v 297 0 s
      else answerChange q ps.id (scopeVol v) (.growVol v size) (setVolResult v 0 s)

def volGrowEff (q : Req) (v : Nat) (s : Part) : Part :=
  keepWritten (0xA000 + v) 0x0A 2 <| checked q roleCustodian (some (scopeVol v)) (growVol q v) s

/-- R27: VOL_COMMIT 2 grows the volume into free space that directly follows it. -/
def execVolGrow (q : Req) (v : VolId) (s : State) : Answer := .next (s.onPart (volGrowEff q v.val))

def deleteVol (q : Req) (v : Nat) (s : Part) : Part :=
  match s.volHome v with
  | none => refuseVol q v 29 0 s
  | some ps =>
    if !ps.latest.vols.any (fun x => x.id == v) then refuseVol q v 29 0 s
    else if ps.latest.cross.isSome then refuseVol q v 168 0 s
    else if !ps.owned then refuseVol q v 297 0 s
    else
      answerChange q ps.id (scopeVol v) (.delVol v)
        ((setVolResult v 0 s).modVol v (fun x => { x with life := 2 }))

def volDeleteEff (q : Req) (v : Nat) (s : Part) : Part :=
  keepWritten (0xA000 + v) 0x0A 3 <| checked q roleCustodian (some (scopeVol v)) (deleteVol q v) s

/-- R29, R221: VOL_COMMIT 3 deletes the volume: its entry leaves the charter, its slot is zeroised. -/
def execVolDelete (q : Req) (v : VolId) (s : State) : Answer := .next (s.onPart (volDeleteEff q v.val))

end Sys2Proof.Machine
end

