-- ==== Sys2Proof/Machine/RecoveryOps.lean ====
section
/-! DEFINITION. Recovery of a pool (05_manifest_recovery: R112, R116–R122): from the protected region, from the twin's shadow,
from the checkpoints alone; the end of a stall; the member states a loaded generation gives (R193), what a lost rebuild record
leaves (R157, R161), the cursor a Crossing resumes from (R174). -/

namespace Sys2Proof.Machine

/-! ### Checkpoints found on the members (R112) -/

/-- Members of a charter, by ordinal, whose structures can be read. -/
def homeMember (s : Part) (c : Charter) (o : Nat) : Option MemberSt :=
  let k := c.idAt o
  if s.serves k then s.member? k else none

def foundCkpts (s : Part) (c : Charter) : List CkptImage :=
  (List.range c.members.length).flatMap (fun o => ((homeMember s c o).map (·.ckpts)).getD [])

/-- It is a checkpoint of this pool and at least two of the homes it names hold it. -/
def ckptValid (s : Part) (c : Charter) (i : CkptImage) : Bool :=
  decide (i.poolUuid = c.uuid) && decide (2 ≤ (i.homes.filter (fun o => ((homeMember s c o).map (fun m => m.ckpts.any (fun x => decide (x = i)))).getD false)).length)

/-- The highest valid checkpoint. -/
def highestCkpt (s : Part) (c : Charter) : Option CkptImage :=
  ((foundCkpts s c).filter (ckptValid s c)).foldl (fun best i => match best with
    | none => some i
    | some b => if b.seq < i.seq then some i else best) none

/-- Its extensions found on a home of it. -/
def extsOf (s : Part) (c : Charter) (i : CkptImage) : List ExtImage :=
  (i.homes.flatMap (fun o => ((homeMember s c o).map (fun m => m.exts.filter (fun e => e.baseSeq == i.seq && decide (e.poolUuid = c.uuid)))).getD [])).eraseDups

/-- The intent set that a checkpoint with its extensions names (R112). -/
def intentOf (i : CkptImage) (exts : List ExtImage) : List Nat := sortNats (i.intent ++ exts.flatMap (·.intent)).eraseDups

/-- The lost-block table slot that goes with checkpoint `seq` (R147): the one written with it, else the newest older one, on any
of the homes. -/
def lostSlotOf (s : Part) (c : Charter) (seq : Nat) (homes : List Nat) : Option LostImage :=
  (homes.flatMap (fun o => ((homeMember s c o).map (fun m =>
    m.lostSlots.filter (fun x => decide (x.poolUuid = c.uuid) && decide (x.seq ≤ seq)))).getD [])).foldl (fun best i => match best with
      | none => some i
      | some b => if b.seq < i.seq then some i else best) none

/-- H of R120 over the members of a charter. -/
def highestTide (s : Part) (c : Charter) : Nat :=
  (List.range c.members.length).foldl (fun h o =>
    match homeMember s c o with
    | some m => max h (max ((m.ckpts.map (·.tide)).foldl max 0) ((m.exts.map (·.tide)).foldl max 0))
    | none => h) 0

/-! ### What a restart does to a pool's records -/

/-- The states the loaded generation gives its members (R193). -/
def loadStates (p : Nat) (s : Part) : Part :=
  match s.charter? p with
  | none => s
  | some c =>
    c.members.foldl (fun st m =>
      let new := if m.state = 0 then 1 else m.state
      st.modMember m.id (fun x => if x.state = 0 ∨ x.state = 0xFE then x else
        { x with state := new, suspectEnd := if new = 3 then some s.suspectUntil else x.suspectEnd
                 presentAt := if new = 1 then s.timeUs else x.presentAt })) s

/-- The rebuild of the relocated ordinals goes on from the record `done`, in groups whose stale bits are not known (R157,
R161). -/
def resumeRebuild (done : List (Nat × Nat)) (p : Nat) (s : Part) : Part :=
  match s.charter? p with
  | none => s
  | some c =>
    let reloc := (List.range c.members.length).filter (fun o => ((c.members[o]?).map (fun m => relocState m.state)).getD false)
    reloc.foldl (fun st o => startRebuild p c o st)
      (modReb p (fun r => { r with
        rebuilt := done.filter (fun x => reloc.contains x.1), writing := [], stale := [], staleAll := reloc
        copyback := [], started := [] }) s)

/-- The rebuild record and the stale map are lost (R157, R161): relocated ordinals rebuild from their first group. -/
def loseRebuildRecord (p : Nat) (s : Part) : Part := resumeRebuild [] p s

/-- A Crossing resumes from its committed cursor (R174). -/
def resumeCrossing (p : Nat) (s : Part) : Part :=
  match s.charter? p with
  | none => s
  | some c =>
    match c.cross with
    | none => s
    | some x =>
      let left := x.volumes ++ (if x.curVolume = 0xFFFF then [] else [x.curVolume])
      let past := (c.vols.map (·.id)).filter (fun v => !left.contains v)
      loadRekey p c (s.modPool p (fun y => { y with cross := { y.cross with
        live := x.cursor, stepLeft := [], crossed := if x.isShape then past else y.cross.crossed
        state := if x.stage = 1 then 4 else if y.cross.state = 0 then 1 else y.cross.state } }))

/-- A pool's part of the Manifest and of the held blocks goes. -/
def clearPoolManifest (p : Nat) (s : Part) : Part :=
  s.modMan (fun m => { m with entries := m.entries.filter (fun e => e.pool != p), held := m.held.filter (fun b => b.pool != p) })

/-- POOL_LAST_RECOVERY. -/
def sourceUsed (p source : Nat) (s : Part) : Part := s.modPool p (fun x => { x with int := { x.int with lastRecovery := source } })

/-- A recovery that reconciles nothing: its record and POOL_LAST_RECOVERY. -/
def recovered (p source tide destaged : Nat) (s : Part) : Part :=
  recoveryRecord p source tide destaged 0 0 (sourceUsed p source s)

/-- The lost-block table after a restart (R149): from its slot, and then, by the survey, from the markers in the stripes of the
intent set in force. -/
def loadTable (p : Nat) (s : Part) : Part :=
  match s.pool? p with
  | none => s
  | some ps =>
    refreshLostState p (s.modPool p (fun x => { x with int := { x.int with
      lost := ((lostSlotOf s ps.charter ps.ckpt.seq ps.ckpt.homes).map (·.entries)).getD x.int.lost, survey := ps.ckpt.intent } }))

/-- The checkpoint in force with its extensions, as the members hold them (R112); with none valid nothing is in force, and
numbers go on above every one found. -/
def loadHomes (p : Nat) (s : Part) : Part :=
  match s.pool? p with
  | none => s
  | some ps =>
    let c := ps.charter
    let none_ : CkptSt := { ps.ckpt with
      seq := ((foundCkpts s c).map (·.seq)).foldl max 0, homes := [], lostHomes := [], intent := [], extSeq := 0, build := none
      extBuild := none, extReported := [], inForce := none, exts := [], ready := [], due := [], moved := [], tide := 0
      destagedTide := 0 }
    let ckpt := match highestCkpt s c with
      | none => none_
      | some i =>
        let exts := extsOf s c i
        { none_ with
          seq := i.seq, homes := i.homes, intent := intentOf i exts, extSeq := (exts.map (·.seq)).foldl max 0
          inForce := (lostSlotOf s c i.seq i.homes).map (fun t => (i, t)), exts := exts, tide := i.tide
          destagedTide := i.destagedTide }
    loadTable p (s.modPool p (fun x => { x with ckpt := ckpt }))

/-- Homes of the checkpoint in force that cannot be reached are lost (R114). -/
def checkHomes (p : Nat) (s : Part) : Part :=
  match s.pool? p with
  | none => s
  | some ps => (ps.ckpt.homes.filter (fun o => (homeMember s ps.charter o).isNone)).foldl (fun st o => loseHome p o st) s

/-! ### From the checkpoints alone -/

/-- R120: the tide counter resumes at H + 2^24. -/
def resumeTide (h : Nat) (s : Part) : Part := s.modSched (fun x => { x with tideNow := max x.tideNow (h + 2 ^ 24) })

/-- A pool recovers from its checkpoints (R119, R120): every stripe of the intent set awaits reconciliation. -/
def recoverFromCheckpoints (p : Nat) (s : Part) : Part :=
  let s := loadHomes p (clearPoolManifest p s)
  match s.pool? p with
  | none => s
  | some ps =>
    let s := sourceUsed p 3 (resumeTide (highestTide s ps.charter) s)
    let s := s.modPool p (fun x => { x with int := { x.int with reconcile := x.ckpt.intent, reconDone := 0, reconLost := 0 } })
    reconcileEnds p (checkHomes p (s.setMark p s.sealedThrough))

/-! ### Replay -/

/-- What a replay by fill writes (R118): every held data strip and every check, at the offsets the held blocks span; `none` when a
strip that it must read cannot be. -/
def fillPlan (s : Part) (p : PoolSt) (g : Geo) (bad : BadReads) (stripe : Nat) (new : List (Nat × Nat × Block)) :
    Option (List (Nat × Nat × Block)) :=
  if g.mirror then some (new.flatMap (fun x => (List.range g.w).map (fun c => (c, x.2.1, x.2.2))))
  else
    (spanOf new).foldl (fun acc bo =>
      let data := (List.range g.h.k).map (fun i =>
        match newAt new i bo with
        | some b => some (codedUnit g.fmt b)
        | none => (readStrip s p g bad stripe bo i).unit? g.fmt)
      match acc with
      | some w =>
        if data.all Option.isSome then
          some (w ++ (wholeOffset g bo (data.filterMap id) new).filter (fun x => g.isCheck x.1 || (newAt new x.1 bo).isSome))
        else none
      | none => none) (some [])

/-- A stripe replayed by fill (R118); with a strip missing that fill must read, the stripe stalls. -/
def replayByFill (p stripe : Nat) (bad : BadReads) (fails : Nat) (s : Part) : Part :=
  match s.pool? p with
  | none => s
  | some ps =>
    let g := ps.charter.geoOf stripe
    let snap := snapshot s p stripe
    match fillPlan s ps g bad stripe (newestOf snap) with
    | some [] => settleEntry p stripe (s.modEntry p stripe (fun e => { e.resting (s.heldOf p stripe) with state := .held }))
    | some writes =>
      stageEncoded p stripe g.mirror fails writes (s.modEntry p stripe (fun e => { e with
        rmw := false, chkOut := true, cls := destageClass s p, genLo := ps.charter.gen % 65536, replay := true, stalledAt := none
        snap := snap.map (fun b => (b.strip, b.bo, b.gen)) }))
    | none => stallStripe p stripe s

/-- An entry is written again from the held blocks and the staged checks (R117 steps 3 and 4), once the set in force and the
twin allow it (R104, R107). -/
def rewriteEntry (p stripe : Nat) (s : Part) : Part :=
  promote p stripe (needIntent p stripe (s.modEntry p stripe (fun e => { e with
    built := true, replay := true, left := [], places := [], done := [] })))

/-- A THROUGH entry whose staged data is gone (R117 step 4): its blocks go, and the stripe is reconciled as R119 does. -/
def reconcileThrough (p stripe : Nat) (s : Part) : Part :=
  let s := s.modMan (fun m => { m with held := m.held.filter (fun b => !(b.pool == p && b.stripe == stripe && b.through)) })
  let rest := s.heldOf p stripe
  (reconcileStripe p [] stripe (if rest.isEmpty then dropEntry p stripe s else s.modEntry p stripe (fun e => e.resting rest))).2

/-- Replay of one entry of the protected region (R117 steps 3 to 5). `kept` says the staged data outside the region was
kept: a warm reset or activation; a restored image has lost it. -/
def replayEntry (kept : Bool) (e : MEntry) (s : Part) : Part :=
  match e.state with
  | .writing =>
    if e.built then s
    else if e.chkOut && !kept then replayByFill e.pool e.stripe [] 0 s
    else rewriteEntry e.pool e.stripe s
  | .through =>
    if kept then
      if e.left.isEmpty then s else rewriteEntry e.pool e.stripe s
    else reconcileThrough e.pool e.stripe s
  | .held => if kept || e.stuck then s else s.modEntry e.pool e.stripe (fun x => x.resting (s.heldOf e.pool e.stripe))
  | .stalled => s

def replayPool (kept : Bool) (p : Nat) (s : Part) : Part :=
  (s.man.entries.filter (fun e => e.pool == p)).foldl (fun st e => replayEntry kept e st) s

/-- R117 steps 1 and 2 on a restored region: blocks and entry changes of tides beyond the mark and transactions without a commit
record in a kept tide go; committed ones apply whole. -/
def keepSealed (p : Nat) (commits : List (Nat × Nat × Nat)) (s : Part) : Part :=
  let n := min s.sealedThrough (s.mark p)
  let kept (b : Held) : Bool :=
    b.pool != p || (decide (b.tide ≤ n) && (match b.tx with
      | some t => commits.any (fun c => c.1 == t.1 && c.2.1 == t.2 && decide (c.2.2 ≤ n))
      | none => true))
  let gone := s.man.held.filter (fun b => !kept b)
  let s := s.modMan (fun m => { m with held := (m.held.filter kept).map (fun b =>
    if b.pool = p then { b with tx := none, chain := 65536 } else b) })
  let undone := s.man.entries.filter (fun e => e.pool == p && e.state == .writing && decide (n < e.readyTide))
  settleEntries gone (undone.foldl (fun st e => settleEntry p e.stripe
    (st.modEntry p e.stripe (fun x => { x.resting (st.heldOf p e.stripe) with state := .held }))) s)

/-- A pool recovers from the protected region restored from a dump (R116, R117). -/
def recoverFromRegion (p : Nat) (commits : List (Nat × Nat × Nat)) (s : Part) : Part :=
  let s := loadHomes p (keepSealed p commits s)
  let n := min s.sealedThrough (s.mark p)
  checkHomes p (recovered p 1 n s.man.destagedTide (replayPool false p s))

/-- The blocks of a shadow become held blocks of the pool, and its rebuild record the pool's own (R118, R153, R157): blocks of
unconfirmed tides and of transactions without a confirmed commit are discarded. -/
def adoptShadow (ps : PoolSt) (s : Part) : Part :=
  let own (b : MirrorBlock) : Held :=
    { pool := ps.id, stripe := b.stripe, strip := b.strip, bo := b.bo, vol := b.vol, lba := b.lba, gen := b.gen, tide := b.tide
      block := b.block, tx := none, through := false, chain := 65536, hseq := 0, weak := false }
  let l := (ps.pair.shadow.filter (fun b => decide (b.tide ≤ ps.pair.shadowTide) && b.tx.isNone)).map own
  let s := s.modMan (fun m => { m with held := m.held ++ l })
  let stripes := (l.map (·.stripe)).eraseDups
  let s := stripes.foldl (fun st x => (addEntry ps.id x .held st).modEntry ps.id x (fun e => { e with
    mask := heldStrips (st.heldOf ps.id x)
    firstTide := ((st.heldOf ps.id x).map (·.tide)).foldl min st.sched.tideNow % 2 ^ 48 })) s
  resumeRebuild ps.pair.shadowRebuilt ps.id
    (s.modPool ps.id (fun x => { x with pair := x.pair.dropShadow }))

/-- The shadow of a pool is taken over (R118): the stripes the owner may have begun to write are replayed by fill. -/
def takeShadow (ps : PoolSt) (s : Part) : Part :=
  ps.pair.shadowWriting.foldl (fun st x => replayByFill ps.id x [] 0 (addEntry ps.id x .held st))
    (adoptShadow ps (clearPoolManifest ps.id s))

/-- A pool recovers from this unit's shadow of the twin (R116, R118). -/
def recoverFromShadow (p : Nat) (s : Part) : Part :=
  match s.pool? p with
  | none => s
  | some ps => recovered p 2 ps.pair.shadowTide s.man.destagedTide (takeShadow ps s)

/-! ### The end of a stall (R104, R121, R122) -/

/-- The strips that a stripe lacked have returned: it is replayed by fill with what is held, or reconciled, and its entry leaves
STALLED. -/
def resumeStripe (p stripe : Nat) (bad : BadReads) (fails : Nat) (s : Part) : Part :=
  match s.pool? p with
  | none => s
  | some ps =>
    let g := ps.charter.geoOf stripe
    if !ps.owned || s.sched.frozen || s.dump.state = 3 then s
    else if (s.heldOf p stripe).isEmpty then
      if reconcileBlocked s ps g stripe then s else (reconcileStripe p bad stripe (dropEntry p stripe s)).2
    else if (!g.mirror && s.pipes.isEmpty) || (fillPlan s ps g bad stripe (newestOf (snapshot s p stripe))).isNone then s
    else
      replayByFill p stripe bad fails (s.modEntry p stripe (fun e => { e.resting (s.heldOf p stripe) with state := idleState s p stripe }))

def destageRetryEff (p stripe : Nat) (bad : BadReads) (fails : Nat) (s : Part) : Part :=
  match s.entry? p stripe with
  | some e => if e.stuck then resumeStripe p stripe bad fails s else destage true p stripe bad fails s
  | none => s

/-- R85, R121, R122: a stripe held for a missing strip is tried again. -/
def execDestageRetry (p : PoolId) (stripe : Nat) (x : StepFaults) (s : State) : Answer :=
  .next (s.onPart (destageRetryEff p.val stripe x.bad x.encodeFails))

end Sys2Proof.Machine
end

