-- ==== Sys2Proof/Machine/Hawser.lean ====
section
/-! DEFINITION. Meanings of the pairing commands (12: R292–R314): forming a pair, its two paths, release, self-fence, the
contest and the take-over, restart, hand-over, pair-wide changes, the standby's probes. -/

namespace Sys2Proof.Machine

/-! ### Forming a pair (R292, R293, R295, R301) -/

def pairPartnerUuidEff (q : Req) (uuid : Bytes) (s : Part) : Part :=
  checked q roleCustodian none (fun s =>
    if uuid.length ≠ 16 then refuse q stTypeLen 0 s
    else if !s.pairedPools.isEmpty then refuseRule q 292 0 s
    else ok q (orderUp .x (s.setObjBlob 0x2500 1 uuid))) s

/-- R292: a Custodian names the partner. -/
def execPairPartnerUuid (q : Req) (uuid : Bytes) (s : State) : Answer := .next (s.onPart (pairPartnerUuidEff q uuid))

/-- HAWSER_WIDTH and HAWSER_NARROW (R301, Table 12.7); each change is recorded. -/
def setHawserWidth (w : Nat) (s : Part) : Part :=
  if s.pair.width = w then s
  else
    noted 17 301 1 (leBytes 1 w) (s.modPair (fun x => { x with
      width := w, health := if 0 < w ∧ w < 16 then x.health ||| 1 else x.health &&& ~~~ 1 }))

/-- The unit with the lower DEVICE_UUID leads (R292 step 4). -/
def leads (own peer : Bytes) : Bool := decide (ofBe own < ofBe peer)

def zeroUuid : Bytes := List.replicate 16 0

/-- PAIR_UUID of a pair that forms: kept, or drawn by the leader at the first pairing (R292 step 4). -/
def settleUuid (lead : Bool) (peer : PeerIdent) (s : Part) : Part :=
  if s.pair.uuid ≠ zeroUuid then s
  else if lead then
    let (u, s) := s.draw 16
    s.modPair (fun x => { x with uuid := u })
  else s.modPair (fun x => { x with uuid := peer.pairUuid })

/-- The pools of units that are together again: the owner's pools sync, the standby's shadows start anew (R295, R303). -/
def syncPools (s : Part) : Part :=
  let s := s.standbyPools.foldl (fun st p => registerOn p.id (modPoolPair p.id (fun x => { x.dropShadow with state := 1, coverage := 1 }) st)) s
  s.ownPaired.foldl (fun st p => registerOn p.id (beginSync p.id st)) s

def pairFormEff (peer : PeerIdent) (s : Part) : Part :=
  if 2 ≤ s.pair.state then s
  else if s.objBlob 0x2500 1 ≠ peer.uuid then noted 17 292 2 (leBytes 1 1) (s.modPair (fun x => { x with state := 0 }))
  else if peer.revision ≠ 1 then noted 17 292 2 (leBytes 1 2) (s.modPair (fun x => { x with state := 0 }))
  else
    let lead := leads deviceUuid peer.uuid
    let s := settleUuid lead peer s
    let s := setHawserWidth peer.width s
    let s := s.modSched (fun x => { x with tideNow := max x.tideNow peer.tide + 1 })
    let s := changePaths (fun x => { x with
      state := 2, role := b2n lead, peer := some peer, path1Lost := false, txIdle := false, missed := 0, declared := none }) s
    refreshProtection (syncPools (useIsland .x s))

/-- R292: the Hawser trains and the units form their pair, or this unit refuses and records why. -/
def execPairForm (peer : PeerIdent) (s : State) : Answer := .next (s.onPart (pairFormEff peer))

/-- R295: the twin confirms the sync tide: the owner's pool reads PAIRED; a standby that confirmed it has a COMPLETE
shadow (R313). -/
def syncConfirmedEff (p : Nat) (s : Part) : Part :=
  match s.pool? p with
  | none => s
  | some ps =>
    if ps.pair.state ≠ 1 ∨ s.pair.path1Lost then s
    else if ps.pair.owner = 0 then
      match ps.pair.syncTide with
      | none => s
      | some t =>
        refreshProtection ((s.setMark p t).modPool p (fun x => { x with pair := { x.pair with
          state := 2, syncTide := none, failbackAt := some (s.timeUs + sec (s.objNum 0x2500 0x0A)), lagZero := 0 } }))
    else
      modPoolPair p (fun x => { x with state := 2, coverage := 2, shadowTide := max x.shadowTide (s.sched.tideNow - 1) }) s

def execSyncConfirmed (p : PoolId) (s : State) : Answer := .next (s.onPart (syncConfirmedEff p.val))

def hawserRetrainEff (w : Nat) (s : Part) : Part :=
  if w = 4 ∨ w = 8 ∨ w = 16 then setHawserWidth w (s.modPair (fun x => { x with txIdle := false })) else s

/-- R301: the Hawser trains at a width. -/
def execHawserRetrain (width : Nat) (s : State) : Answer := .next (s.onPart (hawserRetrainEff width))

/-! ### The contest (R304–R308) -/

/-- What the standby knows of the owner's checkpoint in force (R299): the newest valid one on the members. -/
def knownCkpt (s : Part) (ps : PoolSt) : Option CkptImage := highestCkpt s ps.charter

/-- The three homes contested, as ordinals. -/
def contestHomes (s : Part) (ps : PoolSt) : List Nat :=
  if ps.pair.owner = 0 then ps.ckpt.homes else ((knownCkpt s ps).map (·.homes)).getD ps.ckpt.homes

/-- A contest begins: the other unit's key is preempted on the three homes in parallel (R305). -/
def beginContest (p : Nat) (s : Part) : Part :=
  match s.pool? p with
  | none => s
  | some ps =>
    let s := modPoolPair p (fun x => { x with contest := some { declTide := s.pair.declared.getD s.sched.tideNow, won := [], lost := [] } }) s
    (contestHomes s ps).foldl (fun st o => emit (.preempt p (ps.charter.idAt o)) st) s

/-- The pool may be contested: the standby holds its complete shadow and the twin announced no sleep, or the owner fenced
itself (R303, R304, R321). -/
def mayContest (s : Part) (ps : PoolSt) : Bool :=
  ps.isPaired && s.pair.declared.isSome && ps.pair.contest.isNone && !s.pair.sleepAnnounced.contains ps.id &&
    ((ps.pair.owner == 1 && ps.pair.coverage == 2) || (ps.pair.owner == 0 && ps.pair.state == 4))

def contestEff (p : Nat) (s : Part) : Part :=
  match s.pool? p with
  | none => s
  | some ps => if s.pair.path1Lost && s.pair.path2Lost && mayContest s ps then beginContest p s else s

/-- R305: a contest, also the one tried again 1 s after another was given up. -/
def execContest (p : PoolId) (s : State) : Answer := .next (s.onPart (contestEff p.val))

/-- The units are together and no pool is contested or fenced: the declaration is over and the pools sync (R304). -/
def joinAgain (s : Part) : Part :=
  if s.pair.path1Lost ∨ s.pair.declared.isNone ∨ s.pools.any (fun p => p.pair.contest.isSome || p.pair.state == 4 || p.pair.gap) then s
  else refreshProtection (syncPools (s.modPair (fun x => { x with declared := none })))

/-- The declaration (R304): the twin has failed. Pools of an announced sleep are released (R321); every pool with a complete
shadow is contested at once. -/
def declareFailed (s : Part) : Part :=
  if s.pair.declared.isSome then s
  else
    let s := s.modPair (fun x => { x with declared := some s.sched.tideNow })
    let s := (s.ownPaired.filter (fun p => s.pair.sleepAnnounced.contains p.id)).foldl (fun st p => releasePool p.id st) s
    let s := (s.standbyPools.filter (mayContest s)).foldl (fun st p => beginContest p.id st) s
    releaseAcks (refreshProtection s)

/-- Both paths of a formed pair are lost. -/
def ifSevered (s : Part) : Part := if s.pair.state = 4 then declareFailed s else s

/-- Sessions of the twin relay end with path 1 (R352). -/
def endRelayed (s : Part) : Part := endSessionsWhere (fun x => decide (x.transport = .twin)) s

def path1LostEff (s : Part) : Part :=
  if s.pair.path1Lost ∨ s.pair.state < 2 then s
  else ifSevered (setHawserWidth 0 (changePaths (fun x => { x with path1Lost := true, txIdle := true, missed := 0 }) (endRelayed s)))

/-- R302: 50 boundaries without a frame of the twin. -/
def execPath1Lost (s : State) : Answer := .next (s.onPart path1LostEff)

def path2LostEff (s : Part) : Part :=
  if s.pair.path2Lost then s else ifSevered (changePaths (fun x => { x with path2Lost := true, relReceived := false }) s)

/-- R302, R304: 3 ms without a heartbeat edge; with path 1 lost as well, the twin is declared failed. -/
def execPath2Lost (s : State) : Answer := .next (s.onPart path2LostEff)

/-- RELEASE is recognised (R303): the owner's paired pools run RELEASED, their fence ends, held acknowledgements go out. -/
def onRelease (s : Part) : Part :=
  let s := changePaths (fun x => { x with relReceived := true }) s
  let s := (s.ownPaired.filter (fun p => [1, 2, 4].contains p.pair.state)).foldl (fun st p => releasePool p.id st) s
  releaseAcks (refreshProtection s)

def releaseReceivedEff (s : Part) : Part := if s.pair.path2Lost ∨ s.pair.state < 2 then s else onRelease s

/-- R303: an owner recognises RELEASE on path 2. -/
def execReleaseReceived (s : State) : Answer := .next (s.onPart releaseReceivedEff)

def path2ReturnEff (code : BeatCode) (s : Part) : Part :=
  let s := changePaths (fun x => { x with path2Lost := false, relReceived := false }) s
  match code with
  | .run => s
  | .release => releaseReceivedEff s

/-- R302: edges resume on path 2 and a code is recognised. -/
def execPath2Return (code : BeatCode) (s : State) : Answer := .next (s.onPart (path2ReturnEff code))

def releaseTimeoutEff (s : Part) : Part :=
  if !s.pair.path1Lost || s.pair.path2Lost || decide (s.pair.state < 2) then s
  else
    refreshProtection (s.standbyPools.foldl (fun st p => modPoolPair p.id PoolPairSt.dropShadow st)
      (s.modPair (fun x => { x with driveRelease := true })))

/-- R303: path 1 stayed lost for RELEASE_AFTER_MS: the standby drops its shadows and drives RELEASE. -/
def execReleaseTimeout (s : State) : Answer := .next (s.onPart releaseTimeoutEff)

/-- Blocks of a pool held of a tide, as its seal sent again names them. -/
def heldIn (s : Part) (p t : Nat) : Nat := (s.man.held.filter (fun b => b.pool == p && !b.through && b.tide == t)).length

/-- The tides of a pool the twin has not confirmed are sent again, with the news their seals carried (R303). -/
def resendTides (p : Nat) (s : Part) : Part :=
  let m := s.mark p
  let s := (s.man.held.filter (fun b => b.pool == p && !b.through && decide (m < b.tide))).foldl
    (fun st b => emit (.hawserBlock p b.mirror) st) s
  ((s.man.seals.reverse.filter (fun x => decide (m < x.tide) && !x.confirmed)).map (·.tide)).foldl
    (fun st t => emit (.hawserSeal t [(p, heldIn s p t)] ((alGet t s.man.sentNews).getD [])) st) s

/-- Path 1 returns for a pool this unit owns: PAIRED carries on, a fence ends, RELEASED syncs; a declared contest goes on. -/
def path1ReturnsFor (p : PoolSt) (s : Part) : Part :=
  if p.pair.contest.isSome || p.pair.gap then s
  else if p.pair.state = 2 then resendTides p.id s
  else if p.pair.state = 4 then
    if s.pair.declared.isSome then s else resendTides p.id (modPoolPair p.id (fun x => { x with state := 2 }) s)
  else registerOn p.id (beginSync p.id s)

/-- A standby whose shadow was dropped starts it anew; one that kept it goes on. -/
def standbyReturns (p : PoolSt) (s : Part) : Part :=
  if p.pair.contest.isSome ∨ p.pair.coverage = 2 then s
  else registerOn p.id (modPoolPair p.id (fun x => { x.dropShadow with state := 1, coverage := 1 }) s)

def path1ReturnEff (tide : Nat) (s : Part) : Part :=
  if !s.pair.path1Lost || decide (s.pair.state < 2) then s
  else
    let s := s.modSched (fun x => { x with tideNow := max x.tideNow tide + 1 })
    let s := changePaths (fun x => { x with
      path1Lost := false, txIdle := false, missed := 0, driveRelease := false, relReceived := false, sleepAnnounced := [] }) s
    let s := s.standbyPools.foldl (fun st p => standbyReturns p st) s
    let s := s.ownPaired.foldl (fun st p => path1ReturnsFor p st) s
    refreshProtection (joinAgain s)

/-- R293, R303: path 1 returns; the units go on from the higher of their tide numbers plus one. -/
def execPath1Return (tide : Nat) (s : State) : Answer := .next (s.onPart (path1ReturnEff tide))

/-- An owner fences its paired pools (R304). -/
def selfFence (s : Part) : Part :=
  (s.ownPaired.filter (fun p => p.pair.state == 2)).foldl (fun st p => modPoolPair p.id (fun x => { x with state := 4 }) st) s

/-- R304: 2 ms after path 1 was lost. -/
def execSelfFence (s : State) : Answer := .next (s.onPart (fun s => if s.pair.path1Lost then selfFence s else s))

def reclaimDelayEff (p : Nat) (s : Part) : Part :=
  match s.pool? p with
  | none => s
  | some ps => if ps.pair.owner = 0 ∧ mayContest s ps then beginContest p s else s

/-- R304: RECLAIM_DELAY_MS passed: the owner contests its own pool. -/
def execReclaimDelay (p : PoolId) (s : State) : Answer := .next (s.onPart (reclaimDelayEff p.val))

/-- The CONTEST record (Table 16.3). -/
def logContest (p how declTide : Nat) (s : Part) : Part := log 0x1102 p (leBytes 1 how ++ leBytes 8 declTide) s

/-- Members a winner fences: all but the homes it won, those outside service left out (R306). -/
def toFence (s : Part) (c : Charter) (won : List Nat) : List Nat :=
  ((c.members.map (·.id)).filter (fun k => !won.contains k)).filter (fun k =>
    match s.member? k with
    | some m => m.state != 0 && m.state != 4
    | none => false)

/-- What the standby knows of the structures on the members (R299, R308): the checkpoint in force with its table, and the old
intent set: that of the members, of every announced extension, of every stripe with an entry begun. -/
def ownKnown (ps : PoolSt) (s : Part) : Part :=
  (loadHomes ps.id s).modPool ps.id (fun x => { x with pair := { x.pair with
    oldIntent := sortNats (x.ckpt.intent ++ ps.pair.announcedExt ++ ps.pair.shadowWriting).eraseDups } })

/-- What a new owner takes from the old one (R308): the old intent set, the checkpoint sequence, its shadow. -/
def takeOver (ps : PoolSt) (s : Part) : Part :=
  if ps.pair.owner = 0 then s
  else
    let s := (ownKnown ps s).modPool ps.id (fun x => { x with pair := { x.pair with owner := 0 } })
    recoverFromShadow ps.id s

/-- A contest is won (R305, R306, R308): the pool is owned, its mark follows the seals, the other members are fenced, lost
homes are preempted again; host commands wait for the end of the switch-over gap. -/
def winContest (ps : PoolSt) (x : ContestSt) (s : Part) : Part :=
  let homes := contestHomes s ps
  let ids (l : List Nat) : List Nat := l.map (fun h => ps.charter.idAt (homes.getD h 0))
  let s := s.modPair (fun y => { y with takeovers := y.takeovers + 1 })
  let s := logContest ps.id 0 x.declTide s
  let won := ids x.won
  let left := toFence s ps.charter won
  let s := won.foldl (fun st k => st.modMember k (fun m => { m with registered := true, fenced := true })) s
  let s := modPoolPair ps.id (fun y => { y with
    state := 3, contest := none, fenceLeft := left, gap := true, failbackAt := none, lagZero := 0 }) s
  let s := takeOver ps s
  let s := left.foldl (fun st k => enqueueCmd k .fence 0 false false 0 0 st) s
  let s := (ids x.lost).foldl (fun st k => emit (.preempt ps.id k) (st.modMember k (fun m => { m with registered := true }))) s
  refreshProtection (advanceReleased ps.id s)

/-- Admitted writes of a pool and placed commits that no confirmation reached (R305). -/
def admittedOf (s : Part) (p : Nat) : List (Nat × Cmd) :=
  (s.chains.flatMap (fun ch => ch.cmds.map (fun x => (ch.id, x)))).filter (fun cx =>
    [CmdPhase.admitted, .landed, .through].contains cx.2.phase && [2, 4, 6].contains (dOpcode cx.2.desc) &&
      decide (s.ackPool cx.1 cx.2 = some p))

/-- A contest is lost (R305): STANDBY_LOST, this unit's copy goes, admitted writes of unconfirmed tides end with NO_PROTECT;
other commands stay held. -/
def loseContest (ps : PoolSt) (x : ContestSt) (s : Part) : Part :=
  let s := logContest ps.id 1 x.declTide s
  let s := poolTxsLose ps.id s
  let s := (admittedOf s ps.id).foldl (fun st cx => complete cx.1 cx.2.hseq 0x41 0 st) s
  let s := clearPoolManifest ps.id s
  refreshProtection (modPoolPair ps.id (fun y => { y.dropShadow with
    owner := 1, state := 5, contest := none, fenceLeft := [], gap := false }) s)

def preemptResultEff (p home : Nat) (a : PreemptAnswer) (s : Part) : Part :=
  match s.pool? p with
  | none => s
  | some ps =>
    match ps.pair.contest with
    | none => s
    | some x =>
      if x.won.contains home || x.lost.contains home then s
      else
        let x := match a with
          | .success => { x with won := x.won ++ [home] }
          | .conflict => { x with lost := x.lost ++ [home] }
        if 2 ≤ x.won.length then joinAgain (winContest ps x s)
        else if 2 ≤ x.lost.length then joinAgain (loseContest ps x s)
        else modPoolPair p (fun y => { y with contest := some x }) s

/-- R305: a home answers a preempt: two successes win the contest, two conflicts lose it. -/
def execPreemptResult (p : PoolId) (home : Fin 3) (a : PreemptAnswer) (s : State) : Answer :=
  .next (s.onPart (preemptResultEff p.val home.val a))

def contestGiveUpEff (p : Nat) (s : Part) : Part :=
  match (s.pool? p).bind (fun ps => ps.pair.contest) with
  | none => s
  | some x => logContest p 2 x.declTide (modPoolPair p (fun y => { y with contest := none }) s)

/-- R305: 64 ms without a decision. -/
def execContestGiveUp (p : PoolId) (s : State) : Answer := .next (s.onPart (contestGiveUpEff p.val))

/-- A member not fenced in time is treated as one whose command timed out (R205, R306); one that is out of service needs no
fence. -/
def memberFenceTimeoutEff (p k : Nat) (s : Part) : Part :=
  match s.pool? p, s.member? k with
  | some ps, some m =>
    if !ps.pair.fenceLeft.contains k then s
    else if m.state = 0 ∨ m.state = 4 then
      modPoolPair p (fun y => { y with fenceLeft := y.fenceLeft.filter (fun x => x != k) }) s
    else
      let id := (((m.outstanding ++ m.waiting).find? (fun c => decide (c.op = .fence))).map (·.id)).getD m.nextTag
      timeOutCmd k id s
  | _, _ => s

/-- R306: 60 ms after the declaration. -/
def execMemberFenceTimeout (p : PoolId) (k : MemberId) (s : State) : Answer := .next (s.onPart (memberFenceTimeoutEff p.val k.val))

def switchoverGapEndEff (p : Nat) (s : Part) : Part :=
  match s.pool? p with
  | none => s
  | some ps =>
    if !ps.pair.gap then s
    else
      let s := modPoolPair p (fun y => { y with gap := false, state := 3 }) s
      let s := s.modPool p (fun x => { x with ckpt := { x.ckpt with build := none }.addDue 7 })
      joinAgain (releaseAcks (buildCheckpoint p s))

/-- R308: the new owner ends the switch-over gap; held commands are admitted, the take-over checkpoint is built. -/
def execSwitchoverGapEnd (p : PoolId) (s : State) : Answer := .next (s.onPart (switchoverGapEndEff p.val))

/-! ### Restart (R309) -/

/-- A unit that restarts decides a paired pool whose owner is open. -/
def decidePool (held : List (Nat × Nat)) (ps : PoolSt) (s : Part) : Part :=
  if 2 ≤ (alGet ps.id held).getD 0 then
    let s := modPoolPair ps.id (fun y => { y with owner := 0, state := 3 }) s
    let s := if ps.int.region then recoverFromRegion ps.id ps.int.commits s
      else recoverFromCheckpoints ps.id (loseRebuildRecord ps.id s)
    if s.pair.path1Lost then s else registerOn ps.id (beginSync ps.id s)
  else
    let s := clearPoolManifest ps.id s
    modPoolPair ps.id (fun y => { y with owner := 1, state := if s.pair.path1Lost then 5 else 1 }) s

/-- R309: PAIR_BOOT_WAIT_S passed or path 1 came up; `held` says on how many of its homes this unit's key holds each pool's
reservation. The declaration held off till now follows (R304). -/
def pairBootWaitEff (held : List (Nat × Nat)) (s : Part) : Part :=
  let open_ := s.pairedPools.filter (fun p => p.pair.owner == 2)
  let s := open_.foldl (fun st p => decidePool held p st) s
  let s := if s.pair.state = 1 then changePaths (fun x => { x with state := 2 }) s else s
  let s := s.modDump (fun d => { d with
    consumed := (d.images.map (·.seq)).foldl max d.consumed, state := if d.state = 4 then 2 else d.state })
  let s := s.modTow (fun t => { t with power := if t.power = 4 then 0 else t.power })
  refreshDump (ifSevered s)

def execPairBootWait (held : List (Nat × Nat)) (s : State) : Answer := .next (s.onPart (pairBootWaitEff held))

/-! ### Hand-over (R310, R311) -/

/-- The conditions of an automatic failback (R310). -/
def failbackDue (s : Part) (ps : PoolSt) : Bool :=
  ps.isPaired && ps.pair.owner == 0 && ps.pair.state == 2 && decide (ps.charter.prefOwner ≠ deviceUuid) &&
    ps.pair.ownerNext == 2 && (match ps.pair.failbackAt with
      | some t => decide (t ≤ s.timeUs)
      | none => false) && decide (10000 ≤ ps.pair.lagZero)

def failbackEff (p : Nat) (s : Part) : Part :=
  match s.pool? p with
  | none => s
  | some ps => if failbackDue s ps then propose (.handover (Fin.ofNat 64 p) true) s else s

/-- R310: a pool goes back to its preferred owner. -/
def execFailback (p : PoolId) (s : State) : Answer := .next (s.onPart (failbackEff p.val))

def faultyHandoverTimeoutEff (s : Part) : Part :=
  if s.pair.faultyAt.isNone ∨ s.ownPaired.isEmpty then s
  else
    islandDown .x (changePaths (fun x => { x with path1Lost := true, path2Lost := true, txIdle := true, faultyAt := none })
      (setHawserWidth 0 (selfFence s)))

/-- R310: the faulty part's hand-over took longer than 1 s: it fences itself and island X goes idle. -/
def execFaultyHandoverTimeout (s : State) : Answer := .next (s.onPart faultyHandoverTimeoutEff)

def poolHandoverEff (q : Req) (p : Nat) (s : Part) : Part :=
  checked q roleOperator none (fun s =>
    match s.pool? p with
    | none => refuseState q 311 0 s
    | some ps =>
      if ps.isPaired && ps.pair.owner == 0 && ps.pair.state == 2 && ps.pair.ownerNext == 2 then
        askPair q (.handover (Fin.ofNat 64 p) true) s
      else refuseState q 311 0 s) s

/-- R311: a planned hand-over to the partner is asked for. -/
def execPoolHandover (q : Req) (p : PoolId) (s : State) : Answer := .next (s.onPart (poolHandoverEff q p.val))

/-- The old owner becomes standby: what it holds of the pool is its shadow (R311 step 3). -/
def becomeStandby (ps : PoolSt) (s : Part) : Part :=
  let mine := (s.man.held.filter (fun b => b.pool == ps.id && !b.through)).map Held.mirror
  let writing := (s.man.entries.filter (fun e => e.pool == ps.id && (e.state == .writing || e.built || !e.left.isEmpty))).map (·.stripe)
  modPoolPair ps.id (fun x => { x with
    owner := 1, handing := false, ownerNext := 2, handoverTide := 0, shadow := mine, shadowWriting := writing
    shadowRebuilt := ps.reb.rebuilt, announcedSeq := max x.announcedSeq ((ps.ckpt.build.map (·.image.seq)).getD ps.ckpt.seq)
    announcedExt := (ps.ckpt.extBuild.map (·.intent)).getD [], shadowTide := s.mark ps.id, coverage := 2, lagZero := 0 })
    (clearPoolManifest ps.id s)

/-- The new owner takes the pool (R311 steps 4 and 5): its shadow becomes what it holds, a checkpoint out of schedule is
due. -/
def becomeOwner (ps : PoolSt) (s : Part) : Part :=
  takeShadow ps ((ownKnown ps s).modPool ps.id (fun x => { x with
    ckpt := x.ckpt.addDue 7
    pair := { x.pair with owner := 0, ownerNext := 2, handoverTide := 0, handing := false, lagZero := 0 } }))

def handoverConfirmedEff (p : Nat) (s : Part) : Part :=
  match s.pool? p with
  | none => s
  | some ps =>
    if ps.pair.handoverTide = 0 ∨ s.sched.tideNow < ps.pair.handoverTide then s
    else
      let s := if ps.pair.owner = 0 ∧ ps.pair.ownerNext = 1 then becomeStandby ps s
        else if ps.pair.owner = 1 ∧ ps.pair.ownerNext = 0 then becomeOwner ps s
        else s
      let s := refreshProtection s
      if s.ownPaired.isEmpty then s.modPair (fun x => { x with faultyAt := none }) else s

/-- R311: the confirmation of tide h passes ownership. -/
def execHandoverConfirmed (p : PoolId) (s : State) : Answer := .next (s.onPart (fun s => sleepIfReady (handoverConfirmedEff p.val s)))

/-! ### Pair-wide changes (R314, R369) -/

/-- The kind of a change: two units' proposals of one kind clash (R369). -/
def sameKind : PairChange → PairChange → Bool
  | .tideUs _, .tideUs _ => true
  | .recovery p _, .recovery q _ => decide (p = q)
  | .charter p _, .charter q _ => decide (p = q)
  | .handover p _, .handover q _ => decide (p = q)
  | _, _ => false

/-- A change as this unit sees it: the other side of a hand-over. -/
def fromTwin : PairChange → PairChange
  | .handover p t => .handover p (!t)
  | c => c

/-- This unit holds what a change of the twin needs (R314 step 2). -/
def holdsFor (s : Part) : PairChange → Bool
  | .tideUs _ => true
  | .recovery p _ => (s.pool? p.val).isSome
  | .charter p gen =>
    match s.pool? p.val with
    | some ps => decide ((ps.coming.map (·.gen)) = some gen)
    | none => false
  | .handover p t =>
    match s.pool? p.val with
    | some ps => ps.isPaired && ps.pair.state == 2 && ps.pair.owner == b2n t
    | none => false

/-- Own proposal comes to nothing: a pool whose recovery model it named is as before (R124). -/
def dropProposal (result : Nat) (s : Part) : Part :=
  let s1 := s.modPair (fun x => { x with proposal := none, changeState := result })
  match s.pair.proposal with
  | some (.recovery p _, _) => strictMeanwhile p.val false s1
  | _ => s1

/-- The follower's proposal gives way to the leader's of the same kind (R369). -/
def withdraw (s : Part) : Part :=
  let s1 := dropProposal 0 (s.modPair (fun x => { x with asker := none }))
  match s.pair.asker with
  | some q => refuse q stConflict 0 s1
  | none => noted 17 369 1 [] s1

/-- Own proposal not yet accepted that clashes with a change of the twin. -/
def clashing (s : Part) (ch : PairChange) : Bool :=
  match s.pair.proposal with
  | some (mine, _, acc, _) => !acc && sameKind mine ch
  | none => false

def pairChangeProposalEff (ch : PairChange) (tide : Nat) (s : Part) : Part :=
  if s.pair.path1Lost ∨ s.pair.state < 2 then s
  else if clashing s ch && s.pair.role == 1 then s
  else
    let s := if clashing s ch then withdraw s else s
    let mine := fromTwin ch
    if holdsFor s mine && decide (s.sched.tideNow < tide) then
      let s := match mine with
        | .recovery p _ => strictMeanwhile p.val true s
        | _ => s
      announceHandover mine tide (emit (.hawserChange ch tide true) (s.modPair (fun x => { x with agreed := x.agreed ++ [(mine, tide)] })))
    else s

/-- R314: the twin proposes a change; it is accepted when this unit holds what it needs. -/
def execPairChangeProposal (ch : PairChange) (tide : Nat) (s : State) : Answer :=
  .next (s.onPart (pairChangeProposalEff ch tide))

def pairChangeAcceptedEff (s : Part) : Part :=
  match s.pair.proposal with
  | none => s
  | some (ch, p, _, t0) =>
    let s1 := announceHandover ch p (s.modPair (fun x => { x with proposal := some (ch, p, true, t0), asker := none }))
    match s.pair.asker with
    | some q => ok q s1
    | none => s1

/-- R314, R369: the twin accepts: the write is answered, the change waits for its tide. -/
def execPairChangeAccepted (s : State) : Answer := .next (s.onPart pairChangeAcceptedEff)

/-- A requester that has waited 100 ms is answered PENDING (R369). -/
def answerPending (t0 : Nat) (s : Part) : Part :=
  match s.pair.asker with
  | some q => if t0 + 100000 ≤ s.timeUs then respond q stPending 0 [] (s.modPair (fun x => { x with asker := none })) else s
  | none => s

def pairChangeLapseEff (s : Part) : Part :=
  match s.pair.proposal with
  | none => s
  | some (ch, _, acc, t0) =>
    if acc then s
    else
      let s := answerPending t0 s
      if t0 + sec 30 ≤ s.timeUs then proposeNext (dropProposal 3 s)
      else
        let p := s.sched.tideNow + s.leadTides
        emit (.hawserChange ch p false) (s.modPair (fun x => { x with proposal := some (ch, p, false, t0) }))

/-- R314: no acceptance 10 tides before p: proposed again, PARTIAL after 30 s. -/
def execPairChangeLapse (s : State) : Answer := .next (s.onPart pairChangeLapseEff)

/-! ### The standby's probes and an announced sleep (R312, R321) -/

/-- Members of the pools this unit stands by for. -/
def Part.standbyMembers (s : Part) : List Nat := (s.standbyPools.flatMap (fun p => p.charter.members.map (·.id))).eraseDups

/-- Members of those pools that discovery does not find, and those without this unit's key (R313). -/
def unreachableOf (s : Part) (ids : List Nat) : List Nat :=
  ids.filter (fun k => match s.member? k with
    | some m => m.state == 0 || !m.linkUp
    | none => true)

def unregisteredOf (s : Part) (ids : List Nat) : List Nat :=
  ids.filter (fun k => match s.member? k with
    | some m => m.info.reservations && !m.registered
    | none => false)

/-- A KEK of a shadowed pool is not loaded, or a slot reads UNWRAP_FAIL (Table 12.7). -/
def keyMissing (s : Part) : Bool :=
  s.standbyPools.any (fun p => !s.toll.keks.any (fun k => k.loaded && decide (k.id = p.charter.kekId))) ||
    s.toll.slots.any (fun x => x.state == 3)

/-- STANDBY_HEALTH (Table 12.7): the bits kept where they change, the others as their tests stand now. -/
def standbyHealth (s : Part) : BitVec 32 :=
  let set (bit : Nat) (on : Bool) (x : BitVec 32) : BitVec 32 := if on then x ||| BitVec.twoPow 32 bit else x &&& ~~~ (BitVec.twoPow 32 bit)
  let ids := s.standbyMembers
  set 2 (!s.sched.badChannels.isEmpty) <|
  set 4 (decide ((blocksBelow s.sched.ceiling : Nat) < s.heldBlocks)) <|
  set 5 (!(unreachableOf s ids).isEmpty) <|
  set 6 (!(unregisteredOf s ids).isEmpty) <|
  set 7 (keyMissing s) <|
  set 8 (!s.sched.retiredPipes.isEmpty) <|
  set 9 (decide (s.tollgateState ≠ 0)) <|
  set 11 (ids.any s.pair.probeBad.contains) s.pair.health

def standbyProbeEff (k : Nat) (readGood keyPresent : Bool) (s : Part) : Part :=
  if !s.standbyMembers.contains k then s
  else
    let s := s.modMember k (fun m => { m with registered := keyPresent && m.info.reservations })
    let rest := s.pair.probeBad.filter (fun x => x != k)
    let probed := if s.pair.probed.contains k then s.pair.probed else s.pair.probed ++ [k]
    let whole := s.standbyMembers.all probed.contains
    s.modPair (fun x => { x with
      probeBad := if readGood then rest else rest ++ [k], probed := if whole then [] else probed
      testTime := if whole then s.timeUs else x.testTime })

/-- R312: the next member is probed: its label is read, and the registration keys. -/
def execStandbyProbe (k : MemberId) (readGood keyPresent : Bool) (s : State) : Answer :=
  .next (s.onPart (standbyProbeEff k.val readGood keyPresent))

/-- R321: the twin announces its sleep. -/
def execSleepAnnouncement (pools : List PoolId) (s : State) : Answer :=
  .next (s.onPart (fun s => if s.pair.state < 2 then s else s.modPair (fun x => { x with sleepAnnounced := pools.map (·.val) })))

end Sys2Proof.Machine
end

