-- ==== Sys2Proof/Machine/Tollgate.lean ====
section
/-! DEFINITION. Meanings of the Tollgate commands (09: R215–R232): KEKs, key slots, zeroising, self-tests, glitches. -/

namespace Sys2Proof.Machine

/-! ### KEKs (R216, R217, R221) -/

/-- A KEK enters the lowest free entry and its register; the slots of its pools start to load (R216 steps 3 and 4). -/
def storeKek (id key : Bytes) (s : Part) : Part :=
  match s.freeKek with
  | none => s
  | some e =>
    let s := s.modToll (fun t => { t with
      keks := t.keks ++ [{ entry := e, id := id, key := key, autoload := false, loaded := true }] })
    loadSlotsOfKek id s

/-- The session's key-transport key (R216): authenticated sessions only. -/
def Part.transportKey (s : Part) (session : Nat) : Option Bytes :=
  match s.sess? session with
  | some x => if x.noAuth then none else some x.kKt
  | none => none

def kekImportEff (q : Req) (payload : Bytes) (s : Part) : Part :=
  checked q roleCustodian none (fun s =>
    let id := payload.take 16
    match s.transportKey q.session with
    | none => refuse q stPrivilege 0 s
    | some kt =>
      if payload.length ≠ 56 then refuse q stTypeLen 0 s
      else if !s.toll.canUnwrap then refuseRule q 228 0 s
      else if s.toll.rootBad then refuseRule q 215 0 s
      else
        match kwpUnwrap kt (payload.drop 16) with
        | none => refuseRule q 216 2 (log 0x0902 0 (leBytes 2 0xFFFF ++ id) s)
        | some key =>
          if key.length ≠ 32 || decide (id = zeroId) || (s.kek? id).isSome || s.freeKek.isNone then refuseRule q 216 2 s
          else ok q (storeKek id key s)) s

/-- R216: a Custodian imports a KEK wrapped under the session's key-transport key. -/
def execKekImport (q : Req) (payload : Bytes) (s : State) : Answer := .next (s.onPart (kekImportEff q payload))

def kekUnlockEff (q : Req) (id : Bytes) (s : Part) : Part :=
  checked q roleCustodian none (fun s =>
    match s.kek? id with
    | none => refuseRule q 217 0 s
    | some k =>
      if s.toll.rootBad then refuseRule q 215 0 s
      else if !s.toll.canUnwrap then refuseRule q 228 0 s
      else ok q (loadSlotsOfKek id (s.modKek k.entry (fun x => { x with loaded := true })))) s

/-- R217: a Custodian loads a stored KEK; the slots of its pools start to load. -/
def execKekUnlock (q : Req) (id : Bytes) (s : State) : Answer := .next (s.onPart (kekUnlockEff q id))

def kekAutoloadEff (q : Req) (e : Nat) (on : Bool) (s : Part) : Part :=
  checked q roleCustodian none (fun s => ok q (s.modKek e (fun x => { x with autoload := on }))) s

/-- R217: a Custodian sets AUTOLOAD of an entry; an empty entry has none to set. -/
def execKekAutoload (q : Req) (e : Fin 64) (on : Bool) (s : State) : Answer := .next (s.onPart (kekAutoloadEff q e.val on))

/-- A pool the part holds names a KEK (R221). -/
def kekNamed (s : Part) (id : Bytes) : Bool := s.pools.any (fun p => p.life != 0 && decide (p.charter.kekId = id))

def kekEraseEff (q : Req) (id : Bytes) (s : Part) : Part :=
  checked q roleCustodian none (fun s =>
    if kekNamed s id then refuseRule q 221 0 s
    else ok q (s.modToll (fun t => { t with keks := t.keks.filter (fun k => decide (k.id ≠ id)) }))) s

/-- R221: a Custodian erases a KEK that no pool names. -/
def execKekErase (q : Req) (id : Bytes) (s : State) : Answer := .next (s.onPart (kekEraseEff q id))

/-- Every slot, re-key slot, KEK register and KEK entry is cleared (R221). -/
def zeroise (s : Part) : Part := s.modToll (fun t => { t with keks := [], slots := [], rekey := [] })

def tollgateZeroiseEff (q : Req) (v : BitVec 32) (s : Part) : Part :=
  keepWritten 0x2401 4 v.toNat <| checked q roleCustodian none (fun s =>
    if v = 0x5A3C96E1#32 then ok q (zeroise s)
    else refuse q stRange 0 s) s

/-- R221: zeroising clears every slot, re-key slot, KEK register and KEK entry. -/
def execTollgateZeroise (q : Req) (value : BitVec 32) (s : State) : Answer := .next (s.onPart (tollgateZeroiseEff q value))

/-- Every volume key of a pool wrapped under another KEK; `none` when one does not unwrap (R231). -/
def rewraps (old new : Bytes) (vols : List CVol) : Option (List (Nat × Bytes)) :=
  vols.foldl (fun acc v =>
    match acc, unwrapMaterial old v.wrapped with
    | some l, some m => some (l ++ [(v.id, kwpWrap new m)])
    | _, _ => none) (some [])

def poolKekRotateEff (q : Req) (p : Nat) (id : Bytes) (s : Part) : Part :=
  checked q roleCustodian none (fun s =>
    match s.pool? p with
    | none => refuseRule q 231 0 s
    | some ps =>
      if ps.life = 0 then refuseRule q 231 0 s
      else
        match s.kekLoaded? id with
        | none => refuseRule q 231 1 s
        | some new =>
          if ps.latest.cross.isSome then refuseRule q 231 2 s
          else if !ps.owned then refuseRule q 297 0 s
          else if !s.toll.canUnwrap then refuseRule q 228 0 s
          else
            match (s.kekLoaded? ps.latest.kekId).bind (fun old => rewraps old new ps.latest.vols) with
            | none => refuseRule q 231 0 s
            | some wraps =>
              respond q (if ps.changing then stPending else stOk) 0 [] (queueDelta p (.kek id wraps) s)) s

/-- R231: a pool moves to another loaded KEK in one charter change. -/
def execPoolKekRotate (q : Req) (p : PoolId) (id : Bytes) (s : State) : Answer := .next (s.onPart (poolKekRotateEff q p.val id))

/-! ### Slots (R219, R225) -/

/-- Slots load in ascending volume id: one waits for those before it (R219). -/
def slotLoadEff (v : Nat) (s : Part) : Part :=
  if s.slotState v = 1 ∧ s.toll.slots.all (fun x => x.state != 1 || decide (v ≤ x.id)) then finishSlotLoad v s else s

/-- R219: the unwrap of a slot being loaded ends. -/
def execSlotLoad (v : VolId) (s : State) : Answer := .next (s.onPart (slotLoadEff v.val))

def slotReloadEff (q : Req) (v : Nat) (s : Part) : Part :=
  keepWritten (0xB000 + v) 5 1 <| checked q roleCustodian none (fun s =>
    match s.volume? v with
    | none => refuseRule q 219 0 s
    | some (p, _) =>
      if s.toll.canUnwrap && (s.kekLoaded? p.charter.kekId).isSome then ok q (beginSlotLoad v s) else refuseRule q 219 0 s) s

/-- R219: a Custodian retries the unwrap of a slot. -/
def execSlotReload (q : Req) (v : VolId) (s : State) : Answer := .next (s.onPart (slotReloadEff q v.val))

def slotCheckFailEff (v : Nat) (s : Part) : Part :=
  if s.slotState v = 2 then beginSlotLoad v (noted 9 219 0 (leBytes 2 v) (clearSlot v s)) else s

/-- R219: a slot whose check over its shares fails is emptied and loaded again. -/
def execSlotCheckFail (v : VolId) (s : State) : Answer := .next (s.onPart (slotCheckFailEff v.val))

/-- R225: the shares of a slot are re-randomised; the key they hold stays. -/
def execShareRerandomise (v : VolId) (s : State) : Answer :=
  .next (s.onPart (fun p => p.modToll (fun t => { t with
    slots := t.slots.map (fun x => if x.id = v.val ∧ x.state = 2 then { x with rerandoms := x.rerandoms + 1 } else x) })))

/-! ### Glitches and self-tests (R229, R230) -/

def glitchTripEff (g : Glitch) (s : Part) : Part :=
  let again : Bool := match s.toll.lastGlitch with
    | some t => decide (s.timeUs < t + sec 1)
    | none => false
  let kind : Nat := match g with
    | .supply => 0
    | .clock => 1
  let s := log 0x0904 0 [BitVec.ofNat 8 kind, BitVec.ofNat 8 (if again then 2 else 1)] s
  let s := s.modToll (fun t => { t with glitchTrips := t.glitchTrips + 1, lastGlitch := some s.timeUs })
  let s := selfTestClean s
  if again then autoloadKeks (clearKeys s) else s

/-- R229: a detector trips; the second trip within 1 s empties slots and registers and loads them again. -/
def execGlitchTrip (g : Glitch) (s : State) : Answer := .next (s.onPart (glitchTripEff g))

def selftestNowEff (q : Req) (failed : BitVec 64) (s : Part) : Part :=
  checked q roleOperator none (fun s => ok q (selfTestEnd failed s)) s

/-- R230: the self-test on command, with the items that fail. -/
def execSelftestNow (q : Req) (failed : BitVec 64) (s : State) : Answer := .next (s.onPart (selftestNowEff q failed))

/-- R230: the DRBG reseeds and tests itself; a failed health test stops the lanes (R225). -/
def execDrbgReseed (good : Bool) (s : State) : Answer :=
  .next (s.onPart (fun p =>
    let p := p.modToll (fun t => { t with reseeds := t.reseeds + 1, drbgGood := t.drbgGood && good })
    if good then p else tollFaultCheck p))

end Sys2Proof.Machine
end

