-- ==== Sys2Proof/Machine/Landing.lean ====
section
/-! DEFINITION. Meanings of the Landing commands (10_landing_endpoint): Bus Master Enable, FLR and port resets, event
causes, MSI-X and moderation, peer windows and BAR4, register writes, errors of a host port. -/

namespace Sys2Proof.Machine

/-! ### Loss of Bus Master Enable (R251, R252) -/

/-- Commands whose blocks Ferry puts into Pontoon. -/
def writesData (x : Cmd) : Bool := [0x02, 0x04, 0x06].contains (dOpcode x.desc)

/-- Carried on at the loss of Bus Master Enable (R252 step 4): a landed write with every earlier write of the chain landed
(R251), a TX_COMMIT that has been placed. -/
def carriedOn (c : ChainSt) (x : Cmd) : Bool :=
  x.phase == .placed || ((x.phase == .landed || x.phase == .through) &&
    (c.before x.hseq).all (fun y => !writesData y || [CmdPhase.landed, .through, .done].contains y.phase))

/-- A command that ends without effect, `end_` its new phase: its blocks are released, its stripes keep their entries only
for other blocks. -/
def releaseCmd (c : Nat) (x : Cmd) (end_ : Part → Part) (s : Part) : Part :=
  let mine := s.man.held.filter (fun b => b.chain == c && b.hseq == x.hseq)
  let touched := (mine.map (fun b => (b.pool, b.stripe)) ++
    (if writesData x then
      match s.volume? (writeVol x.desc) with
      | some (p, _) => (stripesOf (s.spots x.desc)).map (fun y => (p.id, y))
      | none => []
    else [])).eraseDups
  let s := s.modMan (fun m => { m with held := m.held.filter (fun b => !(b.chain == c && b.hseq == x.hseq)) })
  let s := end_ s
  if x.phase = .accepted then s
  else
    touched.foldl (fun st y =>
      match st.entry? y.1 y.2 with
      | some e =>
        if (st.heldOf y.1 y.2).isEmpty && !e.built && e.left.isEmpty && (e.state == .held || e.state == .through) &&
            !unlandedOn st y.1 y.2 then dropEntry y.1 y.2 st else settleEntry y.1 y.2 st
      | none => st) s

/-- A command abandoned at the loss of Bus Master Enable. -/
def abandonCmd (c : Nat) (x : Cmd) (s : Part) : Part :=
  releaseCmd c x (fun st => st.modCmd c x.hseq (fun y => { y with phase := .abandoned })) s

/-- Open transactions of a chain whose TX_COMMIT was not placed end without effect (R93, R279). -/
def abandonTxs (c : Nat) (s : Part) : Part :=
  ((s.chain c).txs.filter (fun t => t.commitTide.isNone)).foldl (fun st t => (releaseTxBlocks c t.tag st).dropTx c t.tag) s

/-- The commands of a chain are settled by their progress (R252 step 4). -/
def settleLost (c : Nat) (s : Part) : Part :=
  let ch := s.chain c
  let gone := ch.cmds.filter (fun x => x.phase != .done && !carriedOn ch x)
  let s := gone.foldl (fun st x => abandonCmd c x st) (abandonTxs c s)
  s.modChain c (fun x => { x.advance with fetchLost := x.fetchLost || x.fetchDb.isSome })

/-- A chain loses Bus Master Enable: one already halted keeps its code (R289). -/
def loseChain (c : Nat) (s : Part) : Part :=
  let s := settleLost c s
  if (s.chain c).st = .halted then s else haltChain c 0x80 s

/-- Chains of a function that a loss of Bus Master Enable halts. -/
def runningChains (s : Part) (f : Fn) : List Nat := (s.liveChains f).filter (fun c => (s.chain c).st != .halted)

/-- R252 on a function. -/
def loseBme (f : Fn) (s : Part) : Part :=
  let s := s.modFn f (fun x => { x with bme := false })
  (s.liveChains f).foldl (fun st c => loseChain c st) s

/-- R252: Bus Master Enable is cleared. -/
def execBmeClear (f : Fn) (s : State) : Answer := .next (s.onPart (loseBme f))

/-- Messages whose pending bits are set are sent where the vector may send (R246). -/
def sendPending (f : Fn) (s : Part) : Part :=
  let x := s.fn f
  if x.msixOn && !x.fnMask && x.bme then
    let go := x.pba.filter (fun v => x.unmasked.contains v)
    go.foldl (fun st v => emit (.msix f v) st) (s.setFn f { x with pba := x.pba.filter (fun v => !x.unmasked.contains v) })
  else s

/-- R246, R252: Bus Master Enable is set again; the chains stay halted. -/
def execBmeSet (f : Fn) (s : State) : Answer :=
  .next (s.onPart (fun s => sendPending f (s.modFn f (fun x => { x with bme := true }))))

/-! ### FLR and port resets (R254, R255) -/

/-- First chain of a function (CHAIN_FIRST). -/
def Part.chainFirst (s : Part) : Fn → Nat
  | .f0 => 0
  | .f1 => s.chainSplit

/-- What an FLR returns to power-on values in a function; link, balls, counters and mailbox registers stay. -/
def flrFn (first bar : Nat) (x : FnSt) : FnSt :=
  { FnSt.reset first with
    linkUp := x.linkUp, width := x.width, rate := x.rate, flit := x.flit, perst := x.perst, bmeDiscards := x.bmeDiscards
    romDrops := x.romDrops, bar4Gib := bar, mbxReq := x.mbxReq, mbxRsp := x.mbxRsp, mbxBusy := x.mbxBusy
    mbxReady := x.mbxReady, mbxDropped := x.mbxDropped, prioRun := x.prioRun }

/-- The chain configuration of a function's chains returns to its reset values; sequences and states survive (R286). -/
def flrChains (f : Fn) (s : Part) : Part :=
  { s with chains := s.chains.map (fun c =>
      if s.chainFn c.id = f then { c with regBase := 0, regCfg := 0x1F000004, regSeq := 0 } else c) }

/-- The transport of a function's mailbox. -/
def mbxOf : Fn → Transport
  | .f0 => .mbx0
  | .f1 => .mbx1

/-- The effect an FLR and a port reset share (R254). -/
def functionReset (f : Fn) (s : Part) : Part :=
  let s := loseBme f s
  let s := s.setFn f (flrFn (s.chainFirst f) s.peerBar (s.fn f))
  endSessionsWhere (fun x => decide (x.transport = mbxOf f)) (flrChains f s)

/-- R254: a Function Level Reset, with its record of the chains it halted. -/
def flrEff (f : Fn) (s : Part) : Part :=
  let n := (runningChains s f).length
  log 0x0101 f.num (leBytes 4 n) (functionReset f s)

def execFlr (f : Fn) (s : State) : Answer := .next (s.onPart (flrEff f))

/-- R254: 100 ms after the FLR the function no longer answers Request Retry Status. -/
def execFlrComplete (f : Fn) (s : State) : Answer :=
  .next (s.onPart (fun s => if (s.fn f).linkUp then s.modFn f (fun x => { x with retry := false }) else s))

/-- PORT_LINK (Table 10.15). -/
def FnSt.portLink (x : FnSt) : Nat :=
  if x.linkUp then x.width % 32 + (x.rate % 16) * 32 + (if x.flit then 512 else 0) + 1024 else 0

/-- The link of a port changes, with its record. -/
def changeLink (f : Fn) (g : FnSt → FnSt) (s : Part) : Part :=
  let a := (s.fn f).portLink
  let s := s.modFn f g
  let b := (s.fn f).portLink
  if a = b then s else log 0x0102 f.num (leBytes 2 a ++ leBytes 2 b) s

/-- R255: a conventional reset, hot reset or link-down acts as an FLR; the link trains again. -/
def portResetEff (f : Fn) (s : Part) : Part :=
  changeLink f (fun x => { x with linkUp := false, width := 0, rate := 0, flit := false }) (functionReset f s)

def execPortReset (f : Fn) (s : State) : Answer := .next (s.onPart (portResetEff f))

/-- R255: the link of a host port is trained, the function answers configuration requests. -/
def hostLinkUpEff (f : Fn) (width rate : Nat) (flit : Bool) (s : Part) : Part :=
  changeLink f (fun x => { x with linkUp := true, width := width, rate := rate, flit := flit || rate == 6, retry := false, perst := false }) s

def execHostLinkUp (f : Fn) (width rate : Nat) (flit : Bool) (s : State) : Answer :=
  .next (s.onPart (hostLinkUpEff f width rate flit))

/-! ### Event causes (R245) -/

/-- The defined bits of EVENT_CAUSE and EVENT_ENABLE. -/
def eventBits : BitVec 32 := 0x1F

/-- A W1C write: a renewed bit stays and loses its mark, and its message is sent at this write. -/
def eventCauseWriteEff (f : Fn) (v : BitVec 32) (s : Part) : Part :=
  let x := s.fn f
  let again := v &&& x.renewed
  let s := s.setFn f { x with cause := x.cause &&& ~~~(v &&& ~~~again), renewed := x.renewed &&& ~~~again }
  if (again &&& x.enable) = 0 then s else sendVector f 0 s

def execEventCauseWrite (f : Fn) (v : BitVec 32) (s : State) : Answer := .next (s.onPart (eventCauseWriteEff f v))

/-- R245: a read clears every renewed mark. -/
def execEventCauseRead (f : Fn) (s : State) : Answer := .next (s.onPart (fun s => s.modFn f (fun x => { x with renewed := 0 })))

/-! ### MSI-X (R246, R248) -/

/-- The accumulated completions of a vector are reported. -/
def moderationTimeoutEff (f : Fn) (v : Nat) (s : Part) : Part :=
  let x := s.fn f
  if (alGet v x.modCount).isSome then sendVector f v (s.setFn f { x with modCount := alDel v x.modCount }) else s

def execModerationTimeout (f : Fn) (v : Vec) (s : State) : Answer := .next (s.onPart (moderationTimeoutEff f v.val))

def unmaskFn (u : Unmask) (x : FnSt) : FnSt :=
  match u with
  | .vector v => { x with unmasked := if x.unmasked.contains v.val then x.unmasked else x.unmasked ++ [v.val] }
  | .functionMask => { x with fnMask := false }
  | .msixEnable => { x with msixOn := true }

/-- R246: a pending message is sent when its vector is unmasked. -/
def execMsixVectorUnmask (f : Fn) (u : Unmask) (s : State) : Answer :=
  .next (s.onPart (fun s => sendPending f (s.modFn f (unmaskFn u))))

/-! ### Peer windows (R257–R260) -/

def mib2 : Nat := 2097152
def gib : Nat := 1073741824

def Window.enabled (w : Window) : Bool := w.size != 0

/-- Rules of R258 a window breaks by itself. -/
def Window.bad (w : Window) (barGib areaMib : Nat) : Bool :=
  w.enabled && (decide (barGib * gib < w.base + w.size) || decide (areaMib * 1048576 < w.target + w.size) ||
    w.base % mib2 != 0 || w.size % mib2 != 0 || w.target % mib2 != 0)

/-- Two enabled windows overlap in BAR4. -/
def Window.overlaps (a b : Window) : Bool :=
  a.enabled && b.enabled && decide (a.base < b.base + b.size) && decide (b.base < a.base + a.size)

/-- The lowest window that causes a refusal (R258). -/
def badWindow (barGib areaMib : Nat) (ws : List Window) : Option Nat :=
  (List.range ws.length).find? (fun i =>
    let w := ws.getD i Window.zero
    w.bad barGib areaMib ||
      (List.range ws.length).any (fun j => j != i && w.overlaps (ws.getD j Window.zero)))

/-- A commit of latched shadows is checked; it waits for its swap, or is refused. -/
def startCommit (areaMib : Nat) (ws : List Window) (x : FnSt) : FnSt :=
  match badWindow x.bar4Gib areaMib ws with
  | some n => { x with lastResult := 2, badWindow := n }
  | none => { x with latched := some ws }

/-- Waiting commits are checked in turn until one waits for its swap. -/
def startWaiting (areaMib : Nat) : List (List Window) → FnSt → FnSt
  | [], x => { x with waitingCommits := [] }
  | ws :: rest, x =>
    let y := startCommit areaMib ws x
    if y.latched.isSome then { y with waitingCommits := rest } else startWaiting areaMib rest y

def winCommitEff (f : Fn) (v : BitVec 32) (s : Part) : Part :=
  if v ≠ 1 then s
  else
    s.modFn f (fun x =>
      if x.latched.isSome then { x with waitingCommits := x.waitingCommits ++ [x.shadow] }
      else startCommit s.sched.peerMib x.shadow x)

/-- R258: a write of 1 to WIN_COMMIT latches the shadows. -/
def execWinCommit (f : Fn) (v : BitVec 32) (s : State) : Answer := .next (s.onPart (winCommitEff f v))

def winSwapEff (f : Fn) (s : Part) : Part :=
  s.modFn f (fun x =>
    match x.latched with
    | none => x
    | some ws =>
      startWaiting s.sched.peerMib x.waitingCommits
        { x with active := ws, latched := none, lastResult := 1, commits := x.commits + 1 })

/-- R258: the eight active copies are swapped together. -/
def execWinSwap (f : Fn) (s : State) : Answer := .next (s.onPart (winSwapEff f))

/-- The active window a request lies wholly in, allowed for its kind and within the peer buffer area (R260). -/
def servingWindow (x : FnSt) (areaMib off len : Nat) (write : Bool) : Option Window :=
  x.active.find? (fun w =>
    w.enabled && decide (w.base ≤ off) && decide (off + len ≤ w.base + w.size) && (if write then w.writeEn else w.readEn) &&
      decide (w.target + (off - w.base) + len ≤ areaMib * 1048576))

/-- A posted request outside the windows (R260). -/
def dropPosted (f : Fn) (s : Part) : Part :=
  emit (.unsupported f true) (raiseEvent 4 f (s.modFn f (fun x => { x with winDrops := x.winDrops + 1 })))

def PeerTlp.span : PeerTlp → Nat × Nat
  | .read off len => (off, len)
  | .write off data => (off, data.length)

/-- R259, R260: a TLP to BAR4 under the active windows. -/
def execBar4Tlp (f : Fn) (t : PeerTlp) (s : State) : Answer :=
  let x := s.part.fn f
  let (off, len) := PeerTlp.span t
  if x.bar4Gib * gib < off + len then .fault (.outsideBar 4 off)
  else
    match t with
    | .read _ _ =>
      match servingWindow x s.part.sched.peerMib off len false with
      | some w => .next (s.onPart (emit (.peerData f (Memory.readBytes s.peerMem (w.target + (off - w.base)) len))))
      | none => .next (s.onPart (emit (.unsupported f false)))
    | .write _ data =>
      match servingWindow x s.part.sched.peerMib off len true with
      | some w => .next { s with peerMem := Memory.writeBytes s.peerMem (w.target + (off - w.base)) data }
      | none => .next (s.onPart (dropPosted f))

/-! ### Expansion ROM and BAR4 size (R237, R238) -/

def execRomWrite (f : Fn) (s : State) : Answer :=
  .next (s.onPart (fun s => s.modFn f (fun x => { x with romDrops := x.romDrops + 1 })))

/-- Active windows that no longer fit a BAR4 size, by number. -/
def unfitting (x : FnSt) (g : Nat) : List Nat :=
  (List.range x.active.length).filter (fun i =>
    let w := x.active.getD i Window.zero
    w.enabled && decide (g * gib < w.base + w.size))

def bar4ResizeEff (f : Fn) (g : Nat) (s : Part) : Part :=
  let x := s.fn f
  if x.mse || !([1, 2, 4, 8, 16, 32, 64].contains g) then s
  else
    let gone := unfitting x g
    let s := s.setFn f { x with bar4Gib := g
                                active := x.active.mapIdx (fun i w => if gone.contains i then { w with size := 0 } else w) }
    gone.foldl (fun st n => noted 1 237 1 [BitVec.ofNat 8 f.num, BitVec.ofNat 8 n] st) s

/-- R237: system software resizes BAR4 while Memory Space Enable is clear. -/
def execBar4Resize (f : Fn) (gib : Nat) (s : State) : Answer := .next (s.onPart (bar4ResizeEff f gib))

/-! ### Errors of a host port (Table 10.14) -/

/-- A data read of an admitted write fails: its blocks are released, it completes with HOST_READ_ERROR. -/
def dataReadError (c : Nat) (h : BitVec 32) (s : Part) : Part :=
  match landable s c h with
  | some x => if dOpcode x.desc = 2 then placeCommits c (dropWrite c x 0x22 0 s) else s
  | none => discardLate c h s

/-- A descriptor fetch fails: the chain halts with FETCH_ERROR. -/
def descFetchError (c : Nat) (s : Part) : Part :=
  let ch := s.chain c
  if ch.fetchDb.isSome then haltChain c 0x81 s
  else if ch.fetchLost then
    (s.modChain c (fun x => { x with fetchLost := false })).modFn (s.chainFn c) (fun y => { y with bmeDiscards := y.bmeDiscards + 1 })
  else s

def hostPortErrorEff (f : Fn) (e : PortError) (s : Part) : Part :=
  match e with
  | .correctable => emit (.aer f 0) s
  | .dataRead a c h => dataReadError c.val h (if a then emit (.aer f 1) s else s)
  | .descFetch a c => descFetchError c.val (if a then emit (.aer f 1) s else s)
  | .poisonedRequest posted => if posted then emit (.aer f 1) s else emit (.unsupported f false) (emit (.aer f 1) s)
  | .outsideWindow posted => if posted then dropPosted f s else emit (.unsupported f false) s
  | .fatal => portResetEff f (emit (.aer f 2) s)
  | .internal => emit (.aer f 2) s
  | .correctedInternal => emit (.aer f 0) s

/-- R262: an error of a host port, by Table 10.14. -/
def execHostPortError (f : Fn) (e : PortError) (s : State) : Answer := .next (s.onPart (hostPortErrorEff f e))

/-! ### Register writes (R8, R9, Tables 10.4, 10.8, 10.10, 10.12, 11.4) -/

/-- A register of `w` bytes at `at_` after a write of `size` bytes of `value` at `off`. -/
def overlay (old w at_ off size value : Nat) : Nat :=
  (List.range w).foldl (fun n i =>
    let b := if off ≤ at_ + i ∧ at_ + i < off + size then (value / 256 ^ (at_ + i - off)) % 256 else (old / 256 ^ i) % 256
    n + b * 256 ^ i) 0

/-- The write touches a register. -/
def touches (w at_ off size : Nat) : Bool := decide (off < at_ + w) && decide (at_ < off + size)

def writeWindow (n off size value : Nat) (w : Window) : Window :=
  let a := 0x1000 + 32 * n
  let flags := overlay ((if w.readEn then 1 else 0) + (if w.writeEn then 2 else 0)) 8 (a + 24) off size value
  { base := overlay w.base 8 a off size value, size := overlay w.size 8 (a + 8) off size value
    target := overlay w.target 8 (a + 16) off size value, readEn := flags.testBit 0, writeEn := flags.testBit 1 }

/-- The chain a function's CHAIN_SEL names, when the function owns it (R286). -/
def Part.selected (s : Part) (f : Fn) : Option Nat :=
  let c := (s.fn f).chainSel
  if c < 65536 ∧ s.chainFn c = f then some c else none

def writeChainReg (f : Fn) (off size value : Nat) (s : Part) : Part :=
  let s := if touches 4 0x3000 off size then s.modFn f (fun x => { x with chainSel := overlay x.chainSel 4 0x3000 off size value }) else s
  match s.selected f with
  | none => s
  | some c =>
    if touches 16 0x3008 off size then
      s.modChain c (fun x => { x with
        regBase := BitVec.ofNat 64 (overlay x.regBase.toNat 8 0x3008 off size value)
        regCfg := BitVec.ofNat 32 (overlay x.regCfg.toNat 4 0x3010 off size value)
        regSeq := BitVec.ofNat 32 (overlay x.regSeq.toNat 4 0x3014 off size value) })
    else s

/-- A vector's table entry: address and data, and the mask bit of its control word. -/
def writeMsix (e off size value : Nat) (x : FnSt) : FnSt :=
  let a := 0x10000 + 16 * e
  let old := ((alGet e x.msixTable).getD 0).toNat
  let masked := (overlay (if x.unmasked.contains e then 0 else 1) 4 (a + 12) off size value).testBit 0
  let x := if touches 12 a off size then
      { x with msixTable := alSet e (BitVec.ofNat 128 (overlay old 12 a off size value)) x.msixTable } else x
  { x with unmasked := if masked then x.unmasked.filter (· != e)
                       else if x.unmasked.contains e then x.unmasked else x.unmasked ++ [e] }

def writeModerationEntry (e off size value : Nat) (x : FnSt) : FnSt :=
  let old := ((alGet e x.moder).getD 1).toNat
  { x with moder := alSet e (BitVec.ofNat 32 (overlay old 4 (0x19000 + 4 * e) off size value % 2 ^ 18)) x.moder }

/-- Every moderation entry a write of at most 8 bytes touches. -/
def writeModeration (off size value : Nat) (x : FnSt) : FnSt :=
  let e := (off - 0x19000) / 4
  ([e, e + 1, e + 2].filter (fun n => decide (n < 2048) && touches 4 (0x19000 + 4 * n) off size)).foldl
    (fun y n => writeModerationEntry n off size value y) x

/-- Every table entry such a write touches. -/
def writeMsixTable (off size value : Nat) (x : FnSt) : FnSt :=
  let e := (off - 0x10000) / 16
  ([e, e + 1].filter (fun n => decide (n < 2048) && touches 16 (0x10000 + 16 * n) off size)).foldl
    (fun y n => writeMsix n off size value y) x

/-- Bytes of a mailbox request region (0x0100 to 0x1FFF of the mailbox). -/
def writeMbxReq (off size value : Nat) (x : FnSt) : FnSt :=
  { x with mbxReq := (List.range size).foldl (fun m i =>
      let a := off + i - 0x4000
      if 0x100 ≤ a ∧ a < 0x2000 then alSet (a - 0x100) (BitVec.ofNat 8 (value / 256 ^ i)) m else m) x.mbxReq }

/-- BAR0: the RW fields; every other offset ignores the write, or has a row of its own. -/
def writeBar0 (f : Fn) (off size value : Nat) (s : Part) : Part :=
  if off < 0x1000 then
    if touches 4 0x14 off size then
      s.modFn f (fun x => { x with enable := BitVec.ofNat 32 (overlay x.enable.toNat 4 0x14 off size value) &&& eventBits })
    else s
  else if off < 0x1100 then
    s.modFn f (fun x => { x with shadow := x.shadow.mapIdx (fun n w => if touches 32 (0x1000 + 32 * n) off size then writeWindow n off size value w else w) })
  else if 0x3000 ≤ off ∧ off < 0x4000 then writeChainReg f off size value s
  else if 0x4000 ≤ off ∧ off < 0x8000 then s.modFn f (writeMbxReq off size value)
  else if 0x10000 ≤ off ∧ off < 0x18000 then sendPending f (s.modFn f (writeMsixTable off size value))
  else if 0x19000 ≤ off ∧ off < 0x1B000 then s.modFn f (writeModeration off size value)
  else s

/-- Configuration space fields this model holds: Memory Space Enable, the power state, MSI-X control, Device Control
(R236 gives the capability offsets; the fields within are the standard's, log entry 17). -/
def writeConfig (f : Fn) (off size value : Nat) (s : Part) : Part :=
  let x := s.fn f
  let cmd := overlay (if x.mse then 2 else 0) 2 0x04 off size value
  let pm := overlay (if x.d0 then 0 else 3) 1 0x44 off size value
  let msix := overlay ((if x.msixOn then 0x8000 else 0) + (if x.fnMask then 0x4000 else 0)) 2 0x52 off size value
  let dc := overlay ((if x.relaxedEn then 0x10 else 0) + (if x.noSnoopEn then 0x800 else 0)) 2 0x68 off size value
  sendPending f (s.setFn f { x with
    mse := cmd.testBit 1, d0 := pm % 4 == 0, msixOn := msix.testBit 15, fnMask := msix.testBit 14
    relaxedEn := dc.testBit 4, noSnoopEn := dc.testBit 11 })

/-- Number the operand `bar` gives configuration space (log entry 17). -/
def configBar : Nat := 16

/-- R9: a register write sets RW fields. BAR2 and the debug registers hold none (R237, R245). A function that answers Request
Retry Status takes no configuration write (R254, R255). -/
def execRegisterWrite (f : Fn) (bar off size : Nat) (value : BitVec 64) (s : State) : Answer :=
  if bar = 0 ∧ off + size ≤ 0x100000 then .next (s.onPart (writeBar0 f off (min size 8) value.toNat))
  else if bar = 2 ∧ off + size ≤ 0x100000 then .next s
  else if bar = 4 ∧ off + size ≤ (s.part.fn f).bar4Gib * gib then .next s
  else if bar = configBar ∧ off + size ≤ 0x1000 then
    .next (if (s.part.fn f).retry then s else s.onPart (writeConfig f off (min size 8) value.toNat))
  else .fault (.outsideBar bar off)

end Sys2Proof.Machine
end

