-- ==== Sys2Proof/Machine/BootOps.lean ====
section
/-! DEFINITION. Shared operations of a boot (13: R331–R336; 17: R397, R401; 04: R71, R100; 05: R116, R117; 08: R193, R209;
16: R378): the dump image and what of it is restored, the firmware image chosen, what every state becomes. -/

namespace Sys2Proof.Machine

/-! ### The dump image (R331–R333, R335, R336) -/

/-- Blocks the data area holds (R71): this unit's, then the shadows of the twin's pools, with their tides. A block lies at
4,160 bytes times its place in this order (log entry 19). -/
def regionBlocks (s : Part) : List (Nat × Nat) :=
  ((s.man.held.filter (fun b => !b.through)).map (fun b => (b.pool, b.tide))) ++
    s.pools.flatMap (fun p => p.pair.shadow.map (fun b => (p.id, b.tide)))

def chunkBytes : Nat := 1048576
def controlChunks : Nat := 64

/-- Chunks the block at place `j` of the data area lies in. -/
def chunksOf (j : Nat) : List Nat :=
  [controlChunks + j * 4160 / chunkBytes, controlChunks + (j * 4160 + 4159) / chunkBytes].eraseDups

/-- Oldest tide among the blocks of chunk `q`. -/
def chunkTide (blocks : List (Nat × Nat)) (q : Nat) : Option Nat :=
  let l := ((List.range blocks.length).filter (fun j => (chunksOf j).contains q)).map (fun j => (blocks.getD j (0, 0)).2)
  match l with
  | [] => none
  | t :: ts => some (ts.foldl min t)

/-- The map of an image (R331): the control area, then the held chunks by oldest tide and number. -/
def imageMap (blocks : List (Nat × Nat)) : List Nat :=
  let qs := sortNats ((List.range blocks.length).flatMap chunksOf).eraseDups
  let sorted := (qs.map (fun q => ((chunkTide blocks q).getD 0, q))).mergeSort
    (fun a b => decide (a.1 < b.1) || (a.1 == b.1 && decide (a.2 ≤ b.2)))
  List.range controlChunks ++ sorted.map (·.2)

/-- Target and row of image chunk `i` (R332). -/
def dumpPlace (i : Nat) : Nat × Nat :=
  let r := i / 3
  ((r + 1 + i % 3) % 4, r)

/-- Row `r` can be read from target `x`. -/
def rowReadable (s : Part) (m : DumpImage) (x r : Nat) : Bool :=
  (s.target x).linkUp && (match alGet x m.rows with
    | some n => decide (r < n)
    | none => false)

/-- Chunks of row `r` the image has. -/
def rowChunks (m : DumpImage) (r : Nat) : List Nat := (List.range 3).filterMap (fun j => if 3 * r + j < m.chunks then some (3 * r + j) else none)

/-- Image chunk `i` is present (R335, R336): read, or rebuilt in a row that lacks nothing else. -/
def chunkPresent (s : Part) (m : DumpImage) (i : Nat) : Bool :=
  let (x, r) := dumpPlace i
  rowReadable s m x r ||
    (rowReadable s m (r % 4) r && ((rowChunks m r).filter (fun j => j != i)).all (fun j => rowReadable s m (dumpPlace j).1 r))

/-- Chunk numbers that are present. -/
def presentChunks (s : Part) (m : DumpImage) : List Nat :=
  ((List.range m.chunks).filter (chunkPresent s m)).map (fun i => m.map.getD i 0)

/-- The image a boot restores (R335): the highest DUMP_SEQ with a header on two targets, unless consumed. -/
def imageToRestore (s : Part) : Option DumpImage :=
  let valid := s.dump.images.filter (fun m => decide (2 ≤ (m.rows.filter (fun r => (s.target r.1).linkUp)).length))
  match valid.foldl (fun best m => match best with
      | none => some m
      | some b => if b.seq < m.seq then some m else best) none with
  | some m => if m.seq ≤ s.dump.consumed then none else some m
  | none => none

/-- The control area is present, and every chunk that holds a block of pool `p` (R336). -/
def controlPresent (s : Part) (m : DumpImage) : Bool := (List.range controlChunks).all (presentChunks s m).contains

def poolPresent (s : Part) (m : DumpImage) (p : Nat) : Bool :=
  controlPresent s m &&
    ((List.range m.blocks.length).filter (fun j => (m.blocks.getD j (64, 0)).1 == p)).all (fun j =>
      (chunksOf j).all (presentChunks s m).contains)

/-! ### The firmware image (R401) -/

/-- The directory copy taken: the higher DIR_SEQ of those that check (R264, R401). -/
def directory (b : BootEnv) : Option (Nat × Nat × Bool) :=
  match b.dir0, b.dir1 with
  | some x, some y => if ahead (BitVec.ofNat 32 y.1) (BitVec.ofNat 32 x.1) then some y else some x
  | some x, none => some x
  | none, y => y

/-- The other slot's image runs: the staged one where it is VALID, else the image kept; the one that ran is kept now. -/
def swapImages (x : FwSt) : FwSt :=
  { x with version := if x.state = 3 then x.stagedVersion else x.previous, previous := x.version
           state := 0, stagedVersion := 0, len := 0, next := 0, image := [] }

/-- The boot ROM's choice (R401); the second component says that an image runs. An activation cut short leaves the staged
image VALID (R375). -/
def selectImage (b : BootEnv) (s : Part) : Part × Bool :=
  let dir := (directory b).getD (s.fw.dirSeq, 0, false)
  let named := dir.2.1 % 2
  let first := if b.strapBootAlt then 1 - named else named
  let good (slot : Nat) : Bool := if slot = 0 then b.slot0Good else b.slot1Good
  let s := s.modFw (fun x => { x with
    dirSeq := dir.1, prevValid := dir.2.2, bootFailed := false
    lastResult := if x.activating then 3 else x.lastResult, activating := false, named := false, resetWaits := false })
  let run (slot : Nat) (s : Part) : Part := s.modFw (fun x => if slot = x.activeSlot then x else { swapImages x with activeSlot := slot })
  if good first then (run first s, true)
  else if good (1 - first) then
    let s := run (1 - first) s
    (noted 20 401 4 (leBytes 1 (1 - first)) (s.modFw (fun x => { x with dirSeq := (x.dirSeq + 1) % 2 ^ 32, prevValid := false })), true)
  else (s.modFw (fun x => { x with bootFailed := true }), false)

/-! ### What each state becomes -/

/-- Values kept across a loss of power (Table 15.2). -/
def keptObjs (l : List ((Nat × Nat) × DVal)) : List ((Nat × Nat) × DVal) :=
  l.filter (fun o => match objRow? o.1.1 o.1.2 with
    | some r => r.flags.testBit 1
    | none => false)

/-- A member as its part restarts: no command of it is left; a rotating one waits for its spin-up, or spins up on its own
(R209). -/
def MemberSt.restart (spin : Bool) (m : MemberSt) : MemberSt :=
  { m with waiting := [], outstanding := [], escStep := 0, draining := false, recentWrites := [], spinRetried := false
           spun := if spin && m.info.rotating then (if m.info.selfSpins then 2 else 0) else m.spun, fenced := false, state := if m.state = 0xFE then 0xFE else
             if m.linkUp then 1 else 0 }

/-- A downshift lasts until power-on reset (R188). -/
def LaneSt.restart (powered : Bool) (mode : Nat) (x : LaneSt) : LaneSt :=
  { x with mode := mode, state := if mode = 4 then 5 else 0, rate := 0, width := 0, attached := 0, narrow := false
           errors := 0, retrains := 0, times := [], cap := if powered then none else x.cap }

/-- Lanes and units stay retired until power-on reset (R227, R230). -/
def TollSt.restart (sLost powered : Bool) (t : TollSt) : TollSt :=
  { TollSt.reset with
    retired := if powered then [] else t.retired
    keks := t.keks.map (fun k => { k with loaded := false }), authFailTotal := t.authFailTotal, drbgPos := t.drbgPos
    reseeds := t.reseeds, rootBad := t.rootBad, lastTest := t.lastTest, lastTime := t.lastTime
    mismatchCount := if sLost then 0 else t.mismatchCount, glitchTrips := if sLost then 0 else t.glitchTrips }

def PairSt.restart (x : PairSt) : PairSt :=
  { PairSt.reset with
    uuid := x.uuid, role := x.role, peer := x.peer, takeovers := x.takeovers, testTime := x.testTime
    state := if x.uuid = zeroUuid then 0 else 1 }

/-- Sessions and locks end (R352); settings that are not kept return to their defaults (R350). -/
def DictSt.restart (sLost : Bool) (d : DictSt) : DictSt :=
  { d with objs := keptObjs d.objs, sessions := [], locks := [], failTimes := [], locked := [], resp := none, canPending := false
           macDrops := if sLost then 0 else d.macDrops, notified := [] }

def DumpTarget.boot (links : List Nat) (t : DumpTarget) : DumpTarget :=
  if links.contains t.idx then
    { t with linkUp := true, width := 4, tier := 3, label := if t.label.isNone then some deviceUuid else t.label }
  else { t with linkUp := false, width := 0, tier := 0 }

/-- The Towpath after a loss of its own supply (R346, Table 17.7): the stored targets are in force, the store is empty. -/
def TowSt.powered (t : TowSt) : TowSt :=
  { TowSt.reset with braceCount := t.braceCount, capMf := t.capMf, esrMohm := t.esrMohm, dieC := t.dieC }

def CalSt.powered (c : CalSt) : CalSt :=
  { c with state := 0, gain := c.tGain, offset := c.tOffset, time := c.tTime, xtal := c.tXtal }

/-- The values the Landing tables are built from (R234, R235, R237, R240). -/
def takeLandingValues (s : Part) : Part :=
  let split := s.objNum 0x2120 1
  let bar := s.objNum 0x2120 3
  let sub := s.objNum 0x2120 5
  let changed := decide (split ≠ s.chainSplit ∨ bar ≠ s.peerBar)
  { s with chainSplit := split, peerBar := bar, subsysId := sub, tableGen := if changed then (s.tableGen + 1) % 2 ^ 32 else s.tableGen }

/-- An island after a loss of power: S alone stays up, and of the islands turned away only S still knows it (R16). -/
def IslandSt.lost (sLost : Bool) (i : IslandSt) : IslandSt :=
  { i with powered := decide (i.island = .s), ready := decide (i.island = .s), waking := false
           refused := if sLost then [] else i.refused.filter (fun x => decide (x = .s)) }

/-- Every island except S has lost its state (R217, R398): what non-volatile memory, the members and the Towpath keep
stays, and what the spec keeps until a power-on reset where the loss is none (`powered` false: archive sleep, cold reset). -/
def wipe (sLost powered : Bool) (s : Part) : Part :=
  let s : Part := { s with
    islands := s.islands.map (IslandSt.lost sLost)
    bridges := []
    sched := { SchedSt.reset with
      peerMib := s.objNum 0x2120 2, tideUs := s.objNum 0x2101 1
      retiredPipes := if powered then [] else s.sched.retiredPipes, pipeFails := if powered then [] else s.sched.pipeFails }
    man := ManifestSt.reset, chains := []
    vols := s.vols.map (fun v => { VolSt.fresh v.id with life := v.life, commitResult := v.commitResult })
    members := s.members.map (MemberSt.restart true)
    fabric := { s.fabric with lanes := s.fabric.lanes.map (fun x => x.restart powered (s.objNum (0x2200 + x.lane) 1))
                              spinQueue := sortNats ((s.members.filter (fun m => m.info.rotating && !m.info.selfSpins && m.linkUp)).map (·.id)) }
    toll := s.toll.restart sLost powered, pair := s.pair.restart
    tow := if sLost then s.tow.powered else s.tow
    cal := if sLost then s.cal.powered else s.cal
    dump := { s.dump with state := 2, running := none, lostNow := [] }
    dict := s.dict.restart sLost
    log := if sLost then { s.log with dropped := 0, droppedHigh := 0 } else s.log }
  let s := s.modDict (fun d => { d with canNode := s.objNum 0x1100 1, canNom := s.objNum 0x1100 2, canData := s.objNum 0x1100 3 })
  let s := takeLandingValues s
  { s with fn0 := { FnSt.reset 0 with bar4Gib := s.peerBar }, fn1 := { FnSt.reset s.chainSplit with bar4Gib := s.peerBar } }

/-! ### Pools at a boot (R116, R193, R309) -/

/-- What of a pool no reset outlives: a change not yet committed, what waited, the roles of a pair. What a recovery from the
protected region will need stands by (R117). -/
def PoolSt.restart (kept : Bool) (commits : List (Nat × Nat × Nat)) (x : PoolSt) : PoolSt :=
  let keep := kept && x.pair.coverage == 2
  { x with change := none, queue := [], writeState := 1, found := []
           initLeft := []
           ckpt := { x.ckpt with build := none, extBuild := none, extReported := [], inForce := none, exts := [], ready := [], due := [] }
           int := { x.int with
             resolving := [], reconcile := [], survey := [], reconDone := 0, reconLost := 0
             diverged := if kept then x.int.diverged else [], toResolve := if kept then x.int.toResolve else []
             again := if kept then x.int.again else [], recheck := if kept then x.int.recheck else []
             region := kept, asStrict := false, commits := if kept then commits else [] }
           pair := { PoolPairSt.empty with
             owner := if x.charter.paired then 2 else 0
             shadow := if keep then x.pair.shadow else [], shadowTide := if keep then x.pair.shadowTide else 0
             coverage := if keep then 2 else 0, shadowWriting := if keep then x.pair.shadowWriting else []
             shadowRebuilt := if keep then x.pair.shadowRebuilt else [] } }

/-- Transactions with a commit record in a transaction table: (chain, tag, tide) (R92, R102, R117). -/
def commitRecords (l : List (Nat × TxSt)) : List (Nat × Nat × Nat) :=
  l.filterMap (fun t => t.2.commitTide.map (fun n => (t.1, t.2.tag, n)))

/-- A pool restarts: its generation is loaded, the members take the states it records, the rebuild record is lost, a
Crossing resumes; an unpaired pool recovers at once, a paired one when its owner is decided (R309). -/
def restartPool (kept : Bool) (commits : List (Nat × Nat × Nat)) (p : Nat) (s : Part) : Part :=
  match s.pool? p with
  | none => s
  | some ps =>
    if ps.life = 0 then s
    else if ps.life = 1 then erasePool p ps.commitResult s
    else
      let s := if ps.coming.isSome then takeEffect p s else s
      let s := s.modPool p (PoolSt.restart kept commits)
      let s := resumeCrossing p (loseRebuildRecord p (loadStates p s))
      let s := if ps.charter.initDone then s else startInit p ps.charter s
      let s := if kept then s else clearPoolManifest p s
      match s.pool? p with
      | none => s
      | some x =>
        if x.charter.paired then (if kept then keepSealed p commits s else s)
        else if kept then recoverFromRegion p commits s
        else recoverFromCheckpoints p s

/-- Chains as the chain record of a restored image keeps them (R100). -/
def restoredChain (r : ChainRec) : ChainSt :=
  { ChainSt.reset r.id with st := .halted, halt := 0x84, dseq := r.dseq, fetchSeq := r.fetchSeq, dbSeq := r.dbSeq }

/-- DUMP_CONSUMED takes the DUMP_SEQ of the image once no pool restored from it waits (R336); the part is RESTORING while a
paired pool's owner is open (R309, Table 13.9). -/
def consumeImage (s : Part) : Part :=
  if s.pairedPools.any (fun p => p.pair.owner == 2) then (s.modDump (fun d => { d with state := 4 })).modTow (fun t => { t with power := 4 })
  else s.modDump (fun d => { d with consumed := (d.images.map (·.seq)).foldl max d.consumed })

/-- Restore and replay, or recovery without an image (R335, R336, R116). -/
def restorePools (s : Part) : Part :=
  let ids := sortNats (s.pools.map (·.id))
  match imageToRestore s with
  | none =>
    let s := s.modSched (fun x => { x with protMib := s.objNum 0x2100 1 })
    ids.foldl (fun st p => restartPool false [] p st) s
  | some m =>
    let commits := commitRecords m.content.txRecs
    let here := controlPresent s m
    let lost := (s.pools.filter (fun p => decide (2 ≤ p.life) && !poolPresent s m p.id)).map (·.id)
    let s := if here then
        { s with man := { m.content with txRecs := [] }, chains := m.content.chainRecs.map restoredChain
                 sched := { s.sched with protMib := m.protMib, tideNow := max s.sched.tideNow (m.tide + 1) } }
      else s.modSched (fun x => { x with protMib := m.protMib })
    let s := ids.foldl (fun st p => restartPool (here && !lost.contains p) commits p st) s
    let s := s.modDump (fun d => { d with restoreMs := Config.restoreMs m.seq, lastResult := if lost.isEmpty then d.lastResult else 3 })
    let bits := (lost.map (fun p => 2 ^ p)).foldl (· + ·) 0
    consumeImage (log 0x0A02 0 (leBytes 8 m.seq ++ leBytes 4 s.dump.restoreMs ++ leBytes 8 bits) s)

/-! ### The boot -/

/-- Islands a boot brings up (Table 1.2, Table 1.4): a scheduled wake leaves H and X asleep; X sleeps while unpaired. -/
def bootIslands (hostToo : Bool) (s : Part) : List Island :=
  Island.all.filter (fun i => match i with
    | .h => hostToo
    | .x => hostToo && s.pair.state != 0
    | .s => false
    | _ => true)

/-- Members that spin up on their own cannot be staggered: the Logbook records each (R209). -/
def noteSelfSpins (s : Part) : Part :=
  ((s.members.filter (fun m => m.info.rotating && m.info.selfSpins && m.linkUp)).map (·.id)).foldl
    (fun st k => noted 12 209 0 (leBytes 2 k) st) s

/-- A boot from the moment the rails are good, with an image that runs (Tables 1.4 and 17.7): `cause` as in LOG_BOOT,
`links` the dump links that trained. -/
def bootPart (cause : Nat) (links : List Nat) (hostToo : Bool) (s : Part) : Part :=
  let s := s.modTow (fun t => { t with power := 0, coreEn := true, chgEn := true, tripped := false, afterDump := false
                                       limitsWait := none, sleeping := false, wakeN := false, dumpActive := false, coldHeld := false })
  let s := islandUp .g s
  let s := writeHeldLog (logBoot cause s)
  let s := ((bootIslands hostToo s).filter (fun i => decide (i ≠ .g))).foldl (fun st i => islandUp i st) s
  let s := s.modDump (fun d => { d with targets := d.targets.map (DumpTarget.boot links) })
  let s := wakeK s
  let s := (s.members.filter (·.linkUp)).foldl (fun st m => memberRestarts m.id st) s
  let s := noteSelfSpins (restorePools s)
  setStatus (fun x => { x with ready := true }) (refreshDump s)

/-- A boot puts another image in service: FW_VERSION is a value of the Landing table; one reset counts once (R240). -/
def countVersion (before s : Part) : Part :=
  if s.fw.version = before.fw.version ∨ s.tableGen ≠ before.tableGen then s else { s with tableGen := (s.tableGen + 1) % 2 ^ 32 }

/-- The readings a boot starts from. -/
def takeEnv (e : WakeEnv) (s : Part) : Part := s.modTow (fun t => { t with dieC := e.dieC, sense := t.sense.set 0 e.inputMv })

/-- A boot with the image the boot ROM finds; without one only S and the boot ROM run (R401 step 5). STRAP_FACTORY keeps
the part from booting (R393). -/
def bootWith (cause : Nat) (b : BootEnv) (sLost : Bool) (s : Part) : Part :=
  let w := wipe sLost (cause != 4) s
  if b.strapFactory then w.modTow (fun t => { t with power := 6, coreEn := true, limitsWait := none })
  else
    let (w, runs) := selectImage b w
    let w := countVersion s w
    if runs then
      let chans := (List.range 12).filter (fun i => decide (b.channels ≤ i))
      let w := (takeEnv b.wake w).modSched (fun x => { x with badChannels := chans })
      let w := bootPart cause b.dumpLinks true w
      if chans.isEmpty then w
      else noted 4 407 3 (leBytes 1 b.channels) w
    else (islandUp .g w).modTow (fun t => { t with power := 6, coreEn := true, limitsWait := none })

/-- A wake from archive sleep (Table 1.4 from step 2): the image in service starts again. -/
def bootWake (hostToo : Bool) (e : WakeEnv) (s : Part) : Part :=
  let links := (s.dump.targets.filter (fun t => t.label = some deviceUuid)).map (·.idx)
  bootPart 3 links hostToo (takeEnv e (wipe false false s))

/-- The wake limits of R322. -/
def wakeLimits (s : Part) (e : WakeEnv) : Bool :=
  decide (s.warnMv + 200 ≤ e.inputMv) && decide (-10 ≤ e.dieC) && decide (e.dieC ≤ 95)

/-- A boot clears the peer buffer area's contents (R256). -/
def State.booted (f : Part → Part) (s : State) : State := { s with part := f s.part, peerMem := [] }

/-- A boot where its condition holds; else the peer buffer area keeps its contents. -/
def State.bootedIf (boots : Bool) (f : Part → Part) (s : State) : State := if boots then s.booted f else s.onPart f

end Sys2Proof.Machine
end

