-- ==== Sys2Proof/Machine/Power.lean ====
section
/-! DEFINITION. Meanings of the Towpath commands (13: R315–R336): brace, dump, temperature, the energy store, thresholds, dump
targets, IDLE, archive sleep, wake sources. -/

namespace Sys2Proof.Machine

/-! ### Brace (R327) -/

/-- The filtered input the decision was taken on (R317). -/
def setInput (mv : Nat) (s : Part) : Part := s.modTow (fun t => { t with sense := t.sense.set 0 mv })

/-- The part works: ACTIVE, IDLE, BRACE or RESTORING. -/
def Part.working (s : Part) : Bool := [0, 1, 2, 4].contains s.tow.power

def braceEff (mv : Nat) (s : Part) : Part :=
  let s := setInput mv s
  if s.working && decide (mv < s.warnMv) then enterBrace mv s else s

/-- R327: the filtered input falls below WARN_MV. -/
def execBrace (mv : Nat) (s : State) : Answer := .next (s.onPart (braceEff mv))

def braceReleaseEff (mv : Nat) (s : Part) : Part :=
  let s := setInput mv s
  if decide (s.warnMv + 200 ≤ mv) && decide (s.sched.admitState < 2) then leaveBrace mv s else s

/-- R327: the input held above WARN_MV + 200 mV for 10 ms. -/
def execBraceRelease (mv : Nat) (s : State) : Answer := .next (s.onPart (braceReleaseEff mv))

/-! ### Dump (R329–R333) -/

/-- A trigger starts a dump (R329): the region holds a block and no dump or restore is under way. -/
def mayDump (s : Part) : Bool := decide (s.tow.power ≤ 2) && decide (0 < s.heldBlocks)

/-- The early seal (Table 13.5 step 2): the open tide is sealed with what Pontoon has reported written; no acknowledgement is
released. -/
def sealEarly (s : Part) : Part :=
  advanceUnpaired ((sealTide s).modMan (fun m => { m with seals := m.seals.map (fun x => { x with complete := true }) }))

/-- The chain record the image carries (R100). -/
def chainRecords (s : Part) : List ChainRec :=
  (s.chains.filter (fun c => c.st != .disabled)).map (fun c =>
    { id := c.id, dseq := c.dseq, fetchSeq := c.fetchSeq, dbSeq := c.dbSeq, st := c.st.code, haltStatus := c.halt })

/-- The image a dump starts to write (R331, Table 13.7). -/
def newImage (cause : Nat) (s : Part) : DumpImage :=
  let blocks := regionBlocks s
  let m := imageMap blocks
  { slot := (s.dump.seq + 1) % 2, seq := s.dump.seq + 1, cause := cause, tide := s.sched.tideNow - 1, started := s.timeUs
    chunks := m.length, protMib := s.sched.protMib, map := m, rows := s.liveTargets.map (fun x => (x, 0)), complete := false
    blocks := blocks, content := { s.man with clean := [], news := [] } }

/-- Islands that a dump puts to sleep (Table 13.5 step 3). -/
def dumpSleepers : List Island := Island.all.filter (fun i => decide (i ≠ .m ∧ i ≠ .d ∧ i ≠ .g ∧ i ≠ .s))

/-- A dump starts (Table 13.5 steps 1 to 4). -/
def startDump (cause : Nat) (s : Part) : Part :=
  let s := log 0x1302 0 (leBytes 1 cause ++ leBytes 4 (s.senseAt 0).toNat ++ leBytes 4 s.tow.energyMj) (endStoreTest (abandonCal s))
  let s := (useIsland .d s).modTow (fun t => { t with dumpActive := true, chgEn := false, power := 3 })
  let s := s.modSched (fun x => { x with stopped := true, resetting := false })
  let s := sealEarly s
  let s := s.modMan (fun m => { m with
    chainRecs := chainRecords s, txRecs := s.chains.flatMap (fun c => c.txs.map (fun t => (c.id, t))) })
  let i := newImage cause s
  let s := s.modDump (fun d => { d with state := 3, seq := i.seq, running := some i, lostNow := [] })
  let s := changePaths (fun x => { x with path1Lost := true, path2Lost := true, txIdle := true }) s
  refreshProtection (dumpSleepers.foldl (fun st i => powerDown i st) s)

def dumpTriggerLowEff (mv : Nat) (s : Part) : Part :=
  let s := setInput mv s
  if mayDump s && decide (mv < s.dumpMv) then startDump 0 s else s

/-- R329: the filtered input stayed below DUMP_MV for 500 µs. -/
def execDumpTriggerLow (mv : Nat) (s : State) : Answer := .next (s.onPart (dumpTriggerLowEff mv))

/-- R329: the fast comparator trips. -/
def execComparatorTrip (s : State) : Answer := .next (s.onPart (fun s => if mayDump s then startDump 1 s else s))

/-- R333: a target is lost, and dropped at once while a dump runs. -/
def execDumpTargetLost (x : Fin 4) (s : State) : Answer :=
  .next (s.onPart (fun s => loseTarget x.val (s.modTarget x.val (fun t => { t with linkUp := false, width := 0, tier := 0 }))))

/-- Rows that a target lost during the dump had recorded: a progress record follows every 256 stripes, how many is open
(log entry 18). -/
def recordedRows (seq x total : Nat) : Nat := min total (256 * (Config.dumpRecords seq x % (total / 256 + 1)))

/-- The image as the dump leaves it: the targets in `lost` keep the rows they recorded. -/
def finishImage (i : DumpImage) (lost : List Nat) (complete : Bool) : DumpImage :=
  let total := ceilDiv i.chunks 3
  { i with complete := complete
           rows := i.rows.map (fun r => (r.1, if lost.contains r.1 then recordedRows i.seq r.1 total else total)) }

/-- An image takes its slot on the targets. -/
def putImage (i : DumpImage) (s : Part) : Part :=
  s.modDump (fun d => { d with images := d.images.filter (fun x => x.slot != i.slot) ++ [i], running := none })

/-- M, D and G power down; the Towpath waits for the supply (Table 13.5 step 7). -/
def afterDump (s : Part) : Part :=
  (([Island.m, .d, .g].foldl (fun st i => powerDown i st) (flushLog s)).modTow (fun t => { t with
    dumpActive := false, coreEn := false, power := 6, afterDump := true })).modDump (fun d => { d with state := 2 })

def dumpCompleteEff (ms : Nat) (s : Part) : Part :=
  match s.dump.running with
  | none => s
  | some i =>
    let i := finishImage i s.dump.lostNow true
    let whole := decide (i.rows.length = 4) && s.dump.lostNow.isEmpty
    let s := putImage i s
    let s := s.modDump (fun d => { d with lastMs := ms, lastResult := if whole then 1 else 2 })
    let s := log 0x0A01 0 (leBytes 8 i.seq ++ leBytes 1 i.cause ++ leBytes 1 s.dump.lastResult ++ leBytes 4 i.chunks ++ leBytes 4 ms) s
    afterDump (emit (.dumpImage i.slot i.seq) s)

/-- R330 steps 5 to 7: every stripe is written, the targets are flushed, the completion record stands. -/
def execDumpComplete (ms : Nat) (s : State) : Answer := .next (s.onPart (dumpCompleteEff ms))

/-- Power fails before a dump ends (R331): each target keeps the rows it recorded. -/
def cutDump (s : Part) : Part :=
  match s.dump.running with
  | none => s
  | some i => putImage (finishImage i (i.rows.map (·.1)) false) s

/-- The supply is back after a dump, the part not held down by a trip (R334). -/
def restoreDue (b : BootEnv) (s : Part) : Bool :=
  s.tow.power == 6 && s.tow.afterDump && !s.tow.tripped && decide (s.warnMv + 200 ≤ b.wake.inputMv)

def restoreBootEff (b : BootEnv) (s : Part) : Part := if restoreDue b s then bootWith 2 b false s else s

/-- R334: after a dump the input held for 1 s: the part boots and restores. -/
def execRestoreBoot (b : BootEnv) (s : State) : Answer := .next (s.bootedIf (restoreDue b s.part) (restoreBootEff b))

/-! ### Temperature (R324) -/

/-- A die temperature as DIE_TEMP gives it (Q16.16). -/
def dieQ (c : Int) : Bytes := leBytes 4 (BitVec.ofInt 32 (c * 65536)).toNat

def logThermal (what : Nat) (c : Int) (s : Part) : Part := log 0x1304 0 (leBytes 1 what ++ dieQ c) s

def setDie (c : Int) (s : Part) : Part := s.modTow (fun t => { t with dieC := c })

/-- R324: 100 °C: the coding engine and Tollgate run at half rate. -/
def execThermalThrottle (dieC : Int) (s : State) : Answer :=
  .next (s.onPart (fun s =>
    let s := setDie dieC s
    if 100 ≤ dieC ∧ ¬ s.sched.throttled then logThermal 0 dieC (s.modSched (fun x => { x with throttled := true })) else s))

/-- R324: below 95 °C full rate returns. -/
def execThermalRelease (dieC : Int) (s : State) : Answer :=
  .next (s.onPart (fun s =>
    let s := setDie dieC s
    if dieC < 95 ∧ s.sched.throttled then logThermal 1 dieC (s.modSched (fun x => { x with throttled := false })) else s))

/-- The part goes down to island S without a dump (R324): admission stops, both paths stop. -/
def tripDown (s : Part) : Part :=
  let s := endStoreTest (abandonCal s)
  let s := changePaths (fun x => { x with path1Lost := true, path2Lost := true, txIdle := true }) s
  let s := (Island.all.filter (fun i => decide (i ≠ .s ∧ i ≠ .g))).foldl (fun st i => powerDown i st) (flushLog s)
  ((powerDown .g s).modTow (fun t => { t with coreEn := false, power := 6 })).modSched (fun x => { x with stopped := true, ready := false })

def thermalTripEff (c : Int) (s : Part) : Part :=
  if c < 110 ∨ ¬ (s.working ∨ s.tow.power = 3) then setDie c s
  else
    let s := logThermal 2 c ((setDie c s).modTow (fun t => { t with tripped := true }))
    if s.tow.power = 3 then s
    else if mayDump s then startDump 2 s
    else tripDown s

/-- R324: 110 °C held for 10 ms: a dump with cause THERMAL, or the part goes down without one. -/
def execThermalTrip (dieC : Int) (s : State) : Answer := .next (s.onPart (thermalTripEff dieC))

/-- The part went down for a trip and the die has cooled (R324). -/
def recoveryDue (c : Int) (s : Part) : Bool := s.tow.tripped && s.tow.power == 6 && decide (c < 90)

def thermalRecoveryEff (c : Int) (b : BootEnv) (s : Part) : Part :=
  if recoveryDue c s then bootWith 2 b false s else setDie c s

/-- R324: after a trip the die is below 90 °C: the part boots. -/
def execThermalRecovery (dieC : Int) (b : BootEnv) (s : State) : Answer := .next (s.bootedIf (recoveryDue dieC s.part) (thermalRecoveryEff dieC b))

/-! ### The energy store (R325, R326) -/

/-- The conditions of a capacity test that the state shows (R326). -/
def testAllowed (s : Part) : Bool :=
  decide (s.tow.power ≤ 1) && !s.sched.brace && decide ((s.warnMv : Int) + 200 ≤ s.senseAt 0) && s.tow.store != 4 && s.tow.store != 2

/-- A capacity test is due: it begins when it may, else it waits; a calibration ends for it (R326, R343). -/
def storeTestDue (s : Part) : Part :=
  let s := abandonCal s
  if testAllowed s then
    (active s).modTow (fun t => { t with storeUnder := t.store, store := 2, storeTest := true, chgEn := false, testDue := false })
  else s.modTow (fun t => { t with testDue := true })

/-- R326: a test is due. -/
def execStoreTest (s : State) : Answer := .next (s.onPart storeTestDue)

def storeTestNowEff (q : Req) (s : Part) : Part :=
  keepWritten 0x2701 7 1 <| checked q roleCustodian none (fun s => ok q (storeTestDue s)) s

/-- R326: a Custodian starts a test. -/
def execStoreTestNow (q : Req) (s : State) : Answer := .next (s.onPart (storeTestNowEff q))

def storeTestEndEff (cap esr : Nat) (s : Part) : Part :=
  if s.tow.store ≠ 2 then s
  else
    let bad := decide (2 * cap < s.objNum 0x2701 3) || decide (1000 < esr)
    s.modTow (fun t => { t with
      storeTest := false, chgEn := true, store := if bad then 3 else 0
      capMf := if bad then t.capMf else cap, esrMohm := if bad then t.esrMohm else esr })

/-- R326: the test measured the store. -/
def execStoreTestEnd (capMf esrMohm : Nat) (s : State) : Answer := .next (s.onPart (storeTestEndEff capMf esrMohm))

def storeOutOfTempEff (mC : Int) (s : Part) : Part :=
  if (-20000 ≤ mC ∧ mC ≤ 70000) ∨ s.tow.store = 4 then s
  else
    let s := endStoreTest s
    noted 19 325 1 (leBytes 1 4) (s.modTow (fun t => { t with storeUnder := t.store, store := 4 }))

/-- R325: the store's temperature leaves −20 °C to 70 °C. -/
def execStoreOutOfTemp (milliC : Int) (s : State) : Answer := .next (s.onPart (storeOutOfTempEff milliC))

def storeTempRecoverEff (mC : Int) (s : Part) : Part :=
  if s.tow.store = 4 ∧ -18000 ≤ mC ∧ mC ≤ 68000 then
    noted 19 325 2 (leBytes 1 s.tow.storeUnder) (s.modTow (fun t => { t with store := t.storeUnder }))
  else s

/-- R325: the temperature held within −18 °C to 68 °C for 10 s. -/
def execStoreTempRecover (milliC : Int) (s : State) : Answer := .next (s.onPart (storeTempRecoverEff milliC))

/-! ### Thresholds (R319) -/

/-- Once a threshold has moved, the decision of either follows at once where the reading lies beyond it. -/
def decideInput (s : Part) : Part :=
  let v := s.senseAt 0
  let s := if s.working && decide (v < s.warnMv) then enterBrace v.toNat s else s
  if mayDump s && decide (v < s.dumpMv) then startDump 0 s else s

def warnMvEff (q : Req) (v : Nat) (s : Part) : Part :=
  checked q roleOperator none (fun s =>
    if v < 10200 ∨ 13000 < v then refuse q stRange 0 s
    else if v < s.dumpMv + 400 then refuseRule q 319 0 s
    else decideInput (ok q (s.setObjNum 0x2700 9 v))) s

/-- R319: WARN_MV is set. -/
def execWarnMv (q : Req) (v : Nat) (s : State) : Answer := .next (s.onPart (warnMvEff q v))

def dumpMvEff (q : Req) (v : Nat) (s : Part) : Part :=
  checked q roleOperator none (fun s =>
    if v < 9800 ∨ 12600 < v then refuse q stRange 0 s
    else if s.warnMv < v + 400 then refuseRule q 319 0 s
    else decideInput (ok q (s.setObjNum 0x2700 0xA v))) s

/-- R319: DUMP_MV is set. -/
def execDumpMv (q : Req) (v : Nat) (s : State) : Answer := .next (s.onPart (dumpMvEff q v))

/-! ### Dump targets, the region's channels -/

def dumpAdoptEff (q : Req) (mask : BitVec 8) (s : Part) : Part :=
  keepWritten 0x2702 8 mask.toNat <| checked q roleCustodian none (fun s =>
    if 16 ≤ mask.toNat then refuse q stRange 0 s
    else
      let adopt (t : DumpTarget) : DumpTarget := if mask.getLsbD t.idx then { t with label := some deviceUuid } else t
      ok q (refreshDump (s.modDump (fun d => { d with targets := d.targets.map adopt })))) s

/-- R328: a Custodian adopts targets whose label names another part. -/
def execDumpAdopt (q : Req) (mask : BitVec 8) (s : State) : Answer := .next (s.onPart (dumpAdoptEff q mask))

/-- R328: a dump link goes down. -/
def execDumpLinkDown (x : Fin 4) (s : State) : Answer := .next (s.onPart (linkDownEff (.dump x)))

/-- R328: a target reports an NVMe critical warning. -/
def execDumpTargetWarning (x : Fin 4) (s : State) : Answer :=
  .next (s.onPart (fun s => loseTarget x.val (s.modTarget x.val (fun t => { t with warning := true }))))

def protChannelUnhealthyEff (ch : Nat) (s : Part) : Part :=
  if s.sched.badChannels.contains ch then s
  else noted 4 69 1 (leBytes 1 ch) (refreshProtection (s.modSched (fun x => { x with badChannels := x.badChannels ++ [ch] })))

/-- Table 4.1: a DRAM channel of the protected region is no longer healthy. -/
def execProtChannelUnhealthy (ch : Fin 12) (s : State) : Answer := .next (s.onPart (protChannelUnhealthyEff ch.val))

/-! ### IDLE and archive sleep (R320, R321) -/

/-- No host command, destage, rebuild, scrub, Crossing or store test (Table 13.3). -/
def nothingToDo (s : Part) : Bool :=
  s.chains.all (fun c => c.inflight == 0 && c.fetchDb.isNone) && s.man.entries.isEmpty &&
    s.pools.all (fun p => p.reb.writing.isEmpty && p.charter.cross.isNone) && !s.tow.storeTest

/-- R320: nothing to do for IDLE_AFTER_MS. -/
def execIdleEntry (s : State) : Answer :=
  .next (s.onPart (fun s => if s.tow.power = 0 ∧ nothingToDo s then s.modTow (fun t => { t with power := 1 }) else s))

def askSleep (forced : Bool) (q : Req) (s : Part) : Part :=
  checked q roleOperator none (fun s =>
    match sleepRefusal forced s with
    | 0 => beginSleep (ok q s)
    | n => refuseState q 321 n (s.modTow (fun t => { t with sleepRefused := n }))) s

/-- R321: a write of 1 to SLEEP_REQUEST. -/
def execSleepRequest (q : Req) (s : State) : Answer := .next (s.onPart (askSleep false q))

/-- R321: a write of 2 to SLEEP_REQUEST. -/
def execSleepRequestForced (q : Req) (s : State) : Answer := .next (s.onPart (askSleep true q))

/-- R323: the work of a scheduled wake is done: back to archive sleep, as by a write of 1. -/
def execReturnToArchiveSleep (s : State) : Answer :=
  .next (s.onPart (fun s =>
    if s.tow.wakeCause ≠ 2 ∨ 1 < s.tow.power ∨ s.tow.sleeping then s
    else
      match sleepRefusal false s with
      | 0 => beginSleep s
      | n => s.modTow (fun t => { t with sleepRefused := n })))

/-! ### Waking (R322) -/

/-- The record of a wake or of its refusal, written at the wake. -/
def logWake (src : Nat) (refused : Bool) (s : Part) : Part := log 0x1303 0 [BitVec.ofNat 8 src, BitVec.ofNat 8 (b2n refused)] s

/-- The wake source `src` wakes the part: only another source than the timer brings islands H and X up (Table 1.4). -/
def wakeBy (src : Nat) (e : WakeEnv) (s : Part) : Part :=
  let s := (logWake src false s).modTow (fun t => { t with
    wakeCause := src, wakePending := [], schedNext := if src = 2 then some (s.timeUs + hour (s.objNum 0x2104 2)) else t.schedNext })
  bootWake (src != 2) e s

/-- A source of Table 13.4 fires. -/
def wakeFires (src : Nat) (e : WakeEnv) (s : Part) : Part :=
  if s.tow.power ≠ 5 ∨ ¬ (s.objNum 0x2700 4).testBit src then s
  else
    let s := if 3 ≤ src ∧ s.objNum 0x2700 6 = 1 then s.modTow (fun t => { t with wakeN := true }) else s
    if wakeLimits s e then wakeBy src e s
    else logWake src true (s.modTow (fun t => { t with wakePending := if t.wakePending.contains src then t.wakePending else t.wakePending ++ [src] }))

/-- Only a wake clears the peer buffer area (R256). -/
def State.onWake (f : Part → Part) (s : State) : State := if s.part.tow.power = 5 ∧ (f s.part).tow.power ≠ 5 then s.booted f else s.onPart f

/-- PERSTx_N is deasserted: the port of a working part trains; island H comes up where a scheduled wake left it asleep. -/
def wakeHostEff (f : Fn) (e : WakeEnv) (s : Part) : Part :=
  let s := wakeFires 0 e s
  if s.working then
    let s := s.modFn f (fun x => { x with perst := false })
    if s.ready .h then s
    else
      let s := islandUp .h s
      if s.pair.state = 0 then s else islandUp .x s
  else s

/-- R322 source 0. -/
def execWakeHost (f : Fn) (e : WakeEnv) (s : State) : Answer := .next (s.onWake (wakeHostEff f e))

/-- R322 source 1: a frame with identifier 0x1FF0_0000 + node id on an enabled channel. -/
def execWakeCan (node : Nat) (e : WakeEnv) (s : State) : Answer :=
  .next (s.onWake (fun s => if node = s.dict.canNode ∧ s.objNum 0x1100 4 ≠ 0 then wakeFires 1 e s else s))

/-- R322 source 2: the wake timer reaches SCHED_WAKE. -/
def execWakeScheduled (e : WakeEnv) (s : State) : Answer := .next (s.onWake (wakeFires 2 e))

/-- R322 source 3: PRES_CHG_N falls. -/
def execWakePresence (e : WakeEnv) (s : State) : Answer := .next (s.onWake (wakeFires 3 e))

/-- R322 source 4: a channel leaves its window. -/
def execWakeThreshold (_ch : Fin 8) (e : WakeEnv) (s : State) : Answer := .next (s.onWake (wakeFires 4 e))

/-- R322 source 5: the store's voltage or temperature. -/
def execWakeStore (e : WakeEnv) (s : State) : Answer := .next (s.onWake (wakeFires 5 e))

/-- A boot when the limits hold, else it waits for them (Table 17.7 step 2). -/
def bootWhenAllowed (cause : Nat) (sLost : Bool) (b : BootEnv) (s : Part) : Part :=
  if wakeLimits s b.wake then bootWith cause b sLost s
  else
    { s with islands := s.islands.map (IslandSt.lost sLost)
             tow := { s.tow with power := 6, coreEn := false, afterDump := false, limitsWait := some (cause, sLost, b) } }

def wakeLimitsMetEff (e : WakeEnv) (s : Part) : Part :=
  if !wakeLimits s e then s
  else
    match s.tow.limitsWait with
    | some (cause, sLost, b) => bootWith cause { b with wake := e } sLost s
    | none =>
      match s.tow.power, s.tow.wakePending with
      | 5, src :: _ => wakeBy src e s
      | _, _ => s

/-- R322: the limits hold again for a source kept pending, or for a boot that waits (Table 17.7 step 2). -/
def execWakeLimitsMet (e : WakeEnv) (s : State) : Answer :=
  .next (if s.part.tow.limitsWait.isSome then s.bootedIf (wakeLimits s.part e) (wakeLimitsMetEff e) else s.onWake (wakeLimitsMetEff e))

end Sys2Proof.Machine
end

