-- ==== Sys2Proof/Machine/Boot.lean ====
section
/-! DEFINITION. Meanings of the boot and reset commands of the balls (17: R396–R398, R410): power-on, COLD_RESET_N, loss of
RAILS_GOOD, the test access port. -/

namespace Sys2Proof.Machine

/-- R397: island S leaves its power-on reset and the part boots once the wake limits hold. -/
def execPowerOn (b : BootEnv) (s : State) : Answer := .next (s.booted (fun s => bootWhenAllowed 0 true b (cutDump s)))

/-- COLD_RESET_N is honoured (R398): no block is held, no dump or restore runs. -/
def coldAllowed (s : Part) : Bool := s.heldBlocks == 0 && decide (s.dump.state < 3)

def coldLow (s : Part) : Part :=
  if s.tow.coldHeld then s
  else if coldAllowed s then
    (wipe false false (flushLog s)).modTow (fun t => { t with coldHeld := true, power := if t.coreEn then 6 else t.power })
  else noted 20 398 1 [] s

/-- On release the boot continues where CORE_EN holds the rails up (step 4 of Table 17.7). -/
def coldRelease (b : BootEnv) (s : Part) : Part :=
  if !s.tow.coldHeld then s
  else
    let s := s.modTow (fun t => { t with coldHeld := false, tap := .bypass })
    if s.tow.coreEn then bootWith 4 b false s else s

/-- R398: COLD_RESET_N is held low for 10 µs, or released. -/
def execColdResetN (low : Bool) (b : BootEnv) (s : State) : Answer :=
  .next (if low then (if coldAllowed s.part && !s.part.tow.coldHeld then s.booted coldLow else s.onPart coldLow) else s.onPart (coldRelease b))

/-- R396: the rails are lost with CORE_EN high: the region is lost, the event is held for the Logbook, the part boots when
RAILS_GOOD returns. -/
def railsGoodFallEff (b : BootEnv) (s : Part) : Part :=
  let s := holdLog (notedEv 19 396 1 [] s.timeUs) (cutDump s)
  bootWhenAllowed 5 false b (s.modTow (fun t => { t with coreEn := false, afterDump := false }))

def execRailsGoodFall (b : BootEnv) (s : State) : Answer :=
  .next (if s.part.tow.coreEn then s.booted (railsGoodFallEff b) else s)

/-- The instruction that acts (R410). -/
def tapActs (op : TapOp) (cold : Bool) : TapOp :=
  match op with
  | .other c => if cold then .other c else .bypass
  | x => x

def idcode : Nat := 0x17144E6F

/-- R410: the test access port takes an instruction. -/
def execTapInstruction (op : TapOp) (s : State) : Answer :=
  .next (s.onPart (fun s =>
    let s := s.modTow (fun t => { t with tap := tapActs op t.coldHeld })
    if op = .idcode then emit (.tapIdcode idcode) s else s))

end Sys2Proof.Machine
end

