-- ==== Sys2Proof/Machine/BridgeFaults.lean ====
section
/-! DEFINITION. The meaning of a multi-bit error on a bridge (01_architecture: R18). -/

namespace Sys2Proof.Machine

/-- Statuses of Table 11.3 a failed command may complete with. -/
def failStatuses : List Nat :=
  [0x02, 0x10, 0x11, 0x12, 0x13, 0x14, 0x20, 0x21, 0x22, 0x30, 0x31, 0x32, 0x33, 0x40, 0x41, 0x42, 0x43, 0x44]

/-- The status of an internal device error of a subsystem: R18 leaves it to the owning chapters and none gives one, so it is
free among the failing statuses (DESIGN CHOICE, log entry 134). -/
def internalError (subsystem : Nat) : Nat :=
  failStatuses.getD (Config.internalError subsystem % failStatuses.length) 0x02

/-- The host command a lost word belonged to fails: its blocks are released, it completes with the internal error. -/
def failOperation (subsystem c : Nat) (h : BitVec 32) (s : Part) : Part :=
  match s.cmd? c h with
  | some x =>
    if x.phase = .done ∨ x.phase = .abandoned then s
    else releaseCmd c x (endFailed c x (internalError subsystem) 0) s
  | none => s

/-- A bridge fault that fails a request of Landing is an Uncorrectable Internal Error (R262): of the port of the chain whose
request it was, of both where none is named (log entry 158). -/
def reportUncorrected (src : Island) (c : Option ChainId) (s : Part) : Part :=
  if src ≠ .h then s
  else
    match c with
    | some c => emit (.aer (s.chainFn c.val) 2) s
    | none => emit (.aer .f1 2) (emit (.aer .f0 2) s)

def bridgeFaultEff (src dst : Island) (subsystem : Nat) (op : Option (ChainId × BitVec 32)) (s : Part) : Part :=
  if !s.ready dst then answerAsleep src dst s
  else
    let b := s.bridge src dst
    let recent := s.timeUs :: b.recent.filter (fun t => decide (s.timeUs < t + sec 1))
    let s := s.setBridge { b with faults := b.faults + 1, recent := recent }
    let s := emit (.bridgeAnswer src .bridgeFault) s
    let s := log 0x1401 (bridgeInst src dst) [1, BitVec.ofNat 8 (min 255 recent.length)] s
    let s := match op with
      | some (c, h) => failOperation subsystem c.val h s
      | none => s
    let s := reportUncorrected src (op.map (·.1)) s
    if 2 ≤ recent.length then faultyBy bridgeCause subsystem s else s

/-- R18: a multi-bit error on a bridge word fails the operation of the subsystem that sent it; the second within 1 s makes
the part faulty. -/
def execBridgeFault (src dst : Island) (x : FaultSite) (s : State) : Answer :=
  .next (s.onPart (bridgeFaultEff src dst x.subsystem x.op))

end Sys2Proof.Machine
end

