-- ==== Sys2Proof/Machine/Calibration.lean ====
section
/-! DEFINITION. Meanings of the calibration commands (14: R337–R348). -/

namespace Sys2Proof.Machine

/-- The frequency reference as R338 identifies it. -/
def frefFound (r : CalRefs) : Nat :=
  if 9999000 ≤ r.edges ∧ r.edges ≤ 10001000 then 1
  else if r.edges = 1 ∧ 999900 ≤ r.spacingUs ∧ r.spacingUs ≤ 1000100 then 2
  else 0

/-- VCAL_REF is absent: its raw conversion lies more than 2% off (R338). -/
def vrefAbsent (s : Part) (r : CalRefs) : Bool :=
  let want := s.objNum 0x2800 5
  decide (want < 50 * (if r.vrefUv ≤ want then want - r.vrefUv else r.vrefUv - want))

/-- Cause of a refusal (CAL_REFUSED), 0 when the start is accepted (R340). -/
def calRefusal (what : Nat) (r : CalRefs) (s : Part) : Nat :=
  if s.cal.state = 1 then 1
  else if s.sched.brace || decide (2 ≤ s.tow.power) || s.fw.activating || s.tow.sleeping then 2
  else if s.tow.store = 2 then 3
  else if (what.testBit 0 && vrefAbsent s r) || (what.testBit 1 && frefFound r == 0) then 4
  else if what = 0 then 5
  else 0

/-- Every SENSE_FLAGS.STALE rises (Table 14.1 step 1). -/
def raiseStale (s : Part) : Part := s.modTow (fun t => { t with flags := t.flags.map (fun f => f / 2 * 2 + 1) })

def calStartEff (q : Req) (what : Nat) (r : CalRefs) (s : Part) : Part :=
  checked q roleOperator none (fun s =>
    if 4 ≤ what then refuse q stRange 0 s
    else
      match calRefusal what r s with
      | 0 =>
        let s := s.modCal (fun c => { c with state := 1, refused := 0, fref := frefFound r, what := what, startAt := s.timeUs })
        ok q (noted 20 340 1 (leBytes 1 what) (raiseStale s))
      | n => refuseState q 340 n (s.modCal (fun c => { c with refused := n }))) s

/-- R340: a calibration is started. -/
def execCalStart (q : Req) (what : Nat) (refs : CalRefs) (s : State) : Answer := .next (s.onPart (calStartEff q what refs))

/-! ### Acceptance (R342, Table 14.2) -/

def apart (a b : Int) (most : Nat) : Bool := decide (most < (a - b).natAbs)

def meanOf (a b : Int) : Int := (a + b) / 2

/-- The first test that fails, as CAL_LAST_RESULT has it; 1 when all pass. -/
def calOutcome (c : CalSt) (r : CalRuns) : Nat :=
  let a := r.run1
  let b := r.run2
  let adc := c.what.testBit 0
  let time := c.what.testBit 1
  let ppb := if c.fref = 2 then 100 else 50
  if adc && (apart a.gainPpb b.gainPpb 300000 || apart a.offset b.offset 512) then 2
  else if adc && (apart (meanOf a.gainPpb b.gainPpb) Config.factoryGainPpb 5000000 ||
      apart (meanOf a.offset b.offset) Config.factoryOffset 16384) then 3
  else if time && (apart a.timePpb b.timePpb ppb || apart a.xtalPpb b.xtalPpb ppb) then 4
  else if time && (apart (meanOf a.timePpb b.timePpb) 0 100000 || apart (meanOf a.xtalPpb b.xtalPpb) 0 100000) then 5
  else if !r.stable then 6
  else 1

/-- A rate target at most 20 ppm from the rate before (R345). -/
def clipRate (before target : Int) : Int := max (before - 20000) (min (before + 20000) target)

/-- The targets of an accepted calibration (R342, R345, R346). -/
def calTargets (r : CalRuns) (now : Nat) (c : CalSt) : CalSt :=
  let a := r.run1
  let b := r.run2
  let c := if c.what.testBit 0 then { c with tGain := meanOf a.gainPpb b.gainPpb, tOffset := meanOf a.offset b.offset } else c
  let t := meanOf a.timePpb b.timePpb
  let x := meanOf a.xtalPpb b.xtalPpb
  let c := if c.what.testBit 1 then
      { c with tTime := clipRate c.time t, tXtal := clipRate c.xtal x
               clipped := decide (clipRate c.time t ≠ t) || decide (clipRate c.xtal x ≠ x) }
    else { c with clipped := false }
  { c with lastTime := now }

/-- CAL_STATE once no run is on. -/
def restCal (c : CalSt) : CalSt := { c with state := if c.slewing then 2 else 0 }

def calRunsCompleteEff (r : CalRuns) (s : Part) : Part :=
  if s.cal.state ≠ 1 then s
  else
    let n := calOutcome s.cal r
    let s := if n = 1 then s.modCal (calTargets r s.timeUs) else s
    clearStale ((recordCal n (some r) s).modCal restCal)

/-- R342, Table 14.1 step 6: both runs are done: the calibration is accepted or rejected. -/
def execCalRunsComplete (r : CalRuns) (s : State) : Answer := .next (s.onPart (calRunsCompleteEff r))

/-! ### Slewing (R344, R345) -/

/-- One step of a coefficient: 1/64 of the remaining difference, at least one unit of its resolution (log entry 20). -/
def slewTo (v target : Int) : Int :=
  if v ≤ target then v + (target - v + 63) / 64 else v - (v - target + 63) / 64

/-- R344, R345: every 10 ms of the S clock each coefficient moves toward its target. -/
def execCalSlewStep (s : State) : Answer :=
  .next (s.onPart (fun s => s.modCal (fun c =>
    let c := { c with gain := slewTo c.gain c.tGain, offset := slewTo c.offset c.tOffset, time := slewTo c.time c.tTime
                      xtal := slewTo c.xtal c.tXtal }
    if c.state = 1 then c else restCal c)))

def calFactoryEff (q : Req) (s : Part) : Part :=
  keepWritten 0x2800 0x0E 1 <| checked q roleCustodian none (fun s =>
    ok q (s.modCal (fun c =>
      let c := { c with tGain := Config.factoryGainPpb, tOffset := Config.factoryOffset, tTime := 0, tXtal := 0 }
      if c.state = 1 then c else restCal c))) s

/-- R346: a Custodian makes the factory values the targets. -/
def execCalFactory (q : Req) (s : State) : Answer := .next (s.onPart (calFactoryEff q))

end Sys2Proof.Machine
end

