-- ==== Sys2Proof/Machine/Chains.lean ====
section
/-! DEFINITION. Meanings of doorbells, descriptor fetching and the chain commands (11_ferry_chains, R282–R290). -/

namespace Sys2Proof.Machine

/-! ### Fields of RING_CFG (Table 11.5) -/

def ChainSt.regSize (c : ChainSt) : Nat := bitsOf c.regCfg.toNat 4 0
def ChainSt.noSnoop (c : ChainSt) : Bool := c.regCfg.getLsbD 16
def ChainSt.prio (c : ChainSt) : Bool := c.regCfg.getLsbD 17
def ChainSt.weight (c : ChainSt) : Nat := bitsOf c.regCfg.toNat 23 18 + 1
def ChainSt.credit (c : ChainSt) : Nat := bitsOf c.regCfg.toNat 31 24 + 1

/-- Slots of the ring (R263). -/
def ChainSt.slots (c : ChainSt) : Nat := 2 ^ c.sizeLog2

/-- Slot of a host sequence (R263). -/
def ChainSt.slotOf (c : ChainSt) (h : BitVec 32) : Nat := (h - c.seqBase).toNat % c.slots

/-- Fetching is stopped for every chain: freeze, warm reset, dump (Tables 4.5, 4.6, 13.5). -/
def fetchStopped (s : Part) : Bool := s.sched.frozen || s.sched.resetting || s.sched.stopped || s.dump.state == 3

/-! ### Doorbells (R282) -/

/-- A parked chain re-fetches its slot, which REFETCHES counts; one whose fetch is out decides at its return. -/
def ChainSt.refetch (c : ChainSt) : ChainSt :=
  if c.st = .parked ∧ c.fetchDb = none ∧ !c.refetchDue then { c with refetchDue := true, refetches := c.refetches + 1 } else c

/-- DB_SEQ takes TAIL_SEQ when it is ahead. -/
def ChainSt.recordDb (c : ChainSt) (tail : BitVec 32) : ChainSt := if ahead tail c.dbSeq then { c with dbSeq := tail } else c

/-- The doorbell lies ahead of FETCH_SEQ by more than the ring holds. -/
def ChainSt.tooFar (c : ChainSt) (tail : BitVec 32) : Bool := ahead tail c.fetchSeq && decide (c.slots < (tail - c.fetchSeq).toNat)

def doorbellEff (f : Fn) (c size : Nat) (tail : BitVec 32) (s : Part) : Part :=
  let ch := s.chain c
  if size ≠ 4 ∧ size ≠ 8 then s
  else if s.chainFn c ≠ f then s.modChain c (fun x => { x with foreignDb := x.foreignDb + 1 })
  else if ch.st = .disabled then s.modChain c (fun x => { x with ignDb := x.ignDb + 1 })
  else if ch.st = .halted then s.modChain c (fun x => { x.recordDb tail with ignDb := x.ignDb + 1 })
  else if ahead ch.fetchSeq tail then s.modChain c (fun x => { x with ignDb := x.ignDb + 1 })
  else if ch.st = .paused ∨ ch.st = .draining ∨ fetchStopped s then s.modChain c (fun x => x.recordDb tail)
  else if ch.tooFar tail then haltChain c 0x82 s
  else (active s).modChain c (fun x => (x.recordDb tail).refetch)

/-- R234, R282: a doorbell is written through function `f`. -/
def execDoorbell (f : Fn) (c : ChainId) (size : Nat) (tail : BitVec 32) (s : State) : Answer :=
  .next (s.onPart (doorbellEff f c.val size tail))

/-! ### Arbitration (R290) -/

/-- Host command contexts, and descriptor reads in flight for each function. -/
def maxContexts : Nat := 262144
def maxReads : Nat := 64

def Part.contexts (s : Part) : Nat := (s.chains.map (fun c => c.cmds.length)).foldl (· + ·) 0

/-- The chain has descriptors to fetch. -/
def hasWork (c : ChainSt) : Bool := (c.st == .running || (c.st == .parked && c.refetchDue)) && c.fetchDb.isNone

/-- Contexts kept for chains with work that hold fewer than 4. -/
def keptContexts (s : Part) (own : Nat) : Nat :=
  (s.chains.map (fun c => if c.id ≠ own ∧ hasWork c ∧ c.inflight < 4 then 4 - c.inflight else 0)).foldl (· + ·) 0

/-- A context is free for the chain: any up to its fourth, one not kept for another beyond. -/
def contextFree (s : Part) (c : ChainSt) : Bool :=
  if c.inflight < 4 then decide (s.contexts < maxContexts) else decide (s.contexts + keptContexts s c.id < maxContexts)

/-- The chain competes for a fetch. -/
def competes (s : Part) (f : Fn) (c : ChainSt) : Bool :=
  decide (s.chainFn c.id = f) && (s.fn f).bme && !fetchStopped s && hasWork c && decide (c.inflight < c.credit) && contextFree s c

def readsOut (s : Part) (f : Fn) : Nat := (s.chains.filter (fun c => decide (s.chainFn c.id = f) && c.fetchDb.isSome)).length

/-- It is the chain's turn among the competing ones: class first, then weighted round-robin within the class. -/
def hasTurn (s : Part) (f : Fn) (c : ChainSt) (comp : List ChainSt) : Bool :=
  let hi := comp.filter ChainSt.prio
  let lo := comp.filter (fun x => !x.prio)
  let high := !hi.isEmpty && (lo.isEmpty || decide ((s.fn f).prioRun < 7))
  let cls := if high then hi else lo
  c.prio == high && (decide (c.turns < c.weight) || cls.all (fun x => decide (x.weight ≤ x.turns)))

/-- The counts of the arbiter after a grant under contention: a class with every turn taken starts a new round. -/
def takeTurn (f : Fn) (c : ChainSt) (comp : List ChainSt) (s : Part) : Part :=
  let cls := comp.filter (fun x => x.prio == c.prio)
  let fresh := cls.all (fun x => decide (x.weight ≤ x.turns))
  let step (x : ChainSt) : ChainSt :=
    if x.id = c.id then { x with turns := if fresh then 1 else x.turns + 1 }
    else if fresh && cls.any (fun y => y.id == x.id) then { x with turns := 0 } else x
  let s : Part := { s with chains := s.chains.map step }
  s.modFn f (fun x => { x with prioRun := if c.prio then x.prioRun + 1 else 0 })

/-- First host sequence a grant reads: the accepted tail when parked on it, else the one after FETCH_SEQ. -/
def ChainSt.fetchFrom (c : ChainSt) : BitVec 32 := if c.st = .parked ∧ c.onTail then c.fetchSeq else c.fetchSeq + 1

/-- Slots a grant reads: up to 8, never past the ring end, no more than the credit admits (R283, R290). -/
def ChainSt.fetchCount (c : ChainSt) : Nat :=
  let room := c.credit - c.inflight + (if c.st = .parked ∧ c.onTail then 1 else 0)
  min 8 (min (c.slots - c.slotOf c.fetchFrom) room)

def fetchGrantEff (f : Fn) (c : Nat) (s : Part) : Part :=
  let ch := s.chain c
  let comp := s.chains.filter (competes s f)
  let free := maxReads - readsOut s f
  if !competes s f ch || free = 0 then s
  else if decide (free < comp.length) && !hasTurn s f ch comp then s
  else
    let s := if free < comp.length then takeTurn f ch comp s else s
    let s := s.modChain c (fun x => { x with fetchDb := some x.dbSeq, fetchN := ch.fetchCount, refetchDue := false })
    emit (.descRead f c ((ch.ringBase.toNat + 64 * ch.slotOf ch.fetchFrom) % 2 ^ 64) ch.fetchCount) s

/-- R290: a descriptor read slot is granted to a competing chain. -/
def execFetchGrant (f : Fn) (c : ChainId) (s : State) : Answer := .next (s.onPart (fetchGrantEff f c.val))

/-! ### Descriptors (R283, R284) -/

/-- How the descriptors of a read end. -/
inductive FetchEnd
  | more
  | park (tail : Bool)
  | badSeq
deriving DecidableEq, Repr

/-- A descriptor accepted: it takes a context, with VECTOR and NOSNOOP as they stand (R286). -/
def ChainSt.accept (c : ChainSt) (d : Desc) : ChainSt :=
  { c with fetchSeq := dHseq d
           cmds := c.cmds ++ [{ hseq := dHseq d, desc := d, phase := .accepted, gen := 0, tide := 0, through := false, covers := [],
                                vector := c.vector, noSnoop := c.noSnoop }] }

/-- Descriptors of a read in slot order (R283). -/
def takeSlots : List Desc → ChainSt → ChainSt × FetchEnd
  | [], c => (c, .more)
  | d :: rest, c =>
    if !dOwn d then (c, .park false)
    else if dHseq d ≠ c.fetchSeq + 1 then (c, .badSeq)
    else
      let c := c.accept d
      if dEoc d then (c, .park true) else takeSlots rest c

/-- A read of a chain parked on its accepted tail looks at the tail's EOC bit only (R283). -/
def readSlots (slots : List Desc) (c : ChainSt) : ChainSt × FetchEnd :=
  if c.st = .parked ∧ c.onTail then
    match slots with
    | d :: rest => if dEoc d then (c, .park true) else takeSlots rest c
    | [] => (c, .more)
  else takeSlots slots c

/-- Ferry parks, unless the doorbell that stood at the deciding fetch is ahead (R284). -/
def parkAt (c : Nat) (issued : BitVec 32) (tail : Bool) (s : Part) : Part :=
  let ch := s.chain c
  if ahead issued ch.fetchSeq then haltChain c 0x82 s
  else
    s.modChain c (fun x =>
      let y := { x with st := .parked, parkSeq := if tail then x.fetchSeq else x.fetchSeq + 1, onTail := tail }
      if ahead y.dbSeq y.fetchSeq then y.refetch else y)

def descriptorFetchEff (c : Nat) (slots : List Desc) (s : Part) : Part :=
  let ch := s.chain c
  match ch.fetchDb with
  | none =>
    if ch.fetchLost then
      (s.modChain c (fun x => { x with fetchLost := false })).modFn (s.chainFn c) (fun y => { y with bmeDiscards := y.bmeDiscards + 1 })
    else s
  | some issued =>
    if slots.length < ch.fetchN then s
    else
      let (x, e) := readSlots (slots.take ch.fetchN) ch
      let s := s.setChain { x with fetchDb := none }
      match e with
      | .more => s.modChain c (fun x => { x with st := .running, onTail := false })
      | .park tail => parkAt c issued tail s
      | .badSeq => haltChain c 0x83 s

/-- R283, R284: a descriptor read returns. -/
def execDescriptorFetch (c : ChainId) (slots : List (BitVec 512)) (s : State) : Answer :=
  .next (s.onPart (descriptorFetchEff c.val slots))

/-! ### Chain commands (R288, Table 11.7) -/

/-- The result of a chain command in CMD_STATUS; `reason` 0 is done. -/
def cmdResult (f : Fn) (reason : Nat) (s : Part) : Part :=
  s.modFn f (fun x => { x with cmdBusy := false, cmdResult := if reason = 0 then 1 else 2, cmdReason := reason })

def enableChain (c : Nat) (s : Part) : Nat × Part :=
  let ch := s.chain c
  if ch.st ≠ .disabled then (1, s)
  else if ch.regSize < 4 ∨ 16 < ch.regSize ∨ ch.regBase.toNat % 4096 ≠ 0 then (3, s)
  else
    (0, s.modChain c (fun x =>
      { x with ringBase := x.regBase, sizeLog2 := x.regSize, seqBase := x.regSeq, fetchSeq := x.regSeq - 1, dseq := x.regSeq - 1
               dbSeq := x.regSeq - 1, parkSeq := x.regSeq, st := .parked, onTail := false, refetchDue := true, fetchDb := none
               cmds := [], txs := [], turns := 0 }))

/-- A chain stops fetching; a fetch that is out is discarded. -/
def ChainSt.stopFetch (c : ChainSt) : ChainSt := { c with fetchDb := none, refetchDue := false }

def pauseChain (c : Nat) (s : Part) : Nat × Part :=
  let ch := s.chain c
  if ch.st = .running ∨ ch.st = .parked then
    (0, s.modChain c (fun x => { x.stopFetch with st := .paused, wasParked := x.st == .parked }))
  else (1, s)

def drainChain (c : Nat) (s : Part) : Nat × Part :=
  let ch := s.chain c
  if ch.st = .running ∨ ch.st = .parked then
    (0, s.modChain c (fun x => { x.stopFetch with st := .draining, wasParked := x.st == .parked }))
  else if ch.st = .paused then (0, s.modChain c (fun x => { x with st := .draining }))
  else (1, s)

/-- A doorbell recorded while fetching was stopped acts (R282): too far ahead it halts the chain, ahead it re-fetches a
parked slot. -/
def actDoorbell (c : Nat) (s : Part) : Part :=
  let ch := s.chain c
  if ch.st ≠ .running ∧ ch.st ≠ .parked then s
  else if ch.tooFar ch.dbSeq then haltChain c 0x82 s
  else if ahead ch.dbSeq ch.fetchSeq then s.modChain c ChainSt.refetch
  else s

def resumeChain (c : Nat) (s : Part) : Nat × Part :=
  let ch := s.chain c
  if ch.st ≠ .paused then (1, s)
  else if ch.wasParked then (0, actDoorbell c (s.modChain c (fun x => { x with st := .parked }.refetch)))
  else (0, actDoorbell c (s.modChain c (fun x => { x with st := .running })))

/-- Every transaction still open on the chain ends without effect (R279). -/
def endChainTxs (c : Nat) (s : Part) : Part :=
  (((s.chain c).txs).foldl (fun st t => releaseTxBlocks c t.tag st) s).modChain c (fun x => { x with txs := [] })

def resetChain (c : Nat) (s : Part) : Nat × Part :=
  let ch := s.chain c
  if ch.st ≠ .disabled ∧ ch.st ≠ .paused ∧ ch.st ≠ .halted then (1, s)
  else if ch.inflight ≠ 0 then (2, s)
  else
    (0, (endChainTxs c s).modChain c (fun x =>
      { x.stopFetch with st := .disabled, halt := 0, ignDb := 0, foreignDb := 0, refetches := 0, cmds := [] }))

/-- A listed chain command on a chain: its reason and its effect. -/
def chainCommand (code c : Nat) (s : Part) : Nat × Part :=
  match code with
  | 1 => enableChain c s
  | 2 => pauseChain c s
  | 3 => drainChain c s
  | 4 => resumeChain c s
  | 5 => resetChain c s
  | _ => (6, s)

/-- A write to CHAIN_CMD (R286, R288). -/
def chainCmdEff (f : Fn) (code : Nat) (s : Part) : Part :=
  if (s.fn f).cmdBusy then s
  else
    match s.selected f with
    | none => cmdResult f 4 s
    | some c =>
      if s.sched.resetting then cmdResult f 5 s
      else if s.sched.frozen then s.modFn f (fun x => { x with cmdBusy := true, cmdHeld := some (c, code) })
      else
        let r := chainCommand code c s
        cmdResult f r.1 r.2

def execEnable (f : Fn) (s : State) : Answer := .next (s.onPart (chainCmdEff f 1))
def execPause (f : Fn) (s : State) : Answer := .next (s.onPart (chainCmdEff f 2))
def execDrain (f : Fn) (s : State) : Answer := .next (s.onPart (chainCmdEff f 3))
def execResume (f : Fn) (s : State) : Answer := .next (s.onPart (chainCmdEff f 4))
def execReset (f : Fn) (s : State) : Answer := .next (s.onPart (chainCmdEff f 5))

/-- R288: a CHAIN_CMD value not listed in Table 11.7. -/
def execUnknownChainCmd (f : Fn) (v : BitVec 32) (s : State) : Answer :=
  .next (s.onPart (fun s => if 1 ≤ v.toNat ∧ v.toNat ≤ 5 then s else chainCmdEff f v.toNat s))

/-- R288: a draining chain with nothing in flight reads PAUSED. -/
def execDrainComplete (c : ChainId) (s : State) : Answer :=
  .next (s.onPart (fun s =>
    let ch := s.chain c.val
    if ch.st = .draining ∧ ch.inflight = 0 then s.modChain c.val (fun x => { x with st := .paused }) else s))

/-! ### The end of a freeze (R98, R288) -/

/-- A chain command held by the freeze runs. -/
def runHeldCmd (f : Fn) (s : Part) : Part :=
  match (s.fn f).cmdHeld with
  | none => s
  | some (c, code) =>
    let r := chainCommand code c (s.modFn f (fun x => { x with cmdHeld := none }))
    cmdResult f r.1 r.2

/-- Chains resume from their frozen positions: recorded doorbells act, held chain commands run (Table 4.6 step 5). -/
def resumeChains (s : Part) : Part :=
  let s := (s.chains.map (·.id)).foldl (fun st c => actDoorbell c st) s
  runHeldCmd .f1 (runHeldCmd .f0 s)

end Sys2Proof.Machine
end

