-- ==== Sys2Proof/Machine/Crossing.lean ====
section
/-! DEFINITION. Meanings of the Crossing commands (07: R167–R177): the start and its checks, a step of a shape Crossing, a
stripe of a re-key in place, the committed cursor, the abort, the end. -/

namespace Sys2Proof.Machine

/-! ### The staged target (R168–R170) -/

/-- The members a Crossing names: the bitmap where the kinds change the member set or the format, else the source's. -/
def crossIds (s : Part) (c : Charter) (kinds : Nat) : List Nat :=
  if bitAt kinds 0 || bitAt kinds 3 then bitmapIds (s.objBlob (poolIdx c.poolId 0x16) 5) else c.members.map (·.id)

/-- T_* fields of the kinds that are set (Table 7.5); the others keep the source's. -/
def crossShape (s : Part) (c : Charter) (kinds : Nat) : Shape :=
  let code := s.objNum (poolIdx c.poolId 0x16) 2
  let lay := s.objNum (poolIdx c.poolId 0x16) 3
  let h := c.shape
  let h := if bitAt kinds 1 then
      { h with codeType := bitsOf code 31 24, k := bitsOf code 23 16, m := bitsOf code 15 8, g := bitsOf code 7 0 } else h
  let h := if bitAt kinds 2 then
      { h with stripLog2 := bitsOf lay 31 24, enclLimit := bitsOf lay 15 8, rackLimit := bitsOf lay 7 0,
               spare := s.objNum (poolIdx c.poolId 0x16) 4 } else h
  if bitAt kinds 3 then { h with blockFmt := bitsOf lay 23 16 } else h

/-- Volumes a Crossing crosses, in ascending source BASE (R171): every one, or for a re-key those named. -/
def crossVolumes (s : Part) (c : Charter) (shape : Bool) : List Nat :=
  let all := (c.vols.mergeSort (fun a b => decide (a.base ≤ b.base))).map (·.id)
  if shape then all
  else
    let named := bitmapIds (s.objBlob (poolIdx c.poolId 0x16) 6)
    all.filter (fun v => named.contains v)

/-- Entries of new members, in ascending id (R170). -/
def crossNew (s : Part) (c : Charter) (ids : List Nat) : List CMember :=
  ((sortNats ids).filter (fun k => (c.ordinalOf k).isNone)).mapIdx (fun i k =>
    { id := k, ordinal := c.members.length + i, state := 7, protocol := ((s.member? k).map (·.info.protocol)).getD .sas
      encl := s.memberEncl k, rack := s.memberRack k, identity := ((s.member? k).map (·.info.identity)).getD [] })

/-- Member-table entries of the target, in table order. -/
def crossTarget (c : Charter) (ids : List Nat) (new : List CMember) : List Nat :=
  ((c.members ++ new).mapIdx (fun e m => (e, m.id))).filterMap (fun x => if ids.contains x.2 then some x.1 else none)

/-- Stripes the packed volumes take in a shape (R171). -/
def packedStripes (c : Charter) (h : Shape) : Nat :=
  (c.vols.map (fun v => ceilDiv v.size (max 1 h.kb))).foldl (· + ·) 0

/-- Blocks per member that the first `n` stripes of a shape over `members` members take: w rows a stripe group. -/
def areaBlocks (h : Shape) (members n : Nat) : Nat := ceilDiv n (max 1 (members - h.spare)) * h.w * h.sb

/-- Source stripe groups that hold an allocated stripe (R169), each counted once. -/
def allocatedGroups (c : Charter) : Nat :=
  let per := max 1 c.shape.kb * max 1 (c.members.length - c.shape.spare)
  ((c.vols.filter (fun v => v.size != 0)).mergeSort (fun a b => decide (a.base ≤ b.base))).foldl (fun (acc : Nat × Nat) v =>
    let first := max acc.2 (v.base / per)
    let after := (v.base + v.size - 1) / per + 1
    (acc.1 + (after - first), max acc.2 after)) (0, 0) |>.1

/-- T_DATA_START (R169). -/
def crossStartBlock (c : Charter) (h : Shape) (ids : List Nat) : Nat :=
  if !ids.any (fun k => (c.ordinalOf k).isSome) then 16384
  else if 16384 + areaBlocks h ids.length (packedStripes c h) ≤ c.shape.dataStart then 16384
  else
    let srcEnd := c.shape.dataStart + allocatedGroups c * c.shape.w * c.shape.sb
    ceilDiv srcEnd h.sb * h.sb

/-- T_USABLE_BLOCKS and T_STRIPE_COUNT (R169, R28). -/
def crossSize (h : Shape) (start : Nat) (caps : List Nat) : Shape :=
  let area := (caps.map (fun c => c - 512 - start)).foldl min (caps.headD 0 - 512 - start)
  let usable := area / h.sb * h.sb
  { h with dataStart := start, usable := usable, stripeCount := (caps.length - h.spare) * (usable / h.sb) / max 1 h.w }

/-- A target breaks Table 2.1, R47 or R52 (R168). -/
def targetBad (s : Part) (c : Charter) (h : Shape) (ids : List Nat) (all : List CMember) : Bool :=
  let ms := ids.filterMap s.member?
  let tm := all.filter (fun m => ids.contains m.id)
  !shapePermitted h || decide (ids.length < h.w + h.spare) || ms.length != ids.length ||
    ms.any (fun m => !suitsFormat m.info h.blockFmt) ||
    ms.any (fun m => (c.ordinalOf m.id).isNone && (m.state != 1 || s.memberNamed m.id || LabelRead.foreign m.label)) ||
    (tm.map (·.encl) ++ tm.map (·.rack)).contains 0xFFFF ||
    (layoutRefusal h (tm.map (·.encl)) (tm.map (·.rack))).isSome

/-- The pool is HALTED or FAILED (Table 7.1). -/
def haltedOrFailed (s : Part) (p : PoolSt) : Bool :=
  (!p.progress && s.man.entries.any (fun e => e.pool == p.id && e.state == .stalled)) ||
    (List.range p.charter.shape.stripeCount).any (fun x => beyondRepair s p p.charter.geo x)

/-- The first item of R168's list that holds. -/
def crossRefusal (s : Part) (p : PoolSt) (c : Charter) (kinds : Nat) (h : Shape) (ids : List Nat) (new : List CMember) : Option Nat :=
  let shape := decide (kinds % 16 ≠ 0) || h.blockFmt == 4
  let step := if shape then Nat.lcm c.shape.kb h.kb else c.shape.kb
  let vols := crossVolumes s c shape
  if c.cross.isSome || p.charter.cross.isSome || p.cross.state ≠ 0 then some 1
  else if 8 ≤ (s.pools.filter (fun x => x.life != 0 && x.charter.cross.isSome)).length then some 2
  else if haltedOrFailed s p then some 3
  else if kinds = 0 || 32 ≤ kinds || (shape && targetBad s c h ids (c.members ++ new)) then some 4
  else if shape && h.usable = 0 then some 5
  else if shape && decide (h.stripeCount < packedStripes c h) then some 6
  else if 65536 < step then some 7
  else if bitAt kinds 4 && (s.kekLoaded? c.kekId).isNone then some 8
  else if c.shape.blockFmt = 4 && vols.any (fun v => s.slotState v ≠ 2) then some 8
  else none

/-- A new key for a volume named for one, wrapped under the pool's KEK (R167, R171 NEW_KEY, R218); empty for any other. -/
def newKeyFor (kinds : Nat) (named : List Nat) (vol : Nat) (kekId : Bytes) (s : Part) : Bytes × Part :=
  if bitAt kinds 4 && named.contains vol then
    match s.kekLoaded? kekId with
    | some kek =>
      let (m, s) := drawMaterial 8 s
      (kwpWrap kek m, s)
    | none => ([], s)
  else ([], s)

/-- The first target block of a Crossing (Table 7.6); the generation that starts it is numbered as it is built. -/
def crossBegin (c : Charter) (kinds : Nat) (h : Shape) (vols target : List Nat) (key : Bytes) (s : Part) : CrossBlk where
  kinds := kinds
  stage := 0
  startGen := 0
  shape := h
  srcCount := c.members.length
  curVolume := vols.headD 0xFFFF
  cursor := 0
  cursorTide := s.sched.tideNow
  started := s.timeUs
  volumes := vols
  newKey := key
  target := target

def crossStartEff (q : Req) (p : Nat) (s : Part) : Part :=
  checked q roleCustodian (some (scopePool p)) (fun s =>
    match s.pool? p with
    | none => refuseRule q 168 0 s
    | some ps =>
      if ps.life ≠ 3 then refuseRule q 168 0 s
      else if !ps.owned then refuseRule q 297 0 s
      else
        let c := ps.latest
        let kinds := s.objNum (poolIdx p 0x16) 1
        let named := bitmapIds (s.objBlob (poolIdx p 0x16) 6)
        let ids := crossIds s c kinds
        let new := crossNew s c ids
        let caps := ids.map (fun k => ((s.member? k).map (·.info.capacity)).getD 0)
        let h0 := crossShape s c kinds
        let shape := decide (kinds % 16 ≠ 0) || h0.blockFmt == 4
        let h := if shape then crossSize h0 (crossStartBlock c h0 ids) caps else h0
        match crossRefusal s ps c kinds h ids new with
        | some i => refuseRule q 168 i s
        | none =>
          let (seed, s) := if bitAt kinds 2 then s.draw 4 else (leBytes 4 h.seed, s)
          let vols := crossVolumes s c shape
          let (key, s) := newKeyFor kinds named (vols.headD 0xFFFF) c.kekId s
          let h := { h with seed := ofLe seed }
          let s := s.modPool p (fun y => { y with cross := { y.cross with named := named } })
          let x := crossBegin c kinds h vols (crossTarget c ids (if shape then new else [])) key s
          let s := if shape && h.blockFmt = 4 && c.shape.blockFmt ≠ 4 then noted 16 168 0 (leBytes 1 p) s else s
          answerChange q p (scopePool p) (.crossStart x (if shape then new else [])) s) s

/-- R168: a Custodian starts the staged Crossing. -/
def execCrossStart (q : Req) (p : PoolId) (s : State) : Answer := .next (s.onPart (crossStartEff q p.val))

/-! ### One block on its way -/

/-- Re-encryption of a stored block from one key and format to another, tried in order: a block none of them
opens goes on as it is (R171, R174). A format without generations gives the block the generation `gen`. -/
def reEncrypt (p : PoolSt) (srcKeys : List Bytes) (dstKey : Bytes) (srcFmt dstFmt : Nat) (v : CVol) (lba gen : Nat) (b : Block) : Block :=
  let opened : Option (Bytes × Bytes) :=
    if srcFmt = 4 then srcKeys.head?.map (fun m =>
      let pt := (decryptBlock m 4 v.id lba b).1
      (pt, hostPiOf v.hostPi [0, 0] lba pt))
    else srcKeys.findSome? (fun m => if tagGood m v.id lba b then some (decryptBlock m srcFmt v.id lba b) else none)
  match opened with
  | some (pt, hpi) => encryptBlock dstKey dstFmt v.id p.id lba (if srcFmt = 4 then gen else b.gen) pt hpi
  | none => b

/-- A lost marker in the target's format (R146, R175): it keeps its content and its generation. -/
def markerIn (pool dstFmt : Nat) (v : CVol) (b : Block) : Block :=
  if dstFmt = 4 then Block.mk' b.ct [0, 0, 0, 0x80, 0, 0, 0, 0]
  else Block.mk' b.ct ([0, 0, 0, 0x80, 0, 0, 0, 0] ++ (metaOf [] (ofLe ((b.ct.drop 32).take 8)) [] v.id pool).drop 8)

/-- A source block as the other shape stores it; `none` when a key it needs is not in a slot. -/
def crossBlock (s : Part) (p : PoolSt) (src dst : Geo) (v : CVol) (lba gen : Nat) (b : Block) : Option Block :=
  if b.isZero then some b
  else if lostBit b then some (markerIn p.id dst.fmt v b)
  else if (src.fmt = 4 ↔ dst.fmt = 4) ∧ p.rekeys v.id = false then some b
  else
    let tgt (g : Geo) : Bool := g.off != 0
    match s.materialFor p (tgt dst) v.id lba, s.materialFor p (tgt src) v.id lba with
    | some dk, some sk => some (reEncrypt p [sk] dk src.fmt dst.fmt v lba gen b)
    | _, _ => none

/-- Blocks collected for destination stripes, and the state with the records of what was read. -/
abbrev Gathered := Option (List (Nat × Nat × Nat × Block)) × Part

/-- The newest version of a volume block in a shape: held, or read from its strips (R134, R171 step 1). -/
def newestIn (p : PoolSt) (g : Geo) (bad : BadReads) (stripe i bo : Nat) (s : Part) : Block × Part :=
  match s.heldAt p.id stripe i bo with
  | some h => (h.block, s)
  | none =>
    let r := if g.mirror then restoreBlock p g bad stripe i bo s else laneBlock p g bad stripe i bo s
    (((alGet bo r.blocks)).getD Block.zero, stageRepair 7 p.id stripe r.rewrites r.part)

/-- The version already in the destination, where its strip is there. -/
def versionAt (s : Part) (p : PoolSt) (g : Geo) (bad : BadReads) (stripe i bo : Nat) : Block :=
  match s.heldAt p.id stripe i bo with
  | some h => h.block
  | none => match readStrip s p g bad stripe bo i with
    | .ok b => b
    | _ => Block.zero

/-- The data block at an address of a destination stripe: the source's, unless the destination has a higher generation
(R172). -/
def gatherBlock (p : PoolSt) (back : Bool) (dst : Geo) (bad : BadReads) (gen stripe i bo : Nat) (acc : Gathered) : Gathered :=
  match acc with
  | (none, s) => (none, s)
  | (some l, s) =>
    match p.charter.blockVol dst stripe i bo with
    | none => (some (l ++ [(stripe, i, bo, Block.zero)]), s)
    | some (v, lba) =>
      let a := p.charter.addrIn back v lba
      let src := p.charter.geoOf a.1
      let (b, s) := newestIn p src bad a.1 a.2.1 a.2.2 s
      let there := versionAt s p dst bad stripe i bo
      if dst.fmt ≠ 4 ∧ src.fmt ≠ 4 ∧ b.gen < there.gen then (some (l ++ [(stripe, i, bo, there)]), s)
      else
        match crossBlock s p src dst v lba gen b with
        | some x => (some (l ++ [(stripe, i, bo, x)]), s)
        | none => (none, s)

/-- The data blocks of the destination stripes of a step. -/
def gather (p : PoolSt) (back : Bool) (dst : Geo) (bad : BadReads) (gen : Nat) (stripes : List Nat) (s : Part) : Gathered :=
  (stripes.flatMap (fun x => (List.range (if dst.mirror then 1 else dst.h.k)).flatMap (fun i =>
    (List.range dst.h.sb).map (fun bo => (x, i, bo))))).foldl (fun acc a => gatherBlock p back dst bad gen a.1 a.2.1 a.2.2 acc) (some [], s)

/-- Every strip of a destination stripe from its data blocks (R171 step 2, R35). -/
def wholeStripe (g : Geo) (blocks : List (Nat × Nat × Block)) : List (Nat × Nat × Block) :=
  if g.mirror then blocks.flatMap (fun b => (List.range g.w).map (fun c => (c, b.2.1, b.2.2)))
  else (List.range g.h.sb).flatMap (fun bo =>
    wholeOffset g bo ((List.range g.h.k).map (fun i => codedUnit g.fmt ((newAt blocks i bo).getD Block.zero))) blocks)

/-- Lost blocks of the source are lost in the destination too (R175: markers cross as markers). -/
def carryLost (p : PoolSt) (dst : Geo) (stripe i bo : Nat) (b : Block) (s : Part) : Part :=
  if lostBit b then
    match p.charter.blockVol dst stripe i bo with
    | none => s
    | some (v, lba) =>
      match p.int.lost.find? (fun e => !e.unalloc && e.vol == v.id && e.lba == lba) with
      | some e => s.modPool p.id (fun x => { x with int := { x.int with
          lost := x.int.lost.filter (fun y => decide (y.key ≠ (stripe, bo, i))) ++ [{ e with stripe := stripe, strip := i, bo := bo }] } })
      | none => s
  else s

/-! ### The state a Crossing is in -/

/-- A rebuild task at margin 0 or 1 in either shape (R175). -/
def urgentRebuild (s : Part) (p : PoolSt) : Bool := (poolTasks s p).any (fun t => decide (t.2.1 ≤ 1))

/-- Nothing else keeps a Crossing of this pool from working (R98, R297, R304). -/
def crossAwake (s : Part) (p : PoolSt) : Bool :=
  p.life == 3 && p.owned && p.pair.state != 4 && !s.sched.frozen && !s.tow.sleeping && s.dump.state != 3

/-- A stripe behind a link that is down within LINK_HOLD_MS (R206). -/
def waitsAt (s : Part) (p : PoolSt) (stripe : Nat) : Bool := linkWaits s p (p.charter.geoOf stripe) stripe

/-- CROSS_STATE while a step is tried: an abort keeps its own (Table 7.8). -/
def crossStateIs (p : Nat) (x : CrossBlk) (new : Nat) (s : Part) : Part := if x.stage = 1 then s else setCrossState p new s

/-- Source stripes a range of volume blocks lies in, with their shape. -/
def stripesFor (p : PoolSt) (target : Bool) (v : CVol) (lo hi : Nat) : List Nat :=
  ((List.range (hi - lo)).map (fun i => (p.charter.addrIn target v (lo + i)).1)).eraseDups

/-- A generation for blocks that have none (R168): the open tide and the volume's next SEQ. -/
def mintGen (v : Nat) (s : Part) : Nat × Part :=
  let seq := s.nextSeq v
  ((s.sched.tideNow % 2 ^ 48) * 65536 + seq, s.modVol v (fun x => { x with genTide := s.sched.tideNow, genSeq := seq }))

/-- The volume blocks of the next step: forward from the live cursor, or downward to it (R171, R176). -/
def stepRange (p : PoolSt) (x : CrossBlk) (size : Nat) : Nat × Nat :=
  let n := max 1 (crossStepBlocks p.charter x)
  if x.stage = 1 then ((p.cross.live - 1) / n * n, min p.cross.live size) else (p.cross.live, min (p.cross.live + n) size)

/-- The stripes of a step are encoded and staged under THROUGH entries (R39, R171 step 3); `fails` encodings of the first
one fail their check. -/
def stageStep (p : PoolSt) (dst : Geo) (stripes : List Nat) (blocks : List (Nat × Nat × Nat × Block)) (fails : Nat) (s : Part) : Part :=
  let s := s.modPool p.id (fun y => { y with cross := { y.cross with stepLeft := stripes } })
  stripes.foldl (fun st x =>
    let mine := (blocks.filter (fun b => b.1 == x)).map (·.2)
    let st := mine.foldl (fun t b => carryLost p dst x b.1 b.2.1 b.2.2 t) st
    stageEncoded p.id x dst.mirror (if stripes.head? = some x then fails else 0) (wholeStripe dst mine)
      ((addEntry p.id x .through st).modEntry p.id x (fun e => { e with cls := 7 }))) s

def crossStepEff (p : Nat) (bad : BadReads) (fails : Nat) (s : Part) : Part :=
  match s.pool? p with
  | none => s
  | some ps =>
    match ps.charter.cross with
    | none => s
    | some x =>
      match ps.charter.vols.find? (fun v => v.id == x.curVolume) with
      | none => s
      | some v =>
        let (lo, hi) := stepRange ps x v.size
        let back := x.stage == 1
        if !x.isShape || !crossAwake s ps || !ps.cross.stepLeft.isEmpty || decide (hi ≤ lo) then s
        else if urgentRebuild s ps then crossStateIs p x 2 s
        else
          let src := stripesFor ps back v lo hi
          let dst := stripesFor ps (!back) v lo hi
          let g := if back then ps.charter.geo else ps.charter.tgeo x
          if src.any (fun y => beyondAt s ps y) then crossStateIs p x 3 s
          else if (src ++ dst).any (waitsAt s ps) then s
          else if !g.mirror && s.pipes.isEmpty then s
          else if dst.any (fun y => (s.entry? p y).isSome || ps.reb.writing.any (fun w => w.stripe == y)) || decide (maxEntries < s.man.entries.length + dst.length) then
            crossStateIs p x 1 s
          else
            let mint := ps.charter.geo.fmt = 4 ∧ x.shape.blockFmt ≠ 4 ∨ ps.charter.geo.fmt ≠ 4 ∧ x.shape.blockFmt = 4
            let (gen, s1) := if mint then mintGen v.id s else (0, s)
            match gather ps back g bad gen dst s1 with
            | (some blocks, s2) => stageStep ps g dst blocks fails (countMedium bad (active (crossStateIs p x 1 s2)))
            | (none, s2) => countMedium bad s2

/-- R171: a step reads the source stripes and stages the target stripes; an abort copies back (R176). -/
def execCrossStep (p : PoolId) (x : StepFaults) (s : State) : Answer :=
  .next (s.onPart (crossStepEff p.val x.bad x.encodeFails))

/-- A stripe of the step has no member write left. -/
def stepStripeDone (s : Part) (p stripe : Nat) : Bool :=
  match s.entry? p stripe with
  | some e => e.staged.isEmpty && e.left.isEmpty && !e.built
  | none => true

def crossStepCommitEff (p : Nat) (s : Part) : Part :=
  match s.pool? p with
  | none => s
  | some ps =>
    match ps.charter.cross with
    | none => s
    | some x =>
      if ps.cross.stepLeft.isEmpty || !ps.cross.stepLeft.all (stepStripeDone s p) then s
      else
        let size := ((ps.charter.vols.find? (fun v => v.id == x.curVolume)).map (·.size)).getD 0
        let (lo, hi) := stepRange ps x size
        s.modPool p (fun y => { y with cross := { y.cross with stepLeft := [], live := if x.stage = 1 then lo else hi } })

/-- R171 step 4: every write of the step has committed, and the live cursor advances. -/
def execCrossStepCommit (p : PoolId) (s : State) : Answer := .next (s.onPart (crossStepCommitEff p.val))

/-! ### Re-key in place (R173, R174) -/

/-- A block of the volume under the other key; one that is there already, or opens under neither, stays. -/
def rekeyBlock (p : PoolSt) (g : Geo) (old new : Bytes) (v : CVol) (lba : Nat) (b : Block) : Block :=
  if b.isZero || lostBit b || tagGood new v.id lba b then b else reEncrypt p [old] new g.fmt g.fmt v lba 0 b

/-- Data blocks of a stripe as the re-key writes them. -/
def rekeyData (p : PoolSt) (g : Geo) (old new : Bytes) (bad : BadReads) (stripe : Nat) (s : Part) : List (Nat × Nat × Block) × Part :=
  ((List.range (if g.mirror then 1 else g.h.k)).flatMap (fun i => (List.range g.h.sb).map (fun bo => (i, bo)))).foldl
    (fun (acc : List (Nat × Nat × Block) × Part) a =>
      let r := if g.mirror then restoreBlock p g bad stripe a.1 a.2 acc.2 else laneBlock p g bad stripe a.1 a.2 acc.2
      let b := (alGet a.2 r.blocks).getD Block.zero
      let b := match p.charter.blockVol g stripe a.1 a.2 with
        | some (v, lba) => rekeyBlock p g old new v lba b
        | none => b
      (acc.1 ++ [(a.1, a.2, b)], r.part)) ([], s)

def rekeyStripeEff (p : Nat) (bad : BadReads) (fails : Nat) (s : Part) : Part :=
  match s.pool? p with
  | none => s
  | some ps =>
    match ps.charter.cross with
    | none => s
    | some x =>
      match ps.charter.vols.find? (fun v => v.id == x.curVolume), s.mainMaterial x.curVolume, s.rekeyMaterial p with
      | some v, some main, some key =>
        let (lo, hi) := stepRange ps x v.size
        let g := ps.charter.geo
        let stripe := (ps.charter.addrIn false v lo).1
        if x.isShape || !crossAwake s ps || decide (hi ≤ lo) || (!g.mirror && s.pipes.isEmpty) then s
        else if urgentRebuild s ps then crossStateIs p x 2 s
        else if beyondAt s ps stripe then crossStateIs p x 3 s
        else if waitsAt s ps stripe then s
        else if (s.entry? p stripe).isSome || decide (maxEntries ≤ s.man.entries.length) || ps.reb.writing.any (fun w => w.stripe == stripe) then
          crossStateIs p x 1 s
        else
          let (old, new) := if x.stage = 1 then (key, main) else (main, key)
          let (data, s) := rekeyData ps g old new bad stripe s
          let s := countMedium bad (active (crossStateIs p x 1 s))
          let s := s.modPool p (fun y => { y with cross := { y.cross with live := if x.stage = 1 then lo else hi } })
          stageEncoded p stripe g.mirror fails (wholeStripe g data) ((addEntry p stripe .held s).modEntry p stripe (fun e => { e with cls := 7 }))
      | _, _, _ => s

/-- R173: a stripe is re-encrypted and staged; an abort returns it to the old key (R176). -/
def execRekeyStripe (p : PoolId) (x : StepFaults) (s : State) : Answer :=
  .next (s.onPart (rekeyStripeEff p.val x.bad x.encodeFails))

/-! ### The committed cursor -/

/-- A Crossing change of the pool waits or is being written. -/
def crossChanging (p : PoolSt) : Bool :=
  p.queue.any (fun d => match d with
    | .crossStart _ _ | .crossSet _ | .crossVol _ _ _ | .crossAborted | .crossDone => true
    | _ => false) ||
  p.change.any (fun c => decide (c.charter.cross ≠ p.charter.cross)) || p.coming.any (fun c => decide (c.cross ≠ p.charter.cross))

/-- Blocks of the volume in progress whose re-encrypted stripes are still on their way to the members: the cursor does not
pass them. -/
def rekeyFloor (s : Part) (p : PoolSt) (x : CrossBlk) (v : CVol) : Nat :=
  if x.isShape then p.cross.live
  else
    (s.man.entries.filter (fun e => e.pool == p.id && e.cls == 7 && (e.built || !e.left.isEmpty || e.synd != 0))).foldl (fun n e =>
      let lo := e.stripe * p.charter.shape.kb - v.base
      if x.stage = 1 then max n (min v.size (lo + p.charter.shape.kb)) else min n lo) p.cross.live

/-- The volume after the one that ends (R171), with its new key. -/
def nextVolume (p : PoolSt) (x : CrossBlk) (s : Part) : CrossBlk × Part :=
  let rest := x.volumes.filter (· != x.curVolume)
  match rest with
  | [] => ({ x with volumes := [], curVolume := 0xFFFF, cursor := 0, cursorTide := s.sched.tideNow, newKey := [] }, s)
  | v :: _ =>
    let (key, s) := newKeyFor x.kinds p.cross.named v p.charter.kekId s
    ({ x with volumes := rest, curVolume := v, cursor := 0, cursorTide := s.sched.tideNow, newKey := key }, s)

/-- The volume an abort copies back next (R176): the last one crossed, from its end downward; it keeps its key. -/
def backVolume (p : PoolSt) (x : CrossBlk) (s : Part) : CrossBlk :=
  match (if x.isShape then p.cross.crossed.getLast? else none) with
  | some v =>
    { x with volumes := v :: x.volumes, curVolume := v, cursor := ((p.charter.vols.find? (fun y => y.id == v)).map (·.size)).getD 0
             cursorTide := s.sched.tideNow, newKey := [] }
  | none => { x with curVolume := 0xFFFF, cursor := 0, cursorTide := s.sched.tideNow, newKey := [] }

def crossCursorEff (p : Nat) (s : Part) : Part :=
  match s.pool? p with
  | none => s
  | some ps =>
    match ps.charter.cross with
    | none => s
    | some x =>
      if crossChanging ps || !ps.owned then s
      else
        match ps.charter.vols.find? (fun v => v.id == x.curVolume) with
        | none => if x.stage = 1 && x.isShape && !ps.cross.crossed.isEmpty then queueDelta p (.crossSet (backVolume ps x s)) s else s
        | some v =>
          let c := rekeyFloor s ps x v
          if x.stage = 0 then
            if v.size ≤ c then
              let (y, s) := nextVolume ps x s
              if ps.rekeys v.id then queueDelta p (.crossVol y v.id x.newKey) s else queueDelta p (.crossSet y) s
            else if c = x.cursor then s
            else queueDelta p (.crossSet { x with cursor := c, cursorTide := s.sched.tideNow }) s
          else if c = 0 then queueDelta p (.crossSet (backVolume ps x s)) s
          else if c = x.cursor then s
          else queueDelta p (.crossSet { x with cursor := c, cursorTide := s.sched.tideNow }) s

/-- R171: the committed cursor is written by a charter change, and at the end of a volume the next one begins. -/
def execCrossCursorCommit (p : PoolId) (s : State) : Answer := .next (s.onPart (crossCursorEff p.val))

/-! ### Abort and end -/

def crossAbortEff (q : Req) (p : Nat) (s : Part) : Part :=
  checked q roleCustodian (some (scopePool p)) (fun s =>
    match s.pool? p with
    | none => refuseRule q 176 0 s
    | some ps =>
      match ps.latest.cross with
      | none => refuseRule q 176 0 s
      | some x =>
        if x.stage = 1 || ps.cross.state = 5 || ps.queue.contains .crossDone then refuseRule q 176 0 s
        else if !ps.owned then refuseRule q 297 0 s
        else answerChange q p (scopePool p) (.crossSet { x with stage := 1 }) s) s

/-- R176: a Custodian aborts the Crossing. -/
def execCrossAbort (q : Req) (p : PoolId) (s : State) : Answer := .next (s.onPart (crossAbortEff q p.val))

def crossCompleteEff (p : Nat) (s : Part) : Part :=
  match s.pool? p with
  | none => s
  | some ps =>
    match ps.charter.cross with
    | none => s
    | some x =>
      let source := s.man.entries.any (fun e => e.pool == p && decide (e.stripe < ps.charter.shape.stripeCount))
      if x.curVolume ≠ 0xFFFF || crossChanging ps || !ps.owned then s
      else if x.stage = 1 then
        if x.isShape && !ps.cross.crossed.isEmpty then s else queueDelta p .crossAborted s
      else if x.isShape && source then s
      else queueDelta p .crossDone (setCrossState p 5 s)

/-- R177: the charter change that adopts the target shape, or after an abort the one that removes the target block (R176
step 4). -/
def execCrossComplete (p : PoolId) (s : State) : Answer := .next (s.onPart (crossCompleteEff p.val))

end Sys2Proof.Machine
end

