-- ==== Sys2Proof/Machine/WarmReset.lean ====
section
/-! DEFINITION. The device warm reset (04: Table 4.5; 08: R211; 11: R413; 17: R399). -/

namespace Sys2Proof.Machine

/-! ### Step 1 and step 3: what ends with ABORTED -/

/-- A TX_COMMIT, or a write of a transaction. -/
def partOfTx (x : Cmd) : Bool := isTx x.desc || dOpcode x.desc == 0x11

/-- Step 3 of Table 4.5: a command not admitted, a read whose data is not all delivered, the TX_COMMIT of an open
transaction and its writes not yet written back. A placed TX_COMMIT commits. -/
def abortedByReset (x : Cmd) : Bool :=
  match x.phase with
  | .accepted | .waiting => true
  | .admitted | .landed => partOfTx x
  | _ => false

/-- A command ends with ABORTED, without effect. -/
def abortCmd (c : Nat) (x : Cmd) (s : Part) : Part := releaseCmd c x (complete c x.hseq 0x02 0) s

/-- Descriptors posted and not fetched are read as a fetch would, up to the first slot that parks or breaks the order
(R413); a chain parked on its tail reads the tail again first. -/
def readPosted (c : Nat) (slots : List Desc) (s : Part) : Part :=
  let ch := s.chain c
  if (s.fn (s.chainFn c)).bme && ahead ch.dbSeq ch.fetchSeq then
    s.setChain (readSlots (slots.take ((ch.dbSeq - ch.fetchFrom).toNat + 1)) ch).1
  else s

/-- Steps 1 and 3 on one chain, in chain order. -/
def abortChain (rings : Rings) (c : Nat) (s : Part) : Part :=
  let s := abandonTxs c (s.modChain c ChainSt.stopFetch)
  let s := ((s.chain c).cmds.filter abortedByReset).foldl (fun st x => abortCmd c x st) s
  let s := readPosted c ((alGet c rings).getD []) s
  ((s.chain c).cmds.filter (fun x => x.phase == .accepted)).foldl (fun st x => abortCmd c x st) s

/-- Chains a warm reset acts on: neither DISABLED nor HALTED. -/
def Part.activeChains (s : Part) : List Nat := ((s.chains.filter (fun x => x.st != .disabled && x.st != .halted)).map (·.id))

/-- The reset is accepted: admission, fetching and member issue stop, sessions end (R352), a calibration is abandoned
(R343), commands not admitted end (Table 4.5 steps 1 to 3). -/
def startWarmReset (rings : Rings) (s : Part) : Part :=
  let s := endSessionsWhere (fun _ => true) (abandonCal s)
  let s := setStatus (fun x => { x with resetting := true, ready := false, memberStop := true }) s
  s.activeChains.foldl (fun st c => abortChain rings c st) s

/-- The order is ignored: a warm reset runs, or the part is DUMPING, RESTORING, asleep or down (R399). -/
def resetIgnored (s : Part) : Bool := s.sched.resetting || decide (3 ≤ s.tow.power) || decide (3 ≤ s.dump.state)

/-- A warm reset is ordered; an activation in progress makes it wait (R399). -/
def orderWarmReset (rings : Rings) (s : Part) : Part :=
  if resetIgnored s then s
  else if s.fw.activating then s.modFw (fun x => { x with resetWaits := true })
  else startWarmReset rings s

/-- R399: the falling edge of WARM_RESET_N. -/
def execWarmResetN (rings : Rings) (s : State) : Answer := .next (s.onPart (orderWarmReset rings))

def devWarmResetEff (q : Req) (v : BitVec 32) (rings : Rings) (s : Part) : Part :=
  checked q roleOperator none (fun s =>
    if v ≠ 0xA55A#32 then refuse q stRange 0 s
    else if resetIgnored s then refuseState q 399 0 s
    else orderWarmReset rings (ok q s)) s

/-- R97: DEV_WARM_RESET orders the reset. -/
def execDevWarmReset (q : Req) (value : BitVec 32) (rings : Rings) (s : State) : Answer :=
  .next (s.onPart (devWarmResetEff q value rings))

/-! ### Steps 4 and 5 -/

/-- Step 2 of Table 4.5 is not over: an admitted write of a pool in PROTECTED, or a placed TX_COMMIT, is not completed. -/
def sealsOutstanding (s : Part) : Bool :=
  s.chains.any (fun c => c.st != .disabled && c.cmds.any (fun x =>
    !x.through && (x.phase == .landed || x.phase == .placed || (x.phase == .admitted && writesData x)) &&
      !((s.ackPool c.id x).bind s.pool?).any (fun p => p.pair.state == 4)))

/-- Strip writes of WRITING and THROUGH entries wait no more: replay issues them again (R117). -/
def dropStripWrites (s : Part) : Part :=
  let isStrip (c : MCmd) : Bool := match c.op with
    | .writeStrip _ _ _ => true
    | _ => false
  { s with members := s.members.map (fun m => { m with waiting := m.waiting.filter (fun c => !isStrip c) }) }

/-- A pool goes on from the region a reset or an activation kept (R116, R117, R149). -/
def replayKeptPool (s : Part) (p : Nat) : Part :=
  recovered p 1 (s.mark p) s.man.destagedTide (replayPool true p (loadTable p s))

/-- Replay from the region a reset or an activation kept. -/
def replayKept (s : Part) : Part := ((s.pools.filter (·.owned)).map (·.id)).foldl replayKeptPool (dropStripWrites s)

/-- A member as the member side restarts (R211): a command still outstanding has timed out, the cache setting is read back,
the working depth starts again (R200, R208). -/
def restartMember (k : Nat) (s : Part) : Part :=
  let late := ((s.member? k).map (fun m => m.outstanding.filter (fun c => !c.timedOut))).getD []
  late.foldl (fun st c => timeOutCmd k c.id st) (memberRestarts k (s.modMember k (fun m => { m with draining := false })))

/-- Step 4 and the member-side restart of step 5: chains halt at their device sequence, links and queues are built again,
the engine starts anew (R378), entries are replayed. -/
def restartMemberSide (s : Part) : Part :=
  let s := s.activeChains.foldl (fun st c => haltChain c 0x84 st) s
  let s := s.modSched (fun x => { x with memberStop := false })
  let s := logBoot 1 (flushLog s)
  let s := ((s.members.filter (·.linkUp)).map (·.id)).foldl (fun st k => restartMember k st) s
  replayKept s

/-- A size of the protected region waits (R71). -/
def sizePending (s : Part) : Bool := s.objNum 0x2100 1 != s.sched.protMib

/-- Step 5 waits for the destage that a pending size asks for: a stripe with held blocks neither stays held for a missing
strip, nor waits for strips to return, nor is of a pool that may not destage (R71, R85). -/
def destageAwaited (s : Part) : Bool :=
  sizePending s && s.man.entries.any (fun e => !e.stuck && !e.tried && !(s.heldOf e.pool e.stripe).isEmpty &&
    (s.pool? e.pool).any (fun p => p.owned && p.pair.state != 4))

/-- The end of the reset (Table 4.5 step 5): a pending size takes an empty region (R71), the peer area its size (R256), the
Landing tables their values (R234, R240). -/
def endWarmReset (s : Part) : Part :=
  let s := if sizePending s && s.heldBlocks == 0 then s.modSched (fun x => { x with protMib := s.objNum 0x2100 1 }) else s
  let s := s.modSched (fun x => { x with peerMib := s.objNum 0x2120 2 })
  let split := s.objNum 0x2120 1
  let s := if split = s.chainSplit then s else { s with chainSplit := split, tableGen := (s.tableGen + 1) % 2 ^ 32 }
  setStatus (fun x => { x with resetting := false, ready := true }) (refreshProtection (refreshDump s))

def warmResetCompleteEff (s : Part) : Part :=
  if !s.sched.resetting || sealsOutstanding s then s
  else
    let s := if s.sched.memberStop then restartMemberSide s else s
    if destageAwaited s then s else endWarmReset s

/-- Table 4.5 steps 4 and 5, R211: the member side has drained; the reset ends, or waits for the destage of R71. The
contents of the peer buffer area are lost (R256). -/
def execWarmResetComplete (s : State) : Answer :=
  .next (if s.part.sched.resetting && !sealsOutstanding s.part then s.booted warmResetCompleteEff else s)

end Sys2Proof.Machine
end

