-- ==== Sys2Proof/Machine/Firmware.lean ====
section
/-! DEFINITION. Firmware staging and activation (04: R98, R99; 08: R212; 15: R373–R375; 17: R401). -/

namespace Sys2Proof.Machine

/-! ### Staging (R373) -/

/-- FW_STAGE_BEGIN writes a directory with PREV_VALID 0, then erases the inactive slot (R401). -/
def beginStage (n : Nat) (s : Part) : Part :=
  s.modFw (fun x => { x with
    state := 1, len := n, next := 0, image := [], stagedVersion := 0, prevValid := false, dirSeq := (x.dirSeq + 1) % 2 ^ 32
    previous := 0 })

def fwStageBeginEff (q : Req) (n : Nat) (s : Part) : Part :=
  keepWritten 0x1E00 1 n <| checked q roleCustodian (some scopeFw) (fun s =>
    if n < 4096 ∨ 16777216 < n then refuse q stRange 0 s
    else if s.fw.activating then refuseState q 374 2 s
    else ok q (beginStage n (s.takeLock scopeFw q.session))) s

/-- R373: an image length is declared. -/
def execFwStageBegin (q : Req) (len : Nat) (s : State) : Answer := .next (s.onPart (fwStageBeginEff q len))

/-- Bytes the next write must carry: 4,096, or what is left. -/
def stageRoom (x : FwSt) : Nat := min 4096 (x.len - x.next)

def fwStageDataEff (q : Req) (data : Bytes) (s : Part) : Part :=
  checked q roleCustodian (some scopeFw) (fun s =>
    if 4096 < data.length then refuse q stTypeLen 0 s
    else if s.fw.state ≠ 1 ∨ data.length ≠ stageRoom s.fw then refuse q stSegment (s.fw.next % 65536) s
    else ok q ((s.takeLock scopeFw q.session).modFw (fun x =>
      let n := x.next + data.length
      { x with image := x.image ++ data, next := n, state := if n = x.len then 2 else 1 }))) s

/-- R373: the next bytes of the image. -/
def execFwStageData (q : Req) (data : Bytes) (s : State) : Answer := .next (s.onPart (fwStageDataEff q data))

def verifyStage (x : FwSt) : FwSt :=
  if x.state ≠ 2 then x
  else
    let good := Config.imageSignatureGood x.image && decide (x.epoch ≤ Config.imageEpoch x.image)
    { x with state := if good then 3 else 4, stagedVersion := Config.imageVersion x.image }

/-- R373: after the last byte the signature and the epoch are checked. -/
def execFwStageVerify (s : State) : Answer := .next (s.onPart (fun s => s.modFw verifyStage))

/-! ### Activation (R98, R374) -/

/-- Item of R374 that refuses an activation, 0 for none. -/
def activateRefused (partner : Bool) (s : Part) : Nat :=
  if s.fw.state ≠ 3 then 1
  else if s.fw.activating || s.sched.resetting then 2
  else if s.sched.brace || decide (2 ≤ s.tow.power) || decide (3 ≤ s.dump.state) || s.tow.sleeping then 3
  else if s.cal.state = 1 then 4
  else if partner then 5
  else 0

def fwActivateEff (q : Req) (v : Nat) (partner : Bool) (s : Part) : Part :=
  keepWritten 0x1E00 6 1 <| checked q roleCustodian (some scopeFw) (fun s =>
    if v ≠ 1 then refuse q stRange 0 s
    else
      match activateRefused partner s with
      | 0 => refreshProtection (setStatus (fun x => { x with frozen := true }) ((ok q s).modFw (fun x => { x with activating := true })))
      | i => refuseState q 374 i s) s

/-- R374: the activation freeze starts. -/
def execFwActivate (q : Req) (partnerActivating : Bool) (s : State) : Answer :=
  .next (s.onPart (fwActivateEff q 1 partnerActivating))

/-- The new image passed its self-check (R374, R401): SPI NOR names its slot, FW_EPOCH takes its epoch. -/
def nameImage (x : FwSt) : FwSt :=
  { x with version := x.stagedVersion, previous := x.version, epoch := max x.epoch (Config.imageEpoch x.image)
           dirSeq := (x.dirSeq + 1) % 2 ^ 32, activeSlot := 1 - x.activeSlot, prevValid := true
           state := 0, stagedVersion := 0, len := 0, next := 0, image := [], lastResult := 1 }

/-- The end of an activation (Table 4.6 steps 4 and 5): the entries are replayed (R117), a checkpoint of each pool is due
(R109 case 6), the chains resume; a warm reset that waited is carried out (R399). -/
def fwTakeoverEff (good : Bool) (rings : Rings) (s : Part) : Part :=
  if !s.fw.activating then s
  else
    let s := s.modFw (fun x => { (if good then nameImage x else { x with lastResult := 2 }) with activating := false })
    let s := log 0x1402 0 (leBytes 1 s.fw.lastResult ++ leBytes 4 s.fw.version ++ leBytes 4 s.fw.previous) s
    let s := ((s.pools.filter (·.owned)).map (·.id)).foldl (fun st p => buildCheckpoint p (addDue p 6 st)) (replayKept s)
    let s := resumeChains (refreshProtection (setStatus (fun x => { x with frozen := false }) s))
    if s.fw.resetWaits then orderWarmReset rings (s.modFw (fun x => { x with resetWaits := false })) else s

/-- R98, R99: the new image takes over, or the old one is reinstated. -/
def execFwTakeover (selfCheck : Bool) (rings : Rings) (s : State) : Answer := .next (s.onPart (fwTakeoverEff selfCheck rings))

end Sys2Proof.Machine
end

