-- ==== Sys2Proof/Machine/Import.lean ====
section
/-! DEFINITION. Meanings of the import of a pool from its members alone (R46). Items of a refusal are the steps of R46. -/

namespace Sys2Proof.Machine

/-! ### What the members hold -/

/-- Members that carry a label of the pool in a supported format. -/
def membersOf (s : Part) (uuid : Bytes) : List MemberSt :=
  s.members.filter (fun m => m.linkUp && m.state != 0 && m.state != 4 &&
    (match m.label with
     | .good l => l.inPool && l.format == 1 && decide (l.poolUuid = uuid)
     | _ => false))

/-- Every generation found in either copy (step 3). -/
def foundGenerations (s : Part) (uuid : Bytes) : List Charter :=
  ((membersOf s uuid).flatMap (fun m => m.charterA.toList ++ m.charterB.toList)).eraseDups.filter (fun c => decide (c.uuid = uuid))

/-- MEMBER_ID of a member's label. -/
def MemberSt.labelId (m : MemberSt) : Nat :=
  match m.label with
  | .good l => l.memberId
  | _ => 16384

/-- Listed members of a generation that hold it (step 4): a label of the pool says which member it is. -/
def holdersOf (s : Part) (uuid : Bytes) (c : Charter) : Nat :=
  ((membersOf s uuid).filter (fun m => c.listed.contains m.labelId && (decide (m.charterA = some c) || decide (m.charterB = some c)))).length

def newest (l : List Charter) : Option Charter :=
  l.foldl (fun best c => match best with
    | none => some c
    | some b => if b.gen < c.gen then some c else best) none

/-- The generation a majority of its listed members hold (step 4). -/
def adoptable (s : Part) (uuid : Bytes) : Option Charter :=
  newest ((foundGenerations s uuid).filter (fun c => decide (c.listed.length < 2 * holdersOf s uuid c)))

/-- The reservation key of this unit (R305). -/
def ownKey : Bytes := ((deviceUuid.take 8).mapIdx (fun i b => if i = 0 then b ||| 0x80 else b))

/-- A member's reservation is held under another key (step 6). -/
def ownedElsewhere (s : Part) (uuid : Bytes) : Bool :=
  (membersOf s uuid).any (fun m => match m.info.holder with
    | some k => decide (k ≠ ownKey)
    | none => false)

/-! ### The pool begins here -/

/-- A member of the pool takes the id its label bears (R191 rule 1); one whose id is bound to another identity is
conflicting. -/
def placeImported (m : MemberSt) (s : Part) : Part :=
  let put (k st : Nat) : Part := { s with
    members := s.members ++ [{ m with id := k, state := st }]
    fabric := { s.fabric with bindings := s.fabric.bindings ++ [(m.info.identity, k)] } }
  let k := m.labelId
  if s.fabric.bindings.any (fun b => b.2 == k) || (s.member? k).isSome then put ((freeId s).getD m.id) 0xFE else put k m.state

/-- The pool's members are bound to the ids of their labels, now that the part knows the pool (R191). -/
def bindImported (uuid : Bytes) (s : Part) : Part :=
  let ms := membersOf s uuid
  let mine (i : Bytes) : Bool := ms.any (fun m => decide (m.info.identity = i))
  let s1 : Part := { s with
    members := s.members.filter (fun m => !mine m.info.identity)
    fabric := { s.fabric with bindings := s.fabric.bindings.filter (fun b => !mine b.1) } }
  ms.foldl (fun st m => placeImported m st) s1

/-- The adopted generation as the pool's own, under the target id (steps 7 and 8). -/
def adopt (p : Nat) (c : Charter) (top : Nat) (s : Part) : Part :=
  let s := bindImported c.uuid s
  let c0 := { c with poolId := p, paired := false }
  let s := s.putPool { PoolSt.begin_ c0 (if c.initDone then 3 else 2) with highGen := top }
  let s := s.modPool p (fun x => { x with int := { x.int with scrubStart := s.timeUs } })
  let s := volumesChange { c0 with vols := [] } c0 s
  let s := resumeCrossing p (loseRebuildRecord p (loadStates p s))
  let s := if c.initDone then s else startInit p c0 s
  let on := c.paired && s.pair.state == 2
  let s := recoverFromCheckpoints p s
  refreshProtection (queueDelta p (.paired on (if on then s.pair.uuid else List.replicate 16 0)
    (if on then deviceUuid else List.replicate 16 0)) s)

def poolImportEff (q : Req) (p : Nat) (uuid : Bytes) (s : Part) : Part :=
  keepWrittenBlob (poolIdx p 0) 5 uuid <| checked q roleCustodian none (fun s => if uuid.length ≠ 16 then refuse q stTypeLen 0 s else
   checked q roleCustodian (some (scopePool p)) (fun s =>
    if s.poolLife p ≠ 0 ∨ s.pools.any (fun x => x.life != 0 && decide (x.charter.uuid = uuid)) then refuseRule q 46 1 s
    else if ownedElsewhere s uuid then refuseRule q 46 6 s
    else
      let all := foundGenerations s uuid
      match adoptable s uuid with
      | some c => ok q (adopt p c ((all.map (·.gen)).foldl max 0) s)
      | none =>
        refuseRule q 46 5 (s.putPool { PoolSt.begin_ (Charter.none_ p) 0 with found := all.map (fun c => (c, holdersOf s uuid c)) })) s) s

/-- R46: a Custodian imports a pool by its UUID. -/
def execPoolImport (q : Req) (p : PoolId) (uuid : Bytes) (s : State) : Answer := .next (s.onPart (poolImportEff q p.val uuid))

def poolImportForceEff (q : Req) (p : Nat) (s : Part) : Part :=
  keepWritten (poolIdx p 0) 6 1 <| checked q roleCustodian (some (scopePool p)) (fun s =>
    if s.poolLife p ≠ 0 then refuseRule q 46 1 s
    else
      let found := ((s.pool? p).map (·.found)).getD []
      match newest (found.map (·.1)) with
      | none => refuseState q 46 5 s
      | some c =>
        if ownedElsewhere s c.uuid then refuseRule q 46 6 s
        else
          ok q (noted 2 46 5 (leBytes 1 p ++ leBytes 8 c.gen)
            (adopt p c ((found.map (fun x => x.1.gen)).foldl max 0) s))) s

/-- R46 step 5: the highest valid generation found by the refused import is forced. -/
def execPoolImportForce (q : Req) (p : PoolId) (s : State) : Answer := .next (s.onPart (poolImportForceEff q p.val))

end Sys2Proof.Machine
end

