-- ==== Sys2Proof/Machine/Sessions.lean ====
section
/-! DEFINITION. Meanings of the session commands (15: R352–R369): the checks every frame passes, opening, authenticating and
closing a session, credentials, staging locks, the CAN settings, the relay to the twin. -/

namespace Sys2Proof.Machine

/-! ### Frames without a session -/

/-- A response outside any session: device SEQ 0 and a zero MAC. -/
def bareResponse (tr : Transport) (node op : Nat) (f : Frame) (session status detail : Nat) (s : Part) : Part :=
  let data : Bytes := if status = stOk then [] else leBytes 4 detail
  deliver tr node (frameHeader op (frameFlags f.last (f.twin || decide (tr = .twin)) true 0) 0 session f.index f.sub status data.length f.offset f.total ++
    data ++ zeroMac) s

/-- Data bytes a frame may carry on a transport (Table 15.3). -/
def maxData : Transport → Nat
  | .can0 | .can1 => 40
  | _ => 4096

/-- Step 1 of R361: LEN counts the data, the MAC has 8 bytes, LAST stands in every request but a BLOB write. -/
def wellFormedFrame (tr : Transport) (op : Nat) (f : Frame) : Bool :=
  f.len == f.data.length && decide (f.len ≤ maxData tr) && f.mac.length == 8 && (f.last || op == 0x11)

/-- The bytes of a request the MAC covers (R358), as they were sent. -/
def requestBody (op : Nat) (f : Frame) : Bytes :=
  frameHeader op (frameFlags f.last f.twin false f.rsvd) f.seq f.session f.index f.sub f.status f.len f.offset f.total ++ f.data

/-! ### The twin relay (R365) -/

/-- A request for the partner: only its form is checked here. -/
def relay (tr : Transport) (node op : Nat) (f : Frame) (s : Part) : Part :=
  if !wellFormedFrame tr op f then bareResponse tr node op f 0 stTypeLen 0 s
  else if s.pair.path1Lost || s.pair.state == 0 then bareResponse tr node op f f.session stTwinUnreachable 0 s
  else emit (.twinFrame (requestBody op f ++ f.mac)) s

def execTwinRelay (tr : Transport) (node op : Nat) (f : Frame) (s : State) : Answer := .next (s.onPart (relay tr node op f))

/-! ### The checks of R361, steps 1 to 5 -/

/-- A transport binds a session by its node on CAN (R352). -/
def SessSt.boundTo (x : SessSt) (tr : Transport) (node : Nat) : Bool :=
  decide (x.transport = tr) && (match tr with
    | .can0 | .can1 => x.node == node
    | _ => true)

/-- The MAC of a request is right (R358); an Observer session without authentication carries zero. -/
def macGood (x : SessSt) (op : Nat) (f : Frame) : Bool :=
  decide (f.mac = if x.noAuth then zeroMac else frameMac x.kMac 0 (requestBody op f))

/-- An answer to a request that is not accepted: it takes a device SEQ and leaves the last response as it is (R359). -/
def answerOutside (x : SessSt) (op : Nat) (f : Frame) (status detail : Nat) (s : Part) : Part :=
  let r : DResp := { status := status, detail := detail, total := 0, data := leBytes 4 detail }
  deliver x.transport x.node (responseFrame x op f r) (s.modSess x.id (fun y => { y with devSeq := y.devSeq + 1 }))

/-- The frame is dropped: a mailbox is free for the next one. -/
def dropFrame (tr : Transport) (s : Part) : Part :=
  match tr with
  | .mbx0 => s.modFn .f0 (fun x => { x with mbxBusy := false })
  | .mbx1 => s.modFn .f1 (fun x => { x with mbxBusy := false })
  | _ => s

/-- The requester of a session's frame. -/
def SessSt.req (x : SessSt) : Req := { transport := x.transport, node := x.node, session := x.id }

/-- Any request but a further read discards the snapshot (R360). -/
def keepsSnapshot (x : SessSt) (op : Nat) (f : Frame) : Bool :=
  match x.snapshot with
  | some (i, sb, _) => op == 0x10 && f.index == i && f.sub == sb && f.offset != 0
  | none => false

/-- A request takes its SEQ and is in hand; `k` carries it out. One that is no write discards a partial value (R360). -/
def acceptFrame (x : SessSt) (op : Nat) (f : Frame) (k : SessSt → Part → Part) (s : Part) : Part :=
  let y : SessSt := { x with nextSeq := x.nextSeq + 1, inHand := some (op, f)
                             partBlob := if op = 0x11 then x.partBlob else none
                             snapshot := if keepsSnapshot x op f then x.snapshot else none }
  k y (s.modSess x.id (fun _ => y))

/-- Steps 1 to 5 of R361; `need` says that the session must be open. A frame with TWIN set goes to the partner. -/
def onFrame (tr : Transport) (node op : Nat) (f : Frame) (allowed : SessSt → Bool) (k : SessSt → Part → Part) (s : Part) : Part :=
  if f.twin && decide (tr ≠ .twin) then relay tr node op f s
  else if !wellFormedFrame tr op f then bareResponse tr node op f 0 stTypeLen 0 s
  else
    match s.sess? f.session with
    | none => bareResponse tr node op f f.session stSession 0 s
    | some x =>
      if !x.boundTo tr node then bareResponse tr node op f f.session stSession 0 s
      else if x.isOpen && !macGood x op f then
        dropFrame tr (if x.noAuth then s else s.modDict (fun d => { d with macDrops := d.macDrops + 1 }))
      else if f.seq + 1 = x.nextSeq ∧ x.lastResp.isSome then deliver tr node (x.lastResp.getD []) s
      else if f.seq ≠ x.nextSeq then answerOutside x op f stSequence x.nextSeq s
      else if allowed x then acceptFrame x op f k s
      else acceptFrame x op f (fun y s => refuse y.req (if x.isOpen then stBadOp else stSession) 0 s) s

/-! ### Opening (R353–R356) -/

def cred (s : Part) (role : Nat) : Option Bytes := alGet role s.dict.creds

/-- OBSERVER_AUTH (Table 15.9). -/
def needsAuth (s : Part) (role : Nat) : Bool := role != 0 || s.objNum 0x1100 6 == 1

/-- Sessions a transport may hold (R352). -/
def sessionShare : Transport → Nat
  | .mbx0 | .mbx1 => 4
  | _ => 8

def transportFull (tr : Transport) (s : Part) : Bool :=
  decide (sessionShare tr ≤ (s.dict.sessions.filter (fun x => decide (x.transport = tr))).length)

/-- Seconds a transport stays locked (R355). -/
def lockedFor (tr : Transport) (s : Part) : Option Nat :=
  match s.dict.locked.find? (fun l => decide (l.1 = tr)) with
  | some (_, t) => if s.timeUs < t then some (ceilDiv (t - s.timeUs) 1000000) else none
  | none => none

/-- `ctx` and the keys of a session (R354): ctx, k_mac, k_kt. -/
def sessionKeys (cred cn dn : Bytes) (sid role : Nat) : Bytes × Bytes × Bytes :=
  let ctx := cn ++ dn ++ leBytes 2 sid ++ leBytes 1 role ++ deviceUuid
  let part (i : Nat) : Bytes := cmac cred (leBytes 1 i ++ ascii "PLYSESS" ++ [0] ++ ctx ++ beBytes 2 512)
  (ctx, part 1 ++ part 2, part 3 ++ part 4)

/-- A session id not in use, from the next number on. -/
def freshSession (s : Part) : Nat :=
  ((List.range 40).map (fun i => (s.dict.nextSess + i - 1) % 65535 + 1)).find? (fun n => (s.sess? n).isNone) |>.getD 65535

/-- Cause of a refused OPEN: status and DETAIL. -/
def openRefusal (tr : Transport) (f : Frame) (s : Part) : Option (Nat × Nat) :=
  let role := (f.data.getD 0 0).toNat
  if f.data.length ≠ 17 then some (stTypeLen, 0)
  else if 2 < role ∨ f.session ≠ 0 ∨ f.seq ≠ 0 then some (stRange, 0)
  else if needsAuth s role && (cred s role).isNone then some (stAuth, 0)
  else
    match (if needsAuth s role then lockedFor tr s else none) with
    | some n => some (stLocked, n)
    | none => if transportFull tr s then some (stNoSession, 0) else none

def openSession (tr : Transport) (node : Nat) (f : Frame) (s : Part) : Part :=
  let role := (f.data.getD 0 0).toNat
  let id := freshSession s
  let (dn, s) := s.draw 16
  let auth := needsAuth s role
  let (ctx, kMac, kKt) := sessionKeys ((cred s role).getD []) (f.data.drop 1) dn id role
  let x : SessSt := {
    id := id, transport := tr, node := node, role := role, isOpen := !auth, noAuth := !auth, kMac := kMac, kKt := kKt, ctx := ctx
    nextSeq := 1, devSeq := 0, lastResp := none, inHand := some (0x01, f), pageSel := 0, enclSel := 0, lostFrom := []
    partBlob := none, snapshot := none }
  respond x.req stOk 0 (dn ++ deviceUuid) (s.modDict (fun d => { d with
    sessions := d.sessions ++ [x], nextSess := id % 65535 + 1 }))

def openEff (tr : Transport) (node : Nat) (f : Frame) (s : Part) : Part :=
  if f.twin && decide (tr ≠ .twin) then relay tr node 0x01 f s
  else if !wellFormedFrame tr 0x01 f then bareResponse tr node 0x01 f 0 stTypeLen 0 s
  else
    match openRefusal tr f s with
    | some (st, d) => bareResponse tr node 0x01 f 0 st d s
    | none => openSession tr node f s

/-- R353: OPEN. -/
def execSessionOpen (tr : Transport) (node : Nat) (f : Frame) (s : State) : Answer := .next (s.onPart (openEff tr node f))

/-- A failed AUTH counts (R355): the fifth on the transport within 60 s locks it for 60 s. -/
def authFailed (x : SessSt) (s : Part) : Part :=
  let tr := x.transport
  let recent := s.dict.failTimes.filter (fun l => decide (l.1 = tr) && decide (s.timeUs < l.2 + sec 60))
  let others := s.dict.failTimes.filter (fun l => decide (l.1 ≠ tr))
  let locks := decide (4 ≤ recent.length)
  let s := s.modDict (fun d => { d with
    authFails := d.authFails + 1
    failTimes := if locks then others else others ++ recent ++ [(tr, s.timeUs)]
    locked := if locks then d.locked.filter (fun l => decide (l.1 ≠ tr)) ++ [(tr, s.timeUs + sec 60)] else d.locked })
  log 0x1404 tr.num (leBytes 1 (b2n locks) ++ leBytes 1 x.role) s

def authProof (x : SessSt) (f : Frame) (s : Part) : Part :=
  if f.data.length ≠ 16 then refuse x.req stTypeLen 0 s
  else if f.data = cmac x.kMac (ascii "PLYAUTHC" ++ x.ctx) then
    respond x.req stOk 0 (cmac x.kMac (ascii "PLYAUTHD" ++ x.ctx)) (s.modSess x.id (fun y => { y with isOpen := true }))
  else authFailed x (endSession x.id (refuse x.req stAuth 0 s))

/-- R353, R355: AUTH. -/
def execAuth (tr : Transport) (node : Nat) (f : Frame) (s : State) : Answer :=
  .next (s.onPart (onFrame tr node 0x02 f (fun x => !x.isOpen) (fun x => authProof x f)))

/-- R352: CLOSE. -/
def execSessionClose (tr : Transport) (node : Nat) (f : Frame) (s : State) : Answer :=
  .next (s.onPart (onFrame tr node 0x03 f (fun _ => true) (fun x s => endSession x.id (ok x.req s))))

/-- R352: KEEPALIVE: a request that only keeps the session. -/
def execKeepalive (tr : Transport) (node : Nat) (f : Frame) (s : State) : Answer :=
  .next (s.onPart (onFrame tr node 0x05 f (fun x => x.isOpen) (fun x s => ok x.req s)))

def isMailbox : Transport → Bool
  | .mbx0 | .mbx1 => true
  | _ => false

def Part.setCred (s : Part) (role : Nat) (key : Bytes) : Part := s.modDict (fun d => { d with creds := alSet role key d.creds })

def claimEff (tr : Transport) (f : Frame) (s : Part) : Part :=
  if f.twin && decide (tr ≠ .twin) then relay tr 0 0x04 f s
  else if !wellFormedFrame tr 0x04 f || f.data.length != 32 then bareResponse tr 0 0x04 f 0 stTypeLen 0 s
  else if f.session ≠ 0 then bareResponse tr 0 0x04 f 0 stRange 0 s
  else if !isMailbox tr || (cred s 2).isSome then bareResponse tr 0 0x04 f 0 stRule (ruleDetail 356 1) s
  else bareResponse tr 0 0x04 f 0 stOk 0 (s.setCred 2 f.data)

/-- R356: CLAIM sets the first Custodian credential. -/
def execClaim (tr : Transport) (f : Frame) (s : State) : Answer := .next (s.onPart (claimEff tr f))

/-- R352: SESSION_IDLE_S passed without a request. -/
def execSessionIdle (session : Nat) (s : State) : Answer := .next (s.onPart (endSession session))

/-- R355: the lock of a transport ends. -/
def execTransportLockExpire (tr : Transport) (s : State) : Answer :=
  .next (s.onPart (fun s => s.modDict (fun d => { d with locked := d.locked.filter (fun l => decide (l.1 ≠ tr)) })))

/-! ### Credentials (R356) -/

def credWriteEff (q : Req) (role : Nat) (wrap : Bytes) (s : Part) : Part :=
  checked q roleCustodian none (fun s =>
    if wrap.length ≠ 40 then refuse q stTypeLen 0 s
    else
      match (s.transportKey q.session).bind (fun k => kwpUnwrap k wrap) with
      | some key => if key.length = 32 then ok q (s.setCred role key) else refuseRule q 356 2 s
      | none => refuseRule q 356 2 s) s

/-- R356: a Custodian sets a credential. -/
def execCredWrite (q : Req) (c : Fin 3) (wrap : Bytes) (s : State) : Answer := .next (s.onPart (credWriteEff q c.val wrap))

def credResetEff (q : Req) (v : BitVec 32) (s : Part) : Part :=
  checked q (if isMailbox q.transport then 0 else roleOperator) none (fun s =>
    if v ≠ 0xA55A#32 then refuse q stRange 0 s
    else if !isMailbox q.transport then refuseRule q 356 3 s
    else
      let s := ok q (zeroise (s.modDict (fun d => { d with creds := [] })))
      endSessionsWhere (fun _ => true) s) s

/-- R356: every credential is emptied, Tollgate zeroised, every session ended. -/
def execCredReset (q : Req) (value : BitVec 32) (s : State) : Answer := .next (s.onPart (credResetEff q value))

/-! ### Staging locks (R367) -/

/-- A scope word (Table 15.9): kind [31:24], id [23:0]. -/
def scopeOf (v : BitVec 32) : Nat × Nat := (bitsOf v.toNat 31 24, bitsOf v.toNat 23 0)

def scopeGood (sc : Nat × Nat) : Bool :=
  match sc.1 with
  | 0 => decide (sc.2 < 64)
  | 1 => decide (sc.2 < 4096)
  | 2 => decide (sc.2 < 16384)
  | 3 | 4 => decide (sc.2 = 0)
  | _ => false

def stageReleaseEff (q : Req) (v : BitVec 32) (s : Part) : Part :=
  if scopeGood (scopeOf v) then checked q roleOperator (some (scopeOf v)) (fun s => ok q (s.releaseLock (scopeOf v))) s
  else checked q roleOperator none (refuse q stRange 0) s

/-- R367: the holder releases a scope. -/
def execStageRelease (q : Req) (scope : BitVec 32) (s : State) : Answer := .next (s.onPart (stageReleaseEff q scope))

def stageBreakEff (q : Req) (v : BitVec 32) (s : Part) : Part :=
  checked q roleCustodian none (fun s =>
    if scopeGood (scopeOf v) then ok q ((s.setObjNum 0x1300 3 v.toNat).releaseLock (scopeOf v)) else refuse q stRange 0 s) s

/-- R367: a Custodian breaks a lock. -/
def execStageBreak (q : Req) (scope : BitVec 32) (s : State) : Answer := .next (s.onPart (stageBreakEff q scope))

/-! ### CAN settings (R362), debug registers (R245) -/

/-- R362: 1 s after the response new rates and a new node id take effect. -/
def execCanConfigApply (s : State) : Answer :=
  .next (s.onPart (fun s =>
    if s.dict.canPending then s.modDict (fun d => { d with
      canPending := false, canNode := s.objNum 0x1100 1, canNom := s.objNum 0x1100 2, canData := s.objNum 0x1100 3 })
    else s))

def debugUnlockEff (q : Req) (v : Nat) (s : Part) : Part :=
  checked q roleCustodian none (fun s => if 1 < v then refuse q stRange 0 s else ok q (s.setObjNum 0x2000 2 v)) s

/-- R245, R350: a Custodian unlocks or locks the debug registers. -/
def execDebugUnlock (q : Req) (v : Nat) (s : State) : Answer := .next (s.onPart (debugUnlockEff q v))

/-! ### Mailbox -/

/-- R364: a write of 1 clears READY. -/
def execMbxRelease (f : Fn) (v : BitVec 32) (s : State) : Answer :=
  .next (s.onPart (fun s => if v = 1#32 then s.modFn f (fun x => { x with mbxReady := false }) else s))

end Sys2Proof.Machine
end

