-- ==== Sys2Proof/Machine/Layouts.lean ====
section
/-! DEFINITION. The byte layouts of the structures on members, dump targets, the boot flash and the Logbook, from the
fields the state holds (Tables 2.4–2.8, 5.1–5.8, 6.2, 6.7, 7.6, 13.7, 13.8, 15.10, 15.11, 16.1, 16.4, 16.5, 17.9). -/

namespace Sys2Proof.Machine

/-- Numbers below `n` as a bit map of `n` bits. -/
def bitmap (l : List Nat) : Nat := ((l.eraseDups).map (fun i => 2 ^ i)).foldl (· + ·) 0

/-! ### Blocks on a member (R126–R130) -/

/-- The fields of a member block's sectors (Table 6.2): the data bytes and the bytes that follow them in each sector. Formats
1 to 3 spread the metadata over eight sectors, 8 bytes each; format 3 adds eight zero bytes; format 4 keeps member PI alone. -/
def Block.sectors (fmt : Nat) (b : Block) : List (Bytes × Bytes) :=
  if fmt = 0 then [(b.ct, b.meta64)]
  else if fmt = 4 then [(b.ct, b.meta64.take 8)]
  else (List.range 8).map (fun j => ((b.ct.drop (512 * j)).take 512,
    (b.meta64.drop (8 * j)).take 8 ++ (if fmt = 3 then List.replicate 8 0 else [])))

/-- The block that sectors spell (Table 6.2): bytes 520–527 of format 3 are ignored. -/
def Block.ofSectors (fmt : Nat) (l : List (Bytes × Bytes)) : Block :=
  if fmt = 0 ∨ fmt = 4 then Block.mk' (l.flatMap (·.1)) (l.flatMap (·.2))
  else Block.mk' (l.flatMap (·.1)) (l.flatMap (fun x => x.2.take 8))

/-- First sector of a member block, counted in the member's own sectors (R42). -/
def sectorAt (fmt mba : Nat) : Nat := if fmt = 0 ∨ fmt = 4 then mba else 8 * mba

/-- The areas outside the data area as member PI names them (Table 6.3). -/
def areaCharter : Nat := 1
def areaExport : Nat := 2
def areaHome : Nat := 3

/-- A block outside the data area (R130): member PI with STRIP 0, bytes 8 to 63 zero. -/
def structBlock (fmt area pool mba : Nat) (d : Bytes) : Block :=
  let b := Block.mk' (d.take 4096) []
  Block.mk' b.ct (memberPi fmt 0 false area pool mba b)

/-- Member PI of a block outside the data area passes (R127, R130, R131). -/
def structPiOk (fmt area pool mba : Nat) (b : Block) : Bool :=
  b.isZero || (decide (b.meta64.take 8 = memberPi fmt 0 false area pool mba b))

/-- A structure as it lies on a member: its blocks from `mba` on. -/
def placeAt (fmt area pool mba count : Nat) (d : Bytes) : List (Nat × Block) :=
  (List.range count).map (fun j => (mba + j, structBlock fmt area pool (mba + j) (d.drop (4096 * j))))

/-! ### Members and charters (R25, R42–R44) -/

/-- Member label (Table 2.5). -/
def Label.bytes (l : Label) : Bytes :=
  withCrc (layout 124 (signed "PLYMEMBR" ++ [(80, 16, 128), bit l.inPool 96, bytesAt 128 16 l.poolUuid, (256, 14, l.memberId),
    (272, 16, l.ordinal), (320, 64, l.capacity), (384, 64, l.charterGen), (448, 64, l.charterB), bytesAt 512 16 l.identity,
    (640, 64, l.written)]))

/-- MBA 0–15 (Table 2.4): the label in bytes 0–127 of the first block, the rest zero; POOL_ID 0 after release. -/
def Label.blocks (fmt pool : Nat) (l : Label) : List (Nat × Block) :=
  placeAt fmt areaCharter (if l.inPool then pool else 0) 0 16 (Label.bytes l)

def protocolCode : Protocol → Nat
  | .sata => 0
  | .sas => 1
  | .nvme => 2

/-- Charter member entry (Table 2.7). -/
def CMember.bytes (m : CMember) : Bytes :=
  layout 32 [(0, 14, m.id), (16, 16, m.ordinal), (32, 8, m.state), (40, 4, protocolCode m.protocol), (48, 16, m.encl),
    (64, 16, m.rack), bytesAt 128 16 m.identity]

/-- Charter volume entry (Table 2.8). -/
def CVol.bytes (v : CVol) : Bytes :=
  layout 24 [(0, 12, v.id), (16, 1, 1), (17, 2, v.hostPi), (32, 32, v.keyGen), (64, 64, v.size), (128, 64, v.base)] ++
    padTo 104 v.wrapped

/-- Crossing target block (Table 7.6). -/
def CrossBlk.bytes (x : CrossBlk) : Bytes :=
  let h := x.shape
  layout 128 (signed "PLYCROSS" ++ [(80, 16, 2816), (96, 5, x.kinds), (104, 2, x.stage), (128, 64, x.startGen),
      (192, 8, h.codeType), (200, 8, h.k), (208, 8, h.m), (216, 8, h.g), (224, 8, h.stripLog2), (232, 8, h.blockFmt),
      (240, 8, h.enclLimit), (248, 8, h.rackLimit), (256, 16, h.spare), (272, 16, x.srcCount), (288, 32, h.seed),
      (320, 16, x.target.eraseDups.length), (336, 16, x.curVolume), (384, 64, h.dataStart), (448, 64, h.usable),
      (512, 64, h.stripeCount), (576, 64, x.cursor), (640, 64, x.cursorTide), (704, 64, x.started)]) ++
    leBytes 512 (bitmap x.volumes) ++ padTo 104 x.newKey ++ List.replicate 24 0 ++ leBytes 2048 (bitmap x.target)

/-- Charter header (Table 2.6) of a charter of `total` bytes. -/
def Charter.header (c : Charter) (total target : Nat) : Bytes :=
  let h := c.shape
  layout 512 (signed "PLYCHART" ++ [(80, 16, 512), (96, 32, total), bytesAt 128 16 c.uuid, (256, 64, c.gen), (320, 8, c.poolId),
    (328, 8, h.codeType), (336, 8, h.k), (344, 8, h.m), (352, 8, h.g), (360, 8, h.stripLog2), (368, 8, h.blockFmt),
    (376, 8, c.recovery), (384, 8, h.enclLimit), (392, 8, h.rackLimit), (400, 16, h.spare), (416, 32, h.seed),
    (448, 16, c.members.length), (464, 16, c.vols.length), bit c.initDone 480, bit c.paired 481, (512, 64, h.usable),
    (576, 64, h.dataStart), (640, 64, h.stripeCount), (704, 64, c.created), (768, 64, c.changed), (832, 64, c.changeTide),
    bytesAt 896 16 c.kekId, bytesAt 1024 16 c.pairUuid, bytesAt 1152 16 c.prefOwner, (1280, 32, target)])

/-- A charter: header, member table, volume table, Crossing target block, CRC (R44). -/
def Charter.bytes (c : Charter) : Bytes :=
  let tables := c.members.flatMap CMember.bytes ++ (c.vols.mergeSort (fun a b => decide (a.id ≤ b.id))).flatMap CVol.bytes
  let cross := ((c.cross).map CrossBlk.bytes).getD []
  let at_ := 512 + tables.length
  withCrc (c.header (at_ + cross.length + 4) (if c.cross.isSome then at_ else 0) ++ tables ++ cross)

/-- The 2 MiB copy of a charter: zero padding fills it (R44). -/
def Charter.copy (c : Charter) : Bytes := padTo 2097152 c.bytes

/-- A copy of the charter at `mba`: 16 for copy A, CHARTER_B_MBA for copy B (Table 2.4). -/
def Charter.blocks (fmt mba : Nat) (c : Charter) : List (Nat × Block) := placeAt fmt areaCharter c.poolId mba 512 c.copy

/-! ### The control area and the home area (R102–R115, R147) -/

/-- The seal ring (R105): each record in the slot of its tide. -/
def sealRing (l : List Seal) : List (Nat × Bytes) := l.map (fun t => (0x02000000 + t.tide % 8192 * 128, t.bytes))

/-- The Manifest (R102): entry e at offset 32 × e; entries not listed are FREE, all zero. -/
def manifestArea (s : Part) : List (Nat × Bytes) := s.man.entries.map (fun e => (32 * e.slot, e.bytes))

/-- The confirmation mark of pool `p` (R106): each copy is the mark and its bitwise complement. -/
def markArea (s : Part) : List (Nat × Bytes) :=
  s.man.marks.map (fun m => (0x03200000 + 32 * m.1,
    leBytes 8 m.2.a.1 ++ leBytes 8 m.2.a.2 ++ leBytes 8 m.2.b.1 ++ leBytes 8 m.2.b.2))

/-- A chain record, 16 bytes (R100). DESIGN CHOICE: the order of its five fields is the part's own (log entry 138). -/
def ChainRec.bytes (r : ChainRec) : Bytes :=
  leBytes 4 r.dseq.toNat ++ leBytes 4 r.fetchSeq.toNat ++ leBytes 4 r.dbSeq.toNat ++ leBytes 2 r.st ++ leBytes 2 r.haltStatus

def chainArea (s : Part) : List (Nat × Bytes) := s.man.chainRecs.map (fun r => (0x03201000 + 16 * r.id, r.bytes))

/-- A record of the transaction table, 64 bytes (R102). DESIGN CHOICE: the order of its fields is the part's own (log entry
138). -/
def txBytes (chain : Nat) (t : TxSt) : Bytes :=
  layout 64 [(0, 16, chain), (16, 16, t.tag), (32, 8, t.pool), bit t.failed 40, bit t.timedOut 41, bit t.noProtect 42,
    bit t.commitTide.isSome 43, (64, 32, t.extents), (96, 32, t.blocks), (128, 64, t.commitTide.getD 0)]

/-- The transaction table: one record per open or committing transaction, of an image or of the live chains. -/
def txArea (s : Part) : List (Nat × Bytes) :=
  let l := s.man.txRecs ++ s.chains.flatMap (fun c => c.txs.map (fun t => (c.id, t)))
  l.mapIdx (fun i t => (0x02100000 + 64 * i, txBytes t.1 t.2))

/-- The block index (R102): position in the data area of every held block, as (offset in the protected region, pool, stripe,
strip, block offset). DESIGN CHOICE: its byte format is the part's own and is not given (log entry 138). -/
def blockIndex (s : Part) : List (Nat × Nat × Nat × Nat × Nat) :=
  let l := ((s.man.held.filter (fun b => !b.through)).map (fun b => (b.pool, b.stripe, b.strip, b.bo))) ++
    s.pools.flatMap (fun p => p.pair.shadow.map (fun b => (p.id, b.stripe, b.strip, b.bo)))
  l.mapIdx (fun i b => (67108864 + 4160 * i, b))

/-- The control area (Table 5.1) but for the block index: (offset, bytes); bytes not listed are zero. -/
def controlArea (s : Part) : List (Nat × Bytes) :=
  manifestArea s ++ sealRing s.man.seals ++ txArea s ++ markArea s ++ chainArea s

/-- Intent ranges (Table 5.7). -/
def rangeBytes (stripes : List Nat) : List Bytes :=
  (rangesOf (sortNats stripes)).map (fun r => layout 8 [(0, 48, r.1), (48, 16, r.2 - 1)])

/-- Checkpoint header (Table 5.6). -/
def CkptImage.header (i : CkptImage) (writer : Bytes) : Bytes :=
  let ranges := rangeBytes i.intent
  withCrc (layout 508 (signed "PLYCHKPT" ++ [(80, 16, 512), (96, 32, ranges.length), bytesAt 128 16 i.poolUuid, (256, 64, i.seq),
    (320, 64, i.tide), (384, 64, i.destagedTide), (448, 64, i.charterGen), (512, 16, i.homes.getD 0 0), (528, 16, i.homes.getD 1 0),
    (544, 16, i.homes.getD 2 0), bit i.outOfSchedule 560, bit i.writeThrough 561, bit i.noManifest 562, (576, 8, i.seq % 2),
    (608, 32, (crc32c ranges.flatten).toNat), bytesAt 640 16 writer, (768, 64, i.written), (832, 32, i.lostCount)]))

/-- An extension block: header (Table 5.8), ranges, CRC (R108). -/
def ExtImage.bytes (i : ExtImage) : Bytes :=
  let ranges := rangeBytes i.intent
  withCrc (padTo 4092 (layout 56 (signed "PLYINTEX" ++ [(80, 16, ranges.length), (96, 32, i.seq), bytesAt 128 16 i.poolUuid,
    (256, 64, i.baseSeq), (320, 64, i.tide)]) ++ ranges.flatten))

/-- A checkpoint in its slot (R110, Table 5.5): the header's block, then the intent blocks, 512 ranges each. -/
def CkptImage.blocks (fmt pool : Nat) (i : CkptImage) (writer : Bytes) : List (Nat × Block) :=
  let ranges := rangeBytes i.intent
  placeAt fmt areaHome pool (slotAt i.seq) 1 (i.header writer) ++
    placeAt fmt areaHome pool (slotAt i.seq + 1) (ceilDiv ranges.length 512) ranges.flatten

/-- An extension in the ring (Table 5.5). -/
def ExtImage.blocks (fmt pool : Nat) (i : ExtImage) : List (Nat × Block) := placeAt fmt areaHome pool (extAt i.seq) 1 i.bytes

/-- Lost-block table slot header (Table 6.7). -/
def LostImage.header (i : LostImage) : Bytes :=
  withCrc (layout 124 (signed "PLYLOSTT" ++ [(80, 16, 128), (96, 32, i.entries.length), bytesAt 128 16 i.poolUuid,
    (256, 64, i.seq), bit i.overflow 320, (352, 32, (crc32c (i.entries.flatMap LostEntry.bytes)).toNat)]))

/-- The table slot (R147): the header's block, then the entries, 128 to a block. -/
def LostImage.blocks (fmt pool : Nat) (i : LostImage) : List (Nat × Block) :=
  placeAt fmt areaExport pool (lostSlotAt i.seq) 1 i.header ++
    placeAt fmt areaExport pool (lostSlotAt i.seq + 1) (ceilDiv i.entries.length 128) (i.entries.flatMap LostEntry.bytes)

/-! ### Dump targets (R331, R332) -/

/-- Slot header (Table 13.7). -/
def DumpImage.header (i : DumpImage) (target : Nat) : Bytes :=
  withCrc (layout 508 (signed "PLYDUMPH" ++ [(80, 16, 512), (96, 8, target), (104, 8, i.cause), bytesAt 128 16 deviceUuid,
    (256, 64, i.seq), (320, 64, i.tide), (384, 64, i.started), (448, 32, i.chunks), (480, 32, i.protMib),
    (512, 32, (crc32c (i.map.flatMap (leBytes 4))).toNat)]))

/-- Label of a target (Table 13.6). -/
def dumpLabel (target : Nat) (uuid : Bytes) : Bytes :=
  withCrc (layout 508 (signed "PLYDUMPL" ++ [(80, 16, 512), (96, 8, target), bytesAt 128 16 uuid]))

/-- Progress or completion record (Table 13.8). -/
def dumpRecord (complete : Bool) (seq rows targets : Nat) : Bytes :=
  withCrc (layout 508 (signed "PLYDUMPP" ++ [bit complete 80, (128, 64, seq), (192, 32, rows), (224, 4, targets)]))

/-! ### Logbook (R376, R384, R385) -/

/-- A record (Table 16.1). -/
def LogRec.bytes (r : LogRec) : Bytes :=
  withCrc (layout 60 [(0, 48, r.seq), (48, 4, r.sev), bit r.late 52, bit r.permanent 53, (56, 6, r.detail.length), (64, 64, r.time),
    (128, 16, r.code), (144, 16, r.subsystem * 2048 + r.inst), (160, 16, r.rep), (192, 32, r.delta), bytesAt 224 32 r.detail])

/-- A page of the circulating region (R384): slots never written read as zero. -/
def circPage (s : Part) (p : Nat) : Bytes :=
  (List.range 64).flatMap (fun j => ((alGet (64 * p + j) s.log.circ).map LogRec.bytes).getD (List.replicate 64 0))

/-- A page of the permanent region. -/
def permPage (s : Part) (p : Nat) : Bytes :=
  (List.range 64).flatMap (fun j => ((s.log.perm[64 * p + j]?).map LogRec.bytes).getD (List.replicate 64 0))

/-- Export header (Table 16.5). -/
def LogExport.header (x : LogExport) : Bytes :=
  withCrc (layout 508 (signed "PLYLOGEX" ++ [(80, 16, 512), (96, 16, x.permCount), bytesAt 128 16 x.uuid, (256, 64, x.circWritten),
    (320, 64, x.lastSeq), (384, 64, x.exported), (448, 32, x.count)]))

/-- The export as it lies on a home (Table 16.4): the header's block, the permanent and the circulating slots, zeros. -/
def LogExport.blocks (fmt pool : Nat) (x : LogExport) : List (Nat × Block) :=
  let slot := fun (r : Option LogRec) => (r.map LogRec.bytes).getD (List.replicate 64 0)
  placeAt fmt areaExport pool 528 1 x.header ++
    placeAt fmt areaExport pool 529 64 ((List.range 4096).flatMap (fun j => slot x.perm[j]?)) ++
    placeAt fmt areaExport pool 593 1024 ((List.range 65536).flatMap (fun i => slot (alGet i x.circ))) ++
    placeAt fmt areaExport pool 1617 447 []

/-! ### Boot directory (R401) -/

/-- The boot directory (Table 17.9). -/
def FwSt.directory (x : FwSt) : Bytes :=
  withCrc (layout 60 (signed "PLYBOOTD" ++ [(96, 32, x.dirSeq), (128, 1, x.activeSlot), bit x.prevValid 129, (160, 32, x.version),
    (192, 32, x.previous)]))

/-! ### The Burale descriptor (R372) -/

/-- A signed number in `n` bytes. -/
def intBytes (n : Nat) (v : Int) : Bytes := leBytes n (v % 2 ^ (8 * n)).toNat

/-- An entry (Table 15.11). -/
def ObjRow.bytes (r : ObjRow) : Bytes :=
  layout 12 [(0, 16, r.index), (16, 8, r.sub), (24, 8, r.ty), (32, 8, r.access), (40, 6, r.flags), (48, 16, r.count), (64, 16, r.stride),
    (80, 8, r.unit), (88, 8, r.subCount)] ++ intBytes 8 r.dflt ++ intBytes 8 r.min ++ intBytes 8 r.max ++ padTo 28 (ascii r.name)

/-- Entries a page holds, and the pages. -/
def buralePages : Nat := ceilDiv objTable.length 64

def buralePage (n : Nat) : Bytes := padTo 4096 (((objTable.drop (64 * n)).take 64).flatMap ObjRow.bytes)

/-- The header (Table 15.10). -/
def buraleHeader (s : Part) : Bytes :=
  withCrc (layout 60 (signed "PLYBURAL" ++ [(80, 16, 64), (96, 16, 64), (112, 16, buralePages), (128, 32, objTable.length),
    (160, 32, s.fw.version), (192, 32, Config.dictGen s.fw.version), (224, 32, (crc32c (objTable.flatMap ObjRow.bytes)).toNat)]))

end Sys2Proof.Machine
end

