-- ==== Sys2Proof/Machine/Values.lean ====
section
/-! DEFINITION. What each object of the dictionary reads as (the Meaning columns of the object tables). -/

namespace Sys2Proof.Machine

def u8 (n : Nat) : Option Bytes := some (leBytes 1 n)
def u16 (n : Nat) : Option Bytes := some (leBytes 2 n)
def u32 (n : Nat) : Option Bytes := some (leBytes 4 n)
def u64 (n : Nat) : Option Bytes := some (leBytes 8 n)
def i32 (v : Int) : Option Bytes := some (intBytes 4 v)
def allOnes : Nat := 2 ^ 64 - 1

/-! ### Device (Tables 15.9, 15.12, R372) -/

def readIdentity (s : Part) : Nat → Option Bytes
  | 1 => some deviceUuid
  | 2 => some (ascii "PLY7144-A")
  | 3 => u32 s.fw.version
  | 4 => u16 1
  | 5 => u32 (Config.dictGen s.fw.version)
  | _ => none

def readSessions (s : Part) : Nat → Option Bytes
  | 1 => u8 (s.dict.sessions.filter (·.isOpen)).length
  | 5 => u8 (bitmap (s.dict.creds.map (·.1)))
  | 7 => u32 s.dict.authFails
  | 8 => u32 s.dict.macDrops
  | _ => none

def readFirmware (s : Part) : Nat → Option Bytes
  | 3 => u32 s.fw.next
  | 4 => u8 s.fw.state
  | 5 => u32 s.fw.stagedVersion
  | 7 => u32 s.fw.previous
  | 8 => u8 s.fw.lastResult
  | 9 => u16 s.fw.epoch
  | _ => none

def readBurale (s : Part) (x : SessSt) : Nat → Option Bytes
  | 1 => some (buraleHeader s)
  | 2 => u16 x.pageSel
  | 3 => some (buralePage x.pageSel)
  | _ => none

/-! ### Write path to Landing (Tables 4.3, 5.12, 7.10, 8.9, 10.15) -/

def readWritePath (s : Part) : Nat → Option Bytes
  | 3 => i32 s.sched.ceiling
  | 4 => u8 s.sched.admitState
  | 5 => u32 (ceilDiv (s.heldBlocks * 4160) chunkBytes)
  | _ => none

def readFleet (s : Part) : Nat → Option Bytes
  | 5 => u8 s.fleet.state
  | 6 => u32 s.fleet.left.length
  | 9 => u32 s.fleet.seq
  | _ => none

/-- Member command contexts not in use (R199). -/
def ctxFree (s : Part) : Nat := 131072 - (s.members.map (fun m => m.outstanding.length)).foldl (· + ·) 0

def readQueueing (s : Part) : Nat → Option Bytes
  | 0x0A => u32 s.fabric.discoverOver
  | 0x0B => u16 s.fabric.membersFound
  | 0x0C => u32 (ctxFree s)
  | _ => none

def readEncl (s : Part) (x : SessSt) : Nat → Option Bytes
  | 1 => u16 x.enclSel
  | 2 => u64 ((alGet x.enclSel s.fabric.encls).getD 0)
  | _ => none

def readLanding (s : Part) : Nat → Option Bytes
  | 4 => u32 Config.uefiImageLen
  | 6 => u16 s.fn0.portLink
  | 7 => u16 s.fn1.portLink
  | 8 => u32 s.fn0.winDrops
  | 9 => u32 s.fn1.winDrops
  | _ => none

def readLane (s : Part) (l : Nat) : Nat → Option Bytes
  | 5 => u8 (s.lane l).state
  | 6 => u8 (s.lane l).rate
  | 7 => u32 (s.lane l).errors
  | 8 => u16 (s.lane l).retrains
  | _ => none

/-- DUMP_LINK_STATE (R189): narrower than x4 or below 32 GT/s is degraded. -/
def dumpLinkState (t : DumpTarget) : Nat :=
  t.width % 16 + t.tier % 16 * 16 + b2n (t.linkUp && decide (t.width < 4 ∨ t.tier < 3)) * 256 + b2n t.linkUp * 512

/-! ### Tollgate, pair (Tables 9.7, 12.8) -/

def readToll (s : Part) : Nat → Option Bytes
  | 1 => u8 s.tollgateState
  | 2 => u8 s.toll.lanes
  | 3 => u8 s.toll.ghash
  | 4 => u8 s.toll.cores
  | 5 => u8 (b2n s.toll.rootBad)
  | 7 => u64 s.toll.lastTest.toNat
  | 8 => u64 s.toll.lastTime
  | 9 => u32 s.toll.mismatchCount
  | 10 => u64 s.toll.authFailTotal
  | 11 => u32 s.toll.glitchTrips
  | _ => none

def readKek (s : Part) (e : Nat) (sub : Nat) : Option Bytes :=
  let k := s.toll.keks.find? (fun x => x.entry == e)
  match sub with
  | 1 => some (padTo 16 ((k.map (·.id)).getD []))
  | 2 => u8 (match k with
    | some x => if x.loaded then 2 else 1
    | none => 0)
  | 3 => u8 (b2n (k.any (·.autoload)))
  | _ => none

def readPair (s : Part) : Nat → Option Bytes
  | 2 => some s.pair.uuid
  | 3 => u8 s.pair.state
  | 4 => u8 s.pair.role
  | 5 => u8 s.pair.width
  | 6 => u8 (b2n s.pair.path1Lost + 2 * b2n s.pair.path2Lost + 4 * b2n s.pair.relReceived)
  | 0x0C => u8 s.pair.changeState
  | 0x0D => u32 s.pair.takeovers
  | _ => none

def readShadow (s : Part) (p sub : Nat) : Option Bytes :=
  let q := s.pool? p
  let ids := ((q.map (fun x => x.charter.members.map (·.id))).getD [])
  match sub with
  | 1 => u8 ((q.map (·.pair.coverage)).getD 0)
  | 2 => u64 ((q.map (·.pair.shadowTide)).getD 0)
  | 3 => u64 ((q.map (·.pair.shadow.length)).getD 0)
  | 4 => u16 (unreachableOf s ids).length
  | 5 => u16 (unregisteredOf s ids).length
  | _ => none

/-! ### Towpath, calibration, Logbook (Tables 13.10, 14.4, 16.6) -/

def readTow (s : Part) : Nat → Option Bytes
  | 1 => u8 s.tow.power
  | 3 => u8 s.tow.sleepRefused
  | 5 => u8 s.tow.wakeCause
  | 7 => u64 (schedWake s)
  | 11 => u32 s.tow.braceCount
  | 12 => some (dieQ s.tow.dieC)
  | _ => none

def readStore (s : Part) : Nat → Option Bytes
  | 4 => u32 s.tow.capMf
  | 5 => u16 s.tow.esrMohm
  | 8 => u32 s.tow.energyMj
  | 9 => u8 s.tow.store
  | _ => none

def readDump (s : Part) : Nat → Option Bytes
  | 1 => u8 s.dump.state
  | 2 => u8 (bitmap s.liveTargets)
  | 3 => u64 s.dump.seq
  | 4 => u64 s.dump.consumed
  | 5 => u8 s.dump.lastResult
  | 6 => u32 s.dump.lastMs
  | 7 => u32 s.dump.restoreMs
  | _ => none

def calRunInts (r : CalRun) : List Int := [r.gainPpb, r.offset, r.timePpb, r.xtalPpb]

/-- The content of a calibration record as numbers (R348). -/
def CalRecord.ints (r : CalRecord) : List Int :=
  [(r.start : Int), r.what, r.refUv, r.fref, r.dieC, r.outcome] ++
    (match r.runs with
     | some x => calRunInts x.run1 ++ calRunInts x.run2
     | none => [])

/-- The factory record's coefficients. -/
def factoryCal : List Int × Bytes := ([Config.factoryGainPpb, Config.factoryOffset], [])

def readCal (s : Part) : Nat → Option Bytes
  | 2 => u8 s.cal.state
  | 3 => u8 s.cal.refused
  | 4 => u8 s.cal.result
  | 7 => u8 s.cal.fref
  | 8 => i32 s.cal.gain
  | 9 => i32 s.cal.offset
  | 10 => i32 s.cal.time
  | 11 => i32 s.cal.xtal
  | 12 => u8 (b2n s.cal.clipped)
  | 13 => u64 s.cal.lastTime
  | 15 => some ((Config.calHistory (factoryCal :: s.cal.history.map (fun r => (r.ints, r.refId)))).take 4096)
  | _ => none

def readLog (s : Part) : Nat → Option Bytes
  | 1 => u64 s.log.seqNext
  | 2 => u16 s.log.perm.length
  | 3 => u64 s.log.circWritten
  | 5 => u32 s.log.dropped
  | 8 => u64 s.log.exportLast
  | 9 => u32 s.log.droppedHigh
  | _ => none

/-! ### Pools -/

/-- Members as the 2,048-byte bit map of POOL_MEMBERS. -/
def memberMap (c : Charter) : Bytes := leBytes 2048 (bitmap (c.members.map (·.id)))

/-- Progress of the initialisation in thousandths (R26). -/
def initPermille (p : PoolSt) : Nat :=
  let n := p.charter.members.length
  if p.charter.initDone || n = 0 then 1000 else (n - p.initLeft.length) * 1000 / n

def readPoolControl (p : PoolSt) : Nat → Option Bytes
  | 1 => some p.charter.uuid
  | 2 => u8 p.life
  | 4 => u32 p.commitResult
  | 7 => u64 p.charter.gen
  | 8 => u16 (initPermille p)
  | _ => none

/-- The objects at +0x10 and +0x11 read the charter's values once the pool exists (R371). -/
def readPoolCode (p : PoolSt) : Nat → Option Bytes
  | 1 => u8 p.charter.shape.k
  | 2 => u8 p.charter.shape.m
  | 3 => u8 p.charter.shape.g
  | 4 => u8 p.charter.shape.codeType
  | 5 => u8 p.charter.shape.stripLog2
  | 6 => u8 p.charter.shape.blockFmt
  | 7 => some (memberMap p.charter)
  | _ => none

def readPoolLayout (p : PoolSt) : Nat → Option Bytes
  | 1 => u8 p.charter.shape.enclLimit
  | 2 => u8 p.charter.shape.rackLimit
  | 3 => u16 p.charter.shape.spare
  | 4 => u32 p.charter.shape.seed
  | 5 => u64 (spareCounts p).1
  | 6 => u64 (spareCounts p).2
  | _ => none

def readPoolWrite (s : Part) (p : PoolSt) : Nat → Option Bytes
  | 2 => u8 p.writeState
  | 3 => u64 (s.man.held.filter (fun b => b.pool == p.id && !b.through)).length
  | 4 => u16 (min 65535 (mirrorLag s p))
  | _ => none

def homeId (p : PoolSt) (i : Nat) : Nat := p.charter.idAt (p.ckpt.homes.getD i 65535)

def readPoolManifest (s : Part) (p : PoolSt) : Nat → Option Bytes
  | 1 => u8 (stagedOr s p.id 0x13 1 p.charter.recovery)
  | 2 => u64 p.ckpt.seq
  | 3 => u16 (homeId p 0)
  | 4 => u16 (homeId p 1)
  | 5 => u16 (homeId p 2)
  | 6 => u8 p.homeState
  | 7 => u64 p.ckpt.intent.length
  | 8 => u32 (s.man.entries.filter (fun e => e.pool == p.id && decide (e.state = .stalled))).length
  | 9 => u64 p.int.poisoned
  | 0x0A => u8 p.int.lastRecovery
  | 0x0B => u64 p.int.reconcile.length
  | 0x0C => u64 p.int.lastRelease
  | _ => none

/-- POOL_LOST_FROM of a pool, the session's own (R351). -/
def SessSt.lostFromOf (x : SessSt) (p : Nat) : Nat := (alGet p x.lostFrom).getD 0

def readPoolIntegrity (x : SessSt) (p : PoolSt) : Nat → Option Bytes
  | 4 => u64 p.int.scrubCursor
  | 5 => u64 p.int.scrubEnd
  | 6 => u8 (b2n p.int.scrubBehind)
  | 7 => u64 p.int.repaired
  | 8 => u32 p.int.diverged.length
  | 9 => u64 (match p.int.diverged with
    | d :: _ => d.lba % 2 ^ 48 + d.vol % 4096 * 2 ^ 48
    | [] => allOnes)
  | 0x0B => u64 p.int.lost.length
  | 0x0C => u8 p.int.lostState
  | 0x0D => u64 (x.lostFromOf p.id)
  | 0x0E => some (((p.int.lost.drop (x.lostFromOf p.id)).take 128).flatMap LostEntry.bytes)
  | _ => none

/-- FAILED groups: those with a stripe beyond repair (R160). -/
def failedGroups (s : Part) (p : PoolSt) : List Nat :=
  (List.range p.charter.braid.groups).filter (fun g => !(beyondStripes s p g).isEmpty)

/-- Lowest margin of a stripe; 0xFF while one is beyond repair. -/
def minMargin (s : Part) (p : PoolSt) : Nat :=
  if p.allStripes.any (fun x => beyondRepair s p x.1 x.2) then 255
  else (p.allStripes.map (fun x => (margin s p x.1 x.2).toNat)).foldl min p.charter.shape.m

/-- Strips of the ordinals in copy-back that no copied group covers (R165). -/
def copybackLeft (p : PoolSt) : Nat :=
  let g := p.charter.geo
  (p.reb.copyback.map (fun c => ((p.allStripes.map (·.2)).filter (fun x =>
    decide (c.2 ≤ g.groupOf x) && (g.stripAt x c.1).isSome)).length)).foldl (· + ·) 0

/-- Strips still to rebuild in either shape, those being written included (Table 7.10). -/
def stripsLeft (s : Part) (p : PoolSt) : Nat :=
  p.reb.writing.length + (p.shapes.map (fun g => ((List.range g.ids.length).map (fun o =>
    (((List.range g.braid.groups).flatMap g.groupStripes).filter (fun x => (needsRebuild s p g o x).isSome)).length)).foldl (· + ·) 0)).foldl (· + ·) 0

def readPoolRebuild (s : Part) (p : PoolSt) : Nat → Option Bytes
  | 1 => u8 (poolState s p)
  | 2 => u8 (minMargin s p)
  | 3 => u16 (p.charter.members.filter (fun m => relocState m.state)).length
  | 4 => u64 (stripsLeft s p)
  | 5 => u64 (p.allStripes.filter (fun x => decide (margin s p x.1 x.2 = 0))).length
  | 6 => u64 (failedGroups s p).length
  | 7 => u64 ((failedGroups s p).headD allOnes)
  | 0x0A => u64 (copybackLeft p)
  | _ => none

/-- Blocks of the volumes still to cross beyond the live cursor (R171). -/
def crossLeft (p : PoolSt) : Nat :=
  match p.charter.cross with
  | none => 0
  | some x => ((p.charter.vols.filter (fun v => x.volumes.contains v.id)).map (fun v =>
      if v.id = x.curVolume then v.size - p.cross.live else v.size)).foldl (· + ·) 0

def readPoolCross (p : PoolSt) : Nat → Option Bytes
  | 9 => u8 p.cross.state
  | 0x0A => u16 ((p.charter.cross.map (·.curVolume)).getD 0xFFFF)
  | 0x0B => u64 p.cross.live
  | 0x0C => u64 (crossLeft p)
  | _ => none

/-- POOL_KEY_STATE: 0 KEK loaded, 1 KEK missing, 2 some slots in UNWRAP_FAIL. -/
def poolKeyState (s : Part) (p : PoolSt) : Nat :=
  if !s.toll.keks.any (fun k => k.loaded && k.id == p.charter.kekId) then 1
  else if p.charter.vols.any (fun v => s.toll.slots.any (fun x => x.id == v.id && x.state == 3)) then 2
  else 0

/-- Seconds left of the failback hold-off, rounded up (R310). -/
def holdoffLeft (s : Part) (p : PoolSt) : Nat :=
  match p.pair.failbackAt with
  | some t => ceilDiv (t - s.timeUs) 1000000
  | none => 0

def readPoolPair (s : Part) (p : PoolSt) : Nat → Option Bytes
  | 1 => u8 (stagedOr s p.id 0x18 1 (b2n p.charter.paired))
  | 2 => u8 (stagedOr s p.id 0x18 2 (b2n (p.charter.paired && p.charter.prefOwner != deviceUuid)))
  | 3 => u8 p.pair.owner
  | 4 => u8 p.pair.state
  | 5 => u8 p.pair.ownerNext
  | 6 => u64 p.pair.handoverTide
  | 8 => u16 p.pair.fenceLeft.length
  | 9 => u32 (holdoffLeft s p)
  | _ => none

def readPool (s : Part) (x : SessSt) (p : PoolSt) (off sub : Nat) : Option Bytes :=
  match off with
  | 0x00 => readPoolControl p sub
  | 0x10 => readPoolCode p sub
  | 0x11 => readPoolLayout p sub
  | 0x12 => readPoolWrite s p sub
  | 0x13 => readPoolManifest s p sub
  | 0x14 => readPoolIntegrity x p sub
  | 0x15 => readPoolRebuild s p sub
  | 0x16 => readPoolCross p sub
  | 0x17 => match sub with
    | 1 => some p.charter.kekId
    | 3 => u8 (poolKeyState s p)
    | _ => none
  | 0x18 => readPoolPair s p sub
  | _ => none

/-- An index of a pool block without a pool: the selectors and the empty next-block objects. -/
def readNoPool (x : SessSt) (p off sub : Nat) : Option Bytes :=
  if off = 0x14 ∧ sub = 9 then u64 allOnes
  else if off = 0x14 ∧ sub = 0x0D then u64 (x.lostFromOf p)
  else if off = 0x15 ∧ sub = 7 then u64 allOnes
  else none

/-! ### Members, volumes, key slots -/

def readMember (s : Part) (k sub : Nat) : Option Bytes :=
  match sub with
  | 0x10 => u16 (s.memberEncl k)
  | 0x0C => u8 0
  | _ =>
    match s.member? k with
    | none => none
    | some m =>
      match sub with
      | 1 => u8 m.state
      | 2 => u8 (protocolCode m.info.protocol)
      | 3 => some (padTo 16 m.info.identity)
      | 4 => u32 m.info.path
      | 5 => u64 m.info.capacity
      | 6 => u8 (if formatOf m.info.protocol m.info.format then m.info.format else 0xFF)
      | 7 => u16 m.depth
      | 8 => u8 m.wce
      | 9 => u32 m.timeouts
      | 0x0A => u32 m.resets
      | 0x0B => u32 (m.mediumErrs.filter (fun t => decide (s.timeUs < t + hour 24))).length
      | 0x0E => u8 m.spun
      | 0x0F => u16 m.info.slot
      | 0x12 => u16 m.info.enclFound
      | 0x14 => u8 m.fleetMark
      | _ => none

def readVolume (s : Part) (v sub : Nat) : Option Bytes :=
  let x := s.vol v
  let c := (s.volume? v).map (·.2)
  match sub with
  | 1 => u32 x.deferredCount
  | 2 => u64 (x.deferred.headD allOnes)
  | 4 => u64 ((s.pools.map (fun p => (p.int.lost.filter (fun e => e.vol == v && !e.unalloc)).length)).foldl (· + ·) 0)
  | 6 => u32 ((c.map (·.keyGen)).getD 0)
  | 0x0B => u32 x.commitResult
  | 0x0C => u64 ((c.map (·.base)).getD 0)
  | 0x0D => u8 x.life
  | _ => none

def readSlot (s : Part) (v sub : Nat) : Option Bytes :=
  let x := s.toll.slots.find? (fun y => y.id == v)
  match sub with
  | 1 => u8 ((x.map (·.state)).getD 0)
  | 2 => u32 ((x.map (·.keyGen)).getD 0)
  | 3 => u64 ((x.map (·.loadedAt)).getD 0)
  | 4 => u32 ((x.map (·.authFails)).getD 0)
  | _ => none

/-! ### Every object -/

/-- An object that reflects state other than its last written value (R371). -/
def readLive (s : Part) (x : SessSt) (index sub : Nat) : Option Bytes :=
  if index < 0x3000 then
    if index = 0x1000 then readIdentity s sub
    else if index = 0x1200 then readSessions s sub
    else if index = 0x1300 then (if sub = 1 then u16 s.dict.locks.length else none)
    else if index = 0x1E00 then readFirmware s sub
    else if index = 0x1F00 then readBurale s x sub
    else if index = 0x2100 then readWritePath s sub
    else if index = 0x2101 then (if sub = 2 then u64 s.sched.tideNow else none)
    else if index = 0x2103 then (if sub = 2 then u32 (s.timeoutUs / 1000 + 10000) else none)
    else if index = 0x2106 then readFleet s sub
    else if index = 0x2107 then readQueueing s sub
    else if index = 0x2108 then readEncl s x sub
    else if index = 0x2120 then readLanding s sub
    else if 0x2200 ≤ index ∧ index < 0x2290 then readLane s (index - 0x2200) sub
    else if index = 0x2290 then u16 (dumpLinkState (s.target (sub - 1)))
    else if index = 0x2400 then readToll s sub
    else if 0x2410 ≤ index ∧ index < 0x2450 then readKek s (index - 0x2410) sub
    else if index = 0x2500 then readPair s sub
    else if index = 0x2600 then (if sub = 1 then u32 (standbyHealth s).toNat else if sub = 2 then u64 s.pair.testTime else none)
    else if 0x2640 ≤ index ∧ index < 0x2680 then readShadow s (index - 0x2640) sub
    else if index = 0x2700 then readTow s sub
    else if index = 0x2701 then readStore s sub
    else if index = 0x2702 then readDump s sub
    else if index = 0x2710 then i32 (s.senseAt (sub - 1))
    else if index = 0x2711 then u8 (s.tow.flags.getD (sub - 1) 0)
    else if index = 0x2800 then readCal s sub
    else none
  else if index < 0x4000 then
    match s.pool? ((index - 0x3000) / 0x40) with
    | some p => readPool s x p ((index - 0x3000) % 0x40) sub
    | none => readNoPool x ((index - 0x3000) / 0x40) ((index - 0x3000) % 0x40) sub
  else if index = 0x5000 then readLog s sub
  else if 0x5100 ≤ index ∧ index < 0x5500 then some (circPage s (index - 0x5100))
  else if 0x5500 ≤ index ∧ index < 0x5540 then some (permPage s (index - 0x5500))
  else if 0x6000 ≤ index ∧ index < 0xA000 then readMember s (index - 0x6000) sub
  else if 0xA000 ≤ index ∧ index < 0xB000 then readVolume s (index - 0xA000) sub
  else if 0xB000 ≤ index ∧ index < 0xC000 then readSlot s (index - 0xB000) sub
  else none

/-- A written value, or the default: a byte string of fixed length never written reads as zeros. -/
def readStored (s : Part) (r : ObjRow) (index sub : Nat) : Bytes :=
  match typeLen r.ty with
  | some n => intBytes n (s.objInt index sub)
  | none =>
    let b := s.objBlob index sub
    if b = [] ∧ r.min = r.max then List.replicate r.min.toNat 0 else b

/-- The value of an object for a session (R350, R351, R371): write-only objects read zero of their type, key and credential
material reads empty. -/
def objValue (s : Part) (x : SessSt) (r : ObjRow) (index sub : Nat) : Bytes :=
  if r.readsEmpty then []
  else if r.access = 2 then List.replicate ((typeLen r.ty).getD 0) 0
  else (readLive s x index sub).getD (readStored s r index sub)

end Sys2Proof.Machine
end

