-- ==== Sys2Proof/Machine/DictAccess.lean ====
section
/-! DEFINITION. Reads and writes of the dictionary's objects (15: R349–R351, R357–R361, R366–R372) and the mailbox's request
(R364): the checks of R361 from step 6 on, the segments of a value, the action of each object. -/

namespace Sys2Proof.Machine

/-! ### Reading -/

/-- A value is read: a long one leaves its snapshot with the session (R360). -/
def answerRead (x : SessSt) (f : Frame) (long : Bool) (v : Bytes) (s : Part) : Part :=
  let s := if long then s.modSess x.id (fun y => { y with snapshot := some (f.index, f.sub, v) }) else s
  respondValue x.req stOk 0 (v.take (maxData x.transport)) v.length s

/-- A further segment of the snapshot the session holds. -/
def readFurther (x : SessSt) (f : Frame) (s : Part) : Part :=
  match x.snapshot with
  | some (i, sb, v) =>
    if i = f.index ∧ sb = f.sub then respondValue x.req stOk 0 ((v.drop f.offset).take (maxData x.transport)) v.length s
    else refuse x.req stSegment 0 s
  | none => refuse x.req stSegment 0 s

def readEff (x : SessSt) (f : Frame) (s : Part) : Part :=
  if f.sub = 0 then
    match highestSub f.index with
    | none => refuse x.req stNoObject 0 s
    | some n => if f.data ≠ [] then refuse x.req stTypeLen 0 s else answerRead x f false (leBytes 1 n) s
  else
    match objRow? f.index f.sub with
    | none => refuse x.req stNoObject 0 s
    | some r =>
      if f.data ≠ [] then refuse x.req stTypeLen 0 s
      else if f.offset ≠ 0 then readFurther x f s
      else answerRead x f (decide (8 ≤ r.ty)) (objValue s x r f.index f.sub) s

/-- R349, R357: READ. -/
def execDictRead (tr : Transport) (node : Nat) (f : Frame) (s : State) : Answer :=
  .next (s.onPart (onFrame tr node 0x10 f (·.isOpen) (fun x => readEff x f)))

/-! ### Checks of a write -/

/-- One byte of UTF-8: bytes still to come with the range of the next; none when the string is not valid. -/
def utf8Step (st : Option (Nat × Nat × Nat)) (b : Byte) : Option (Nat × Nat × Nat) :=
  let n := b.toNat
  match st with
  | none => none
  | some (0, _, _) =>
    if n < 0x80 then some (0, 0, 0)
    else if 0xC2 ≤ n ∧ n < 0xE0 then some (1, 0x80, 0xBF)
    else if n = 0xE0 then some (2, 0xA0, 0xBF)
    else if n = 0xED then some (2, 0x80, 0x9F)
    else if 0xE1 ≤ n ∧ n < 0xF0 then some (2, 0x80, 0xBF)
    else if n = 0xF0 then some (3, 0x90, 0xBF)
    else if 0xF1 ≤ n ∧ n < 0xF4 then some (3, 0x80, 0xBF)
    else if n = 0xF4 then some (3, 0x80, 0x8F)
    else none
  | some (k + 1, lo, hi) => if lo ≤ n ∧ n ≤ hi then some (k, 0x80, 0xBF) else none

def utf8Valid (b : Bytes) : Bool :=
  match b.foldl utf8Step (some (0, 0, 0)) with
  | some (0, _, _) => true
  | _ => false

/-- A value of `n` bytes has a length its type allows (Table 15.1). -/
def lengthGood (r : ObjRow) (n : Nat) : Bool :=
  match typeLen r.ty with
  | some k => n == k
  | none => decide (r.min ≤ n) && decide ((n : Int) ≤ r.max)

/-- The content encodes the type. -/
def contentGood (r : ObjRow) (b : Bytes) : Bool :=
  match r.ty with
  | 0 => decide (ofLe b ≤ 1)
  | 8 => utf8Valid b
  | _ => true

/-- Step 9 of R361. -/
def valueGood (r : ObjRow) (b : Bytes) : Bool :=
  match typeLen r.ty with
  | some _ =>
    let v := decodeNum r.ty b
    decide (r.min ≤ v) && decide (v ≤ r.max) && extraRange r.name v
  | none => true

/-- Pool and block offset of an index within the pool blocks. -/
def blockOf (index : Nat) : Option (Nat × Nat) :=
  if 0x3000 ≤ index ∧ index < 0x4000 then some ((index - 0x3000) / 0x40, (index - 0x3000) % 0x40) else none

/-- The staging scope a write belongs to: its staged objects and its commit (R367). -/
def scopeFor (r : ObjRow) (index sub : Nat) : Option (Nat × Nat) :=
  let commits := ["FLEET_COMMIT", "FW_STAGE_BEGIN", "FW_STAGE_DATA", "FW_ACTIVATE", "POOL_COMMIT", "CROSS_START", "CROSS_ABORT",
    "VOL_COMMIT"]
  if !(r.staged || commits.contains r.name) then none
  else
    match blockOf index with
    | some (p, _) => some (scopePool p)
    | none =>
      if index = 0x2106 ∧ sub < 5 then some scopeFleet
      else if index = 0x1E00 then some scopeFw
      else if 0x6000 ≤ index ∧ index < 0xA000 then some (scopeMember (index - 0x6000))
      else if 0xA000 ≤ index ∧ index < 0xB000 then some (scopeVol (index - 0xA000))
      else none

/-- A staged object that may not be written: the code, layout and KEK of a pool that exists change only through a Crossing
or a rotation (R167, R371), as do the domains of existing ordinals (R53); the target of a Crossing that runs is fixed
(Table 15.7). -/
def stagedRefusal (s : Part) (index sub : Nat) : Option Nat :=
  match blockOf index with
  | none =>
    if 0x6000 ≤ index ∧ index < 0xA000 ∧ (sub = 0x10 ∨ sub = 0x11) ∧ s.memberNamed (index - 0x6000) then some 53 else none
  | some (p, off) =>
    match s.pool? p with
    | none => none
    | some ps =>
      if ps.life = 0 then none
      else if off = 0x10 ∨ off = 0x11 ∨ (off = 0x17 ∧ sub = 1) then some 167
      else if off = 0x16 ∧ ps.charter.cross.isSome then some 166
      else none

/-- Privilege a write needs (R350, R356). -/
def writeNeed (r : ObjRow) (x : SessSt) : Nat :=
  if r.name = "CRED_RESET" ∧ isMailbox x.transport then 0
  else if r.access = 4 ∨ r.custodian then roleCustodian
  else roleOperator

/-- Steps 6 and 7 of R361: the row, or status. -/
def writable (x : SessSt) (index sub : Nat) : Except Nat ObjRow :=
  if sub = 0 then .error (if (highestSub index).isSome then stReadOnly else stNoObject)
  else
    match objRow? index sub with
    | none => .error stNoObject
    | some r =>
      if r.access = 0 then .error stReadOnly
      else if x.role < writeNeed r x then .error stPrivilege
      else .ok r

/-- Step 10 and the staged part of step 11: `k` unless another session holds the scope, or the object may not be written. -/
def stagedChecked (x : SessSt) (r : ObjRow) (index sub : Nat) (k : Part → Part) (s : Part) : Part :=
  checked x.req 0 (scopeFor r index sub) (fun s =>
    match (if r.staged then stagedRefusal s index sub else none) with
    | some rule => refuseRule x.req rule 0 s
    | none => k s) s

/-! ### What a write does -/

/-- Actions below 0x2100: sessions, locks, firmware, selectors, the device (Tables 15.9, 15.12). -/
def actLow (q : Req) (o : Outside) (index sub v : Nat) (b : Bytes) : Option (Part → Part) :=
  if index = 0x1200 then
    (if sub = 6 then some (credResetEff q (BitVec.ofNat 32 v)) else some (credWriteEff q (sub - 2) b))
  else if index = 0x1300 then
    (if sub = 2 then some (stageReleaseEff q (BitVec.ofNat 32 v)) else some (stageBreakEff q (BitVec.ofNat 32 v)))
  else if index = 0x1E00 then
    match sub with
    | 1 => some (fwStageBeginEff q v)
    | 2 => some (fwStageDataEff q b)
    | _ => some (fwActivateEff q v o.partnerActivating)
  else if index = 0x1F00 then some (fun s => ok q (s.modSess q.session (fun y => { y with pageSel := v })))
  else if index = 0x2000 then
    (if sub = 1 then some (devWarmResetEff q (BitVec.ofNat 32 v) o.rings) else some (debugUnlockEff q v))
  else none

/-- Writes to the write path, fleet, members' timers, enclosures, Tollgate, pair (0x2100 to 0x25FF). -/
def actMid (q : Req) (o : Outside) (index sub v : Nat) (b : Bytes) : Option (Part → Part) :=
  if index = 0x2101 ∧ sub = 1 then
    some (fun s => if 2 ≤ s.pair.state then askPair q (.tideUs v) s else ok q (applyPairChange (.tideUs v) s))
  else if index = 0x2106 then
    match sub with
    | 4 => some (fleetCommitEff q)
    | 7 => some (fleetRetryEff q)
    | 8 => some (fleetRevertEff q)
    | _ => none
  else if index = 0x2107 ∧ sub = 9 then some (discoverNowEff q o.found)
  else if index = 0x2108 then
    (if sub = 1 then some (fun s => ok q (s.modSess q.session (fun y => { y with enclSel := v }))) else some (enclNumberEff q v))
  else if index = 0x2400 then some (selftestNowEff q o.selfTest)
  else if index = 0x2401 then
    match sub with
    | 1 => some (kekImportEff q b)
    | 2 => some (kekUnlockEff q b)
    | 3 => some (kekEraseEff q b)
    | _ => some (tollgateZeroiseEff q (BitVec.ofNat 32 v))
  else if 0x2410 ≤ index ∧ index < 0x2450 then some (kekAutoloadEff q (index - 0x2410) (v == 1))
  else if index = 0x2500 ∧ sub = 1 then some (pairPartnerUuidEff q b)
  else none

/-- Writes to the Towpath, store, dump, calibration, Logbook (0x2700 to 0x2800, 0x5000). -/
def actHigh (q : Req) (o : Outside) (index sub v : Nat) : Option (Part → Part) :=
  if index = 0x2700 then
    match sub with
    | 2 => some (askSleep (v == 2) q)
    | 9 => some (warnMvEff q v)
    | 0xA => some (dumpMvEff q v)
    | _ => none
  else if index = 0x2701 ∧ sub = 7 then some (storeTestNowEff q)
  else if index = 0x2702 then some (dumpAdoptEff q (BitVec.ofNat 8 v))
  else if index = 0x2800 then
    match sub with
    | 1 => some (calStartEff q v o.refs)
    | 0xE => some (calFactoryEff q)
    | _ => none
  else if index = 0x5000 ∧ sub = 7 then some (logExportNowEff q)
  else none

/-- Actions of a pool's block. -/
def actPool (q : Req) (p off sub v : Nat) (b : Bytes) : Option (Part → Part) :=
  match off, sub with
  | 0x00, 3 => some (if v = 2 then poolDeleteEff q p else poolCommitEff q p)
  | 0x00, 5 => some (poolImportEff q p b)
  | 0x00, 6 => some (poolImportForceEff q p)
  | 0x12, 1 => some (fun s => refreshProtection (ok q (s.setObjNum (poolIdx p 0x12) 1 v)))
  | 0x13, 0x0C => some (poolStallReleaseEff q p v)
  | 0x14, 0x0A => some (poolDivResolveEff q p (BitVec.ofNat 64 v))
  | 0x14, 0x0D => some (fun s => ok q (s.modSess q.session (fun y => { y with lostFrom := alSet p v y.lostFrom })))
  | 0x15, 8 => some (poolGroupAbandonEff q p v)
  | 0x16, 7 => some (crossStartEff q p)
  | 0x16, 8 => some (crossAbortEff q p)
  | 0x17, 2 => some (poolKekRotateEff q p b)
  | 0x18, 7 => some (poolHandoverEff q p)
  | _, _ => none

/-- Actions of a member's objects. -/
def actMember (q : Req) (k sub v : Nat) : Option (Part → Part) :=
  match sub with
  | 0x0C => some (
    if v = 1 then memberAction q k [2, 3, 5, 6, 7] (failMember k)
    else if v = 2 then memberAction q k [3] (setMemberState k 2 2)
    else memberReinstateEff q k)
  | 0x0D => some (memberReformatEff q k v)
  | 0x13 => some (memberReplacesEff q k v)
  | 0x15 => some (memberReleaseEff q k)
  | _ => none

/-- Actions of a volume's objects. -/
def actVolume (q : Req) (vol sub v : Nat) : Option (Part → Part) :=
  match sub with
  | 3 => some (volDeferredAckEff q vol v)
  | 0x0A => some (if v = 1 then volCreateEff q vol else if v = 2 then volGrowEff q vol else volDeleteEff q vol)
  | _ => none

/-- The action a write triggers, none for an object that only keeps its value. -/
def actionOf (q : Req) (o : Outside) (index sub v : Nat) (b : Bytes) : Option (Part → Part) :=
  match blockOf index with
  | some (p, off) => actPool q p off sub v b
  | none =>
    if index < 0x2100 then actLow q o index sub v b
    else if index < 0x2600 then actMid q o index sub v b
    else if index < 0x6000 then actHigh q o index sub v
    else if index < 0xA000 then actMember q (index - 0x6000) sub v
    else if index < 0xB000 then actVolume q (index - 0xA000) sub v
    else if index < 0xC000 ∧ sub = 5 then some (slotReloadEff q (index - 0xB000))
    else none

def Part.setObj (s : Part) (r : ObjRow) (index sub : Nat) (b : Bytes) : Part :=
  match typeLen r.ty with
  | some _ => s.setObjNum index sub (ofLe b)
  | none => s.setObjBlob index sub b

/-- What follows a kept value at once: a CAN setting waits for its second (R362), a lane that is down takes its mode
(R183). -/
def afterStore (index sub : Nat) (s : Part) : Part :=
  if index = 0x1100 ∧ 1 ≤ sub ∧ sub ≤ 3 then s.modDict (fun d => { d with canPending := true })
  else if 0x2200 ≤ index ∧ index < 0x2290 ∧ sub = 1 then
    (if (s.lane (index - 0x2200)).state = 0 ∨ (s.lane (index - 0x2200)).state = 5 then takeLaneMode (index - 0x2200) s else s)
  else s

/-- The data-phase rate is at least the nominal rate (R362). -/
def canRefusal (s : Part) (index sub v : Nat) : Bool :=
  index == 0x1100 && ((sub == 2 && decide (s.objNum 0x1100 3 < v)) || (sub == 3 && decide (v < s.objNum 0x1100 2)))

/-- An object without an action keeps its value (R351); a staged one takes its scope's lock (R367). -/
def storeEff (x : SessSt) (r : ObjRow) (index sub : Nat) (b : Bytes) (s : Part) : Part :=
  if canRefusal s index sub (ofLe b) then refuseRule x.req 362 0 s
  else
    let s := if r.staged then
        match scopeFor r index sub with
        | some sc => s.takeLock sc x.id
        | none => s
      else s
    ok x.req (afterStore index sub (s.setObj r index sub b))

/-- A whole value is written: steps 8 to 11 of R361, then the effect. -/
def writeValue (x : SessSt) (r : ObjRow) (index sub : Nat) (b : Bytes) (o : Outside) (s : Part) : Part :=
  if !lengthGood r b.length || !contentGood r b then refuse x.req stTypeLen 0 s
  else if !valueGood r b then refuse x.req stRange 0 s
  else
    stagedChecked x r index sub (fun s =>
      match actionOf x.req o index sub (ofLe b) b with
      | some act => act s
      | none => storeEff x r index sub b s) s

/-! ### Segments (R360) -/

def Part.setPartial (s : Part) (x : SessSt) (p : Option (Nat × Nat × Nat × Bytes)) : Part :=
  s.modSess x.id (fun y => { y with partBlob := p })

/-- The first segment of a longer value passes every check the whole value will. -/
def firstSegment (x : SessSt) (r : ObjRow) (f : Frame) (s : Part) : Part :=
  if !lengthGood r f.total then refuse x.req stTypeLen 0 s
  else
    stagedChecked x r f.index f.sub (fun s =>
      if f.index = 0x1E00 ∧ (s.fw.state ≠ 1 ∨ f.total ≠ stageRoom s.fw) then refuse x.req stSegment (s.fw.next % 65536) s
      else ok x.req (s.setPartial x (some (f.index, f.sub, f.total, f.data)))) s

/-- A segment after the first: the next of the value in hand, full unless it is the last. -/
def furtherSegment (x : SessSt) (r : ObjRow) (f : Frame) (o : Outside) (s : Part) : Part :=
  match x.partBlob with
  | none => refuse x.req stSegment 0 s
  | some (i, sb, total, got) =>
    let good := i == f.index && sb == f.sub && total == f.total && f.offset == got.length &&
      (if f.last then f.offset + f.data.length == total
       else f.data.length == maxData x.transport && decide (f.offset + f.data.length < total))
    let s := s.setPartial x none
    if !good then refuse x.req stSegment got.length s
    else if f.last then writeValue x r f.index f.sub (got ++ f.data) o s
    else ok x.req (s.setPartial x (some (i, sb, total, got ++ f.data)))

def writeEff (x : SessSt) (f : Frame) (o : Outside) (s : Part) : Part :=
  match writable x f.index f.sub with
  | .error st => refuse x.req st 0 (s.setPartial x none)
  | .ok r =>
    if f.last ∧ f.offset = 0 ∧ f.total = f.data.length then writeValue x r f.index f.sub f.data o (s.setPartial x none)
    else if (typeLen r.ty).isSome then refuse x.req stTypeLen 0 (s.setPartial x none)
    else if f.offset = 0 then
      if !f.last && f.data.length == maxData x.transport && decide (f.data.length < f.total) then
        firstSegment x r f (s.setPartial x none)
      else refuse x.req stSegment 0 (s.setPartial x none)
    else furtherSegment x r f o s

/-- R349, R357: WRITE. -/
def execDictWrite (tr : Transport) (node : Nat) (f : Frame) (o : Outside) (s : State) : Answer :=
  .next (s.onPart (onFrame tr node 0x11 f (·.isOpen) (fun x => writeEff x f o)))

/-! ### The mailbox (R364) -/

/-- `n` bytes of MBX_REQ; a byte never written reads zero. -/
def mbxBytes (x : FnSt) (n : Nat) : Bytes := (List.range n).map (fun i => (alGet i x.mbxReq).getD 0)

/-- The frame a byte string spells (Table 15.3). -/
def frameOf (b : Bytes) : Frame :=
  let le (i n : Nat) : Nat := ofLe ((b.drop i).take n)
  { rsvd := le 1 1 / 8, status := le 9 1, seq := le 2 2, session := le 4 2, index := le 6 2, sub := le 8 1, len := le 10 2, offset := le 12 2, total := le 14 2
    last := (le 1 1).testBit 0, twin := (le 1 1).testBit 1
    data := (b.drop 16).take (b.length - 24), mac := b.drop (b.length - 8) }

/-- The request in the mailbox, by its OP. -/
def mbxRun (tr : Transport) (b : Bytes) (o : Outside) (s : Part) : Part :=
  let f := frameOf b
  let op := ofLe (b.take 1)
  if b.length < 24 || 4120 < b.length || (ofLe ((b.drop 1).take 1)).testBit 2 then bareResponse tr 0 op f 0 stTypeLen 0 s
  else
    match op with
    | 0x01 => openEff tr 0 f s
    | 0x02 => onFrame tr 0 0x02 f (fun x => !x.isOpen) (fun x => authProof x f) s
    | 0x03 => onFrame tr 0 0x03 f (fun _ => true) (fun x s => endSession x.id (ok x.req s)) s
    | 0x04 => claimEff tr f s
    | 0x05 => onFrame tr 0 0x05 f (·.isOpen) (fun x s => ok x.req s) s
    | 0x10 => onFrame tr 0 0x10 f (·.isOpen) (fun x => readEff x f) s
    | 0x11 => onFrame tr 0 0x11 f (·.isOpen) (fun x => writeEff x f o) s
    | _ => onFrame tr 0 op f (fun _ => false) (fun _ s => s) s

def mbxSubmitEff (f : Fn) (len : Nat) (o : Outside) (s : Part) : Part :=
  let x := s.fn f
  if x.mbxBusy || x.mbxReady then s.modFn f (fun y => { y with mbxDropped := true })
  else mbxRun (mbxOf f) (mbxBytes x len) o (s.modFn f (fun y => { y with mbxDropped := false, mbxBusy := true }))

/-- R364: MBX_SUBMIT. -/
def execMbxSubmit (f : Fn) (len : Nat) (o : Outside) (s : State) : Answer := .next (s.onPart (mbxSubmitEff f len o))

end Sys2Proof.Machine
end

