-- ==== Sys2Proof/Machine/Dispatch.lean ====
section
/-! DEFINITION. Which meaning each command has: one arm per row of spec/opcode_table.json. -/

namespace Sys2Proof.Machine

def exec (i : Instr) (s : State) : Host.Outcome State Fault Refusal :=
  match i with
  | .bridgeRequest src dst word singleBit => Sys2Proof.Machine.execBridgeRequest src dst word singleBit s
  | .bridgeFault src dst subsystem => Sys2Proof.Machine.execBridgeFault src dst subsystem s
  | .islandPowerDown j => Sys2Proof.Machine.execIslandPowerDown j s
  | .islandWake j => Sys2Proof.Machine.execIslandWake j s
  | .islandReady j => Sys2Proof.Machine.execIslandReady j s
  | .poolCommit q p => Sys2Proof.Machine.execPoolCommit q p s
  | .poolDelete q p => Sys2Proof.Machine.execPoolDelete q p s
  | .poolInitComplete p => Sys2Proof.Machine.execPoolInitComplete p s
  | .memberRelease q k => Sys2Proof.Machine.execMemberRelease q k s
  | .charterChange p => Sys2Proof.Machine.execCharterChange p s
  | .charterCopyWritten p k ok => Sys2Proof.Machine.execCharterCopyWritten p k ok s
  | .charterRestoreRetry p => Sys2Proof.Machine.execCharterRestoreRetry p s
  | .poolImport q p uuid => Sys2Proof.Machine.execPoolImport q p uuid s
  | .poolImportForce q p => Sys2Proof.Machine.execPoolImportForce q p s
  | .volCreate q v => Sys2Proof.Machine.execVolCreate q v s
  | .volGrow q v => Sys2Proof.Machine.execVolGrow q v s
  | .volDelete q v => Sys2Proof.Machine.execVolDelete q v s
  | .syndromeRetry p stripe good => Sys2Proof.Machine.execSyndromeRetry p stripe good s
  | .energyEstimateRefresh codes => Sys2Proof.Machine.execEnergyEstimateRefresh codes s
  | .twinCeilingReport mib => Sys2Proof.Machine.execTwinCeilingReport mib s
  | .writeAdmit c hseq => Sys2Proof.Machine.execWriteAdmit c hseq s
  | .writeLanded c hseq host lf => Sys2Proof.Machine.execWriteLanded c hseq host lf s
  | .tideBoundary => Sys2Proof.Machine.execTideBoundary s
  | .tideSealComplete tide => Sys2Proof.Machine.execTideSealComplete tide s
  | .tideConfirmation tide => Sys2Proof.Machine.execTideConfirmation tide s
  | .sealFrameReceived f => Sys2Proof.Machine.execSealFrameReceived f s
  | .shadowBlock p b => Sys2Proof.Machine.execShadowBlock p b s
  | .destageStart p stripe bad encodeFails => Sys2Proof.Machine.execDestageStart p stripe bad encodeFails s
  | .stripCommit p stripe strip => Sys2Proof.Machine.execStripCommit p stripe strip s
  | .destageRetry p stripe bad => Sys2Proof.Machine.execDestageRetry p stripe bad s
  | .txOpenTimeout c tag => Sys2Proof.Machine.execTxOpenTimeout c tag s
  | .flushComplete c hseq => Sys2Proof.Machine.execFlushComplete c hseq s
  | .devWarmReset q value rings => Sys2Proof.Machine.execDevWarmReset q value rings s
  | .warmResetN rings => Sys2Proof.Machine.execWarmResetN rings s
  | .warmResetComplete => Sys2Proof.Machine.execWarmResetComplete s
  | .fwTakeover selfCheck rings => Sys2Proof.Machine.execFwTakeover selfCheck rings s
  | .checkpointBuild p => Sys2Proof.Machine.execCheckpointBuild p s
  | .checkpointValid p homes => Sys2Proof.Machine.execCheckpointValid p homes s
  | .extensionWrite p => Sys2Proof.Machine.execExtensionWrite p s
  | .extensionValid p homes => Sys2Proof.Machine.execExtensionValid p homes s
  | .poison p stripe => Sys2Proof.Machine.execPoison p stripe s
  | .poolStallRelease q p stripe => Sys2Proof.Machine.execPoolStallRelease q p stripe s
  | .manifestDigest p digest => Sys2Proof.Machine.execManifestDigest p digest s
  | .scrubStripe p bad => Sys2Proof.Machine.execScrubStripe p bad s
  | .poolDivResolve q p value => Sys2Proof.Machine.execPoolDivResolve q p value s
  | .volDeferredAck q v n => Sys2Proof.Machine.execVolDeferredAck q v n s
  | .rebuildAbsentHold k => Sys2Proof.Machine.execRebuildAbsentHold k s
  | .rebuildTask p bad => Sys2Proof.Machine.execRebuildTask p bad s
  | .stripeRebuilt p stripe ordinal => Sys2Proof.Machine.execStripeRebuilt p stripe ordinal s
  | .poolGroupAbandon q p group => Sys2Proof.Machine.execPoolGroupAbandon q p group s
  | .memberReplaces q k ordinal => Sys2Proof.Machine.execMemberReplaces q k ordinal s
  | .autoReplace k => Sys2Proof.Machine.execAutoReplace k s
  | .copyback p ordinal bad => Sys2Proof.Machine.execCopyback p ordinal bad s
  | .crossStart q p => Sys2Proof.Machine.execCrossStart q p s
  | .crossStep p bad => Sys2Proof.Machine.execCrossStep p bad s
  | .crossStepCommit p => Sys2Proof.Machine.execCrossStepCommit p s
  | .rekeyStripe p bad => Sys2Proof.Machine.execRekeyStripe p bad s
  | .crossCursorCommit p => Sys2Proof.Machine.execCrossCursorCommit p s
  | .crossAbort q p => Sys2Proof.Machine.execCrossAbort q p s
  | .crossComplete p => Sys2Proof.Machine.execCrossComplete p s
  | .fleetCommit q => Sys2Proof.Machine.execFleetCommit q s
  | .fleetConfirm k readBack => Sys2Proof.Machine.execFleetConfirm k readBack s
  | .fleetPartial => Sys2Proof.Machine.execFleetPartial s
  | .fleetRetry q => Sys2Proof.Machine.execFleetRetry q s
  | .fleetRevert q => Sys2Proof.Machine.execFleetRevert q s
  | .laneProbeRetry l a => Sys2Proof.Machine.execLaneProbeRetry l a s
  | .linkUp l proto width tier => Sys2Proof.Machine.execLinkUp l proto width tier s
  | .linkDown l => Sys2Proof.Machine.execLinkDown l s
  | .linkRetrain l cause => Sys2Proof.Machine.execLinkRetrain l cause s
  | .discoveryEvent r => Sys2Proof.Machine.execDiscoveryEvent r s
  | .discoverNow q r => Sys2Proof.Machine.execDiscoverNow q r s
  | .memberPresent j => Sys2Proof.Machine.execMemberPresent j s
  | .enclNumber q new => Sys2Proof.Machine.execEnclNumber q new s
  | .memberReformat q k fmt => Sys2Proof.Machine.execMemberReformat q k fmt s
  | .memberCmdIssue k => Sys2Proof.Machine.execMemberCmdIssue k s
  | .memberCmdComplete k id r => Sys2Proof.Machine.execMemberCmdComplete k id r s
  | .memberCmdTimeout k id => Sys2Proof.Machine.execMemberCmdTimeout k id s
  | .escalationStepTimeout k => Sys2Proof.Machine.execEscalationStepTimeout k s
  | .hedgeTimeout k id => Sys2Proof.Machine.execHedgeTimeout k id s
  | .drainForNonQueued k => Sys2Proof.Machine.execDrainForNonQueued k s
  | .ncqError k id => Sys2Proof.Machine.execNcqError k id s
  | .memberDeferred k lba => Sys2Proof.Machine.execMemberDeferred k lba s
  | .depthRise k => Sys2Proof.Machine.execDepthRise k s
  | .linkHoldExpire k => Sys2Proof.Machine.execLinkHoldExpire k s
  | .suspectClear k => Sys2Proof.Machine.execSuspectClear k s
  | .memberForceFailed q k => Sys2Proof.Machine.execMemberForceFailed q k s
  | .memberClearSuspect q k => Sys2Proof.Machine.execMemberClearSuspect q k s
  | .memberReinstate q k => Sys2Proof.Machine.execMemberReinstate q k s
  | .memberWceConfirm k a => Sys2Proof.Machine.execMemberWceConfirm k a s
  | .spinupGroup => Sys2Proof.Machine.execSpinupGroup s
  | .spinupAllowExpire k => Sys2Proof.Machine.execSpinupAllowExpire k s
  | .kekImport q payload => Sys2Proof.Machine.execKekImport q payload s
  | .kekUnlock q id => Sys2Proof.Machine.execKekUnlock q id s
  | .kekAutoload q e on => Sys2Proof.Machine.execKekAutoload q e on s
  | .kekErase q id => Sys2Proof.Machine.execKekErase q id s
  | .tollgateZeroise q value => Sys2Proof.Machine.execTollgateZeroise q value s
  | .poolKekRotate q p id => Sys2Proof.Machine.execPoolKekRotate q p id s
  | .slotLoad v => Sys2Proof.Machine.execSlotLoad v s
  | .slotReload q v => Sys2Proof.Machine.execSlotReload q v s
  | .slotCheckFail v => Sys2Proof.Machine.execSlotCheckFail v s
  | .glitchTrip g => Sys2Proof.Machine.execGlitchTrip g s
  | .selftestNow q failed => Sys2Proof.Machine.execSelftestNow q failed s
  | .drbgReseed good => Sys2Proof.Machine.execDrbgReseed good s
  | .shareRerandomise v => Sys2Proof.Machine.execShareRerandomise v s
  | .bmeClear f => Sys2Proof.Machine.execBmeClear f s
  | .bmeSet f => Sys2Proof.Machine.execBmeSet f s
  | .flr f => Sys2Proof.Machine.execFlr f s
  | .flrComplete f => Sys2Proof.Machine.execFlrComplete f s
  | .portReset f => Sys2Proof.Machine.execPortReset f s
  | .eventCauseWrite f v => Sys2Proof.Machine.execEventCauseWrite f v s
  | .eventCauseRead f => Sys2Proof.Machine.execEventCauseRead f s
  | .moderationTimeout f v => Sys2Proof.Machine.execModerationTimeout f v s
  | .winCommit f v => Sys2Proof.Machine.execWinCommit f v s
  | .winSwap f => Sys2Proof.Machine.execWinSwap f s
  | .bar4Tlp f t => Sys2Proof.Machine.execBar4Tlp f t s
  | .romWrite f => Sys2Proof.Machine.execRomWrite f s
  | .bar4Resize f gib => Sys2Proof.Machine.execBar4Resize f gib s
  | .hostPortError f e => Sys2Proof.Machine.execHostPortError f e s
  | .registerWrite f bar off size value => Sys2Proof.Machine.execRegisterWrite f bar off size value s
  | .doorbell f c size tail => Sys2Proof.Machine.execDoorbell f c size tail s
  | .fetchGrant f c => Sys2Proof.Machine.execFetchGrant f c s
  | .descriptorFetch c slots => Sys2Proof.Machine.execDescriptorFetch c slots s
  | .unknownOpcode c hseq => Sys2Proof.Machine.execUnknownOpcode c hseq s
  | .read c hseq bad lf => Sys2Proof.Machine.execRead c hseq bad lf s
  | .write c hseq => Sys2Proof.Machine.execWrite c hseq s
  | .flush c hseq => Sys2Proof.Machine.execFlush c hseq s
  | .unmap c hseq => Sys2Proof.Machine.execUnmap c hseq s
  | .verify c hseq bad lf => Sys2Proof.Machine.execVerify c hseq bad lf s
  | .copy c hseq bad lf => Sys2Proof.Machine.execCopy c hseq bad lf s
  | .txBegin c hseq => Sys2Proof.Machine.execTxBegin c hseq s
  | .txCommit c hseq => Sys2Proof.Machine.execTxCommit c hseq s
  | .txAbort c hseq => Sys2Proof.Machine.execTxAbort c hseq s
  | .enable f => Sys2Proof.Machine.execEnable f s
  | .pause f => Sys2Proof.Machine.execPause f s
  | .drain f => Sys2Proof.Machine.execDrain f s
  | .drainComplete c => Sys2Proof.Machine.execDrainComplete c s
  | .resume f => Sys2Proof.Machine.execResume f s
  | .reset f => Sys2Proof.Machine.execReset f s
  | .unknownChainCmd f v => Sys2Proof.Machine.execUnknownChainCmd f v s
  | .pairPartnerUuid q uuid => Sys2Proof.Machine.execPairPartnerUuid q uuid s
  | .pairForm peer => Sys2Proof.Machine.execPairForm peer s
  | .syncConfirmed p => Sys2Proof.Machine.execSyncConfirmed p s
  | .hawserRetrain width => Sys2Proof.Machine.execHawserRetrain width s
  | .path1Lost => Sys2Proof.Machine.execPath1Lost s
  | .path2Lost => Sys2Proof.Machine.execPath2Lost s
  | .path1Return tide => Sys2Proof.Machine.execPath1Return tide s
  | .releaseTimeout => Sys2Proof.Machine.execReleaseTimeout s
  | .releaseReceived => Sys2Proof.Machine.execReleaseReceived s
  | .selfFence => Sys2Proof.Machine.execSelfFence s
  | .reclaimDelay p => Sys2Proof.Machine.execReclaimDelay p s
  | .contest p => Sys2Proof.Machine.execContest p s
  | .preemptResult p home a => Sys2Proof.Machine.execPreemptResult p home a s
  | .contestGiveUp p => Sys2Proof.Machine.execContestGiveUp p s
  | .memberFenceTimeout p k => Sys2Proof.Machine.execMemberFenceTimeout p k s
  | .switchoverGapEnd p => Sys2Proof.Machine.execSwitchoverGapEnd p s
  | .pairBootWait held => Sys2Proof.Machine.execPairBootWait held s
  | .failback p => Sys2Proof.Machine.execFailback p s
  | .faultyHandoverTimeout => Sys2Proof.Machine.execFaultyHandoverTimeout s
  | .poolHandover q p => Sys2Proof.Machine.execPoolHandover q p s
  | .handoverConfirmed p => Sys2Proof.Machine.execHandoverConfirmed p s
  | .pairChangeProposal ch tide => Sys2Proof.Machine.execPairChangeProposal ch tide s
  | .pairChangeLapse => Sys2Proof.Machine.execPairChangeLapse s
  | .standbyProbe k readGood keyPresent => Sys2Proof.Machine.execStandbyProbe k readGood keyPresent s
  | .brace mv => Sys2Proof.Machine.execBrace mv s
  | .braceRelease mv => Sys2Proof.Machine.execBraceRelease mv s
  | .dumpTriggerLow mv => Sys2Proof.Machine.execDumpTriggerLow mv s
  | .comparatorTrip => Sys2Proof.Machine.execComparatorTrip s
  | .dumpTargetLost x => Sys2Proof.Machine.execDumpTargetLost x s
  | .dumpComplete ms => Sys2Proof.Machine.execDumpComplete ms s
  | .restoreBoot b => Sys2Proof.Machine.execRestoreBoot b s
  | .thermalThrottle dieC => Sys2Proof.Machine.execThermalThrottle dieC s
  | .thermalRelease dieC => Sys2Proof.Machine.execThermalRelease dieC s
  | .thermalTrip dieC => Sys2Proof.Machine.execThermalTrip dieC s
  | .thermalRecovery dieC b => Sys2Proof.Machine.execThermalRecovery dieC b s
  | .storeTest => Sys2Proof.Machine.execStoreTest s
  | .storeTestNow q => Sys2Proof.Machine.execStoreTestNow q s
  | .storeTestEnd capMf esrMohm => Sys2Proof.Machine.execStoreTestEnd capMf esrMohm s
  | .storeOutOfTemp milliC => Sys2Proof.Machine.execStoreOutOfTemp milliC s
  | .storeTempRecover milliC => Sys2Proof.Machine.execStoreTempRecover milliC s
  | .warnMv q v => Sys2Proof.Machine.execWarnMv q v s
  | .dumpMv q v => Sys2Proof.Machine.execDumpMv q v s
  | .dumpAdopt q mask => Sys2Proof.Machine.execDumpAdopt q mask s
  | .idleEntry => Sys2Proof.Machine.execIdleEntry s
  | .sleepRequest q => Sys2Proof.Machine.execSleepRequest q s
  | .sleepRequestForced q => Sys2Proof.Machine.execSleepRequestForced q s
  | .wakeHost f e => Sys2Proof.Machine.execWakeHost f e s
  | .wakeCan node e => Sys2Proof.Machine.execWakeCan node e s
  | .wakeScheduled e => Sys2Proof.Machine.execWakeScheduled e s
  | .wakePresence e => Sys2Proof.Machine.execWakePresence e s
  | .wakeThreshold ch e => Sys2Proof.Machine.execWakeThreshold ch e s
  | .wakeStore e => Sys2Proof.Machine.execWakeStore e s
  | .wakeLimitsMet e => Sys2Proof.Machine.execWakeLimitsMet e s
  | .calStart q what refs => Sys2Proof.Machine.execCalStart q what refs s
  | .calRunsComplete r => Sys2Proof.Machine.execCalRunsComplete r s
  | .calSlewStep => Sys2Proof.Machine.execCalSlewStep s
  | .calFactory q => Sys2Proof.Machine.execCalFactory q s
  | .sessionOpen tr node f => Sys2Proof.Machine.execSessionOpen tr node f s
  | .auth tr node f => Sys2Proof.Machine.execAuth tr node f s
  | .sessionClose tr node f => Sys2Proof.Machine.execSessionClose tr node f s
  | .claim tr f => Sys2Proof.Machine.execClaim tr f s
  | .keepalive tr node f => Sys2Proof.Machine.execKeepalive tr node f s
  | .dictRead tr node f => Sys2Proof.Machine.execDictRead tr node f s
  | .dictWrite tr node f o => Sys2Proof.Machine.execDictWrite tr node f o s
  | .sessionIdle session => Sys2Proof.Machine.execSessionIdle session s
  | .transportLockExpire tr => Sys2Proof.Machine.execTransportLockExpire tr s
  | .credWrite q cred wrap => Sys2Proof.Machine.execCredWrite q cred wrap s
  | .credReset q value => Sys2Proof.Machine.execCredReset q value s
  | .stageRelease q scope => Sys2Proof.Machine.execStageRelease q scope s
  | .stageBreak q scope => Sys2Proof.Machine.execStageBreak q scope s
  | .mbxSubmit f len o => Sys2Proof.Machine.execMbxSubmit f len o s
  | .mbxRelease f v => Sys2Proof.Machine.execMbxRelease f v s
  | .twinRelay tr node op f => Sys2Proof.Machine.execTwinRelay tr node op f s
  | .canConfigApply => Sys2Proof.Machine.execCanConfigApply s
  | .debugUnlock q v => Sys2Proof.Machine.execDebugUnlock q v s
  | .fwStageBegin q len => Sys2Proof.Machine.execFwStageBegin q len s
  | .fwStageData q data => Sys2Proof.Machine.execFwStageData q data s
  | .fwStageVerify => Sys2Proof.Machine.execFwStageVerify s
  | .fwActivate q partnerActivating => Sys2Proof.Machine.execFwActivate q partnerActivating s
  | .logEvent e => Sys2Proof.Machine.execLogEvent e s
  | .logRecordWrite => Sys2Proof.Machine.execLogRecordWrite s
  | .logDropped => Sys2Proof.Machine.execLogDropped s
  | .logExport => Sys2Proof.Machine.execLogExport s
  | .logExportNow q => Sys2Proof.Machine.execLogExportNow q s
  | .powerOn b => Sys2Proof.Machine.execPowerOn b s
  | .coldResetN low b => Sys2Proof.Machine.execColdResetN low b s
  | .railsGoodFall b => Sys2Proof.Machine.execRailsGoodFall b s
  | .tapInstruction op => Sys2Proof.Machine.execTapInstruction op s
  | .path2Return code => Sys2Proof.Machine.execPath2Return code s
  | .sleepAnnouncement pools => Sys2Proof.Machine.execSleepAnnouncement pools s
  | .pairChangeAccepted => Sys2Proof.Machine.execPairChangeAccepted s
  | .dumpLinkDown x => Sys2Proof.Machine.execDumpLinkDown x s
  | .dumpTargetWarning x => Sys2Proof.Machine.execDumpTargetWarning x s
  | .protChannelUnhealthy ch => Sys2Proof.Machine.execProtChannelUnhealthy ch s
  | .returnToArchiveSleep => Sys2Proof.Machine.execReturnToArchiveSleep s
  | .msixVectorUnmask f u => Sys2Proof.Machine.execMsixVectorUnmask f u s
  | .hostLinkUp f width rate flit => Sys2Proof.Machine.execHostLinkUp f width rate flit s

end Sys2Proof.Machine
end

