-- ==== Sys2Proof/Machine/Package.lean ====
section
/-! DEFINITION. The package's ball map (17: R387–R392, Tables 17.1 to 17.4a) and the levels of the balls that the part drives. -/

namespace Sys2Proof.Machine

/-! ### Names of rows and places of the lane balls (R387, R389, R390) -/

/-- The 19 letters of R387. -/
def rowLetters : List Char := ['A', 'B', 'C', 'D', 'E', 'F', 'G', 'H', 'J', 'K', 'L', 'M', 'N', 'P', 'T', 'U', 'V', 'W', 'Y']

/-- Name of row `x`, 1 to 61 (R387). -/
def rowName (x : Nat) : List Char :=
  let l (i : Nat) : List Char := (rowLetters[i]?).toList
  if x ≤ 19 then l (x - 1) else if x ≤ 38 then 'A' :: l (x - 20) else if x ≤ 57 then 'B' :: l (x - 39) else 'C' :: l (x - 58)

/-- One of the four balls of a lane: transmit or receive, P or N. -/
structure Leg where
  tx : Bool
  n : Bool
deriving DecidableEq, Repr

/-- Row and column of a ball of member lane `l` (R389). -/
def memberBall (l : Nat) (s : Leg) : Nat × Nat :=
  let g := l / 12
  let i := l % 12
  let j := 1 + 3 * (i % 3) + (if s.n then 1 else 0)
  let k := i / 3 + (if s.tx then 0 else 4)
  if g < 6 then (k + 1, 10 * g + 1 + j) else (61 - k, 10 * (g - 6) + 1 + j)

/-- Row and column of pair slot `s` of a region that starts at row `r0`, column `c0` (R390). -/
def slotBall (r0 c0 s : Nat) (n : Bool) : Nat × Nat := (r0 + s / 3, c0 + 3 * (s % 3) + (if n then 1 else 0))

/-- Lane `n` of host port `p` (Table 17.3). -/
def hostBall (p n : Nat) (s : Leg) : Nat × Nat := slotBall 9 (if p = 0 then 23 else 32) (if s.tx then n else 16 + n) s.n

/-- Hawser lane `n` (Table 17.3). -/
def hawserBall (n : Nat) (s : Leg) : Nat × Nat := slotBall 43 23 (if s.tx then n else 16 + n) s.n

/-- Lane `n` of dump link `d` (Table 17.3). -/
def dumpBall (d n : Nat) (s : Leg) : Nat × Nat := slotBall 43 32 (if s.tx then 4 * d + n else 16 + 4 * d + n) s.n

/-! ### What stands at a ball (R388, R391, R392) -/

inductive Rail | vss | vddCore | vddSram | vddaSd | vddhSd | vddq | vddPll | vddio | vddS | vddaS
deriving DecidableEq, Repr

/-- A signal of a DDR channel (Table 17.4a): `b` tells subchannel B, `c` the complement of a pair. -/
inductive DdrSig
  | dq (b : Bool) (n : Nat)
  | dqs (b : Bool) (n : Nat) (c : Bool)
  | ca (b : Bool) (n : Nat)
  | cs (b : Bool) (n : Nat)
  | ck (b c : Bool)
  | alert
  | reset
deriving DecidableEq, Repr

inductive Ball
  | member (lane : Nat) (leg : Leg)
  | host (port lane : Nat) (leg : Leg)
  | hawser (lane : Nat) (leg : Leg)
  | dump (link lane : Nat) (leg : Leg)
  | ddr (channel : Nat) (s : DdrSig)
  | control (name : String)
  | supply (r : Rail)
deriving DecidableEq, Repr

/-- DDR channel pattern (Table 17.4a): row offset `k`, column offset `j`. -/
def ddrAt (channel k j : Nat) : Ball :=
  let sig := Ball.ddr channel
  match k with
  | 0 => sig (.dq false j)
  | 1 => if j < 18 then sig (.dq false (22 + j)) else sig (.dqs false ((j - 18) / 2) (j % 2 == 1))
  | 2 => if j < 16 then sig (.dqs false (2 + j / 2) (j % 2 == 1)) else sig (.ca false (j - 16))
  | 3 =>
    if j < 6 then sig ([.ca false 6, .cs false 0, .cs false 1, .ck false false, .ck false true, .alert].getD j .alert)
    else if j < 11 then .supply .vss
    else if j < 16 then .supply .vddq
    else sig ([.reset, .ck true true, .ck true false, .cs true 1, .cs true 0, .ca true 6].getD (j - 16) .reset)
  | 4 => if j < 6 then sig (.ca true j) else sig (.dqs true (2 + (j - 6) / 2) (j % 2 == 1))
  | 5 => if j < 4 then sig (.dqs true (j / 2) (j % 2 == 1)) else sig (.dq true (18 + j))
  | _ => sig (.dq true j)

/-- A ball of the member bands: each block of ten columns is VSS, a pair, VSS, a pair, VSS, a pair, VDDA_SD (R389). -/
def memberBandAt (group k c : Nat) : Ball :=
  if c = 9 then .supply .vddaSd
  else if c % 3 = 0 then .supply .vss
  else .member (12 * group + 3 * (k % 4) + (c - 1) / 3) { tx := decide (k < 4), n := c % 3 == 2 }

/-- The slot and the leg of a ball eight columns wide into a region, none for VSS (R390). -/
def pairSlotAt (r c : Nat) : Option (Nat × Bool) :=
  if c % 3 = 2 ∨ 32 ≤ 3 * r + c / 3 then none else some (3 * r + c / 3, c % 3 == 1)

/-- The control cluster, from column 23, rows AA to AD (Table 17.4). -/
def controlRows : List (List Ball) :=
  let c := Ball.control
  let v := Ball.supply
  [[c "SENSE_IN0", c "SENSE_IN1", c "SENSE_IN2", c "SENSE_IN3", c "SENSE_IN4", c "SENSE_IN5", c "SENSE_IN6", c "SENSE_IN7",
    c "SENSE_GND", c "VCAL_REF", v .vddaS, v .vddS, c "XTAL32_IN", c "XTAL32_OUT", c "FCAL_REF", c "PRES_CHG_N", c "WAKE_N"],
   [c "CORE_EN", c "RAILS_GOOD", c "CHG_EN", c "STORE_TEST", c "DUMP_ACTIVE", c "PERST0_N", c "PERST1_N", c "COLD_RESET_N",
    c "WARM_RESET_N", c "FAULT_N", c "CAN0_TX", c "CAN0_RX", c "CAN1_TX", c "CAN1_RX", c "STRAP_FACTORY", c "STRAP_BOOT_ALT",
    c "STRAP_NOR_SLOW"],
   [c "SYSCLK_P", c "SYSCLK_N", c "REFCLK0_P", c "REFCLK0_N", c "REFCLK1_P", c "REFCLK1_N", v .vddPll, v .vddPll, c "HB_OUT_P",
    c "HB_OUT_N", c "HB_IN_P", c "HB_IN_N", c "SPD0_SCL", c "SPD0_SDA", c "SPD1_SCL", c "SPD1_SDA", v .vddio],
   [c "SPI_CLK", c "SPI_CS_N", c "SPI_IO0", c "SPI_IO1", c "SPI_IO2", c "SPI_IO3", c "SPI_RST_N", c "TCK", c "TMS", c "TDI", c "TDO",
    c "TRST_N", c "DL0_PERST_N", c "DL1_PERST_N", c "DL2_PERST_N", c "DL3_PERST_N", v .vddio]]

/-- Column 61 (Table 17.4): the resets of link groups L0 to L5 from row A down, of L6 to L11 from row CD up. -/
def column61 (row : Nat) : Ball :=
  let perst := ["MG00_PERST_N", "MG01_PERST_N", "MG02_PERST_N", "MG03_PERST_N", "MG04_PERST_N", "MG05_PERST_N", "MG06_PERST_N",
    "MG07_PERST_N", "MG08_PERST_N", "MG09_PERST_N", "MG10_PERST_N", "MG11_PERST_N"]
  let g := if row ≤ 8 then row - 1 else 6 + (61 - row)
  if (row ≤ 8 ∧ 6 ≤ g) ∨ 12 ≤ g then .supply .vddhSd else .control (perst.getD g "")

/-- The core supply array, rows AE to BD (Table 17.1). -/
def coreArrayAt (row col : Nat) : Ball :=
  .supply (if (row + col) % 2 = 0 then .vss else if row ≤ 36 then .vddCore else if row ≤ 38 then .vddSram else .vddaSd)

/-- The middle columns 23 to 39 (Table 17.1). -/
def middleAt (row col : Nat) : Ball :=
  if row ≤ 19 then
    if col = 31 then .supply .vddhSd
    else
      match pairSlotAt (row - 9) (if col < 31 then col - 23 else col - 32) with
      | some (x, n) => .host (if col < 31 then 0 else 1) (x % 16) { tx := decide (x < 16), n := n }
      | none => .supply .vss
  else if row ≤ 23 then ((controlRows.getD (row - 20) [])[col - 23]?).getD (.supply .vss)
  else if row ≤ 42 then coreArrayAt row col
  else if col = 31 then .supply .vddhSd
  else
    match pairSlotAt (row - 43) (if col < 31 then col - 23 else col - 32) with
    | some (x, n) =>
      if col < 31 then .hawser (x % 16) { tx := decide (x < 16), n := n }
      else .dump (x % 16 / 4) (x % 4) { tx := decide (x < 16), n := n }
    | none => .supply .vss

/-- The ball at a row and a column, 1 to 61 each (R388). -/
def ballAt (row col : Nat) : Ball :=
  if row ≤ 8 ∨ 54 ≤ row then
    if col = 61 then column61 row
    else if row ≤ 8 then memberBandAt ((col - 1) / 10) (row - 1) ((col - 1) % 10)
    else memberBandAt (6 + (col - 1) / 10) (61 - row) ((col - 1) % 10)
  else if 23 ≤ col ∧ col ≤ 39 then middleAt row col
  else if row = 9 ∨ row = 52 then .supply .vss
  else if row = 53 then .supply .vddCore
  else ddrAt ((if col ≤ 22 then 0 else 6) + (row - 10) / 7) ((row - 10) % 7) (if col ≤ 22 then col - 1 else 61 - col)

/-! ### Balls the part drives (R392) -/

inductive OutBall
  | coreEn | chgEn | storeTest | dumpActive | wakeN | faultN
  | memberPerst (g : Fin 12)
  | dumpPerst (d : Fin 4)
deriving DecidableEq, Repr

/-- Level of a ball the part drives, none where it is high-impedance: balls of domain IO while CORE_EN is low, open drains that
are not pulled low. The 100 ms before a PERST output rises are left out (log entry 117). -/
def Part.ballLevel (s : Part) (b : OutBall) : Option Bool :=
  let io (x : Option Bool) : Option Bool := if s.tow.coreEn then x else none
  match b with
  | .coreEn => some s.tow.coreEn
  | .chgEn => some s.tow.chgEn
  | .storeTest => some s.tow.storeTest
  | .dumpActive => some s.tow.dumpActive
  | .wakeN => if s.tow.wakeN then some false else none
  | .faultN => io (if s.sched.faulty || s.fw.bootFailed || !s.ready .g then some false else none)
  | .memberPerst g => io (some (s.ready (.l g)))
  | .dumpPerst _ => io (some (s.ready .d))

end Sys2Proof.Machine
end

