-- ==== Sys2Proof/Safety.lean ====
section
/-! DEFINITION. What a safe run is, and the shapes in which the statements speak of a command. -/

namespace Sys2Proof.Machine

/-- The step answers a next state. -/
def Advances (s : State) : Prop := ∃ t, step s = .next t

/-- The command answers a next state: the queue and the peer buffer area as before, and a part of which `P` holds. -/
def Runs (c : Instr) (s : State) (P : Part → Prop) : Prop := ∃ t, exec c s = .next { s with part := t } ∧ P t

/-- The command answers a next state that differs from `s` in nothing. -/
def Stays (c : Instr) (s : State) : Prop := exec c s = .next s

/-- The request comes from an open session of its transport and node whose privilege reaches `need`, and no other session
holds the lock of the scope it names (R350, R352, R361, R367). -/
def Allowed (s : Part) (q : Req) (need : Nat) (scope : Option (Nat × Nat)) : Prop :=
  ∃ x, s.openSess? q = some x ∧ need ≤ x.role ∧ ∀ sc, scope = some sc → ∀ h, s.lockHolder sc = some h → h = q.session

/-- The status the last dictionary answer carries (Table 15.4). -/
def Part.answer (s : Part) : Option Nat := s.dict.resp.map (·.status)

/-- The command `h` of chain `c` has ended with `status` and `info`: it is done where the chain still lists it, and its
completion is written back unless Bus Master Enable is clear or the chain halted when it was lost (R252, R280, R281). -/
def Completed (c : Nat) (h : BitVec 32) (status : Nat) (info : BitVec 64) (s t : Part) : Prop :=
  (∀ x, t.cmd? c h = some x → x.phase = .done) ∧
  ((s.fn (s.chainFn c)).bme = true → (s.chain c).halt ≠ 0x80 →
    ∃ dfl dseq, .writeBack (s.chainFn c) c h status dfl dseq info ∈ t.out)

/-- The last dictionary answer carries this status and DETAIL (Table 15.4). -/
def Answers (s : Part) (status detail : Nat) : Prop := ∃ r, s.dict.resp = some r ∧ r.status = status ∧ r.detail = detail

/-- The request is answered with this status and DETAIL and nothing but its answer comes of it (R357). -/
def Refused (c : Instr) (s : State) (status detail : Nat) : Prop :=
  Runs c s (fun t => Answers t status detail ∧
    t = { s.part with dict := t.dict, out := t.out, fn0 := t.fn0, fn1 := t.fn1 })

/-- The charter change `d` waits in pool `p`, whose charter in force is still that of `ps` (R45). -/
def AsksFor (p : Nat) (ps : PoolSt) (d : CharterDelta) (t : Part) : Prop :=
  ∃ x, t.pool? p = some x ∧ d ∈ x.queue ∧ x.charter = ps.charter

/-- The rows whose rule lets them reach bytes of the peer buffer area (R131, R134, R258): a host read that lands there, a read
of a member that completes one, and the host's own accesses through BAR4. -/
def reachesPeer (c : Instr) : Bool :=
  match c with
  | .read .. | .bar4Tlp .. | .memberCmdComplete .. | .memberCmdTimeout .. | .hedgeTimeout .. | .drainForNonQueued ..
  | .ncqError .. => true
  | _ => false

/-- The rows a boot can follow (R256: a boot clears the peer buffer area). -/
def canBoot (c : Instr) : Bool :=
  match c with
  | .powerOn .. | .coldResetN .. | .railsGoodFall .. | .warmResetComplete | .restoreBoot .. | .thermalRecovery .. | .wakeHost ..
  | .wakeCan .. | .wakeScheduled .. | .wakePresence .. | .wakeThreshold .. | .wakeStore .. | .wakeLimitsMet .. => true
  | _ => false

/-- The rows that carry an access to a BAR, which may fall outside it (R237). -/
def accessesBar (c : Instr) : Bool :=
  match c with
  | .bar4Tlp .. | .registerWrite .. => true
  | _ => false

end Sys2Proof.Machine
end

