-- ==== Sys2Proof/Certificates/Slice0/Obligations.lean ====
section
/-! DEFINITION. What is claimed of the model: one definition for each statement. `Runs c s P` says that `c` completes in `s`,
changes nothing but the part, and that `P` holds of the part after it; where the last clause of `P` is an equation
`t = { s.part with … }`, the fields it names are all that may change. -/

section
open Sys2Proof Sys2Proof.Machine

/-- A step takes the command at the front of the queue and runs its meaning on the state with the queue's rest. -/
def Obligations.StepRunsTheFrontCommand : Prop := ∀ (c : Instr) (rest : List Instr) (s : State), s.pending = c :: rest →
  step s = exec c { s with pending := rest }

/-- The model's choice (log entry 1): with no command waiting the part idles, and only its timebase advances, by 1 µs. -/
def Obligations.EmptyQueueIdles : Prop := ∀ (s : State), s.pending = [] →
  step s = .next { s with part := { s.part with timeUs := s.part.timeUs + 1 } }

/-- R256 and log entry 4: the peer buffer area stays in its canonical form (addresses strictly rising, no cell of value 0)
over every step, whatever command is at the front. -/
def Obligations.PeerAreaKeepsItsForm : Prop := ∀ (s t : State), Memory.wf s.peerMem = true → step s = .next t →
  Memory.wf t.peerMem = true

/-- Every row answers a next state in every state, but for an access outside its BAR, and no row touches the commands still
waiting; the peer buffer area changes only in the rows that reach it and, where a boot can follow, to the cleared area. -/
def Obligations.EveryCommandAnswers : Prop := ∀ (c : Instr) (s : State),
  (accessesBar c = false → ∃ t, exec c s = .next t) ∧
  (∀ t, exec c s = .next t → t.pending = s.pending ∧
    (reachesPeer c = false → canBoot c = false → t.peerMem = s.peerMem) ∧
    (canBoot c = true → t.peerMem = s.peerMem ∨ t.peerMem = []))

/-- The part after manufacture (R397, R256; values the spec leaves open are log entry 3): nothing waits, the peer buffer
area lists nothing and is in its form, island S alone is powered and ready, no pool, member, volume or chain is known and
nothing has been sent. -/
def Obligations.ResetState : Prop :=
  State.reset.pending = [] ∧ State.reset.peerMem = [] ∧ Memory.wf State.reset.peerMem = true ∧
  (∀ i, State.reset.part.ready i = decide (i = .s) ∧ (State.reset.part.island i).powered = decide (i = .s)) ∧
  State.reset.part.pools = [] ∧ State.reset.part.members = [] ∧ State.reset.part.vols = [] ∧ State.reset.part.chains = [] ∧
  State.reset.part.out = []

/-- R264 (11): a is ahead of b exactly when (a − b) mod 2^32 lies from 1 to 2^31 − 1, and behind b exactly when (b − a) mod
2^32 lies in that range, which is when b is ahead of a. -/
def Obligations.SerialNumbersCompare : Prop := ∀ (a b : BitVec 32),
  (ahead a b = true ↔ 1 ≤ (a.toNat + 2 ^ 32 - b.toNat) % 2 ^ 32 ∧ (a.toNat + 2 ^ 32 - b.toNat) % 2 ^ 32 ≤ 2 ^ 31 - 1) ∧
  (ahead b a = true ↔ 1 ≤ (b.toNat + 2 ^ 32 - a.toNat) % 2 ^ 32 ∧ (b.toNat + 2 ^ 32 - a.toNat) % 2 ^ 32 ≤ 2 ^ 31 - 1)

/-- R56 (03): an ordinal is relocated when its STATE is PRESENT (1), ABSENT (0), FAILED (4) or SPARE_DONOR (5). A lane is
usable in frame f when home(f, lane_pos(l)) is not relocated: only a usable lane is ever given to a strip, and where a
usable lane is not taken yet, one is given. -/
def Obligations.RelocationFollowsMemberStates : Prop := ∀ (c : Charter) (m : CMember) (o : Nat),
  c.members[o]? = some m →
  (c.braid.relocated o = true ↔ m.state = 1 ∨ m.state = 0 ∨ m.state = 4 ∨ m.state = 5) ∧
  (∀ f qx sx x taken l cls, c.braid.bestLane f qx sx x taken = some (l, cls) →
    c.braid.relocated (c.braid.home f (c.braid.lanePos l)) = false ∧ l ∉ taken ∧ l < c.shape.spare) ∧
  (∀ f qx sx x taken l, l < c.shape.spare → l ∉ taken → c.braid.relocated (c.braid.home f (c.braid.lanePos l)) = false →
    c.braid.bestLane f qx sx x taken ≠ none)

/-- R14, R12, R18 (01): a word sent to an island that is not ready is answered ISLAND_ASLEEP, the sender is remembered for
the ready notice and nothing else of the part changes; a word sent to a ready island is delivered and then answered. A
single-bit error is counted on the bridge (both directions are one bridge) and logged, and the word goes through; on a bridge
of island H both ports report it (which port, R262 leaves open: log entry 158). A multi-bit
error delivers no word, is answered BRIDGE_FAULT and counted, and the host command it belonged to ends with the internal
error of its subsystem (which status that is, R18 leaves free: log entry 134); a second one within 1 s makes the part faulty,
a first one leaves the scheduler's record alone. -/
def Obligations.BridgeWordsAreAnswered : Prop := ∀ (src dst : Island) (word sub : Nat) (s : State),
  (s.part.ready dst = false →
    (∀ one, Runs (.bridgeRequest src dst word one) s (fun t =>
      t = { s.part with islands := t.islands, out := s.part.out ++ [.bridgeAnswer src .islandAsleep] } ∧
      src ∈ (t.island dst).refused ∧ (∀ j, j ≠ dst → t.island j = s.part.island j) ∧
      t.island dst = { s.part.island dst with refused := (t.island dst).refused })) ∧
    ∀ op, Runs (.bridgeFault src dst ⟨sub, op⟩) s (fun t =>
      t = { s.part with islands := t.islands, out := s.part.out ++ [.bridgeAnswer src .islandAsleep] })) ∧
  (s.part.ready dst = true →
    Runs (.bridgeRequest src dst word false) s (fun t =>
      t = { s.part with out := s.part.out ++ [.bridgeWord src dst word, .bridgeAnswer src .done] }) ∧
    Runs (.bridgeRequest src dst word true) s (fun t =>
      (t.bridge src dst).corrected = (s.part.bridge src dst).corrected + 1 ∧
      (t.bridge dst src).corrected = (s.part.bridge src dst).corrected + 1 ∧
      (∃ l, t.out = l ++ [.bridgeWord src dst word, .bridgeAnswer src .done]) ∧
      (src = .h ∨ dst = .h → .aer .f0 0 ∈ t.out ∧ .aer .f1 0 ∈ t.out) ∧
      t = { s.part with bridges := t.bridges, log := t.log, dict := t.dict, tow := t.tow, out := t.out }) ∧
    ∀ op, Runs (.bridgeFault src dst ⟨sub, op⟩) s (fun t =>
      (t.bridge src dst).faults = (s.part.bridge src dst).faults + 1 ∧
      .bridgeAnswer src .bridgeFault ∈ t.out ∧
      (∀ (c : ChainId) h x, op = some (c, h) → s.part.cmd? c.val h = some x → x.phase ≠ .done → x.phase ≠ .abandoned →
        s.part.dump.state ≠ 3 → Completed c.val h (internalError sub) 0 s.part t) ∧
      ((∀ x ∈ (s.part.bridge src dst).recent, x + 1000000 ≤ s.part.timeUs) → t.sched = s.part.sched ∧
        (op = none → t = { s.part with bridges := t.bridges, log := t.log, dict := t.dict, tow := t.tow, out := t.out })) ∧
      ((∃ x ∈ (s.part.bridge src dst).recent, s.part.timeUs < x + 1000000) → t.sched.faulty = true)))

/-- Table 1.2, R11, R15 to R17, R217 (01, 09): the Towpath's island is never powered down; an island whose entry of the
table permits it goes down with its bridges closed, and one whose entry does not stays up, the part unchanged. Island K
loses every KEK register and key slot as it goes down; island D's power decides whether the dump path is ready (R328). An island ordered up is powered with its bridges still closed; when
it raises its ready flag they open, and every island it turned away since the close gets the ready notice. -/
def Obligations.IslandsGoDownAndUp : Prop := ∀ (i : Island) (s : State),
  ((s.part.island i).powered = false ∨ mayPowerDown i s.part = false → Stays (.islandPowerDown i) s) ∧
  (i = .s → mayPowerDown i s.part = false) ∧
  ((s.part.island i).powered = true ∧ mayPowerDown i s.part = true →
    Runs (.islandPowerDown i) s (fun t =>
      (t.island i).powered = false ∧ t.ready i = false ∧ (t.island i).refused = [] ∧
      (∀ j, j ≠ i → t.island j = s.part.island j) ∧
      (i ≠ .k ∧ i ≠ .d → t = { s.part with islands := t.islands }) ∧
      (i = .d → t = { s.part with islands := t.islands, sched := t.sched, man := t.man, chains := t.chains, fn0 := t.fn0, fn1 := t.fn1, pools := t.pools, vols := t.vols, pair := t.pair, tow := t.tow, dump := t.dump, dict := t.dict, log := t.log, out := t.out }) ∧
      (i = .k → t = { s.part with islands := t.islands, toll := t.toll } ∧ t.toll.slots = [] ∧ t.toll.rekey = [] ∧
        ∀ k ∈ t.toll.keks, k.loaded = false))) ∧
  ((s.part.island i).ready = false ∧ (s.part.island i).waking = false →
    Runs (.islandWake i) s (fun t =>
      (t.island i).powered = true ∧ (t.island i).waking = true ∧ t.ready i = false ∧
      (∀ j, j ≠ i → t.island j = s.part.island j) ∧ (i = .k → t.toll.testing = true) ∧ (i ≠ .k ∧ i ≠ .g ∧ i ≠ .d → t = { s.part with islands := t.islands }) ∧
      (i = .d → t = { s.part with islands := t.islands, sched := t.sched, man := t.man, chains := t.chains, fn0 := t.fn0, fn1 := t.fn1, pools := t.pools, vols := t.vols, pair := t.pair, tow := t.tow, dump := t.dump, dict := t.dict, log := t.log, out := t.out }))) ∧
  ((s.part.island i).waking = true →
    Runs (.islandReady i) s (fun t =>
      t.ready i = true ∧ (t.island i).waking = false ∧ (t.island i).refused = [] ∧
      t.out = s.part.out ++ ((s.part.island i).refused.map (fun w => .islandReady w i)) ∧
      (∀ j, j ≠ i → t.island j = s.part.island j) ∧
      (i ≠ .k → t = { s.part with islands := t.islands, out := t.out }) ∧
      (i = .k → t = { s.part with islands := t.islands, out := t.out, toll := { s.part.toll with testing := false } })))

/-- R45 steps 1 and 2, R26 (02): a waiting charter change is built as generation H + 1 at the time and tide of the build, and
becomes the change in progress; the generation in force stays. With no change waiting, or one in progress, nothing
happens. A restoring generation is written again, its failed writes forgotten. Once every member has reported its zeroing
complete, the change that sets INIT_DONE waits its turn; while a member's zeroing is left, nothing happens. -/
def Obligations.CharterChangesAreBuilt : Prop := ∀ (p : PoolId) (s : State) (ps : PoolSt), s.part.pool? p.val = some ps →
  (∀ d rest, ps.queue = d :: rest → ps.life ≠ 0 → ps.owned = true → ps.change = none → ps.coming = none →
    Runs (.charterChange p) s (fun t => ∃ x ch, t.pool? p.val = some x ∧ x.change = some ch ∧ x.queue = rest ∧
      x.highGen = ps.highGen + 1 ∧ ch.charter.gen = ps.highGen + 1 ∧ ch.charter.changed = s.part.timeUs ∧
      ch.charter.changeTide = (if ps.charter.paired then s.part.sched.tideNow + s.part.leadTides else s.part.sched.tideNow) ∧
      ch.holders = [] ∧ ch.failed = [] ∧ ch.restoring = false ∧ x.charter = ps.charter ∧ x.coming = none ∧
      t = { s.part with pools := t.pools, members := t.members })) ∧
  (ps.queue = [] ∨ ps.change ≠ none ∨ ps.coming ≠ none → Stays (.charterChange p) s) ∧
  (∀ ch, ps.change = some ch → ch.restoring = true →
    Runs (.charterRestoreRetry p) s (fun t => ∃ x, t.pool? p.val = some x ∧ x.change = some { ch with failed := [] } ∧
      x.charter = ps.charter ∧ t = { s.part with pools := t.pools, members := t.members } ∧
      ∀ k m, k ∈ ch.charter.listed → k ∉ ch.holders → s.part.takes k = true → s.part.member? k = some m →
        ∃ y, t.member? k = some y ∧ (∃ c ∈ y.waiting, c.op = .structureWrite ∧ c.id = m.nextTag))) ∧
  (ps.life = 2 → ps.latest.initDone = false → ps.initLeft = [] →
    Runs (.poolInitComplete p) s (fun t => ∃ x, t.pool? p.val = some x ∧ x.initLeft = [] ∧ .initDone ∈ x.queue ∧
      x.charter = ps.charter ∧ t = { s.part with pools := t.pools })) ∧
  (ps.life ≠ 2 ∨ ps.latest.initDone = true ∨ ps.initLeft ≠ [] → Stays (.poolInitComplete p) s)

/-- R45 steps 3 and 4, R26 (02): a copy A written on a listed member counts; on more than half of the listed members it
commits the change: the generation waits for its boundary, the one in force stays in force, and a write of copy B
waits on every member that holds copy A and takes commands. Short of that the change stays in progress with the member counted. A failed write that leaves
no majority abandons the change and starts a restoring generation, one number higher, with the content of the generation
in force; a creation fails instead, and POOL_COMMIT_RESULT names R45. -/
def Obligations.CharterCopiesCommit : Prop := ∀ (p : PoolId) (k : MemberId) (s : State) (ps : PoolSt) (ch : ChangeBuild),
  s.part.pool? p.val = some ps → ps.change = some ch → k.val ∈ ch.charter.listed → k.val ∉ ch.holders →
  announced s.part p.val ch.announceTide = true →
  (ch.charter.listed.length < 2 * (ch.holders.length + 1) → (ch.charter.paired && decide (s.part.pair.state = 2 ∨ s.part.pair.state = 3)) = false →
    Runs (.charterCopyWritten p k true) s (fun t => ∃ x, t.pool? p.val = some x ∧ x.coming = some ch.charter ∧
      x.change = none ∧ x.charter = ps.charter ∧
      (∀ j m, (j = k.val ∨ j ∈ ch.holders) → s.part.member? j = some m → s.part.takes j = true →
        ∃ y, t.member? j = some y ∧ ∃ c ∈ y.waiting, c.op = .copyB p.val ch.charter.gen) ∧
      (∀ y, t.member? k.val = some y → y.charterA = some ch.charter) ∧
      t = { s.part with pools := t.pools, members := t.members })) ∧
  (2 * (ch.holders.length + 1) ≤ ch.charter.listed.length →
    ch.charter.listed.length < 2 * (ch.charter.listed.length - (ch.failed.filter (· != k.val)).length) →
    Runs (.charterCopyWritten p k true) s (fun t => ∃ x, t.pool? p.val = some x ∧
      x.change = some { ch with holders := ch.holders ++ [k.val], failed := ch.failed.filter (· != k.val) } ∧
      x.coming = ps.coming ∧ x.charter = ps.charter ∧ t = { s.part with pools := t.pools, members := t.members })) ∧
  (k.val ∉ ch.failed → 2 * (ch.charter.listed.length - (ch.failed.length + 1)) ≤ ch.charter.listed.length →
    2 * ch.holders.length ≤ ch.charter.listed.length → ch.restoring = false →
    (ch.creation = false →
      Runs (.charterCopyWritten p k false) s (fun t => ∃ x c2, t.pool? p.val = some x ∧ x.change = some c2 ∧
        c2.restoring = true ∧ c2.holders = [] ∧ x.charter = ps.charter ∧ x.coming = ps.coming ∧
        c2.charter = { ps.charter with gen := ps.highGen + 1, changed := c2.charter.changed, changeTide := c2.charter.changeTide,
                                       cross := c2.charter.cross } ∧
        ((∀ y, ps.charter.cross = some y → y.startGen ≠ 0) → c2.charter.cross = ps.charter.cross) ∧
        t = { s.part with pools := t.pools, members := t.members, vols := t.vols, log := t.log, dict := t.dict, tow := t.tow, out := t.out })) ∧
    (ch.creation = true →
      Runs (.charterCopyWritten p k false) s (fun t => ∃ x, t.pool? p.val = some x ∧ x.life = 0 ∧ x.change = none ∧
        x.commitResult = ruleResult 45 0 ∧
        t = { s.part with pools := t.pools, members := t.members, log := t.log, dict := t.dict, tow := t.tow, out := t.out })))

/-- R23, R24, R25, R26, R29, R361 (02, 15): POOL_COMMIT 1 by a Custodian, for a pool that does not exist and a staged
definition that passes every check, answers OK and starts a creation: the pool is COMMITTING, its first generation is
number 1 with INIT_DONE 0, the staged members ACTIVE and no volume. A definition that fails a check is answered RULE with
the check's rule, POOL_COMMIT_RESULT names it, and nothing else is touched. POOL_COMMIT 2 for a pool without volumes that
this unit owns ends the pool: its Manifest entries go and every member in reach is released. MEMBER_RELEASE of a
reachable member no pool names gives it a label with IN_POOL 0 and no charter copy; a member that conflicted with it takes its
id and is PRESENT, the released one that member's. -/
def Obligations.PoolsBeginAndEnd : Prop := ∀ (q : Req) (p : PoolId) (k : MemberId) (s : State),
  (Allowed s.part q roleCustodian (some (scopePool p.val)) →
    ((∀ x, s.part.pool? p.val = some x → x.life = 0) →
      (createRefusal s.part p.val (bitmapIds (s.part.objBlob (poolIdx p.val 0x10) 7)) = none →
        Runs (.poolCommit q p) s (fun t => t.answer = some stOk ∧ (∃ x ch, t.pool? p.val = some x ∧ x.life = 1 ∧
          x.change = some ch ∧ ch.creation = true ∧ ch.charter.gen = 1 ∧ ch.charter.initDone = false ∧ ch.charter.vols = [] ∧
          ch.charter.members.map (·.id) = bitmapIds (s.part.objBlob (poolIdx p.val 0x10) 7) ∧
          (∀ m ∈ ch.charter.members, m.state = 2)) ∧
          t = { s.part with pools := t.pools, members := t.members, toll := t.toll, dict := t.dict, out := t.out,
                            fn0 := t.fn0, fn1 := t.fn1 })) ∧
      (∀ r i, createRefusal s.part p.val (bitmapIds (s.part.objBlob (poolIdx p.val 0x10) 7)) = some (r, i) →
        Runs (.poolCommit q p) s (fun t => t.answer = some stRule ∧ (∃ x, t.pool? p.val = some x ∧ x.life = 0 ∧
          x.commitResult = ruleResult r i) ∧
          t = { s.part with pools := t.pools, dict := t.dict, out := t.out, fn0 := t.fn0, fn1 := t.fn1 }))) ∧
    (∀ ps, s.part.pool? p.val = some ps → ps.life ≠ 0 → ps.latest.vols = [] → ps.charter.vols = [] → ps.owned = true →
      Runs (.poolDelete q p) s (fun t => t.answer = some stOk ∧ (∃ x, t.pool? p.val = some x ∧ x.life = 0) ∧
        (∀ e ∈ t.man.entries, e.pool ≠ p.val) ∧ (∀ b ∈ t.man.held, b.pool ≠ p.val) ∧
        (∀ m ∈ ps.charter.members, s.part.takes m.id = true → ∀ y, t.member? m.id = some y →
          y.charterA = none ∧ y.charterB = none ∧ ∃ l, y.label = .good l ∧ l.inPool = false) ∧
        t = { s.part with pools := t.pools, members := t.members, man := t.man, dict := t.dict, out := t.out,
                          fn0 := t.fn0, fn1 := t.fn1 }))) ∧
  (∀ m, Allowed s.part q roleCustodian none → s.part.memberNamed k.val = false → s.part.member? k.val = some m →
    m.linkUp = true → m.state ≠ 0 → Runs (.memberRelease q k) s (fun t => t.answer = some stOk ∧
      (∀ j, (s.part.conflictingFor k.val = none ∧ j = k.val ∨ ∃ x, s.part.conflictingFor k.val = some x ∧ x.id ≠ k.val ∧ j = x.id) →
        ∃ y, t.member? j = some y ∧ y.charterA = none ∧ y.charterB = none ∧ ∃ l, y.label = .good l ∧ l.inPool = false) ∧
      (∀ x, s.part.conflictingFor k.val = some x → x.id ≠ k.val → ∃ z, t.member? k.val = some z ∧ z.state = 1) ∧
      t = { s.part with fn0 := t.fn0, fn1 := t.fn1, members := t.members, fabric := t.fabric, dict := t.dict, out := t.out }))

/-- R27, R29, R45, R168, R218, R368 (02, 09, 15): VOL_COMMIT of a Custodian asks for a charter change. A create whose pool
exists here with INIT_DONE, whose size fits a free range and whose pool's KEK is loaded asks for the entry at the lowest
free BASE with KEY_GEN 0; a grow into free space asks for the new size; a delete asks that the entry leave, and the volume
is DELETING. Each answers OK, or PENDING behind a change under way; the generation in force stays as it is. A create while
INIT_DONE is 0, and any of the three while a Crossing runs, is answered RULE and asks for nothing. -/
def Obligations.VolumesChangeThroughTheCharter : Prop := ∀ (q : Req) (v : VolId) (s : State) (ps : PoolSt),
  Allowed s.part q roleCustodian (some (scopeVol v.val)) → ps.life ≠ 0 →
  (s.part.pool? (s.part.objNum (0xA000 + v.val) 7) = some ps → s.part.volHome v.val = none →
    s.part.objNum (0xA000 + v.val) 8 ≠ 0 →
    (∀ base kek, ps.owned = true → ps.charter.initDone = true → ps.latest.cross = none →
      freeBase ps.latest (s.part.objNum (0xA000 + v.val) 8) = some base → s.part.kekLoaded? ps.latest.kekId = some kek →
      s.part.objBlob (0xA000 + v.val) 5 = [] →
      Runs (.volCreate q v) s (fun t => t.answer = some (if ps.changing then stPending else stOk) ∧
        (∃ x cv, t.pool? ps.id = some x ∧ .addVol cv ∈ x.queue ∧ cv.id = v.val ∧ cv.keyGen = 0 ∧ cv.base = base ∧
          cv.size = s.part.objNum (0xA000 + v.val) 8 ∧ cv.hostPi = s.part.objNum (0xA000 + v.val) 9 ∧
          x.charter = ps.charter) ∧
        t = { s.part with pools := t.pools, vols := t.vols, toll := t.toll, dict := t.dict, out := t.out,
                          fn0 := t.fn0, fn1 := t.fn1 })) ∧
    (ps.charter.initDone = false →
      Runs (.volCreate q v) s (fun t => t.answer = some stRule ∧
        t = { s.part with vols := t.vols, dict := t.dict, out := t.out, fn0 := t.fn0, fn1 := t.fn1 }))) ∧
  (s.part.volHome v.val = some ps → s.part.pool? ps.id = some ps →
    (∀ cv, ps.latest.vols.find? (fun x => x.id == v.val) = some cv → ps.owned = true → ps.latest.cross = none →
      (cv.size ≤ s.part.objNum (0xA000 + v.val) 8 →
       cv.base + allocBlocks ps.latest.shape (s.part.objNum (0xA000 + v.val) 8) ≤ ps.latest.shape.stripeCount * ps.latest.shape.kb →
       (∀ x ∈ ps.latest.vols, x.id ≠ v.val → cv.base < x.base →
          cv.base + allocBlocks ps.latest.shape (s.part.objNum (0xA000 + v.val) 8) ≤ x.base) →
        Runs (.volGrow q v) s (fun t => t.answer = some (if ps.changing then stPending else stOk) ∧
          (∃ x, t.pool? ps.id = some x ∧ .growVol v.val (s.part.objNum (0xA000 + v.val) 8) ∈ x.queue ∧ x.charter = ps.charter) ∧
          t = { s.part with pools := t.pools, vols := t.vols, dict := t.dict, out := t.out, fn0 := t.fn0, fn1 := t.fn1 })) ∧
      Runs (.volDelete q v) s (fun t => t.answer = some (if ps.changing then stPending else stOk) ∧
        (∃ x, t.pool? ps.id = some x ∧ .delVol v.val ∈ x.queue ∧ x.charter = ps.charter) ∧ (t.vol v.val).life = 2 ∧
        t = { s.part with pools := t.pools, vols := t.vols, dict := t.dict, out := t.out, fn0 := t.fn0, fn1 := t.fn1 })) ∧
    (ps.latest.cross ≠ none → ps.latest.vols.any (fun x => x.id == v.val) = true →
      Runs (.volDelete q v) s (fun t => t.answer = some stRule ∧
        t = { s.part with vols := t.vols, dict := t.dict, out := t.out, fn0 := t.fn0, fn1 := t.fn1 })))

/-- R46 (02): an import by a Custodian under a pool id in use, or of a pool that is here already, is answered RULE item 1; one
whose member is reserved under another key, item 6; a UUID of a wrong length TYPE_LEN. The newest generation that a majority
of its listed members hold is adopted: the pool exists under the target id, unpaired, with that charter, past every
generation number found. Without such a generation the answer is RULE item 5, the pool does not exist and what was found is
kept: the forced import then adopts the newest of it, and without anything found answers STATE. -/
def Obligations.PoolsAreImported : Prop := ∀ (q : Req) (p : PoolId) (uuid : Bytes) (s : State),
  Allowed s.part q roleCustodian (some (scopePool p.val)) →
  (uuid.length ≠ 16 → Refused (.poolImport q p uuid) s stTypeLen 0) ∧
  (s.part.poolLife p.val ≠ 0 → Refused (.poolImportForce q p) s stRule (ruleDetail 46 1) ∧
    (uuid.length = 16 → Refused (.poolImport q p uuid) s stRule (ruleDetail 46 1))) ∧
  (s.part.poolLife p.val = 0 →
    (uuid.length = 16 → (∀ x ∈ s.part.pools, x.life ≠ 0 → x.charter.uuid ≠ uuid) →
      (ownedElsewhere s.part uuid = true → Refused (.poolImport q p uuid) s stRule (ruleDetail 46 6)) ∧
      (ownedElsewhere s.part uuid = false → adoptable s.part uuid = none → Runs (.poolImport q p uuid) s (fun t =>
        Answers t stRule (ruleDetail 46 5) ∧ (∃ x, t.pool? p.val = some x ∧ x.life = 0 ∧
          x.found = (foundGenerations s.part uuid).map (fun c => (c, holdersOf s.part uuid c))) ∧
        t = { s.part with pools := t.pools, dict := t.dict, out := t.out, fn0 := t.fn0, fn1 := t.fn1 })) ∧
      (∀ c, ownedElsewhere s.part uuid = false → adoptable s.part uuid = some c → Runs (.poolImport q p uuid) s (fun t =>
        t.answer = some stOk ∧ (∃ x, t.pool? p.val = some x ∧ x.charter = { c with poolId := p.val, paired := false } ∧
          x.life = (if c.initDone then 3 else 2) ∧ ∀ d ∈ foundGenerations s.part uuid, d.gen ≤ x.highGen) ∧
        t = { s.part with sched := t.sched, man := t.man, chains := t.chains, fn0 := t.fn0, fn1 := t.fn1, pools := t.pools, vols := t.vols, members := t.members, fabric := t.fabric, toll := t.toll, tow := t.tow, dict := t.dict, log := t.log, out := t.out }))) ∧
    (∀ found, found = ((s.part.pool? p.val).map (·.found)).getD [] →
      (found = [] → Refused (.poolImportForce q p) s stState (ruleDetail 46 5)) ∧
      (∀ c, newest (found.map (·.1)) = some c →
        (ownedElsewhere s.part c.uuid = true → Refused (.poolImportForce q p) s stRule (ruleDetail 46 6)) ∧
        (ownedElsewhere s.part c.uuid = false → Runs (.poolImportForce q p) s (fun t => t.answer = some stOk ∧
          (∃ x, t.pool? p.val = some x ∧ x.charter = { c with poolId := p.val, paired := false } ∧
            x.life = (if c.initDone then 3 else 2) ∧ ∀ d ∈ found, d.1.gen ≤ x.highGen) ∧
          t = { s.part with sched := t.sched, man := t.man, chains := t.chains, fn0 := t.fn0, fn1 := t.fn1, pools := t.pools, vols := t.vols, members := t.members, fabric := t.fabric, toll := t.toll, tow := t.tow, dict := t.dict, log := t.log, out := t.out })))))

/-- R72, R73, R325 (04, 13): a refresh takes the readings, the estimate e of R325 is shown as ENERGY, and the ceiling of R72
follows it: a lower one is in force at once; a higher one never passes the newly computed one, is not taken while an
estimate of the last second gave less, and is not taken at all before estimates of a whole second are known. The twin's
ceiling is kept on a paired unit and ignored on an unpaired one. -/
def Obligations.CeilingsFollowTheEstimate : Prop := ∀ (codes : SenseCodes) (mib : Int) (s : State) (e : Nat) (new : Int),
  (e = energyEstimate s.part (senseOf s.part 1 codes.in1) (outOfRange codes.in1) →
   new = ceilingMib e s.part.dumpPower s.part.sched.protMib →
   Runs (.energyEstimateRefresh codes) s (fun t =>
     t.tow.energyMj = e ∧
     (s.part.cal.state ≠ 1 → t.tow.sense = (codeList codes).mapIdx (fun ch c => senseOf s.part ch c)) ∧
     (s.part.cal.state = 1 → t.tow.sense = s.part.tow.sense) ∧
     (new ≤ s.part.sched.ceiling → t.sched.ceiling = new) ∧
     (s.part.sched.ceiling ≤ new → s.part.sched.ceiling ≤ t.sched.ceiling ∧ t.sched.ceiling ≤ new) ∧
     (s.part.sched.ceiling < new → (∀ x ∈ s.part.sched.estimates, s.part.timeUs < x.1 + 1000000) →
        t.sched.ceiling = s.part.sched.ceiling) ∧
     t.sched.estimates.head? = some (s.part.timeUs, new) ∧
     t = { s.part with sched := t.sched, man := t.man, chains := t.chains, fn0 := t.fn0, fn1 := t.fn1, pools := t.pools, vols := t.vols, tow := t.tow, dict := t.dict, log := t.log, out := t.out })) ∧
  (s.part.pair.state ≠ 0 → Runs (.twinCeilingReport mib) s (fun t =>
    t = { s.part with sched := { s.part.sched with twinCeiling := some mib } })) ∧
  (s.part.pair.state = 0 → Stays (.twinCeilingReport mib) s)

/-- R74, R103, R135, R160, R271 (04, 05, 06, 11): a write that may be taken, that nothing holds and that fits is admitted: it
carries generation (tide × 65,536 + SEQ) and the tide, the volume's SEQ is taken, every stripe it touches has a Manifest
entry, and the entries there were stay. A write that is held or does not fit waits, the part unchanged. A write that meets
a stripe beyond repair it may not write ends with BEYOND_REPAIR naming its first block. -/
def Obligations.WritesAreAdmitted : Prop := ∀ (c : ChainId) (h : BitVec 32) (s : State) (x : Cmd) (p : PoolSt) (v : CVol),
  takeable s.part c.val h .waiting = some x → s.part.volume? (dVol x.desc) = some (p, v) →
  (writeHeld s.part p (txOf c.val x.desc) (s.part.spots x.desc) = true → Stays (.writeAdmit c h) s) ∧
  (writeHeld s.part p (txOf c.val x.desc) (s.part.spots x.desc) = false →
    writeRefused s.part p (s.part.spots x.desc) = true →
    Runs (.writeAdmit c h) s (fun t => Completed c.val h 0x30 (infoOf v.id (dLba x.desc)) s.part t ∧
      t = { s.part with chains := t.chains, fn0 := t.fn0, fn1 := t.fn1, vols := t.vols, out := t.out })) ∧
  (writeHeld s.part p (txOf c.val x.desc) (s.part.spots x.desc) = false →
    writeRefused s.part p (s.part.spots x.desc) = false →
    (writeFits s.part p v (s.part.spots x.desc) = false → Stays (.writeAdmit c h) s) ∧
    (writeFits s.part p v (s.part.spots x.desc) = true →
      Runs (.writeAdmit c h) s (fun t =>
        (∃ y, t.cmd? c.val h = some y ∧ y.phase = .admitted ∧ y.tide = s.part.sched.tideNow ∧
          y.gen = (s.part.sched.tideNow % 2 ^ 48) * 65536 + s.part.nextSeq v.id ∧ y.through = (p.writeState == 1) ∧
          y.desc = x.desc) ∧
        (t.vol v.id).genTide = s.part.sched.tideNow ∧ (t.vol v.id).genSeq = s.part.nextSeq v.id ∧
        (∀ st ∈ stripesOf (s.part.spots x.desc), (t.entry? p.id st).isSome) ∧ t.man.held = s.part.man.held ∧
        t = { s.part with man := t.man, chains := t.chains, vols := t.vols, out := t.out })))

/-- R76 to R79, R105, R106 (04, 05): with island T ready a boundary opens the next tide and puts the closing tide's record, with
the counts of the tide, into the seal ring, where only the record of its slot gives way; without, nothing happens. A seal
reported written is complete, the marks of the owned pools that wait for no confirmation follow the seals, and every landed
write of a tide at or below its pool's mark is completed, unless a dump runs. A confirmation marks the tide's record
confirmed and never lowers a mark; with path 1 lost it is ignored. -/
def Obligations.TidesCloseAreSealedAndConfirmed : Prop := ∀ (tide : Nat) (s : State),
  (s.part.ready .t = false → Stays .tideBoundary s) ∧
  (s.part.ready .t = true → Runs .tideBoundary s (fun t =>
    t.sched.tideNow = s.part.sched.tideNow + 1 ∧
    (∃ r ∈ t.man.seals, r.tide = s.part.sched.tideNow ∧ r.blocks = s.part.man.nBlocks ∧ r.entryChanges = s.part.man.nChanges ∧
      r.txCommits = s.part.man.nCommits ∧ r.retired = s.part.man.nRetired ∧ r.complete = false ∧ r.confirmed = false) ∧
    (∀ r ∈ t.man.seals, r.tide = s.part.sched.tideNow ∨
      (r ∈ s.part.man.seals ∧ r.tide % 8192 ≠ s.part.sched.tideNow % 8192)) ∧
    t = { s.part with sched := t.sched, man := t.man, chains := t.chains, fn0 := t.fn0, fn1 := t.fn1, pools := t.pools, vols := t.vols, members := t.members, fabric := t.fabric, toll := t.toll, pair := t.pair, tow := t.tow, dict := t.dict, log := t.log, out := t.out })) ∧
  Runs (.tideSealComplete tide) s (fun t =>
    t.man.seals = s.part.man.seals.map (fun r => if r.tide = tide then { r with complete := true } else r) ∧
    (∀ p ∈ s.part.pools, p.life ≠ 0 → p.owned = true → (∀ q ∈ s.part.pools, q.id = p.id → q.pair.state ≠ 2 ∧ q.pair.state ≠ 4) →
      t.mark p.id = max t.sealedThrough (s.part.mark p.id)) ∧
    (s.part.dump.state ≠ 3 → ∀ c x p, ((s.part.chain c).cmds.map (·.hseq)).Nodup → s.part.cmd? c x.hseq = some x →
      c ∈ s.part.chains.map (·.id) → x.phase = .landed → x.through = false → s.part.ackPool c x = some p → x.tide ≤ t.mark p →
      ∀ y, t.cmd? c x.hseq = some y → y.phase = .done) ∧
    t = { s.part with sched := t.sched, man := t.man, chains := t.chains, fn0 := t.fn0, fn1 := t.fn1, pools := t.pools, vols := t.vols, members := t.members, tow := t.tow, dict := t.dict, log := t.log, out := t.out }) ∧
  (s.part.pair.path1Lost = true → Stays (.tideConfirmation tide) s) ∧
  (s.part.pair.path1Lost = false → Runs (.tideConfirmation tide) s (fun t =>
    t.man.seals = s.part.man.seals.map (fun r => if r.tide = tide then { r with confirmed := true } else r) ∧
    (∀ p, s.part.mark p ≤ t.mark p) ∧
    t = { s.part with sched := t.sched, man := t.man, chains := t.chains, fn0 := t.fn0, fn1 := t.fn1, pools := t.pools, vols := t.vols, members := t.members, tow := t.tow, dict := t.dict, log := t.log, out := t.out }))

/-- R78, R293, R300 (04, 12): a frame of the twin while path 1 is up ends the count of missed boundaries; a follower takes the
leader's tide when it is ahead; a keepalive is not answered. A seal whose blocks are all held is confirmed to the twin, and
every shadow this unit keeps is confirmed through its tide; one whose blocks are not waits, and nothing is confirmed. A block
of the owner enters the pool's shadow, in place of the same generation of it, with island D powered. Without a pair, or with
path 1 lost, a frame changes nothing. -/
def Obligations.TheTwinsFramesArrive : Prop := ∀ (f : SealFrame) (p : PoolId) (b : MirrorBlock) (s : State),
  (s.part.pair.state = 0 ∨ s.part.pair.path1Lost = true → Stays (.sealFrameReceived f) s) ∧
  (s.part.pair.state ≠ 0 → s.part.pair.path1Lost = false → Runs (.sealFrameReceived f) s (fun t =>
    t.pair = { s.part.pair with missed := 0, sealsWaiting := t.pair.sealsWaiting } ∧
    (f.fromLeader = true → s.part.pair.role = 0 → t.sched.tideNow = max s.part.sched.tideNow f.tide) ∧
    (f.fromLeader = false ∨ s.part.pair.role ≠ 0 → t.sched.tideNow = s.part.sched.tideNow) ∧
    (f.keepalive = true → t.out = s.part.out ∧ t.pools = s.part.pools ∧ t.pair.sealsWaiting = s.part.pair.sealsWaiting) ∧
    (f.keepalive = false → s.part.pair.sealsWaiting = [] → sealHeld s.part f = true →
      t.pair.sealsWaiting = [] ∧ .hawserConfirm f.tide ∈ t.out ∧
      ∀ k x, s.part.pool? k = some x → ∃ y, t.pool? k = some y ∧
        (x.pair.owner = 1 → x.pair.coverage ≠ 0 → y.pair.shadowTide = max x.pair.shadowTide f.tide) ∧
        (x.pair.owner ≠ 1 → y = x)) ∧
    (f.keepalive = false → s.part.pair.sealsWaiting = [] → sealHeld s.part f = false →
      t.pair.sealsWaiting = [f] ∧ t.out = s.part.out ∧ t.pools = s.part.pools) ∧
    t = { s.part with sched := t.sched, pools := t.pools, pair := t.pair, tow := t.tow, dict := t.dict, log := t.log, out := t.out })) ∧
  (s.part.pair.path1Lost = true → Stays (.shadowBlock p b) s) ∧
  (∀ ps, s.part.pool? p.val = some ps → s.part.pair.path1Lost = false → ps.pair.owner = 1 →
    Runs (.shadowBlock p b) s (fun t => (t.island .d).powered = true ∧
      (s.part.pair.sealsWaiting = [] → t.pool? p.val = some { ps with pair := { ps.pair with
          shadow := ps.pair.shadow.filter (fun y => !(y.stripe == b.stripe && y.strip == b.strip && y.bo == b.bo && y.gen == b.gen)) ++ [b]
          coverage := if ps.pair.coverage = 0 then 1 else ps.pair.coverage } } ∧
        (∀ k, k ≠ p.val → t.pool? k = s.part.pool? k)) ∧ t = { s.part with islands := t.islands, sched := t.sched, pools := t.pools, pair := t.pair, tow := t.tow, dict := t.dict, log := t.log, out := t.out }))

/-- R76, R132, R222, R251, R252 (04, 06, 09, 11): the data of an admitted write of no transaction, with its host PI right and
its key in a slot, is held in Pontoon block by block under the write's generation and the open tide, and the write has
landed, to be acknowledged with its tide. A host read that failed ends the write with DATA_TRANSFER_ERROR. A host PI guard
that does not match ends it with GUARD_MISMATCH naming the block; the same for a volume that is gone. Data for an abandoned
command is counted and discarded. -/
def Obligations.WrittenDataLands : Prop := ∀ (c : ChainId) (h : BitVec 32) (cells : List (Nat × Byte)) (lf : LaneFaults) (s : State)
    (x : Cmd),
  (landable s.part c.val h = some x →
    (∀ p v, s.part.volume? (dVol x.desc) = some (p, v) → dPeer x.desc = false → isTx x.desc = false → x.through = false →
      lf.mismatch = [] →
      (∀ y ∈ (s.part.chain c.val).cmds, y.phase = .admitted → dOpcode y.desc ≠ 0x11) →
      (∀ b lba, (b, lba) ∈ (deviceLbas x.desc).mapIdx (fun b lba => (b, lba)) → (incoming x.desc v cells cells b lba).2.2 = 0) →
      (∀ sp ∈ s.part.spots x.desc, (s.part.materialFor p (decide (p.charter.shape.stripeCount ≤ sp.stripe)) v.id sp.lba).isSome) →
      Runs (.writeLanded c h (.ok cells) lf) s (fun t => ∃ l, t.man.held = s.part.man.held ++ l ∧
        l.map (fun b => (b.stripe, b.strip, b.bo, b.lba)) = (s.part.spots x.desc).map (fun sp => (sp.stripe, sp.strip, sp.bo, sp.lba)) ∧
        (∀ b ∈ l, b.pool = p.id ∧ b.vol = v.id ∧ b.gen = x.gen ∧ b.tide = s.part.sched.tideNow ∧ b.tx = none ∧
          b.through = false ∧ b.chain = c.val ∧ b.hseq = h) ∧
        (∃ y, t.cmd? c.val h = some y ∧ y.phase = .landed ∧ y.tide = s.part.sched.tideNow) ∧
        t.man.nBlocks = s.part.man.nBlocks + l.length ∧
        t = { s.part with man := t.man, chains := t.chains, islands := t.islands, sched := t.sched, log := t.log, dict := t.dict,
                          tow := t.tow, out := t.out })) ∧
    (dOpcode x.desc ≠ 4 → (∀ y ∈ (s.part.chain c.val).cmds, y.phase = .admitted → dOpcode y.desc ≠ 0x11) →
      Runs (.writeLanded c h .failed lf) s (fun t => Completed c.val h 0x22 0 s.part t ∧ t.man.held = s.part.man.held ∧
        t = { s.part with man := t.man, chains := t.chains, fn0 := t.fn0, fn1 := t.fn1, vols := t.vols, out := t.out })) ∧
    (s.part.volume? (dVol x.desc) = none → Runs (.writeLanded c h (.ok cells) lf) s (fun t =>
      Completed c.val h 0x12 0 s.part t ∧ t.man.held = s.part.man.held ∧
      t = { s.part with man := t.man, chains := t.chains, fn0 := t.fn0, fn1 := t.fn1, vols := t.vols, out := t.out }))) ∧
  (s.part.cmd? c.val h = some x → x.phase = .abandoned → ∀ host, Runs (.writeLanded c h host lf) s (fun t =>
    (t.fn (s.part.chainFn c.val)).bmeDiscards = (s.part.fn (s.part.chainFn c.val)).bmeDiscards + 1 ∧
    t = { s.part with fn0 := t.fn0, fn1 := t.fn1 }))

/-- R93, R95 (04): a transaction open past its limit has its blocks released; a posted TX_COMMIT then ends with TX_TIMEOUT
and the tag is free, else the tag stays reserved as timed out; one that has ended or is committing is left alone. A FLUSH
that was admitted completes with SUCCESS once no acknowledged block it waits for is without a durable copy. -/
def Obligations.TransactionsTimeOutAndFlushesEnd : Prop := ∀ (c : ChainId) (tag : BitVec 8) (h : BitVec 32) (s : State),
  (∀ tx, s.part.tx? c.val tag.toNat = some tx →
    (tx.ended = true ∨ tx.commitTide ≠ none ∨ s.part.dump.state = 3 → Stays (.txOpenTimeout c tag) s) ∧
    (tx.ended = false → tx.commitTide = none → s.part.dump.state ≠ 3 →
      Runs (.txOpenTimeout c tag) s (fun t =>
        (∀ b ∈ t.man.held, b.tx ≠ some (c.val, tag.toNat)) ∧
        (∀ b ∈ s.part.man.held, b.tx ≠ some (c.val, tag.toNat) → b ∈ t.man.held) ∧
        (placedCommit s.part c.val tag.toNat = none → ∃ y, t.tx? c.val tag.toNat = some y ∧ y.timedOut = true) ∧
        t = { s.part with man := t.man, chains := t.chains, fn0 := t.fn0, fn1 := t.fn1, vols := t.vols, out := t.out }))) ∧
  (∀ x, s.part.cmd? c.val h = some x → x.phase = .admitted → dOpcode x.desc = 3 → s.part.dump.state ≠ 3 →
    (flushPending s.part (dVol x.desc) x.tide = true → Stays (.flushComplete c h) s) ∧
    (flushPending s.part (dVol x.desc) x.tide = false → Runs (.flushComplete c h) s (fun t =>
      Completed c.val h 0x00 0 s.part t ∧ t = { s.part with chains := t.chains, fn0 := t.fn0, fn1 := t.fn1, vols := t.vols, out := t.out })))

/-- R40, R41, R82, R83, R85 to R88, R104 (02, 04, 05): a destage that may start, with no older stripe before it, takes its
snapshot, stages what the plan of the stripe writes under the entry, and waits for the intent set when the stripe is not in
it; one that may not start changes nothing, at its start as at a retry. With two encodings failed its strips are not to be
written until another is good. A strip reported durable is stored, stamped, at the places its write was built for and
nowhere else, and leaves the entry; the last strip retires an entry whose held blocks the snapshot all took and whose write
does not fall short. A stripe whose encodings failed is staged again when an encoding is good, and counts the failure of the
pipeline when not. A stripe that waits for strips to return is left alone while the part is frozen, dumps or does not own it. -/
def Obligations.StripesAreDestaged : Prop := ∀ (p : PoolId) (stripe strip : Nat) (s : State) (ps : PoolSt) (e : MEntry) (g : Geo),
  s.part.pool? p.val = some ps → s.part.entry? p.val stripe = some e → g = ps.charter.geoOf stripe →
  (∀ bad n, mayDestage s.part ps stripe e = false ∨ snapshot s.part p.val stripe = [] →
    Stays (.destageStart p stripe bad n) s ∧ (e.stuck = false → Stays (.destageRetry p stripe ⟨bad, n⟩) s)) ∧
  (∀ bad n, e.stuck = true → ps.owned = false ∨ s.part.sched.frozen = true ∨ s.part.dump.state = 3 →
    Stays (.destageRetry p stripe ⟨bad, n⟩) s) ∧
  (∀ new writes st, new = newestOf (snapshot s.part p.val stripe) →
    mayDestage s.part ps stripe e = true → snapshot s.part p.val stripe ≠ [] → ps.inIntent stripe = false →
    planStripe ps g [] stripe (!g.mirror && choosesRmw s.part ps g.h stripe new) new s.part = (some writes, st) →
    fallsShort (active st) ps g stripe (stripsOf writes)
      ((stripsOf writes).filter (fun i => !((active st).places ps g e.whole stripe i).isEmpty)) = false →
    (∀ i, i = Instr.destageRetry p stripe ⟨[], 0⟩ ∨
        (i = Instr.destageStart p stripe [] 0 ∧ olderFirst s.part ps e (decide (new.length = g.h.kb)) = false) →
      Runs i s (fun t => (∃ y, t.entry? p.val stripe = some y ∧ y.staged = writes ∧ y.mask = stripsOf writes ∧ y.left = [] ∧
          y.built = true ∧ y.readyTide = s.part.sched.tideNow ∧ y.state = e.state ∧
          y.snap = (snapshot s.part p.val stripe).map (fun b => (b.strip, b.bo, b.gen))) ∧
        t.man.held = s.part.man.held ∧ t = { s.part with islands := t.islands, sched := t.sched, man := t.man, chains := t.chains, fn0 := t.fn0, fn1 := t.fn1, pools := t.pools, vols := t.vols, members := t.members, pair := t.pair, tow := t.tow, dict := t.dict, log := t.log, out := t.out })) ∧
    (∀ n, 2 ≤ n → g.mirror = false → Runs (.destageRetry p stripe ⟨[], n⟩) s (fun t =>
      (∃ y, t.entry? p.val stripe = some y ∧ y.staged = writes ∧ y.synd = n ∧ y.syndFail = true ∧ y.built = false ∧ y.left = []) ∧
      t.man.held = s.part.man.held ∧ t = { s.part with islands := t.islands, sched := t.sched, man := t.man, chains := t.chains, fn0 := t.fn0, fn1 := t.fn1, pools := t.pools, vols := t.vols, members := t.members, pair := t.pair, tow := t.tow, dict := t.dict, log := t.log, out := t.out }))) ∧
  ((e.state = .writing ∨ e.state = .through) → strip ∈ e.left → s.part.tow.sleeping = false →
    ∀ done, done = e.done ++ e.places.filter (fun y => y.1 == strip && s.part.takes y.2.1) →
    (e.left.filter (· != strip) ≠ [] →
      Runs (.stripCommit p stripe strip) s (fun t =>
        t.entry? p.val stripe = some { e with left := e.left.filter (· != strip), done := done } ∧ t.man.held = s.part.man.held ∧
        (∀ k mba, (∀ pl ∈ e.places, pl.1 = strip → s.part.takes pl.2.1 = true → ∀ x ∈ e.staged, x.1 = strip →
          ¬ (k = pl.2.1 ∧ mba = pl.2.2 + x.2.1)) → t.mediaAt k mba = s.part.mediaAt k mba) ∧
        (∀ k m bo b, e.places.filter (fun y => y.1 == strip) = [(strip, k, m)] → s.part.takes k = true →
          e.staged.filter (fun x => x.1 == strip) = [(strip, bo, b)] →
          t.mediaAt k (m + bo) = stampBlock (g.isCheck strip) g.fmt strip ps.id (m + bo) b) ∧
        t = { s.part with man := t.man, members := t.members })) ∧
    (e.left.filter (· != strip) = [] → e.built = false → e.mask ≠ [] →
      (∀ b ∈ s.part.heldOf p.val stripe, (b.strip, b.bo, b.gen) ∈ e.snap) →
      fallsShort s.part ps g stripe e.mask (done.map (·.1)) = false →
      Runs (.stripCommit p stripe strip) s (fun t => t.entry? p.val stripe = none ∧ t.heldOf p.val stripe = [] ∧
        (∀ b ∈ s.part.man.held, ¬ (b.pool = p.val ∧ b.stripe = stripe) → b ∈ t.man.held) ∧
        t = { s.part with sched := t.sched, man := t.man, chains := t.chains, fn0 := t.fn0, fn1 := t.fn1, pools := t.pools, vols := t.vols, members := t.members, tow := t.tow, dict := t.dict, log := t.log, out := t.out }))) ∧
  (e.synd = 0 → ∀ good, Stays (.syndromeRetry p stripe good) s) ∧
  (e.synd ≠ 0 → s.part.pipes ≠ [] →
    Runs (.syndromeRetry p stripe false) s (fun t => t.entry? p.val stripe = some { e with synd := e.synd + 1 } ∧
      t.sched.pipeFails = (s.part.pipeOf e.synd, s.part.timeUs) :: s.part.sched.pipeFails ∧ t = { s.part with sched := t.sched, man := t.man, fn0 := t.fn0, fn1 := t.fn1, pools := t.pools, pair := t.pair, tow := t.tow, dict := t.dict, log := t.log, out := t.out }) ∧
    (ps.inIntent stripe = false → Runs (.syndromeRetry p stripe true) s (fun t =>
      (∃ y, t.entry? p.val stripe = some y ∧ y.synd = 0 ∧ y.staged = e.staged ∧ y.built = true) ∧ t.man.held = s.part.man.held ∧
      t = { s.part with sched := t.sched, man := t.man, chains := t.chains, fn0 := t.fn0, fn1 := t.fn1, pools := t.pools, vols := t.vols, members := t.members, pair := t.pair, tow := t.tow, dict := t.dict, log := t.log, out := t.out })))

/-- R97, R98, R99, R352, R399, Table 4.5 steps 1 to 3 (04, 15, 17): an order for a warm reset while one runs, while the part
dumps, restores, sleeps or is down is ignored; during an activation it waits; else RESETTING is set, READY falls, member issue
stops, every session ends and a command not admitted, or part of an open transaction, is done. DEV_WARM_RESET orders it with
A55AH only. At the end of an activation a good image becomes the version and names its slot, a bad one leaves the old in
place; the part thaws either way and a reset that waited starts. -/
def Obligations.WarmResetsStart : Prop := ∀ (q : Req) (v : BitVec 32) (rings : Rings) (good : Bool) (s : State),
  (resetIgnored s.part = true → Stays (.warmResetN rings) s) ∧
  (resetIgnored s.part = false → s.part.fw.activating = true →
    Runs (.warmResetN rings) s (fun t => t = { s.part with fw := { s.part.fw with resetWaits := true } })) ∧
  (resetIgnored s.part = false → s.part.fw.activating = false → Runs (.warmResetN rings) s (fun t =>
    t.sched.resetting = true ∧ t.sched.ready = false ∧ t.sched.memberStop = true ∧ t.dict.sessions = [] ∧
    (∀ c x, c ∈ s.part.activeChains → ((s.part.chain c).cmds.map (·.hseq)).Nodup → s.part.cmd? c x.hseq = some x →
      abortedByReset x = true → ∀ y, t.cmd? c x.hseq = some y → y.phase = .done) ∧
    t = { s.part with sched := t.sched, man := t.man, chains := t.chains, fn0 := t.fn0, fn1 := t.fn1, vols := t.vols, tow := t.tow, cal := t.cal, dict := t.dict, fw := t.fw, log := t.log, out := t.out })) ∧
  (Allowed s.part q roleOperator none →
    (v ≠ 0xA55A#32 → Refused (.devWarmReset q v rings) s stRange 0) ∧
    (v = 0xA55A#32 → resetIgnored s.part = true → Refused (.devWarmReset q v rings) s stState (ruleDetail 399 0)) ∧
    (v = 0xA55A#32 → resetIgnored s.part = false → s.part.fw.activating = false → Runs (.devWarmReset q v rings) s (fun t =>
      t.answer = some stOk ∧ t.sched.resetting = true ∧ t.sched.ready = false ∧ t.dict.sessions = [] ∧ t = { s.part with sched := t.sched, man := t.man, chains := t.chains, fn0 := t.fn0, fn1 := t.fn1, vols := t.vols, tow := t.tow, cal := t.cal, dict := t.dict, fw := t.fw, log := t.log, out := t.out }))) ∧
  (s.part.fw.activating = false → Stays (.fwTakeover good rings) s) ∧
  (s.part.fw.activating = true → Runs (.fwTakeover good rings) s (fun t =>
    t.fw = { (if good then nameImage s.part.fw else { s.part.fw with lastResult := 2 }) with activating := false, resetWaits := false } ∧
    t.sched.frozen = false ∧ (s.part.fw.resetWaits = true → resetIgnored s.part = false → t.sched.resetting = true) ∧
    t = { s.part with islands := t.islands, sched := t.sched, man := t.man, chains := t.chains, fn0 := t.fn0, fn1 := t.fn1, pools := t.pools, vols := t.vols, members := t.members, pair := t.pair, tow := t.tow, cal := t.cal, dict := t.dict, fw := t.fw, log := t.log, out := t.out }))

/-- R71, R97, R211, R240, R256, Table 4.5 steps 4 and 5 (04, 08, 10): the end of a warm reset is not reached while a write of a
protected pool or a placed commit is open. Once it is, the member side restarts, every active chain is halted with 84H, and
unless a destage is still awaited the reset ends: READY rises, the peer area and the chain split take the values waiting for
them, and what the peer area held is gone. -/
def Obligations.WarmResetsEnd : Prop := ∀ (s : State),
  (s.part.sched.resetting = false ∨ sealsOutstanding s.part = true → Stays .warmResetComplete s) ∧
  (s.part.sched.resetting = true → sealsOutstanding s.part = false → ∃ t, exec .warmResetComplete s = .next t ∧
    t.pending = s.pending ∧ t.peerMem = [] ∧
    (∀ r, r = (if s.part.sched.memberStop then restartMemberSide s.part else s.part) →
      (destageAwaited r = true → t.part = r) ∧
      (destageAwaited r = false → t.part.sched.resetting = false ∧ t.part.sched.ready = true ∧
        t.part.sched.peerMib = r.objNum 0x2120 2 ∧ t.part.chainSplit = r.objNum 0x2120 1 ∧
        (t.part.chainSplit ≠ r.chainSplit → t.part.tableGen = (r.tableGen + 1) % 2 ^ 32) ∧
        (sizePending r = true → r.heldBlocks = 0 → t.part.sched.protMib = r.objNum 0x2100 1))) ∧
    (s.part.sched.memberStop = true → ∀ c ∈ s.part.activeChains, (t.part.chain c).st = .halted ∧ (t.part.chain c).halt = 0x84))

/-- R45, R107 to R115, R147, R299 (05, 06): a checkpoint that may be built is numbered one above the highest known, covers the
tides up to the last closed one, names the homes of R113 and R114 and the intent set of R109, carries the pool's UUID and the
lost-block table, and goes to every home of a pool that is not paired with FUA in class 0; the one in force stays. A home that
reports, once the twin knows it, holds it; the second puts it in force with its homes and set, and every extension lapses; one
that reports later only holds it. An extension of every ready stripe that fits is built on the checkpoint in force and the
second home puts it in effect; a full ring or too many ranges make a checkpoint due instead. -/
def Obligations.CheckpointsAndExtensionsTakeForce : Prop := ∀ (p : PoolId) (who : List (Fin 3)) (s : State) (ps : PoolSt),
  s.part.pool? p.val = some ps →
  (ps.ckpt.build ≠ none → Stays (.checkpointBuild p) s) ∧
  (ps.life ≠ 0 → ps.owned = true → ps.ckpt.build = none → (ps.ckpt.due.contains 4 = false ∨ oldWritesOut s.part ps = false) →
    Runs (.checkpointBuild p) s (fun t => ∃ x b, t.pool? p.val = some x ∧ x.ckpt = { ps.ckpt with build := some b, due := [] } ∧
      b.image.seq = max ps.ckpt.seq ps.pair.announcedSeq + 1 ∧ b.image.tide = s.part.sched.tideNow - 1 ∧
      b.image.charterGen = ps.charter.gen ∧ b.image.homes = nextHomes s.part ps ∧ b.image.intent = intentNow s.part ps ∧
      b.image.poolUuid = ps.charter.uuid ∧ b.image.lostCount = ps.int.lost.length ∧ b.lostImage = lostImageOf ps b.image.seq ∧
      b.image.outOfSchedule = !ps.ckpt.due.isEmpty ∧ b.reported = [] ∧ x.charter = ps.charter ∧
      (ps.pair.state ≠ 2 → ∀ o ∈ nextHomes s.part ps, ∀ m, s.part.member? (ps.charter.idAt o) = some m →
        ∃ y, t.member? (ps.charter.idAt o) = some y ∧
          (∃ c ∈ y.waiting, c.op = .structureWrite ∧ c.fua = true ∧ c.cls = 0 ∧ c.mba = slotAt b.image.seq ∧ c.count = 1) ∧
          (∃ c ∈ y.waiting, c.op = .structureWrite ∧ c.fua = true ∧ c.cls = 0 ∧ c.mba = lostSlotAt b.image.seq)) ∧
      (ps.pair.state = 2 → t.members = s.part.members) ∧ t = { s.part with man := t.man, pools := t.pools, members := t.members, tow := t.tow, dict := t.dict, log := t.log, out := t.out })) ∧
  (ps.ckpt.build = none → Runs (.checkpointValid p who) s (fun t =>
    (ps.ckpt.inForce = none → t = s.part) ∧
    (∀ i, ps.ckpt.inForce = some i → ∀ o ∈ reporting ps.ckpt.homes who, ∀ y, t.member? (ps.charter.idAt o) = some y →
      i.1 ∈ y.ckpts ∧ i.2 ∈ y.lostSlots) ∧ t = { s.part with members := t.members })) ∧
  (∀ b, ps.ckpt.build = some b → let homes := reporting b.alive who;
    (announced s.part p.val b.announceTide = false → Stays (.checkpointValid p who) s) ∧
    (announced s.part p.val b.announceTide = true → Runs (.checkpointValid p who) s (fun t => ∃ x, t.pool? p.val = some x ∧
      (∀ o ∈ homes, ∀ y, t.member? (ps.charter.idAt o) = some y → b.image ∈ y.ckpts ∧ b.lostImage ∈ y.lostSlots) ∧
      ((b.reported ++ homes).eraseDups.length < 2 →
        x.ckpt = { ps.ckpt with build := some { b with reported := (b.reported ++ homes).eraseDups } } ∧
        t = { s.part with pools := t.pools, members := t.members }) ∧
      (2 ≤ (b.reported ++ homes).eraseDups.length → x.ckpt.seq = b.image.seq ∧ x.ckpt.homes = b.image.homes ∧
        x.ckpt.lostHomes = b.lost ∧ x.ckpt.intent = b.image.intent ∧ x.ckpt.inForce = some (b.image, b.lostImage) ∧
        x.ckpt.extSeq = 0 ∧ x.ckpt.exts = [] ∧ x.ckpt.build = none ∧ x.ckpt.extBuild = none ∧ x.ckpt.tide = b.image.tide ∧
        (∀ z ∈ x.ckpt.ready, z ∉ b.image.intent)) ∧
      t = { s.part with sched := t.sched, man := t.man, chains := t.chains, fn0 := t.fn0, fn1 := t.fn1, pools := t.pools, vols := t.vols, members := t.members, tow := t.tow, dict := t.dict, log := t.log, out := t.out }))) ∧
  (ps.owned = true → ps.ckpt.ready ≠ [] → ps.ckpt.extBuild = none → ps.growthHeld = false → ps.ckpt.seq ≠ 0 →
    let fits := (rangesOf (sortNats (ps.ckpt.intent ++ extensionStripes ps.ckpt.ready).eraseDups)).length ≤ maxRanges;
    (ps.ckpt.extSeq < 4096 → fits → Runs (.extensionWrite p) s (fun t => ∃ x, t.pool? p.val = some x ∧
      x.ckpt = { ps.ckpt with
        extBuild := some { seq := ps.ckpt.extSeq + 1, baseSeq := ps.ckpt.seq, tide := s.part.sched.tideNow, intent := extensionStripes ps.ckpt.ready, poolUuid := ps.charter.uuid }
        extReported := [] } ∧ t = { s.part with man := t.man, pools := t.pools, members := t.members })) ∧
    (4096 ≤ ps.ckpt.extSeq → Runs (.extensionWrite p) s (fun t => ∃ x, t.pool? p.val = some x ∧
      x.ckpt = ps.ckpt.addDue 2 ∧ t = { s.part with pools := t.pools })) ∧
    (ps.ckpt.extSeq < 4096 → ¬ fits → Runs (.extensionWrite p) s (fun t => ∃ x, t.pool? p.val = some x ∧
      x.ckpt = ps.ckpt.addDue 3 ∧ t = { s.part with pools := t.pools }))) ∧
  (ps.growthHeld = true ∨ ps.ckpt.ready = [] → Stays (.extensionWrite p) s) ∧
  (let homes := (reporting ps.ckpt.homes who).filter (fun o => !ps.ckpt.lostHomes.contains o);
    (ps.ckpt.extBuild = none → Runs (.extensionValid p who) s (fun t =>
      (∀ e, ps.ckpt.exts.getLast? = some e → ∀ o ∈ homes, ∀ y, t.member? (ps.charter.idAt o) = some y → e ∈ y.exts) ∧
      t = { s.part with members := t.members })) ∧
    (∀ e, ps.ckpt.extBuild = some e →
      (ps.pair.state = 2 → s.part.twinHas p.val e.tide = false → Stays (.extensionValid p who) s) ∧
      (ps.pair.state ≠ 2 ∨ s.part.twinHas p.val e.tide = true →
        Runs (.extensionValid p who) s (fun t => ∃ x, t.pool? p.val = some x ∧
          (∀ o ∈ homes, ∀ y, t.member? (ps.charter.idAt o) = some y → e ∈ y.exts) ∧
          ((ps.ckpt.extReported ++ homes).eraseDups.length < 2 →
            x.ckpt = { ps.ckpt with extReported := (ps.ckpt.extReported ++ homes).eraseDups } ∧
            t = { s.part with pools := t.pools, members := t.members }) ∧
          (2 ≤ (ps.ckpt.extReported ++ homes).eraseDups.length → x.ckpt.extSeq = e.seq ∧ x.ckpt.extBuild = none ∧
            x.ckpt.exts = ps.ckpt.exts ++ [e] ∧ x.ckpt.seq = ps.ckpt.seq ∧
            (∀ z, z ∈ x.ckpt.intent ↔ z ∈ ps.ckpt.intent ∨ z ∈ e.intent) ∧ (∀ z ∈ x.ckpt.ready, z ∉ e.intent)) ∧
          t = { s.part with sched := t.sched, man := t.man, chains := t.chains, fn0 := t.fn0, fn1 := t.fn1, pools := t.pools, vols := t.vols, members := t.members, tow := t.tow, dict := t.dict, log := t.log, out := t.out }))))

/-- R121 to R123, R297, R300 (05, 12): a stripe of an owned Progress pool whose wait is over is poisoned: the wait ends and the
blocks it loses are counted; where no wait runs, or in a Strict pool, nothing happens. A Custodian releases a stalled stripe of
a pool this unit owns: it is stalled no more; a stripe that is not stalled is answered RULE and nothing else changes. The owner
answers a digest with its own; a standby that finds it equal clears the difference, and one that finds it different goes back
to SYNCING. -/
def Obligations.StalledStripesAndDigests : Prop := ∀ (q : Req) (p : PoolId) (stripe : Nat) (d : BitVec 32) (s : State) (ps : PoolSt),
  s.part.pool? p.val = some ps →
  (∀ e, s.part.entry? p.val stripe = some e → ps.owned = true →
    (e.stalledAt ≠ none → ps.progress = true → Runs (.poison p stripe) s (fun t =>
      (∀ y, t.entry? p.val stripe = some y → y.stalledAt = none ∧ y.state ≠ .stalled) ∧
      (∃ x, t.pool? p.val = some x ∧ x.int.poisoned = ps.int.poisoned + (x.int.lost.length - ps.int.lost.length)) ∧
      t = { s.part with islands := t.islands, sched := t.sched, man := t.man, chains := t.chains, fn0 := t.fn0, fn1 := t.fn1, pools := t.pools, vols := t.vols, members := t.members, pair := t.pair, tow := t.tow, dict := t.dict, log := t.log, out := t.out })) ∧
    (e.stalledAt = none ∨ ps.progress = false → Stays (.poison p stripe) s) ∧
    (e.state = .stalled → Allowed s.part q roleCustodian none → Runs (.poolStallRelease q p stripe) s (fun t => t.answer = some stOk ∧
      (∀ y, t.entry? p.val stripe = some y → y.state ≠ .stalled) ∧
      (∃ x, t.pool? p.val = some x ∧ x.int.lastRelease = stripe) ∧ t = { s.part with islands := t.islands, sched := t.sched, man := t.man, chains := t.chains, fn0 := t.fn0, fn1 := t.fn1, pools := t.pools, vols := t.vols, members := t.members, pair := t.pair, tow := t.tow, dict := t.dict, log := t.log, out := t.out }))) ∧
  (Allowed s.part q roleCustodian none → (∀ e, s.part.entry? p.val stripe = some e → e.state ≠ .stalled) →
    Runs (.poolStallRelease q p stripe) s (fun t => Answers t stRule (ruleDetail 123 0) ∧
      t = { s.part with dict := t.dict, out := t.out, fn0 := t.fn0, fn1 := t.fn1 })) ∧
  (ps.pair.state = 2 → s.part.pair.path1Lost = false →
    (ps.pair.owner = 0 → Runs (.manifestDigest p d) s (fun t =>
      t = { s.part with out := s.part.out ++ [.hawserDigest p.val (poolDigest s.part p.val)] })) ∧
    (ps.pair.owner ≠ 0 → d = poolDigest s.part p.val → Runs (.manifestDigest p d) s (fun t =>
      t.pool? p.val = some { ps with pair := { ps.pair with digestBad := false } } ∧
      t = { s.part with pools := t.pools, pair := t.pair })) ∧
    (ps.pair.owner ≠ 0 → d ≠ poolDigest s.part p.val → Runs (.manifestDigest p d) s (fun t =>
      (∃ x, t.pool? p.val = some x ∧ x.pair.state = 1 ∧ x.pair.digestBad = true ∧ x.pair.coverage = 1) ∧
      t.pair.health.getLsbD 10 = true ∧ t = { s.part with man := t.man, pools := t.pools, pair := t.pair, tow := t.tow, dict := t.dict, log := t.log, out := t.out }))) ∧
  (ps.pair.state ≠ 2 ∨ s.part.pair.path1Lost = true → Stays (.manifestDigest p d) s)

/-- R98, R131, R137, R139, R142 to R144, R150, R297 (06): a scrub that may read the pool takes first a stripe that is to be
examined again; else it examines the stripe at its cursor and moves the cursor to the next stripe, or to 0 at the end of the
pass: a stripe in use is left until it retires, one that waits on a missing strip is passed over, and no pass goes on while it
is disabled or a stripe is at margin 0. An operator's resolution of a divergent block of an owned pool stages the rewrites of
the version chosen under a new entry, and waits where the stripe has one; one for a block that is not divergent, or for a
version that is not there, is answered RULE. An acknowledgement of n deferred errors takes the n oldest off the list. -/
def Obligations.ScrubAndResolution : Prop := ∀ (q : Req) (p : PoolId) (v : VolId) (n : Nat) (value : BitVec 64) (s : State) (ps : PoolSt),
  s.part.pool? p.val = some ps →
  (∀ bad, let off := s.part.objNum (poolIdx p.val 0x14) 1 = 0 ∨ atMargin s.part ps 0 = true;
    (scrubAwake s.part ps = false → Stays (.scrubStripe p bad) s) ∧
    (scrubAwake s.part ps = true →
      (∀ z, ps.againDue s.part = some z → Runs (.scrubStripe p bad) s (fun t => ∃ x, t.pool? p.val = some x ∧
        x.int.scrubCursor = ps.int.scrubCursor ∧ (∀ y ∈ ps.int.again, y ≠ z → y ∈ x.int.again) ∧
        t = { s.part with sched := t.sched, man := t.man, chains := t.chains, fn0 := t.fn0, fn1 := t.fn1, pools := t.pools, vols := t.vols, members := t.members, toll := t.toll, tow := t.tow, dict := t.dict, log := t.log, out := t.out })) ∧
      (ps.againDue s.part = none → off → Stays (.scrubStripe p bad) s) ∧
      (ps.againDue s.part = none → ¬ off →
        let next := if ps.scrubTotal ≤ ps.int.scrubCursor + 1 then 0 else ps.int.scrubCursor + 1;
        (s.part.entry? p.val ps.int.scrubCursor = none → Runs (.scrubStripe p bad) s (fun t => ∃ x, t.pool? p.val = some x ∧
          x.int.scrubCursor = next ∧ t = { s.part with sched := t.sched, man := t.man, chains := t.chains, fn0 := t.fn0, fn1 := t.fn1, pools := t.pools, vols := t.vols, members := t.members, toll := t.toll, tow := t.tow, dict := t.dict, log := t.log, out := t.out })) ∧
        (∀ e, s.part.entry? p.val ps.int.scrubCursor = some e → e.stuck = true → Runs (.scrubStripe p bad) s (fun t =>
          ∃ x, t.pool? p.val = some x ∧ x.int.scrubCursor = next ∧ x.int.lost = ps.int.lost ∧
            t = { s.part with pools := t.pools })) ∧
        (∀ e, s.part.entry? p.val ps.int.scrubCursor = some e → e.stuck = false → Stays (.scrubStripe p bad) s)))) ∧
  (Allowed s.part q roleOperator none →
    let named := fun (d : DivEntry) => d.vol == bitsOf value.toNat 59 48 && d.lba == bitsOf value.toNat 47 0;
    let choice := bitsOf value.toNat 63 60;
    (ps.int.diverged.find? named = none → Runs (.poolDivResolve q p value) s (fun t => Answers t stRule (ruleDetail 139 0) ∧
      t = { s.part with dict := t.dict, out := t.out, fn0 := t.fn0, fn1 := t.fn1 })) ∧
    (∀ d, ps.int.diverged.find? named = some d →
      let versions := if (ps.charter.geoOf d.stripe).mirror then (ps.charter.geoOf d.stripe).w else 2;
      (versions ≤ choice → Runs (.poolDivResolve q p value) s (fun t => Answers t stRule (ruleDetail 139 0) ∧
        t = { s.part with dict := t.dict, out := t.out, fn0 := t.fn0, fn1 := t.fn1 })) ∧
      (choice < versions → ps.owned = true → resolveWrites s.part ps d choice ≠ [] → Runs (.poolDivResolve q p value) s (fun t =>
        t.answer = some stOk ∧
        (s.part.entry? p.val d.stripe ≠ none → ∃ x, t.pool? p.val = some x ∧ (d, choice) ∈ x.int.toResolve) ∧
        (s.part.entry? p.val d.stripe = none → (∀ y ∈ ps.int.toResolve, y.1 ≠ d → s.part.entry? p.val y.1.stripe ≠ none) →
          s.part.man.entries.length < maxEntries → ps.inIntent d.stripe = false →
          (∃ x, t.pool? p.val = some x ∧ x.int.resolving = ps.int.resolving ++ [d]) ∧
          (∃ y, t.entry? p.val d.stripe = some y ∧ y.staged = resolveWrites s.part ps d choice ∧ y.built = true)) ∧
        t = { s.part with sched := t.sched, man := t.man, chains := t.chains, fn0 := t.fn0, fn1 := t.fn1, pools := t.pools, vols := t.vols, members := t.members, tow := t.tow, dict := t.dict, log := t.log, out := t.out }))) ∧
    Runs (.volDeferredAck q v n) s (fun t => t.answer = some stOk ∧
      (s.part.vols.any (fun x => x.id == v.val) = true → (t.vol v.val).deferred = (s.part.vol v.val).deferred.drop n ∧
        (t.vol v.val).deferredCount = (s.part.vol v.val).deferredCount - n) ∧
      t = { s.part with vols := t.vols, dict := t.dict, out := t.out, fn0 := t.fn0, fn1 := t.fn1 }))

/-- R64, R153 to R156, R160, R162 (07): a member that is still ABSENT when its hold ends has its state asked for in the charter,
one that is back has not. The task that ranks first of those that can run starts the lane write of the first strip of its group and ordinal that
can be rebuilt, and, where no home strip stands in for a lost one, of each that can; a part that may not rebuild, or has no such
task, does nothing. A strip counts as rebuilt, and is read from its lane, once its lane write commits where its lane still is. A Custodian's abandonment of a group gives up
every stripe of it that is beyond repair; a group without one is answered RULE and nothing else changes. -/
def Obligations.RebuildRestoresStrips : Prop := ∀ (q : Req) (p : PoolId) (k : MemberId) (stripe e grp : Nat) (s : State) (ps : PoolSt),
  s.part.pool? p.val = some ps →
  (∀ m o, s.part.member? k.val = some m → s.part.poolOfMember k.val = some (p.val, o) →
    (m.state ≠ 0 → Stays (.rebuildAbsentHold k) s) ∧
    (m.state = 0 → (ps.charter.memberAt o).map (·.state) ≠ some 0 → Runs (.rebuildAbsentHold k) s (fun t =>
      ∃ x, t.pool? p.val = some x ∧ .memberState o 0 ∈ x.queue ∧ x.charter = ps.charter ∧ t = { s.part with pools := t.pools }))) ∧
  (firstTask s.part ps = none ∨ ps.owned = false ∨ s.part.sched.frozen = true ∨ s.part.dump.state = 3 → ∀ bad,
    Stays (.rebuildTask p bad) s) ∧
  (∀ g m gr o, ps.life ≠ 0 → ps.owned = true → ps.pair.state ≠ 4 → s.part.sched.frozen = false → s.part.dump.state ≠ 3 →
    firstTask s.part ps = some (g, m, gr, o) →
    Runs (.rebuildTask p []) s (fun t => ∃ x, t.pool? p.val = some x ∧ x.charter = ps.charter ∧
      (∀ st, (g.groupStripes gr).find? (canRebuild s.part ps g o) = some st →
        ∃ w ∈ x.reb.writing, w.ordinal = g.entries.getD o 0 ∧ w.stripe = st) ∧
      ((∀ st i, salvagePlace s.part ps g st i = none) → ∀ st ∈ g.groupStripes gr, canRebuild s.part ps g o st = true →
        ∃ w ∈ x.reb.writing, w.ordinal = g.entries.getD o 0 ∧ w.stripe = st) ∧ t = { s.part with sched := t.sched, man := t.man, chains := t.chains, fn0 := t.fn0, fn1 := t.fn1, pools := t.pools, vols := t.vols, members := t.members, tow := t.tow, dict := t.dict, log := t.log, out := t.out })) ∧
  (ps.reb.writing.find? (fun w => w.ordinal == e && w.stripe == stripe) = none → Stays (.stripeRebuilt p stripe e) s) ∧
  (∀ w o i, ps.reb.writing.find? (fun w => w.ordinal == e && w.stripe == stripe) = some w →
    let g := ps.charter.geoOf stripe;
    g.entries.idxOf? e = some o → g.stripAt stripe o = some i →
    let lane := (g.braid.place (stripe - g.off) i).map (fun z => (g.ids.getD z.1 16384, g.braid.rowMba z.2));
    Runs (.stripeRebuilt p stripe e) s (fun t => ∃ x, t.pool? p.val = some x ∧
      x.reb.rebuilt = ps.reb.rebuilt ++ (if lane = some w.place then [(e, stripe)] else []) ∧
      (∀ y ∈ x.reb.writing, ¬ (y.ordinal = e ∧ y.stripe = stripe)) ∧ x.charter = ps.charter ∧
      (∀ j, j ≠ w.place.1 → t.member? j = s.part.member? j) ∧
      (∀ y, t.member? w.place.1 = some y → w.place.2 ∈ y.recentWrites) ∧
      t = { s.part with man := t.man, pools := t.pools, members := t.members, tow := t.tow, dict := t.dict, log := t.log, out := t.out })) ∧
  (Allowed s.part q roleCustodian none →
    (beyondStripes s.part ps grp = [] → Runs (.poolGroupAbandon q p grp) s (fun t => Answers t stRule (ruleDetail 162 0) ∧
      t = { s.part with dict := t.dict, out := t.out, fn0 := t.fn0, fn1 := t.fn1 })) ∧
    (ps.life ≠ 0 → ps.owned = true → beyondStripes s.part ps grp ≠ [] → Runs (.poolGroupAbandon q p grp) s (fun t =>
      t.answer = some stOk ∧
      (∀ x ∈ beyondStripes s.part ps grp, ps.inIntent x = false →
        ∃ y, t.entry? p.val x = some y ∧ y.whole = true ∧ y.built = true) ∧ t = { s.part with islands := t.islands, sched := t.sched, man := t.man, chains := t.chains, fn0 := t.fn0, fn1 := t.fn1, pools := t.pools, vols := t.vols, members := t.members, pair := t.pair, tow := t.tow, dict := t.dict, log := t.log, out := t.out })))

/-- R25, R47, R62, R164, R165 (07): a Custodian's assignment of a replacement that no rule refuses asks for the charter change
that gives the member the ordinal, answered OK or PENDING; one that a rule refuses is answered RULE naming it. A member
PRESENT for 60 s is assigned to the first vacancy of a pool with POOL_AUTO_REPLACE 1, not before. A copy-back that may run
takes the next stripe group home, in each shape that has the ordinal, and after the last one asks for the ordinal to become
ACTIVE; it waits while a strip of the group cannot go home yet. -/
def Obligations.MembersAreReplaced : Prop := ∀ (q : Req) (p : PoolId) (k : MemberId) (o : Nat) (s : State) (m : MemberSt) (ps : PoolSt),
  s.part.member? k.val = some m → s.part.pool? p.val = some ps →
  (Allowed s.part q roleCustodian none → replaceTarget s.part o m = some ps →
    (∀ r, replaceRefusal s.part ps.latest o m = some r → Runs (.memberReplaces q k o) s (fun t =>
      Answers t stRule (ruleDetail r 0) ∧ t = { s.part with dict := t.dict, out := t.out, fn0 := t.fn0, fn1 := t.fn1 })) ∧
    (replaceRefusal s.part ps.latest o m = none → ps.latest.cross = none → ps.owned = true →
      Runs (.memberReplaces q k o) s (fun t => t.answer = some (if ps.changing then stPending else stOk) ∧
        (∃ x, t.pool? p.val = some x ∧ replaceDelta o m ∈ x.queue ∧ x.charter = ps.charter) ∧
        t = { s.part with pools := t.pools, dict := t.dict, out := t.out, fn0 := t.fn0, fn1 := t.fn1 }))) ∧
  (m.state ≠ 1 ∨ s.part.timeUs < m.presentAt + 60000000 → Stays (.autoReplace k) s) ∧
  (m.state = 1 → m.presentAt + 60000000 ≤ s.part.timeUs → s.part.pools = [ps] → ps.life = 3 → ps.owned = true →
    ps.charter.cross = none → s.part.objNum (poolIdx p.val 0x15) 9 = 1 →
    (vacancies s.part ps.latest m.info.enclFound).find? (fun o => (replaceRefusal s.part ps.latest o m).isNone) = some o →
    Runs (.autoReplace k) s (fun t => ∃ x, t.pool? p.val = some x ∧ replaceDelta o m ∈ x.queue ∧ x.charter = ps.charter ∧
      t = { s.part with pools := t.pools })) ∧
  (let e := ps.charter.geo.entries.getD o 0;
    let home := ps.charter.geo.ids.getD o 16384;
    let work := ps.shapes.filterMap (fun h => (h.entries.idxOf? e).map (fun oh => (h, oh)));
    let groups := (work.map (fun w => w.1.braid.groups)).foldl max 0;
    let next := (alGet o ps.reb.copyback).getD 0;
    (ps.life = 3 → ps.owned = true → ps.pair.state ≠ 4 → s.part.returned ps.charter.geo o = true → s.part.takes home = true →
      (∀ y, s.part.member? home = some y → ∀ f ∈ y.fleet, f.2 ≠ 1) → poolTasks s.part ps = [] →
      s.part.sched.frozen = false → s.part.dump.state ≠ 3 → next < groups →
      (∀ w ∈ work, ∀ x ∈ w.1.groupStripes next, homeBlocked s.part ps w.2 w.1 x = false) →
      Runs (.copyback p o []) s (fun t => ∃ x, t.pool? p.val = some x ∧ alGet o x.reb.copyback = some (next + 1) ∧
        (next + 1 = groups → .memberState o 2 ∈ x.queue) ∧ x.charter = ps.charter ∧ t = { s.part with sched := t.sched, man := t.man, chains := t.chains, fn0 := t.fn0, fn1 := t.fn1, pools := t.pools, vols := t.vols, members := t.members, tow := t.tow, dict := t.dict, log := t.log, out := t.out })) ∧
    ((∃ w ∈ work, ∃ x ∈ w.1.groupStripes next, homeBlocked s.part ps w.2 w.1 x = true) → ∀ bad, Stays (.copyback p o bad) s)) ∧
  (poolTasks s.part ps ≠ [] ∨ ps.owned = false → ∀ bad, Stays (.copyback p o bad) s)

/-- R168 to R171, R176, R177 (07): a Custodian's staged Crossing that meets no item of R168's list asks for the charter change
that starts it, at the first volume and cursor 0, in the shape staged, answered OK or PENDING; one that meets an item is answered RULE naming it. An
abort asks for stage 1 of the same Crossing, answered OK or PENDING; without a Crossing to abort it is answered RULE. The
cursor that work has reached is asked for in the charter; a cursor that has not moved asks for nothing; at the end of a volume
the next one is asked for. With no volume left, the change that adopts the target is asked for once no source stripe has an
entry, and after an abort the one that drops the target. Each of these leaves the charter in force as it is. -/
def Obligations.CrossingsStartAndEnd : Prop := ∀ (q : Req) (p : PoolId) (s : State) (ps : PoolSt),
  s.part.pool? p.val = some ps →
  (Allowed s.part q roleCustodian (some (scopePool p.val)) →
    (ps.life ≠ 3 → Refused (.crossStart q p) s stRule (ruleDetail 168 0)) ∧
    (ps.life = 3 → ps.owned = true → let kinds := s.part.objNum (poolIdx p.val 0x16) 1; let ids := crossIds s.part ps.latest kinds;
      let h0 := crossShape s.part ps.latest kinds; let new := crossNew s.part ps.latest ids;
      let shape := decide (kinds % 16 ≠ 0) || h0.blockFmt == 4;
      let h := if shape then crossSize h0 (crossStartBlock ps.latest h0 ids)
        (ids.map (fun k => ((s.part.member? k).map (·.info.capacity)).getD 0)) else h0;
      (∀ i, crossRefusal s.part ps ps.latest kinds h ids new = some i → Refused (.crossStart q p) s stRule (ruleDetail 168 i)) ∧
      (crossRefusal s.part ps ps.latest kinds h ids new = none → Runs (.crossStart q p) s (fun t =>
        t.answer = some (if ps.changing then stPending else stOk) ∧
        (∃ x, AsksFor p.val ps (.crossStart x (if shape then new else [])) t ∧ x.kinds = kinds ∧ x.stage = 0 ∧ x.cursor = 0 ∧
          x.volumes = crossVolumes s.part ps.latest shape ∧ x.curVolume = x.volumes.headD 0xFFFF ∧
          x.srcCount = ps.latest.members.length ∧ x.target = crossTarget ps.latest ids (if shape then new else []) ∧
          x.shape = { h with seed := x.shape.seed }) ∧ t = { s.part with fn0 := t.fn0, fn1 := t.fn1, pools := t.pools, toll := t.toll, tow := t.tow, dict := t.dict, log := t.log, out := t.out }))) ∧
    (ps.latest.cross = none → Refused (.crossAbort q p) s stRule (ruleDetail 176 0)) ∧
    (∀ x, ps.latest.cross = some x → x.stage ≠ 1 → ps.cross.state ≠ 5 → ps.queue.contains .crossDone = false → ps.owned = true →
      Runs (.crossAbort q p) s (fun t => t.answer = some (if ps.changing then stPending else stOk) ∧
        AsksFor p.val ps (.crossSet { x with stage := 1 }) t ∧ t = { s.part with fn0 := t.fn0, fn1 := t.fn1, pools := t.pools, dict := t.dict, out := t.out }))) ∧
  (∀ x, ps.charter.cross = some x → crossChanging ps = false → ps.owned = true →
    (∀ v, ps.charter.vols.find? (fun v => v.id == x.curVolume) = some v → x.stage = 0 →
      (rekeyFloor s.part ps x v < v.size → rekeyFloor s.part ps x v = x.cursor → Stays (.crossCursorCommit p) s) ∧
      (rekeyFloor s.part ps x v < v.size → rekeyFloor s.part ps x v ≠ x.cursor → Runs (.crossCursorCommit p) s (fun t =>
        AsksFor p.val ps (.crossSet { x with cursor := rekeyFloor s.part ps x v, cursorTide := s.part.sched.tideNow }) t ∧
        t = { s.part with pools := t.pools })) ∧
      (v.size ≤ rekeyFloor s.part ps x v → Runs (.crossCursorCommit p) s (fun t => ∃ y,
        y.volumes = x.volumes.filter (· != x.curVolume) ∧ y.curVolume = y.volumes.headD 0xFFFF ∧ y.cursor = 0 ∧ y.kinds = x.kinds ∧
        AsksFor p.val ps (if ps.rekeys v.id then .crossVol y v.id x.newKey else .crossSet y) t ∧ t = { s.part with pools := t.pools, toll := t.toll }))) ∧
    (∀ v, ps.charter.vols.find? (fun v => v.id == x.curVolume) = some v → x.stage ≠ 0 → rekeyFloor s.part ps x v = 0 →
      Runs (.crossCursorCommit p) s (fun t => AsksFor p.val ps (.crossSet (backVolume ps x s.part)) t ∧
        t = { s.part with pools := t.pools })) ∧
    (x.curVolume ≠ 0xFFFF → Stays (.crossComplete p) s) ∧
    (x.curVolume = 0xFFFF → x.stage ≠ 1 →
      (x.isShape = true → ∀ e ∈ s.part.man.entries, e.pool = p.val → ps.charter.shape.stripeCount ≤ e.stripe) →
      Runs (.crossComplete p) s (fun t => AsksFor p.val ps .crossDone t ∧ (∀ y, t.pool? p.val = some y → y.cross.state = 5) ∧
        t = { s.part with pools := t.pools, tow := t.tow, dict := t.dict, log := t.log, out := t.out })) ∧
    (x.curVolume = 0xFFFF → x.stage = 1 → (x.isShape = false ∨ ps.cross.crossed = []) →
      Runs (.crossComplete p) s (fun t => AsksFor p.val ps .crossAborted t ∧ t = { s.part with pools := t.pools })))

/-- R171 to R176 (07): a Crossing that may not work, or has a step under way, does nothing. One held back by an urgent rebuild
says so. A step whose source can be read stages every stripe it changes under an entry of class 7 and lists them as the
step's, the first waiting for another encoding where two failed; the live cursor moves when every one of them has committed, and not before. A re-key stages the next stripe, held,
under the other key, and moves the live cursor over it; an abort moves it downward. -/
def Obligations.CrossingsMoveStripeByStripe : Prop := ∀ (p : PoolId) (s : State) (ps : PoolSt) (x : CrossBlk) (v : CVol) (lo hi : Nat),
  s.part.pool? p.val = some ps → ps.charter.cross = some x → ps.charter.vols.find? (fun v => v.id == x.curVolume) = some v →
  stepRange ps x v.size = (lo, hi) →
  (crossAwake s.part ps = false ∨ x.isShape = false ∨ ps.cross.stepLeft ≠ [] ∨ hi ≤ lo → ∀ bad f, Stays (.crossStep p ⟨bad, f⟩) s) ∧
  (crossAwake s.part ps = true → x.isShape = true → ps.cross.stepLeft = [] → lo < hi →
    (urgentRebuild s.part ps = true → x.stage ≠ 1 → ∀ bad f, Runs (.crossStep p ⟨bad, f⟩) s (fun t =>
      (∃ y, t.pool? p.val = some y ∧ y.cross = { ps.cross with state := 2 } ∧ y.charter = ps.charter) ∧ t = { s.part with pools := t.pools, tow := t.tow, dict := t.dict, log := t.log, out := t.out })) ∧
    (∀ f blocks st, let src := stripesFor ps (x.stage == 1) v lo hi; let dst := stripesFor ps (!(x.stage == 1)) v lo hi;
      let g := if x.stage == 1 then ps.charter.geo else ps.charter.tgeo x;
      urgentRebuild s.part ps = false → (∀ y ∈ src, beyondAt s.part ps y = false) → (∀ y ∈ src ++ dst, waitsAt s.part ps y = false) →
      (g.mirror = true ∨ s.part.pipes ≠ []) → (∀ y ∈ dst, s.part.entry? p.val y = none ∧ ∀ w ∈ ps.reb.writing, w.stripe ≠ y) → s.part.man.entries.length + dst.length ≤ maxEntries →
      (ps.charter.geo.fmt = 4 ↔ x.shape.blockFmt = 4) → (∀ y ∈ dst, ps.inIntent y = false) →
      gather ps (x.stage == 1) g [] 0 dst s.part = (some blocks, st) →
      Runs (.crossStep p ⟨[], f⟩) s (fun t =>
        (∃ y, t.pool? p.val = some y ∧ y.cross.stepLeft = dst ∧ y.cross.live = ps.cross.live ∧ y.charter = ps.charter ∧
          (x.stage ≠ 1 → y.cross.state = 1)) ∧
        (∀ y ∈ dst, ∃ e, t.entry? p.val y = some e ∧ e.state = .through ∧ e.cls = 7 ∧
          (if 2 ≤ f ∧ g.mirror = false ∧ dst.head? = some y then e.built = false ∧ e.synd = f else e.built = true)) ∧
        t = { s.part with islands := t.islands, sched := t.sched, man := t.man, chains := t.chains, fn0 := t.fn0, fn1 := t.fn1, pools := t.pools, vols := t.vols, members := t.members, pair := t.pair, tow := t.tow, dict := t.dict, log := t.log, out := t.out }))) ∧
  (ps.cross.stepLeft ≠ [] → (∀ y ∈ ps.cross.stepLeft, stepStripeDone s.part p.val y = true) → Runs (.crossStepCommit p) s (fun t =>
    t.pool? p.val = some { ps with cross := { ps.cross with stepLeft := [], live := if x.stage = 1 then lo else hi } } ∧
    t = { s.part with pools := t.pools })) ∧
  ((∃ y ∈ ps.cross.stepLeft, stepStripeDone s.part p.val y = false) → Stays (.crossStepCommit p) s) ∧
  (crossAwake s.part ps = false ∨ x.isShape = true ∨ hi ≤ lo → ∀ bad f, Stays (.rekeyStripe p ⟨bad, f⟩) s) ∧
  (∀ f stripe, stripe = (ps.charter.addrIn false v lo).1 → crossAwake s.part ps = true → x.isShape = false → lo < hi →
    (s.part.mainMaterial x.curVolume).isSome → (s.part.rekeyMaterial p.val).isSome → urgentRebuild s.part ps = false →
    beyondAt s.part ps stripe = false → waitsAt s.part ps stripe = false → (ps.charter.geo.mirror = true ∨ s.part.pipes ≠ []) →
    s.part.entry? p.val stripe = none → s.part.man.entries.length < maxEntries →
    (∀ w ∈ ps.reb.writing, w.stripe ≠ stripe) → ps.inIntent stripe = false →
    Runs (.rekeyStripe p ⟨[], f⟩) s (fun t =>
      (∃ y, t.pool? p.val = some y ∧ y.cross.live = (if x.stage = 1 then lo else hi) ∧ y.charter = ps.charter) ∧
      (∃ e, t.entry? p.val stripe = some e ∧ e.state = .held ∧ e.cls = 7 ∧
        (if 2 ≤ f ∧ ps.charter.geo.mirror = false then e.built = false ∧ e.synd = f else e.built = true)) ∧ t = { s.part with islands := t.islands, sched := t.sched, man := t.man, chains := t.chains, fn0 := t.fn0, fn1 := t.fn1, pools := t.pools, vols := t.vols, members := t.members, pair := t.pair, tow := t.tow, dict := t.dict, log := t.log, out := t.out }))

/-- R178 to R181, R186, R200, R208 (07, 08): an Operator's fleet change with a value in the range of its kind is committed: it has the
next number, is the committed value of its scope, and every reachable member of the scope awaits its confirmation; one under
way, or a bad value, is answered RULE. A read-back of the kind that equals the committed value (a rate: one no higher) takes
the mark of that kind off a member, and the last one of the change ends it; another changes nothing. At 30 s the members left are PARTIAL and the change with them; a retry begins the
same change on them again, a revert commits the old value as a new change; both are answered RULE when nothing is PARTIAL. -/
def Obligations.FleetChangesRun : Prop := ∀ (q : Req) (k : MemberId) (kd : Fin 4) (v : Nat) (s : State),
  (∀ kind value scope, kind = s.part.objNum 0x2106 1 → value = s.part.objNum 0x2106 2 → scope = s.part.objNum 0x2106 3 →
    Allowed s.part q roleOperator (some scopeFleet) →
    (s.part.fleet.state = 1 → Refused (.fleetCommit q) s stRule (ruleDetail 178 0)) ∧
    (s.part.fleet.state ≠ 1 → (fleetValueGood kind value = false ∨ (scope ≠ 0xFFFF ∧ 64 ≤ scope)) →
      Refused (.fleetCommit q) s stRule (ruleDetail 179 0)) ∧
    (s.part.fleet.state ≠ 1 → fleetValueGood kind value = true → (scope = 0xFFFF ∨ scope < 64) →
      Runs (.fleetCommit q) s (fun t => t.answer = some stOk ∧ (scope, kind, value) ∈ t.fleet.committed ∧
        t.fleet = { s.part.fleet with committed := t.fleet.committed, scope := scope, kind := kind, value := value, old := fleetOld s.part scope kind, seq := s.part.fleet.seq + 1, left := scopeMembers s.part scope, state := if scopeMembers s.part scope = [] then 2 else 1 } ∧
        (∀ j ∈ scopeMembers s.part scope, ∀ y, t.member? j = some y → (kind, 1) ∈ y.fleet) ∧ t = { s.part with fn0 := t.fn0, fn1 := t.fn1, members := t.members, fabric := t.fabric, fleet := t.fleet, dict := t.dict, out := t.out }))) ∧
  (∀ m w, s.part.member? k.val = some m → fleetValueFor s.part k.val kd.val = some w →
    ((∀ x ∈ m.fleet, x.1 ≠ kd.val) ∨ readBackGood kd.val w v = false → Stays (.fleetConfirm k ⟨kd, v⟩) s) ∧
    ((∃ x ∈ m.fleet, x.1 = kd.val) → readBackGood kd.val w v = true → Runs (.fleetConfirm k ⟨kd, v⟩) s (fun t =>
      (∃ y, t.member? k.val = some y ∧ y.fleet = m.fleet.filter (fun x => x.1 != kd.val) ∧ (kd.val = 0 → y.wce = w) ∧
        (kd.val = 1 → y.rateCap = w) ∧ (kd.val = 2 → y.depthCap = w)) ∧
      (s.part.fleet.kind ≠ kd.val → t.fleet = s.part.fleet) ∧
      (s.part.fleet.kind = kd.val →
        t.fleet = { s.part.fleet with left := s.part.fleet.left.filter (· != k.val), state := t.fleet.state } ∧
        (t.fleet.left = [] → (s.part.fleet.state = 1 ∨ s.part.fleet.state = 3) → t.fleet.state = 2) ∧
        (t.fleet.left ≠ [] → t.fleet.state = s.part.fleet.state)) ∧
      (∀ j, j ≠ k.val → t.member? j = s.part.member? j) ∧ t = { s.part with fleet := t.fleet, members := t.members }))) ∧
  (s.part.fleet.state ≠ 1 ∨ s.part.fleet.left = [] → Stays .fleetPartial s) ∧
  (s.part.fleet.state = 1 → s.part.fleet.left ≠ [] → Runs .fleetPartial s (fun t => t.fleet = { s.part.fleet with state := 3 } ∧
    (∀ j ∈ s.part.fleet.left, ∀ y, t.member? j = some y → (s.part.fleet.kind, 2) ∈ y.fleet) ∧
    (∀ j, j ∉ s.part.fleet.left → t.member? j = s.part.member? j) ∧ t = { s.part with fleet := t.fleet, members := t.members })) ∧
  (Allowed s.part q roleOperator none →
    (s.part.fleet.state ≠ 3 → Refused (.fleetRetry q) s stRule (ruleDetail 180 0) ∧
      Refused (.fleetRevert q) s stRule (ruleDetail 180 0)) ∧
    (s.part.fleet.state = 3 → Runs (.fleetRetry q) s (fun t => t.answer = some stOk ∧ t.fleet = { s.part.fleet with state := 1 } ∧
        (∀ j ∈ s.part.fleet.left, ∀ y, t.member? j = some y → (s.part.fleet.kind, 1) ∈ y.fleet) ∧
        (∀ j, j ∉ s.part.fleet.left → t.member? j = s.part.member? j) ∧ t = { s.part with fn0 := t.fn0, fn1 := t.fn1, members := t.members, fabric := t.fabric, fleet := t.fleet, dict := t.dict, out := t.out }) ∧
      Runs (.fleetRevert q) s (fun t => t.answer = some stOk ∧ t.fleet.value = s.part.fleet.old ∧
        t.fleet.old = s.part.fleet.value ∧ t.fleet.seq = s.part.fleet.seq + 1 ∧
        (s.part.fleet.scope, s.part.fleet.kind, s.part.fleet.old) ∈ t.fleet.committed ∧ t = { s.part with fn0 := t.fn0, fn1 := t.fn1, members := t.members, fabric := t.fabric, fleet := t.fleet, dict := t.dict, out := t.out })))

/-- R182 to R190, R206 (08): an Auto lane that a device answers starts training. A link that trains in a protocol and width every
lane of it allows takes them on all its lanes, its rate capped, a SAS lane with the address it reaches, counts a discovery, and
an ACTIVE member whose link was down is back as SUSPECT with its commands to be issued again; where LANE_MODE or the width does
not allow it, nothing trains. A lane that goes down takes its new mode with its block; its members are without a path, unless
their port keeps other lanes: they go on over these. A dump link that trains, or goes down, sets the target and DUMP_STATE
follows; during a dump the target is recorded as lost. A retrain counts on every lane of the link; the third in 10 min takes
the rate one tier down, never below 1. -/
def Obligations.LinksTrainAndRetrain : Prop := ∀ (l : Lane) (d : Fin 4) (proto : Protocol) (width tier att : Nat) (s : State) (x : LaneSt),
  s.part.lane l.val = x →
  (∀ a, (x.mode = 0 → x.state = 0 → a ≠ .silent → Runs (.laneProbeRetry l a) s (fun t =>
      t.lane l.val = { x with state := 4 } ∧ t = { s.part with fabric := t.fabric })) ∧
    (x.mode ≠ 0 ∨ x.state ≠ 0 ∨ a = .silent → Stays (.laneProbeRetry l a) s)) ∧
  (let lanes := linkLanes l.val width proto;
    let mode := fun y => if (s.part.lane y).state = 0 ∨ (s.part.lane y).state = 4 then s.part.objNum (0x2200 + y) 1 else (s.part.lane y).mode;
    let good := (∀ y ∈ lanes, modeAllows (mode y) proto = true) ∧ widthGood s.part l.val width proto = true;
    (¬ good → Runs (.linkUp (.lane l) proto width ⟨tier, att⟩) s (fun t =>
      (∀ y ∈ lanes, t.lane y = { s.part.lane y with mode := mode y }) ∧ t.members = s.part.members ∧
      t.fabric.discoveries = s.part.fabric.discoveries ∧ t = { s.part with sched := t.sched, man := t.man, chains := t.chains, fn0 := t.fn0, fn1 := t.fn1, pools := t.pools, vols := t.vols, members := t.members, fabric := t.fabric, tow := t.tow, dict := t.dict, log := t.log, out := t.out })) ∧
    (good → let rate := cappedTier s.part l.val (if proto = .sas then min tier 4 else min tier 3);
      Runs (.linkUp (.lane l) proto width ⟨tier, att⟩) s (fun t =>
      (∀ y ∈ lanes, (t.lane y).state = laneStateOf proto ∧ (t.lane y).width = width ∧ (t.lane y).rate ≤ rate ∧
        ((∀ k, fleetValueFor s.part k 1 = none) → (t.lane y).rate = rate) ∧
        (t.lane y).attached = (if proto = .sas then att else 0) ∧
        (t.lane y).narrow = (decide (proto = .sas ∧ att ≠ 0) && fifthLane s.part l.val att)) ∧
      t.fabric.discoveries = s.part.fabric.discoveries + 1 ∧
      (∀ k m, s.part.member? k = some m → m.onLane l.val = true → m.linkUp = false → m.state = 2 →
        ∃ y, t.member? k = some y ∧ y.linkUp = true ∧ y.state = 3 ∧ y.outstanding = [] ∧ ∀ c ∈ m.outstanding, c ∈ y.waiting) ∧
      t = { s.part with sched := t.sched, man := t.man, chains := t.chains, fn0 := t.fn0, fn1 := t.fn1, pools := t.pools, vols := t.vols, members := t.members, fabric := t.fabric, tow := t.tow, dict := t.dict, log := t.log, out := t.out }))) ∧
  (let rest := (portLanes s.part l.val).filter (· != l.val);
    Runs (.linkDown (.lane l)) s (fun t =>
    (∀ y ∈ laneBlockOf s.part l.val, (t.lane y).rate = 0 ∧ (t.lane y).width = 0 ∧ (t.lane y).attached = 0 ∧
      (t.lane y).mode = s.part.objNum (0x2200 + y) 1 ∧ (t.lane y).state = (if (t.lane y).mode = 4 then 5 else 0)) ∧
    (rest = [] → ∀ m ∈ t.members, (∃ y ∈ laneBlockOf s.part l.val, m.onLane y = true) → m.linkUp = false) ∧
    (rest ≠ [] → ∀ k m, s.part.member? k = some m → (∃ y ∈ portLanes s.part l.val, m.onLane y = true) →
      ∃ y, t.member? k = some y ∧ y.linkUp = m.linkUp ∧ y.onLane l.val = false ∧ ∀ c ∈ y.outstanding, c.lane ≠ l.val ∨ c.timedOut = true) ∧
    t.fabric.discoveries = s.part.fabric.discoveries + 1 ∧ t = { s.part with fabric := t.fabric, members := t.members })) ∧
  (s.part.dump.targets.any (fun y => y.idx == d.val) = true →
    Runs (.linkUp (.dump d) proto width ⟨tier, att⟩) s (fun t =>
      t.target d.val = { s.part.target d.val with linkUp := true, width := width, tier := min tier 3 } ∧
      (s.part.dump.state < 3 → t.dump.state = dumpReadiness t) ∧ t = { s.part with sched := t.sched, man := t.man, chains := t.chains, fn0 := t.fn0, fn1 := t.fn1, pools := t.pools, vols := t.vols, pair := t.pair, tow := t.tow, dump := t.dump, dict := t.dict, log := t.log, out := t.out }) ∧
    Runs (.linkDown (.dump d)) s (fun t =>
      t.target d.val = { s.part.target d.val with linkUp := false, width := 0, tier := 0 } ∧
      (s.part.dump.state < 3 → t.dump.state = dumpReadiness t) ∧ (s.part.dump.state = 3 → d.val ∈ t.dump.lostNow) ∧
      t = { s.part with sched := t.sched, man := t.man, chains := t.chains, fn0 := t.fn0, fn1 := t.fn1, pools := t.pools, vols := t.vols, pair := t.pair, tow := t.tow, dump := t.dump, dict := t.dict, log := t.log, out := t.out })) ∧
  (∀ cause, let times := s.part.timeUs :: x.times.filter (fun t => decide (s.part.timeUs < t + sec 600));
    (x.state ≠ 1 → x.state ≠ 2 → x.state ≠ 3 → Stays (.linkRetrain l cause) s) ∧
    (x.state = 1 ∨ x.state = 2 ∨ x.state = 3 → Runs (.linkRetrain l cause) s (fun t =>
      (∀ y ∈ laneBlockOf s.part l.val, (t.lane y).retrains = (s.part.lane y).retrains + 1 ∧ (t.lane y).state = (s.part.lane y).state ∧
        (3 ≤ times.length → 1 < x.rate → (t.lane y).rate = x.rate - 1 ∧ (t.lane y).cap = some (x.rate - 1) ∧ (t.lane y).times = []) ∧
        (times.length < 3 ∨ x.rate ≤ 1 → (t.lane y).rate = (s.part.lane y).rate ∧ (t.lane y).times = times)) ∧
      t = { s.part with fabric := t.fabric, tow := t.tow, dict := t.dict, log := t.log, out := t.out })))

/-- R63, R190 to R193, R195, R200, R206 (08): a discovery counts, reports how many members it found, binds an enclosure number
to every logical identifier, and makes ABSENT every member in use that it did not find; an Operator orders one. An unknown
device gets the id R191 gives and enters PRESENT with its identity bound; a member that was ABSENT is PRESENT again; one whose
capacity or format changed fails; another identity found on a member's path makes that member ABSENT; with no id free the
device is counted. A Custodian moves an enclosure binding no pool declares to a free number, and reformats a member outside
any pool: its label and contents go. What these may not do is answered RULE. -/
def Obligations.DevicesAreDiscovered : Prop := ∀ (q : Req) (r : DiscoveryReport) (i : MemberInfo) (k : MemberId) (n : Nat) (s : State),
  (∀ P : Part → Prop, P = (fun t => t.fabric.membersFound = r.found.length ∧ t.fabric.discoveries = s.part.fabric.discoveries + 1 ∧
      t.fabric.discoverOver = s.part.fabric.discoverOver + r.beyond ∧ (∀ e ∈ r.enclosures, ∃ j, (j, e) ∈ t.fabric.encls) ∧
      (∀ j m, s.part.member? j = some m → j ∉ r.found → m.state ∈ [1, 2, 3, 5, 6, 7] →
        ∃ y, t.member? j = some y ∧ y.state = 0 ∧ y.linkUp = false)) →
    Runs (.discoveryEvent r) s (fun t => P t ∧ t = { s.part with sched := t.sched, man := t.man, chains := t.chains, fn0 := t.fn0, fn1 := t.fn1, pools := t.pools, vols := t.vols, members := t.members, fabric := t.fabric, tow := t.tow, dict := t.dict, log := t.log, out := t.out }) ∧
    (Allowed s.part q roleOperator none → Runs (.discoverNow q r) s (fun t => t.answer = some stOk ∧ P t ∧ t = { s.part with sched := t.sched, man := t.man, chains := t.chains, fn0 := t.fn0, fn1 := t.fn1, pools := t.pools, vols := t.vols, members := t.members, fabric := t.fabric, tow := t.tow, dict := t.dict, log := t.log, out := t.out }))) ∧
  ((∀ m ∈ s.part.members, m.info.path = i.path → m.info.identity = i.identity) →
    (memberIdFor s.part i = none → Runs (.memberPresent i) s (fun t =>
      t.fabric = { s.part.fabric with discoverOver := s.part.fabric.discoverOver + 1 } ∧ t = { s.part with fabric := t.fabric, tow := t.tow, dict := t.dict, log := t.log, out := t.out })) ∧
    (∀ j, memberIdFor s.part i = some j → s.part.member? j = none → s.part.poolOfMember j = none → boundElsewhere s.part j i = false →
      Runs (.memberPresent i) s (fun t => (∃ y, t.member? j = some y ∧ y.state = 1 ∧ y.info = i ∧ y.linkUp = true ∧ y.wce = 2 ∧
        y.presentAt = s.part.timeUs) ∧ (boundId t i.identity).isSome ∧
        t = { s.part with fabric := t.fabric, members := t.members })) ∧
    (∀ j k2, memberIdFor s.part i = some j → s.part.member? j = none → boundElsewhere s.part j i = true → freeId s.part = some k2 →
      s.part.poolOfMember k2 = none → Runs (.memberPresent i) s (fun t =>
        (∃ y, t.member? k2 = some y ∧ y.state = 0xFE ∧ y.info = i) ∧ t = { s.part with fabric := t.fabric, members := t.members })) ∧
    (∀ j m, memberIdFor s.part i = some j → s.part.member? j = some m → m.info.identity = i.identity →
      Runs (.memberPresent i) s (fun t => ∃ y, t.member? j = some y ∧ y.info = i ∧ (m.state = 0 → y.state = 1 ∧ y.linkUp = true) ∧
        (m.state = 2 → (i.capacity ≠ m.info.capacity ∨ i.format ≠ m.info.format) → y.state = 4) ∧
        (m.state = 2 → m.linkUp = true → i.capacity = m.info.capacity → i.format = m.info.format → m.escStep = 0 → y.state = 2) ∧
        t = { s.part with sched := t.sched, man := t.man, chains := t.chains, fn0 := t.fn0, fn1 := t.fn1, pools := t.pools, vols := t.vols, members := t.members, fabric := t.fabric, tow := t.tow, dict := t.dict, log := t.log, out := t.out }))) ∧
  (∀ j m, s.part.member? j = some m → m.info.path = i.path → m.info.identity ≠ i.identity → m.state ∈ [1, 2, 3, 5, 6, 7] →
    Runs (.memberPresent i) s (fun t => (∃ y, t.member? j = some y ∧ y.state = 0) ∧ t = { s.part with sched := t.sched, man := t.man, chains := t.chains, fn0 := t.fn0, fn1 := t.fn1, pools := t.pools, vols := t.vols, members := t.members, fabric := t.fabric, tow := t.tow, dict := t.dict, log := t.log, out := t.out })) ∧
  (∀ old, Allowed s.part q roleCustodian none → old = ((s.part.sess? q.session).map (·.enclSel)).getD 0 →
    ((∀ e ∈ s.part.fabric.encls, e.1 ≠ old) ∨ (∃ e ∈ s.part.fabric.encls, e.1 = n) ∨ enclDeclared s.part old = true →
      Refused (.enclNumber q n) s stRule (ruleDetail 192 0)) ∧
    (∀ log_, (old, log_) ∈ s.part.fabric.encls → (∀ e ∈ s.part.fabric.encls, e.1 ≠ n) → enclDeclared s.part old = false →
      Runs (.enclNumber q n) s (fun t => t.answer = some stOk ∧ (n, log_) ∈ t.fabric.encls ∧
        (∀ e ∈ s.part.fabric.encls, e.1 ≠ old → e ∈ t.fabric.encls) ∧ (∀ m ∈ t.members, m.info.enclFound ≠ old) ∧
        t = { s.part with fn0 := t.fn0, fn1 := t.fn1, members := t.members, fabric := t.fabric, dict := t.dict, out := t.out }))) ∧
  (∀ m, Allowed s.part q roleCustodian none → s.part.member? k.val = some m →
    (unlabelled m = false ∨ s.part.memberNamed k.val = true ∨ formatOf m.info.protocol n = false ∨ m.info.reformats = false ∨ m.linkUp = false →
      Refused (.memberReformat q k n) s stRule (ruleDetail 195 0)) ∧
    (unlabelled m = true → s.part.memberNamed k.val = false → formatOf m.info.protocol n = true → m.info.reformats = true → m.linkUp = true → m.state ≠ 0 →
      Runs (.memberReformat q k n) s (fun t => t.answer = some stOk ∧ (∃ y, t.member? k.val = some y ∧ y.info.format = n ∧
        y.info.capacity = Config.reformatCapacity m.info.identity n ∧ y.label = .absent ∧ y.charterA = none ∧ y.charterB = none ∧
        y.media = [] ∧ y.ckpts = [] ∧ y.exts = [] ∧ y.lostSlots = [] ∧ y.fleet = [] ∧ y.outstanding = [] ∧ y.wce = 2) ∧ t = { s.part with fn0 := t.fn0, fn1 := t.fn1, members := t.members, dict := t.dict, out := t.out })))

/-- R87, R185, R198 to R202, R204 to R206 (08, 04): the command a member is issued leaves its queue for a lane of its port, unless the member
may take none or is full; a non-queued one first drains it, and goes when the tags have. A strip write that ends good commits
its strip; one that fails waits again, and fails the member the second time; a zeroing command that fails gives way to writes; TASK SET FULL lowers the working depth and the
command waits again; a host read no longer waits for the member. What ended is not outstanding any more. An NCQ error of a
SATA member reissues its other tags and reads the log. -/
def Obligations.MemberCommandsRun : Prop := ∀ (k : MemberId) (id : Nat) (s : State) (m : MemberSt),
  s.part.member? k.val = some m →
  (nextCmd s.part m = none ∨ mayIssue s.part m = false ∨ m.draining = true ∨ m.depth ≤ m.outstanding.length →
    Stays (.memberCmdIssue k) s) ∧
  (∀ c, nextCmd s.part m = some c → mayIssue s.part m = true → m.draining = false → m.outstanding.length < m.depth →
    memberContextFree s.part m = true →
    (c.nonQueued = false ∨ m.outstanding = [] → Runs (.memberCmdIssue k) s (fun t =>
      t.member? k.val = some { m with waiting := m.waiting.filter (fun x => x.id != c.id), outstanding := m.outstanding ++ [{ c with lane := laneFor s.part m c.id }] } ∧
      t.out = s.part.out ++ [.memberCmd k.val c.id] ∧ t = { s.part with members := t.members, out := t.out })) ∧
    (c.nonQueued = true → m.outstanding ≠ [] → Runs (.memberCmdIssue k) s (fun t =>
      t.member? k.val = some { m with draining := true } ∧ t = { s.part with members := t.members }))) ∧
  (s.part.tow.sleeping = false →
    ((∀ c ∈ m.outstanding, c.id ≠ id) → ∀ r, Stays (.memberCmdComplete k id r) s) ∧
    (∀ c, m.outstanding.find? (fun x => x.id == id) = some c → c.timedOut = false →
      (∀ p stripe strip e, c.op = .writeStrip p stripe strip → (s.part.pool? p).isSome → s.part.entry? p stripe = some e →
        (e.state = .writing ∨ e.state = .through) → Runs (.memberCmdComplete k id .good) s (fun t =>
          (∃ y, t.member? k.val = some y ∧ ∀ x ∈ y.outstanding, x.id ≠ id) ∧
          (∀ e', t.entry? p stripe = some e' → strip ∉ e'.left) ∧ t = { s.part with sched := t.sched, man := t.man, chains := t.chains, fn0 := t.fn0, fn1 := t.fn1, pools := t.pools, vols := t.vols, members := t.members, tow := t.tow, dict := t.dict, log := t.log, out := t.out })) ∧
      (∀ p ps, c.op = .zeroSlot p → s.part.pool? p = some ps → k.val ∈ ps.initLeft → Runs (.memberCmdComplete k id .failed) s (fun t =>
        (∃ y, t.member? k.val = some y ∧ (∃ z ∈ y.waiting, z.op = .zeroRest p false) ∧ ∀ x ∈ y.outstanding, x.id ≠ id) ∧
        t = { s.part with members := t.members })) ∧
      (c.op.isWrite = true → (∀ p, c.op ≠ .zeroSlot p) → c.retried = false → Runs (.memberCmdComplete k id .failed) s (fun t =>
        (∃ y, t.member? k.val = some y ∧ y.state = m.state ∧ y.waiting = { c with retried := true } :: m.waiting ∧
          ∀ x ∈ y.outstanding, x.id ≠ id) ∧ t = { s.part with members := t.members })) ∧
      (c.op.isWrite = true → (∀ p, c.op ≠ .zeroSlot p) → c.retried = true → m.state ∈ [2, 3, 5, 6, 7] → Runs (.memberCmdComplete k id .failed) s (fun t =>
        (∃ y, t.member? k.val = some y ∧ y.state = 4 ∧ y.outstanding = [] ∧ y.waiting = []) ∧ t = { s.part with sched := t.sched, man := t.man, chains := t.chains, fn0 := t.fn0, fn1 := t.fn1, pools := t.pools, vols := t.vols, members := t.members, tow := t.tow, dict := t.dict, log := t.log, out := t.out })) ∧
      Runs (.memberCmdComplete k id .busy) s (fun t => (∃ y, t.member? k.val = some y ∧ y.waiting = c :: m.waiting ∧
        y.workDepth = max 1 (m.workDepth - ceilDiv m.workDepth 4) ∧ ∀ x ∈ y.outstanding, x.id ≠ id) ∧
        t = { s.part with members := t.members }) ∧
      (∀ p stripe strip ch h x, c.op = .readStrip p stripe strip ch h → s.part.cmd? ch h = some x → dOpcode x.desc = 1 →
        ∀ r ∈ [CmdResult.good, .failed], ∃ t pm, exec (.memberCmdComplete k id r) s = .next { s with part := t, peerMem := pm } ∧
          (∀ y, t.cmd? ch h = some y → y.phase ≠ .waiting) ∧ t = { s.part with sched := t.sched, man := t.man, chains := t.chains, fn0 := t.fn0, fn1 := t.fn1, pools := t.pools, vols := t.vols, members := t.members, toll := t.toll, pair := t.pair, tow := t.tow, dict := t.dict, log := t.log, out := t.out })) ∧
    (∀ c, m.outstanding.find? (fun x => x.id == id) = some c → c.timedOut = true → m.escStep ≠ 0 → ∀ r,
      Runs (.memberCmdComplete k id r) s (fun t => (∃ y, t.member? k.val = some y ∧ y.escStep = 0 ∧ y.draining = false) ∧
        t = { s.part with members := t.members }))) ∧
  (m.draining = false → Stays (.drainForNonQueued k) s) ∧
  (∀ c, m.draining = true → m.outstanding = [] → mayIssue s.part m = true → m.waiting.find? (·.nonQueued) = some c →
    Runs (.drainForNonQueued k) s (fun t => t.out = s.part.out ++ [.memberCmd k.val c.id] ∧
      t.member? k.val = some { m with waiting := m.waiting.filter (fun x => x.id != c.id), outstanding := [{ c with lane := laneFor s.part m c.id }] } ∧
      t = { s.part with members := t.members, out := t.out })) ∧
  (∀ c, m.outstanding.find? (fun x => x.id == id && !x.nonQueued) = some c →
    (m.info.protocol ≠ .sata → Stays (.ncqError k id) s) ∧
    (m.info.protocol = .sata → c.op.isWrite = true → (∀ p, c.op ≠ .zeroSlot p) → c.retried = false → Runs (.ncqError k id) s (fun t =>
      (∃ y, t.member? k.val = some y ∧ y.outstanding = m.outstanding.filter (fun x => x.timedOut) ∧
        (∀ x ∈ m.outstanding, x.id ≠ id → x.timedOut = false → x ∈ y.waiting) ∧ { c with retried := true } ∈ y.waiting ∧
        ∃ z ∈ y.waiting, z.op = .healthLog ∧ z.nonQueued = true) ∧ t = { s.part with members := t.members })))

/-- R131, R200, R202, R205 to R207 (08): a command that times out is counted and marked; the first one of a member starts the
escalation at its protocol's first step and makes an ACTIVE member SUSPECT; an unanswered step leads to the next and, after
step 3, to FAILED; the third step 3 within an hour fails the member. A read of a slow member that the other strips can serve
runs without it, when HEDGE_MS is not 0. A reported error on a write done earlier is recorded, and its range, where a stripe
covers it that is not in use, is staged to be rewritten, else left to be examined again. The working depth rises by one up to its limit. -/
def Obligations.SlowMembersAreWorkedAround : Prop := ∀ (k : MemberId) (id : Nat) (s : State) (m : MemberSt) (recent : List Nat),
  s.part.member? k.val = some m → recent = m.step3Times.filter (fun t => decide (s.part.timeUs < t + hour 1)) →
  (∀ c, m.outstanding.find? (fun x => x.id == id) = some c →
    (c.timedOut = true → Stays (.memberCmdTimeout k id) s) ∧
    (c.timedOut = false → ∃ t pm, exec (.memberCmdTimeout k id) s = .next { s with part := t, peerMem := pm } ∧
      (∃ y, t.member? k.val = some y ∧ y.timeouts = m.timeouts + 1 ∧ (∀ x ∈ y.outstanding, x.id = id → x.timedOut = true) ∧
        (m.escStep = 0 → (m.info.protocol ≠ .sata ∨ recent.length < 2) → y.escStep = firstStep m.info.protocol ∧
          (m.state = 2 → y.state = 3) ∧ .memberReset k.val (firstStep m.info.protocol) ∈ t.out) ∧
        (m.escStep = 0 → m.info.protocol = .sata → 2 ≤ recent.length → m.state ∈ [2, 3, 5, 6, 7] → y.state = 4)) ∧
      t = { s.part with sched := t.sched, man := t.man, chains := t.chains, fn0 := t.fn0, fn1 := t.fn1, pools := t.pools, vols := t.vols, members := t.members, toll := t.toll, pair := t.pair, tow := t.tow, dict := t.dict, log := t.log, out := t.out }) ∧
    (s.part.objNum 0x2107 7 = 0 ∨ slowMember s.part k.val = false → Stays (.hedgeTimeout k id) s) ∧
    (∀ p stripe strip ch h x, c.op = .readStrip p stripe strip ch h → s.part.objNum 0x2107 7 ≠ 0 → slowMember s.part k.val = true →
      (canReconstruct s.part p stripe strip = false → Stays (.hedgeTimeout k id) s) ∧
      (canReconstruct s.part p stripe strip = true → s.part.cmd? ch h = some x → dOpcode x.desc = 1 →
        ∃ t pm, exec (.hedgeTimeout k id) s = .next { s with part := t, peerMem := pm } ∧
          (∀ y, t.cmd? ch h = some y → y.phase ≠ .waiting) ∧ t = { s.part with sched := t.sched, man := t.man, chains := t.chains, fn0 := t.fn0, fn1 := t.fn1, pools := t.pools, vols := t.vols, members := t.members, toll := t.toll, pair := t.pair, tow := t.tow, dict := t.dict, log := t.log, out := t.out }))) ∧
  (m.escStep = 0 → Stays (.escalationStepTimeout k) s) ∧
  (m.escStep = 1 → Runs (.escalationStepTimeout k) s (fun t => (∃ y, t.member? k.val = some y ∧ y.escStep = 2 ∧
    (m.state = 2 → y.state = 3)) ∧ .memberReset k.val 2 ∈ t.out ∧ t = { s.part with sched := t.sched, man := t.man, chains := t.chains, fn0 := t.fn0, fn1 := t.fn1, pools := t.pools, vols := t.vols, members := t.members, tow := t.tow, dict := t.dict, log := t.log, out := t.out })) ∧
  (m.escStep = 2 → recent.length < 2 → Runs (.escalationStepTimeout k) s (fun t => (∃ y, t.member? k.val = some y ∧ y.escStep = 3 ∧
    y.resets = m.resets + 1 ∧ y.step3Times = s.part.timeUs :: recent) ∧ .memberReset k.val 3 ∈ t.out ∧ t = { s.part with sched := t.sched, man := t.man, chains := t.chains, fn0 := t.fn0, fn1 := t.fn1, pools := t.pools, vols := t.vols, members := t.members, tow := t.tow, dict := t.dict, log := t.log, out := t.out })) ∧
  ((3 ≤ m.escStep ∨ (m.escStep = 2 ∧ 2 ≤ recent.length)) → m.state ∈ [2, 3, 5, 6, 7] → Runs (.escalationStepTimeout k) s (fun t =>
    (∃ y, t.member? k.val = some y ∧ y.state = 4 ∧ y.escStep = 0 ∧ y.outstanding = []) ∧ t = { s.part with sched := t.sched, man := t.man, chains := t.chains, fn0 := t.fn0, fn1 := t.fn1, pools := t.pools, vols := t.vols, members := t.members, tow := t.tow, dict := t.dict, log := t.log, out := t.out })) ∧
  (m.recentWrites = [] → m.state = 2 → Runs (.memberDeferred k none) s (fun t =>
    (∃ y, t.member? k.val = some y ∧ y.state = 3) ∧ t = { s.part with members := t.members, tow := t.tow, dict := t.dict, log := t.log, out := t.out })) ∧
  (∀ lba b u, b = (if m.info.format = 1 ∨ m.info.format = 2 ∨ m.info.format = 3 then lba / 8 else lba) →
    u = Machine.log 0x0E03 0 (leBytes 2 k.val ++ leBytes 8 b) s.part →
    (findStrip s.part k.val b = none → Runs (.memberDeferred k (some lba)) s (fun t => t = u)) ∧
    (∀ p g stripe i bo, findStrip s.part k.val b = some (p, g, stripe, i, bo) →
      ((s.part.entry? p.id stripe).isSome ∨ linkWaits s.part p g stripe = true → Runs (.memberDeferred k (some lba)) s (fun t =>
        (∀ x, t.pool? p.id = some x → stripe ∈ x.int.again) ∧ t = { u with pools := t.pools })) ∧
      (s.part.entry? p.id stripe = none → linkWaits s.part p g stripe = false → s.part.pool? p.id = some p → p.inIntent stripe = false →
        s.part.man.entries.length < maxEntries → (restoreBlock p g [(k.val, b)] stripe i bo u).blocks ≠ [] →
        Runs (.memberDeferred k (some lba)) s (fun t =>
          (∃ e, t.entry? p.id stripe = some e ∧ e.state = .through ∧ e.cls = 5 ∧ e.built = true) ∧ t = { s.part with sched := t.sched, man := t.man, chains := t.chains, fn0 := t.fn0, fn1 := t.fn1, pools := t.pools, vols := t.vols, members := t.members, tow := t.tow, dict := t.dict, log := t.log, out := t.out })))) ∧
  Runs (.depthRise k) s (fun t => t.member? k.val = some { m with workDepth := min m.depthLimit (m.workDepth + 1) } ∧
    t = { s.part with members := t.members })

/-- R203, R206, R208, R209 (08, Table 8.7): a member whose paths stayed down is ABSENT and its commands end; a SUSPECT one is
ACTIVE again once SUSPECT_CLEAR_H has passed, not before. An Operator fails a member in use, which its pool is asked to record,
clears a SUSPECT one, and returns an attached FAILED one to PRESENT, which the pool records unless the ordinal is relocated; in any other state the action is answered RULE. The
read-back of a cache gives MEMBER_WCE, and a setting that was unknown and differs is written. The next group of rotating
members is started; one not ready in time is started once more, then is ABSENT. -/
def Obligations.MemberStatesFollowTheirCauses : Prop := ∀ (q : Req) (k : MemberId) (s : State) (m : MemberSt),
  s.part.member? k.val = some m →
  (m.linkUp = true → Stays (.linkHoldExpire k) s) ∧
  (m.linkUp = false → m.state ∈ [1, 2, 3, 5, 6, 7] → Runs (.linkHoldExpire k) s (fun t =>
    (∃ y, t.member? k.val = some y ∧ y.state = 0 ∧ y.outstanding = [] ∧ y.waiting = []) ∧ t = { s.part with sched := t.sched, man := t.man, chains := t.chains, fn0 := t.fn0, fn1 := t.fn1, pools := t.pools, vols := t.vols, members := t.members, tow := t.tow, dict := t.dict, log := t.log, out := t.out })) ∧
  (∀ x, m.suspectEnd = some x →
    (m.state ≠ 3 ∨ s.part.timeUs < x → Stays (.suspectClear k) s) ∧
    (m.state = 3 → x ≤ s.part.timeUs → Runs (.suspectClear k) s (fun t =>
      t.member? k.val = some { m with state := 2 } ∧ t = { s.part with members := t.members, tow := t.tow, dict := t.dict, log := t.log, out := t.out }))) ∧
  (Allowed s.part q roleOperator none →
    (m.state ∉ [2, 3, 5, 6, 7] → Refused (.memberForceFailed q k) s stRule (ruleDetail 206 0)) ∧
    (m.state ∈ [2, 3, 5, 6, 7] → Runs (.memberForceFailed q k) s (fun t => t.answer = some stOk ∧
      (∃ y, t.member? k.val = some y ∧ y.state = 4 ∧ y.outstanding = [] ∧ y.waiting = []) ∧
      (∀ p o ps, s.part.poolOfMember k.val = some (p, o) → s.part.pool? p = some ps → AsksFor p ps (.memberState o 4) t) ∧
      t = { s.part with sched := t.sched, man := t.man, chains := t.chains, fn0 := t.fn0, fn1 := t.fn1, pools := t.pools, vols := t.vols, members := t.members, tow := t.tow, dict := t.dict, log := t.log, out := t.out })) ∧
    (m.state ≠ 3 → Refused (.memberClearSuspect q k) s stRule (ruleDetail 206 0)) ∧
    (m.state = 3 → Runs (.memberClearSuspect q k) s (fun t => t.answer = some stOk ∧
      t.member? k.val = some { m with state := 2 } ∧ t = { s.part with fn0 := t.fn0, fn1 := t.fn1, members := t.members, tow := t.tow, dict := t.dict, log := t.log, out := t.out })) ∧
    (m.state ≠ 4 ∨ m.linkUp = false → Refused (.memberReinstate q k) s stRule (ruleDetail 206 0)) ∧
    (m.state = 4 → m.linkUp = true → Runs (.memberReinstate q k) s (fun t => t.answer = some stOk ∧
      t.member? k.val = some { m with state := 1, presentAt := s.part.timeUs, registered := m.registered || (m.info.reservations &&
        (s.part.poolOfMember k.val).any (fun x => ((s.part.charter? x.1).map (·.paired)).getD false)) } ∧
      (∀ p o ps e, s.part.poolOfMember k.val = some (p, o) → s.part.pool? p = some ps → ps.charter.memberAt o = some e →
        relocState e.state = false → AsksFor p ps (.memberState o 1) t) ∧
      t = { s.part with fn0 := t.fn0, fn1 := t.fn1, pools := t.pools, members := t.members, tow := t.tow, dict := t.dict, log := t.log, out := t.out }))) ∧
  (∀ a, Runs (.memberWceConfirm k a) s (fun t => (∃ y, t.member? k.val = some y ∧ y.state = m.state ∧
      y.wce = (if a = .noCache ∨ a = .disabled then 0 else 1) ∧
      (m.wce = 2 → (a = .disabled ∧ cacheSetting s.part k.val = 1) ∨ (a = .enabled ∧ cacheSetting s.part k.val = 0) →
        ∃ c ∈ y.waiting, c.op = .cacheControl) ∧
      (m.wce = 2 → a = .enabled → cacheSetting s.part k.val = 0 → ∃ c ∈ y.waiting, c.op = .flushCache) ∧
      (y.wce = cacheSetting s.part k.val ∨ a = .noCache → ∀ f ∈ y.fleet, f.1 ≠ 0)) ∧
    t = { s.part with members := t.members, fleet := t.fleet })) ∧
  Runs .spinupGroup s (fun t => t.fabric = { s.part.fabric with spinQueue := s.part.fabric.spinQueue.filter (fun j => !(spinGroup s.part).contains j) } ∧
    (∀ j ∈ spinGroup s.part, ∀ y, t.member? j = some y → y.spun = 2 ∧ ∃ c ∈ y.waiting, c.op = .spinControl) ∧
    (∀ j, j ∉ spinGroup s.part → t.member? j = s.part.member? j) ∧
    t = { s.part with fabric := t.fabric, members := t.members }) ∧
  (m.spun ≠ 2 ∨ m.info.rotating = false → Stays (.spinupAllowExpire k) s) ∧
  (m.spun = 2 → m.info.rotating = true →
    (m.spinRetried = false → Runs (.spinupAllowExpire k) s (fun t => (∃ y, t.member? k.val = some y ∧ y.spinRetried = true ∧
      y.spun = 2 ∧ ∃ c ∈ y.waiting, c.op = .spinControl) ∧ t = { s.part with members := t.members })) ∧
    (m.spinRetried = true → m.state ∈ [1, 2, 3, 5, 6, 7] → Runs (.spinupAllowExpire k) s (fun t =>
      (∃ y, t.member? k.val = some y ∧ y.state = 0 ∧ y.spun = 0) ∧ t = { s.part with sched := t.sched, man := t.man, chains := t.chains, fn0 := t.fn0, fn1 := t.fn1, pools := t.pools, vols := t.vols, members := t.members, tow := t.tow, dict := t.dict, log := t.log, out := t.out })))

/-- R215, R216, R217, R221, R228 (09): a Custodian's KEK payload that its session's transport key opens to 32 bytes, under an id
that is not zero, not stored yet and for which an entry is free, is stored loaded in the lowest free entry; an unlocked KEK is
in its register; in both cases the slots of the volumes it serves start to load. Without a transport key the import is
answered PRIVILEGE, by a length of its own TYPE_LEN, with a core out of service, a bad root or a bad payload RULE. AUTOLOAD is
set on its entry alone. A KEK no pool names is erased alone, one that is named is not. Zeroising needs 5A3C96E1H and clears
every entry, register and slot. -/
def Obligations.KeysAreStoredAndErased : Prop := ∀ (q : Req) (payload id : Bytes) (e : Fin 64) (on : Bool) (v : BitVec 32) (s : State),
  Allowed s.part q roleCustodian none →
  (s.part.transportKey q.session = none → Refused (.kekImport q payload) s stPrivilege 0) ∧
  (∀ kt, s.part.transportKey q.session = some kt → id = payload.take 16 →
    (payload.length ≠ 56 → Refused (.kekImport q payload) s stTypeLen 0) ∧
    (payload.length = 56 →
      (s.part.toll.canUnwrap = false → Refused (.kekImport q payload) s stRule (ruleDetail 228 0)) ∧
      (s.part.toll.canUnwrap = true → s.part.toll.rootBad = true → Refused (.kekImport q payload) s stRule (ruleDetail 215 0)) ∧
      (s.part.toll.canUnwrap = true → s.part.toll.rootBad = false →
        (kwpUnwrap kt (payload.drop 16) = none → Runs (.kekImport q payload) s (fun t => Answers t stRule (ruleDetail 216 2) ∧
          t = { s.part with fn0 := t.fn0, fn1 := t.fn1, tow := t.tow, dict := t.dict, log := t.log, out := t.out })) ∧
        (∀ key, kwpUnwrap kt (payload.drop 16) = some key →
          (key.length ≠ 32 ∨ id = zeroId ∨ (s.part.kek? id).isSome ∨ s.part.freeKek = none →
            Refused (.kekImport q payload) s stRule (ruleDetail 216 2)) ∧
          (∀ n, key.length = 32 → id ≠ zeroId → s.part.kek? id = none → s.part.freeKek = some n →
            Runs (.kekImport q payload) s (fun t => t.answer = some stOk ∧
              t.toll.keks = s.part.toll.keks ++ [{ entry := n, id := id, key := key, autoload := false, loaded := true }] ∧
              (∀ w p cv, s.part.volume? w = some (p, cv) → p.charter.kekId = id → t.slotState w = 1) ∧
              t = { s.part with toll := t.toll, dict := t.dict, out := t.out, fn0 := t.fn0, fn1 := t.fn1 })))))) ∧
  (s.part.kek? id = none → Refused (.kekUnlock q id) s stRule (ruleDetail 217 0)) ∧
  (∀ k, s.part.kek? id = some k →
    (s.part.toll.rootBad = true → Refused (.kekUnlock q id) s stRule (ruleDetail 215 0)) ∧
    (s.part.toll.rootBad = false → s.part.toll.canUnwrap = false → Refused (.kekUnlock q id) s stRule (ruleDetail 228 0)) ∧
    (s.part.toll.rootBad = false → s.part.toll.canUnwrap = true → Runs (.kekUnlock q id) s (fun t => t.answer = some stOk ∧
      t.kekLoaded? id = some k.key ∧
      (∀ w p cv, s.part.volume? w = some (p, cv) → p.charter.kekId = id → t.slotState w = 1) ∧
      t = { s.part with toll := t.toll, dict := t.dict, out := t.out, fn0 := t.fn0, fn1 := t.fn1 }))) ∧
  Runs (.kekAutoload q e on) s (fun t => t.answer = some stOk ∧
    t.toll = { s.part.toll with keks := s.part.toll.keks.map (fun k => if k.entry = e.val then { k with autoload := on } else k) } ∧
    t = { s.part with toll := t.toll, dict := t.dict, out := t.out, fn0 := t.fn0, fn1 := t.fn1 }) ∧
  (kekNamed s.part id = true → Refused (.kekErase q id) s stRule (ruleDetail 221 0)) ∧
  (kekNamed s.part id = false → Runs (.kekErase q id) s (fun t => t.answer = some stOk ∧ t.kek? id = none ∧
    (∀ k ∈ s.part.toll.keks, k.id ≠ id → k ∈ t.toll.keks) ∧ t.toll = { s.part.toll with keks := t.toll.keks } ∧
    t = { s.part with toll := t.toll, dict := t.dict, out := t.out, fn0 := t.fn0, fn1 := t.fn1 })) ∧
  (v ≠ 0x5A3C96E1#32 → Refused (.tollgateZeroise q v) s stRange 0) ∧
  (v = 0x5A3C96E1#32 → Runs (.tollgateZeroise q v) s (fun t => t.answer = some stOk ∧
    t.toll = { s.part.toll with keks := [], slots := [], rekey := [] } ∧
    t = { s.part with toll := t.toll, dict := t.dict, out := t.out, fn0 := t.fn0, fn1 := t.fn1 }))

/-- R219, R225, R229 to R231 (09): a slot that is LOADING, none before it being so, takes the material its volume's wrap opens to, or UNWRAP_FAIL; one
whose check fails is emptied and loads again; a Custodian retries a load; without the KEK none loads. A pool moves to another
loaded KEK by one charter change with every key wrapped anew. A glitch counts and runs the self-test; the second within 1 s
leaves no key in a slot. A self-test retires the units it names; with no unit left or a bad generator the part is faulty.
Re-randomised shares hold the key they held. -/
def Obligations.SlotsAndSelfTests : Prop := ∀ (q : Req) (v : VolId) (p : PoolId) (id : Bytes) (s : State),
  (s.part.slotState v.val ≠ 1 ∨ (∃ x ∈ s.part.toll.slots, x.state = 1 ∧ x.id < v.val) → Stays (.slotLoad v) s) ∧
  (∀ ps cv, s.part.slotState v.val = 1 → (∀ x ∈ s.part.toll.slots, x.state = 1 → v.val ≤ x.id) → s.part.volume? v.val = some (ps, cv) →
    (s.part.kekLoaded? ps.charter.kekId = none → Runs (.slotLoad v) s (fun t => t.slot? v.val = none ∧
      t = { s.part with toll := t.toll })) ∧
    (∀ kek, s.part.kekLoaded? ps.charter.kekId = some kek → s.part.toll.canUnwrap = true →
      (∀ m, unwrapMaterial kek cv.wrapped = some m → Runs (.slotLoad v) s (fun t => t.slotState v.val = 2 ∧
        t.mainMaterial v.val = some m ∧ (∀ w, w ≠ v.val → t.slot? w = s.part.slot? w) ∧ t = { s.part with toll := t.toll })) ∧
      (unwrapMaterial kek cv.wrapped = none → Runs (.slotLoad v) s (fun t => t.slotState v.val = 3 ∧
        (∀ w, w ≠ v.val → t.slot? w = s.part.slot? w) ∧ t = { s.part with toll := t.toll, tow := t.tow, dict := t.dict, log := t.log, out := t.out })))) ∧
  (s.part.slotState v.val ≠ 2 → Stays (.slotCheckFail v) s) ∧
  (∀ ps cv, s.part.slotState v.val = 2 → s.part.volume? v.val = some (ps, cv) → Runs (.slotCheckFail v) s (fun t =>
    t.slotState v.val = (if s.part.toll.canUnwrap && (s.part.kekLoaded? ps.charter.kekId).isSome then 1 else 0) ∧
    t.mainMaterial v.val = none ∧ t = { s.part with toll := t.toll, tow := t.tow, dict := t.dict, log := t.log, out := t.out })) ∧
  (Allowed s.part q roleCustodian none →
    (s.part.volume? v.val = none → Refused (.slotReload q v) s stRule (ruleDetail 219 0)) ∧
    (∀ ps cv, s.part.volume? v.val = some (ps, cv) →
      ((s.part.toll.canUnwrap && (s.part.kekLoaded? ps.charter.kekId).isSome) = false →
        Refused (.slotReload q v) s stRule (ruleDetail 219 0)) ∧
      ((s.part.toll.canUnwrap && (s.part.kekLoaded? ps.charter.kekId).isSome) = true → Runs (.slotReload q v) s (fun t =>
        t.answer = some stOk ∧ t.slotState v.val = 1 ∧
        t = { s.part with toll := t.toll, dict := t.dict, out := t.out, fn0 := t.fn0, fn1 := t.fn1 }))) ∧
    (∀ ps, s.part.pool? p.val = some ps → ps.life ≠ 0 →
      (s.part.kekLoaded? id = none → Refused (.poolKekRotate q p id) s stRule (ruleDetail 231 1)) ∧
      (∀ new, s.part.kekLoaded? id = some new →
        (ps.latest.cross ≠ none → Refused (.poolKekRotate q p id) s stRule (ruleDetail 231 2)) ∧
        (∀ wraps, ps.latest.cross = none → ps.owned = true → s.part.toll.canUnwrap = true →
          (s.part.kekLoaded? ps.latest.kekId).bind (fun old => rewraps old new ps.latest.vols) = some wraps →
          Runs (.poolKekRotate q p id) s (fun t => t.answer = some (if ps.changing then stPending else stOk) ∧
            AsksFor p.val ps (.kek id wraps) t ∧ t = { s.part with fn0 := t.fn0, fn1 := t.fn1, pools := t.pools, dict := t.dict, out := t.out }))))) ∧
  (∀ g, Runs (.glitchTrip g) s (fun t => t.toll.glitchTrips = s.part.toll.glitchTrips + 1 ∧
    t.toll.lastGlitch = some s.part.timeUs ∧ t.toll.lastTest = 0 ∧
    (∀ x, s.part.toll.lastGlitch = some x → s.part.timeUs < x + sec 1 → ∀ w, t.mainMaterial w = none ∧ t.rekeyMaterial w = none) ∧
    ((∀ x, s.part.toll.lastGlitch = some x → x + sec 1 ≤ s.part.timeUs) →
      t.toll.slots = s.part.toll.slots ∧ t.toll.keks = s.part.toll.keks) ∧ t = { s.part with sched := t.sched, fn0 := t.fn0, fn1 := t.fn1, pools := t.pools, toll := t.toll, pair := t.pair, tow := t.tow, dict := t.dict, log := t.log, out := t.out })) ∧
  (Allowed s.part q roleOperator none → ∀ failed, Runs (.selftestNow q failed) s (fun t => t.answer = some stOk ∧
    t.toll.lastTest = failed ∧ t.toll.lastTime = s.part.timeUs ∧
    (∀ u, u ∈ t.toll.retired ↔ u ∈ s.part.toll.retired ∨ (u < 51 ∧ failed.getLsbD u = true)) ∧
    t.toll.drbgGood = (s.part.toll.drbgGood && !failed.getLsbD 51) ∧ t.toll.rootBad = (s.part.toll.rootBad || failed.getLsbD 52) ∧
    (t.toll.faulty = true → t.sched.faulty = true) ∧ t = { s.part with sched := t.sched, fn0 := t.fn0, fn1 := t.fn1, pools := t.pools, toll := t.toll, pair := t.pair, tow := t.tow, dict := t.dict, log := t.log, out := t.out })) ∧
  Runs (.drbgReseed true) s (fun t => t = { s.part with toll := { s.part.toll with reseeds := s.part.toll.reseeds + 1 } }) ∧
  Runs (.drbgReseed false) s (fun t => t.toll = { s.part.toll with reseeds := s.part.toll.reseeds + 1, drbgGood := false } ∧
    t.sched.faulty = true ∧ t = { s.part with sched := t.sched, fn0 := t.fn0, fn1 := t.fn1, pools := t.pools, toll := t.toll, pair := t.pair, tow := t.tow, dict := t.dict, log := t.log, out := t.out }) ∧
  Runs (.shareRerandomise v) s (fun t => (∀ w, t.mainMaterial w = s.part.mainMaterial w ∧ t.slotState w = s.part.slotState w) ∧
    (∀ x, s.part.slot? v.val = some x → x.state = 2 → t.slot? v.val = some { x with rerandoms := x.rerandoms + 1 }) ∧
    t = { s.part with toll := t.toll })

/-- R246, R251, R252, R254, R255, R286, R289 (10, 11): when Bus Master Enable is cleared, every chain of the function in use is
halted with 80H, one halted before keeps its code, and a command is then done, placed, landed or abandoned; the other
function's chains are as they were. Setting it again sends the pending messages of the vectors that may send and starts no
chain. An FLR does the same, returns the function to its reset values but for the fields R254 keeps, clears its chains'
configuration and ends its mailbox's sessions; a port reset takes the link down too; 100 ms later the function answers again. A
trained link is recorded with its width and rate. -/
def Obligations.FunctionsLoseTheBusAndReset : Prop := ∀ (f : Fn) (width rate : Nat) (flit : Bool) (s : State) (x : FnSt),
  s.part.fn f = x →
  (∀ P : Part → Prop, P = (fun t => (∀ c ∈ s.part.liveChains f,
      (t.chain c).st = .halted ∧ ((s.part.chain c).st ≠ .halted → (t.chain c).halt = 0x80) ∧
      ((s.part.chain c).st = .halted → (t.chain c).halt = (s.part.chain c).halt) ∧
      ∀ y ∈ (t.chain c).cmds, y.phase ∈ [.done, .placed, .landed, .through, .abandoned])) →
    Runs (.bmeClear f) s (fun t => P t ∧ (t.fn f).bme = false ∧ (∀ c, s.part.chainFn c ≠ f → t.chain c = s.part.chain c) ∧
      t = { s.part with man := t.man, chains := t.chains, fn0 := t.fn0, fn1 := t.fn1, tow := t.tow, dict := t.dict, log := t.log, out := t.out }) ∧
    (∀ Q : FnSt → Part → Prop, Q = (fun y t => P t ∧ t.fn f = y ∧ (∀ z ∈ t.dict.sessions, z.transport ≠ mbxOf f) ∧
        ∀ c ∈ t.chains, t.chainFn c.id = f → c.regBase = 0 ∧ c.regCfg = 0x1F000004 ∧ c.regSeq = 0) →
      Runs (.flr f) s (fun t => Q (flrFn (s.part.chainFirst f) s.part.peerBar x) t ∧ t = { s.part with man := t.man, chains := t.chains, fn0 := t.fn0, fn1 := t.fn1, tow := t.tow, dict := t.dict, log := t.log, out := t.out }) ∧
      Runs (.portReset f) s (fun t =>
        Q { flrFn (s.part.chainFirst f) s.part.peerBar x with linkUp := false, width := 0, rate := 0, flit := false } t ∧
        t = { s.part with man := t.man, chains := t.chains, fn0 := t.fn0, fn1 := t.fn1, tow := t.tow, dict := t.dict, log := t.log, out := t.out }))) ∧
  Runs (.bmeSet f) s (fun t => (x.msixOn = true → x.fnMask = false →
      t.out = s.part.out ++ (x.pba.filter (fun v => x.unmasked.contains v)).map (fun v => .msix f v) ∧
      t.fn f = { x with bme := true, pba := x.pba.filter (fun v => !x.unmasked.contains v) }) ∧
    (x.msixOn = false ∨ x.fnMask = true → t.out = s.part.out ∧ t.fn f = { x with bme := true }) ∧
    (∀ g, g ≠ f → t.fn g = s.part.fn g) ∧ t = { s.part with fn0 := t.fn0, fn1 := t.fn1, out := t.out }) ∧
  (x.linkUp = false → Stays (.flrComplete f) s) ∧
  (x.linkUp = true → Runs (.flrComplete f) s (fun t => t.fn f = { x with retry := false } ∧
    (∀ g, g ≠ f → t.fn g = s.part.fn g) ∧ t = { s.part with fn0 := t.fn0, fn1 := t.fn1 })) ∧
  Runs (.hostLinkUp f width rate flit) s (fun t =>
    t.fn f = { x with linkUp := true, width := width, rate := rate, flit := flit || rate == 6, retry := false, perst := false } ∧
    (∀ g, g ≠ f → t.fn g = s.part.fn g) ∧ t = { s.part with fn0 := t.fn0, fn1 := t.fn1, tow := t.tow, dict := t.dict, log := t.log, out := t.out })

/-- R245, R246, R248 (10): a write to EVENT_CAUSE clears the bits written that are not renewed; a renewed one stays, loses its
mark and is signalled again when enabled; a read clears the marks. Completions accumulated on a vector are reported at its
timeout and counted anew. A message leaves when its vector may send, else its pending bit is set; it is sent when the vector,
the function mask or MSI-X itself is unmasked. -/
def Obligations.EventsAreSignalled : Prop := ∀ (f : Fn) (w : BitVec 32) (v : Vec) (u : Unmask) (s : State) (x : FnSt) (can : Nat → Bool),
  s.part.fn f = x → can = (fun n => x.msixOn && !x.fnMask && x.unmasked.contains n && x.bme) →
  (∀ again, again = w &&& x.renewed → Runs (.eventCauseWrite f w) s (fun t =>
    (t.fn f).cause = x.cause &&& ~~~(w &&& ~~~again) ∧ (t.fn f).renewed = x.renewed &&& ~~~again ∧ (t.fn f).enable = x.enable ∧
    (again &&& x.enable = 0 → t.out = s.part.out ∧ (t.fn f).pba = x.pba) ∧
    (again &&& x.enable ≠ 0 → (can 0 = true → t.out = s.part.out ++ [.msix f 0]) ∧
      (can 0 = false → t.out = s.part.out ∧ 0 ∈ (t.fn f).pba)) ∧
    (∀ g, g ≠ f → t.fn g = s.part.fn g) ∧ t = { s.part with fn0 := t.fn0, fn1 := t.fn1, out := t.out })) ∧
  Runs (.eventCauseRead f) s (fun t => t.fn f = { x with renewed := 0 } ∧ (∀ g, g ≠ f → t.fn g = s.part.fn g) ∧
    t = { s.part with fn0 := t.fn0, fn1 := t.fn1 }) ∧
  (alGet v.val x.modCount = none → Stays (.moderationTimeout f v) s) ∧
  (alGet v.val x.modCount ≠ none → Runs (.moderationTimeout f v) s (fun t => (t.fn f).modCount = alDel v.val x.modCount ∧
    (can v.val = true → t.out = s.part.out ++ [.msix f v.val] ∧ (t.fn f).pba = x.pba) ∧
    (can v.val = false → t.out = s.part.out ∧ v.val ∈ (t.fn f).pba) ∧
    (∀ g, g ≠ f → t.fn g = s.part.fn g) ∧ t = { s.part with fn0 := t.fn0, fn1 := t.fn1, out := t.out })) ∧
  (∀ y, y = unmaskFn u x → Runs (.msixVectorUnmask f u) s (fun t =>
    (y.msixOn = true → y.fnMask = false → y.bme = true →
      t.out = s.part.out ++ (y.pba.filter (fun n => y.unmasked.contains n)).map (fun n => .msix f n) ∧
      t.fn f = { y with pba := y.pba.filter (fun n => !y.unmasked.contains n) }) ∧
    (y.msixOn = false ∨ y.fnMask = true ∨ y.bme = false → t.out = s.part.out ∧ t.fn f = y) ∧
    (∀ g, g ≠ f → t.fn g = s.part.fn g) ∧ t = { s.part with fn0 := t.fn0, fn1 := t.fn1, out := t.out }))

/-- R237, R238, R257 to R260 (10): a commit of good windows is latched, a bad one names its window, one behind another waits;
a swap puts the latched windows in force together and counts. A request to BAR4 that lies wholly in an active window allowed
for it reads, or stores, exactly its bytes of the peer buffer area; outside the windows a read is unsupported and a write is
dropped, counted and signalled; beyond the BAR it is the fault the model names. A ROM write is counted. BAR4 takes a new size
while Memory Space Enable is clear, and only the windows that no longer fit are disabled. -/
def Obligations.PeerWindowsServe : Prop := ∀ (f : Fn) (w : BitVec 32) (off len g : Nat) (data : Bytes) (s : State) (x : FnSt),
  s.part.fn f = x →
  (w ≠ 1 → Stays (.winCommit f w) s) ∧
  (∀ y, (w = 1 ∧ ((x.latched ≠ none ∧ y = { x with waitingCommits := x.waitingCommits ++ [x.shadow] }) ∨
      (∃ n, x.latched = none ∧ badWindow x.bar4Gib s.part.sched.peerMib x.shadow = some n ∧ y = { x with lastResult := 2, badWindow := n }) ∨
      (x.latched = none ∧ badWindow x.bar4Gib s.part.sched.peerMib x.shadow = none ∧ y = { x with latched := some x.shadow }))) →
    Runs (.winCommit f w) s (fun t => t.fn f = y ∧ (∀ g, g ≠ f → t.fn g = s.part.fn g) ∧
      t = { s.part with fn0 := t.fn0, fn1 := t.fn1 })) ∧
  (x.latched = none → Stays (.winSwap f) s) ∧
  (∀ ws, x.latched = some ws → Runs (.winSwap f) s (fun t => (t.fn f).active = ws ∧ (t.fn f).commits = x.commits + 1 ∧
    (x.waitingCommits = [] → t.fn f = { x with active := ws, latched := none, lastResult := 1, commits := x.commits + 1 }) ∧
    (∀ g, g ≠ f → t.fn g = s.part.fn g) ∧ t = { s.part with fn0 := t.fn0, fn1 := t.fn1 })) ∧
  (x.bar4Gib * gib < off + len → exec (.bar4Tlp f (.read off len)) s = .fault (.outsideBar 4 off)) ∧
  (x.bar4Gib * gib < off + data.length → exec (.bar4Tlp f (.write off data)) s = .fault (.outsideBar 4 off)) ∧
  (off + len ≤ x.bar4Gib * gib →
    (servingWindow x s.part.sched.peerMib off len false = none → Runs (.bar4Tlp f (.read off len)) s (fun t =>
      t = { s.part with out := s.part.out ++ [.unsupported f false] })) ∧
    (∀ win, servingWindow x s.part.sched.peerMib off len false = some win → Runs (.bar4Tlp f (.read off len)) s (fun t =>
      ∃ bs, t = { s.part with out := s.part.out ++ [.peerData f bs] } ∧ bs.length = len ∧
        ∀ i, i < len → bs[i]? = some (Memory.read s.peerMem (win.target + (off - win.base) + i))))) ∧
  (off + data.length ≤ x.bar4Gib * gib →
    (servingWindow x s.part.sched.peerMib off data.length true = none → Runs (.bar4Tlp f (.write off data)) s (fun t =>
      (t.fn f).winDrops = x.winDrops + 1 ∧ (t.fn f).cause.getLsbD 4 = true ∧ .unsupported f true ∈ t.out ∧ t = { s.part with fn0 := t.fn0, fn1 := t.fn1, out := t.out })) ∧
    (∀ win, servingWindow x s.part.sched.peerMib off data.length true = some win → ∃ pm,
      exec (.bar4Tlp f (.write off data)) s = .next { s with peerMem := pm } ∧
      (∀ i b, data[i]? = some b → Memory.read pm (win.target + (off - win.base) + i) = b) ∧
      ∀ a, (a < win.target + (off - win.base) ∨ win.target + (off - win.base) + data.length ≤ a) →
        Memory.read pm a = Memory.read s.peerMem a)) ∧
  Runs (.romWrite f) s (fun t => t.fn f = { x with romDrops := x.romDrops + 1 } ∧ (∀ g, g ≠ f → t.fn g = s.part.fn g) ∧
    t = { s.part with fn0 := t.fn0, fn1 := t.fn1 }) ∧
  (x.mse = true ∨ g ∉ [1, 2, 4, 8, 16, 32, 64] → Stays (.bar4Resize f g) s) ∧
  (x.mse = false → g ∈ [1, 2, 4, 8, 16, 32, 64] → Runs (.bar4Resize f g) s (fun t => (t.fn f).bar4Gib = g ∧
    (∀ (i : Nat) (win : Window), x.active[i]? = some win → (t.fn f).active[i]? = some (if win.enabled && decide (g * gib < win.base + win.size) then { win with size := 0 } else win)) ∧
    t.fn f = { x with bar4Gib := g, active := (t.fn f).active } ∧ (∀ h, h ≠ f → t.fn h = s.part.fn h) ∧ t = { s.part with fn0 := t.fn0, fn1 := t.fn1, tow := t.tow, dict := t.dict, log := t.log, out := t.out }))

/-- R9, R237, R245, R257, R262, R286, Table 10.14 (10, 11): each error of a host port is reported with its severity; a failed
data read ends its write with HOST_READ_ERROR and nothing of it held, a failed descriptor fetch halts its chain with 81H, a
fatal one resets the port. A write of a whole register sets that register of the function: EVENT_ENABLE within its defined
bits, a window's shadow, the selected chain and its configuration, moderation, a byte of the mailbox, Memory Space Enable; BAR2
holds none; an access outside its BAR is the fault the model names. -/
def Obligations.PortErrorsAndRegisterWrites : Prop := ∀ (f : Fn) (c : ChainId) (h : BitVec 32) (value : BitVec 64) (s : State) (x : FnSt),
  s.part.fn f = x →
  (∀ e o, (e = .correctable ∧ o = Output.aer f 0) ∨ (e = .correctedInternal ∧ o = Output.aer f 0) ∨ (e = .poisonedRequest true ∧ o = Output.aer f 1) ∨
      (e = .internal ∧ o = Output.aer f 2) ∨ (e = .outsideWindow false ∧ o = Output.unsupported f false) →
    Runs (.hostPortError f e) s (fun t => t = { s.part with out := s.part.out ++ [o] })) ∧
  Runs (.hostPortError f (.poisonedRequest false)) s (fun t => t = { s.part with out := s.part.out ++ [.aer f 1, .unsupported f false] }) ∧
  Runs (.hostPortError f (.outsideWindow true)) s (fun t => (t.fn f).winDrops = x.winDrops + 1 ∧ t = { s.part with fn0 := t.fn0, fn1 := t.fn1, out := t.out }) ∧
  Runs (.hostPortError f .fatal) s (fun t => .aer f 2 ∈ t.out ∧
    t.fn f = { flrFn (s.part.chainFirst f) s.part.peerBar x with linkUp := false, width := 0, rate := 0, flit := false } ∧
    t = { s.part with man := t.man, chains := t.chains, fn0 := t.fn0, fn1 := t.fn1, tow := t.tow, dict := t.dict, log := t.log, out := t.out }) ∧
  (∀ adv,
    ((s.part.chain c.val).fetchDb ≠ none → Runs (.hostPortError f (.descFetch adv c)) s (fun t =>
      (t.chain c.val).st = .halted ∧ (t.chain c.val).halt = 0x81 ∧ (t.chain c.val).fetchDb = none ∧ t = { s.part with chains := t.chains, fn0 := t.fn0, fn1 := t.fn1, tow := t.tow, dict := t.dict, log := t.log, out := t.out })) ∧
    (∀ y, landable s.part c.val h = some y → dOpcode y.desc = 2 →
      (∀ z ∈ (s.part.chain c.val).cmds, z.phase = .admitted → dOpcode z.desc ≠ 0x11) →
      Runs (.hostPortError f (.dataRead adv c h)) s (fun t => Completed c.val h 0x22 0 s.part t ∧
        t.man.held = s.part.man.held ∧ t = { s.part with man := t.man, chains := t.chains, fn0 := t.fn0, fn1 := t.fn1, vols := t.vols, out := t.out }))) ∧
  (∀ off y, (off = 0x14 ∧ y = { x with enable := BitVec.ofNat 32 (value.toNat % 2 ^ 32) &&& 0x1F }) ∨
      (off = 0x3000 ∧ y = { x with chainSel := value.toNat % 2 ^ 32 }) ∨
      (∃ e, e < 2048 ∧ off = 0x19000 + 4 * e ∧ y = { x with moder := alSet e (BitVec.ofNat 32 (value.toNat % 2 ^ 18)) x.moder }) →
    Runs (.registerWrite f 0 off 4 value) s (fun t => t.fn f = y ∧ (∀ g, g ≠ f → t.fn g = s.part.fn g) ∧
      t = { s.part with fn0 := t.fn0, fn1 := t.fn1 })) ∧
  (∀ (n : Nat) (win : Window), n < 8 → x.shadow[n]? = some win → win.size < 2 ^ 64 → win.target < 2 ^ 64 → Runs (.registerWrite f 0 (0x1000 + 32 * n) 8 value) s (fun t =>
    (t.fn f).shadow[n]? = some { win with base := value.toNat } ∧
    (∀ m : Nat, m ≠ n → (t.fn f).shadow[m]? = x.shadow[m]?) ∧ t.fn f = { x with shadow := (t.fn f).shadow } ∧
    (∀ g, g ≠ f → t.fn g = s.part.fn g) ∧ t = { s.part with fn0 := t.fn0, fn1 := t.fn1 })) ∧
  (s.part.selected f = some c.val → Runs (.registerWrite f 0 0x3008 8 value) s (fun t =>
    t.chain c.val = { s.part.chain c.val with regBase := value } ∧ (∀ d, d ≠ c.val → t.chain d = s.part.chain d) ∧
    t = { s.part with chains := t.chains })) ∧
  (∀ a, a < 0x1F00 → Runs (.registerWrite f 0 (0x4100 + a) 1 value) s (fun t =>
    t.fn f = { x with mbxReq := alSet a (BitVec.ofNat 8 value.toNat) x.mbxReq } ∧ (∀ g, g ≠ f → t.fn g = s.part.fn g) ∧
    t = { s.part with fn0 := t.fn0, fn1 := t.fn1 })) ∧
  (x.retry = true → ∀ off size, off + size ≤ 0x1000 → Stays (.registerWrite f configBar off size value) s) ∧
  (x.retry = false → Runs (.registerWrite f configBar 0x04 2 value) s (fun t => (t.fn f).mse = value.getLsbD 1 ∧ (t.fn f).d0 = x.d0 ∧
    (t.fn f).msixOn = x.msixOn ∧ (∀ g, g ≠ f → t.fn g = s.part.fn g) ∧ t = { s.part with fn0 := t.fn0, fn1 := t.fn1, out := t.out })) ∧
  (∀ off size, off + size ≤ 0x100000 → Stays (.registerWrite f 2 off size value) s) ∧
  (∀ bar off size, (bar = 0 ∨ bar = 2) → 0x100000 < off + size →
    exec (.registerWrite f bar off size value) s = .fault (.outsideBar bar off))

/-- R234, R263, R264, R282 to R284, R286, R289, R290 (10, 11): a doorbell of a wrong size does nothing, one through the other
function, on a chain that takes none, or behind FETCH_SEQ is counted; one ahead moves DB_SEQ, acts at once on a chain that
fetches and is kept for later on one that does not; one further ahead than the ring halts the chain with 82H. A chain that
competes gets a descriptor read when a slot is free, or it is its turn. The descriptors that return are accepted in slot order
and hold the chain's vector; the chain then runs, parks, or halts with 83H on a wrong sequence and with 82H when a doorbell
was ahead. -/
def Obligations.DoorbellsAndFetches : Prop := ∀ (f : Fn) (c : ChainId) (size : Nat) (tail : BitVec 32) (slots : List (BitVec 512))
    (s : State) (ch : ChainSt), s.part.chain c.val = ch →
  (size ≠ 4 → size ≠ 8 → Stays (.doorbell f c size tail) s) ∧
  (size = 4 ∨ size = 8 →
    (∀ y, (s.part.chainFn c.val ≠ f ∧ y = { ch with foreignDb := ch.foreignDb + 1 }) ∨
        (s.part.chainFn c.val = f ∧ ch.st = .disabled ∧ y = { ch with ignDb := ch.ignDb + 1 }) ∨
        (s.part.chainFn c.val = f ∧ ch.st = .halted ∧
          y = { ch with dbSeq := if ahead tail ch.dbSeq then tail else ch.dbSeq, ignDb := ch.ignDb + 1 }) ∨
        (s.part.chainFn c.val = f ∧ ch.st ≠ .disabled ∧ ch.st ≠ .halted ∧ ahead ch.fetchSeq tail = true ∧
          y = { ch with ignDb := ch.ignDb + 1 }) ∨
        (s.part.chainFn c.val = f ∧ (ch.st = .paused ∨ ch.st = .draining ∨ (ch.st ≠ .disabled ∧ ch.st ≠ .halted ∧ fetchStopped s.part = true)) ∧
          ahead ch.fetchSeq tail = false ∧ y = { ch with dbSeq := if ahead tail ch.dbSeq then tail else ch.dbSeq }) →
      Runs (.doorbell f c size tail) s (fun t => t.chain c.val = y ∧ (∀ d, d ≠ c.val → t.chain d = s.part.chain d) ∧
        t = { s.part with chains := t.chains })) ∧
    (s.part.chainFn c.val = f → (ch.st = .running ∨ ch.st = .parked) → ahead ch.fetchSeq tail = false → fetchStopped s.part = false →
      (ch.tooFar tail = true → Runs (.doorbell f c size tail) s (fun t => (t.chain c.val).st = .halted ∧ (t.chain c.val).halt = 0x82 ∧
        (t.chain c.val).dbSeq = ch.dbSeq ∧ t = { s.part with chains := t.chains, fn0 := t.fn0, fn1 := t.fn1, tow := t.tow, dict := t.dict, log := t.log, out := t.out })) ∧
      (ch.tooFar tail = false → Runs (.doorbell f c size tail) s (fun t => (t.chain c.val).st = ch.st ∧
        (t.chain c.val).dbSeq = (if ahead tail ch.dbSeq then tail else ch.dbSeq) ∧
        (ch.st = .parked → ch.fetchDb = none → (t.chain c.val).refetchDue = true) ∧
        (∀ d, d ≠ c.val → t.chain d = s.part.chain d) ∧ t = { s.part with chains := t.chains, tow := t.tow })))) ∧
  (∀ comp free, comp = s.part.chains.filter (competes s.part f) → free = maxReads - readsOut s.part f →
    (competes s.part f ch = false ∨ free = 0 ∨ (free < comp.length ∧ hasTurn s.part f ch comp = false) → Stays (.fetchGrant f c) s) ∧
    (competes s.part f ch = true → free ≠ 0 → (comp.length ≤ free ∨ hasTurn s.part f ch comp = true) → Runs (.fetchGrant f c) s (fun t =>
      (t.chain c.val).fetchDb = some ch.dbSeq ∧ (t.chain c.val).fetchN = ch.fetchCount ∧ (t.chain c.val).refetchDue = false ∧
      (t.chain c.val).st = ch.st ∧
      t.out = s.part.out ++ [.descRead f c.val ((ch.ringBase.toNat + 64 * ch.slotOf ch.fetchFrom) % 2 ^ 64) ch.fetchCount] ∧
      t = { s.part with chains := t.chains, fn0 := t.fn0, fn1 := t.fn1, out := t.out }))) ∧
  (ch.fetchDb = none → ch.fetchLost = false → Stays (.descriptorFetch c slots) s) ∧
  (ch.fetchDb = none → ch.fetchLost = true → Runs (.descriptorFetch c slots) s (fun t => (t.chain c.val).fetchLost = false ∧
    (t.fn (s.part.chainFn c.val)).bmeDiscards = (s.part.fn (s.part.chainFn c.val)).bmeDiscards + 1 ∧
    t = { s.part with chains := t.chains, fn0 := t.fn0, fn1 := t.fn1 })) ∧
  (∀ issued, ch.fetchDb = some issued →
    (slots.length < ch.fetchN → Stays (.descriptorFetch c slots) s) ∧
    (∀ x e, ch.fetchN ≤ slots.length → readSlots (slots.take ch.fetchN) ch = (x, e) →
      (e = .more → Runs (.descriptorFetch c slots) s (fun t =>
        t.chain c.val = { x with fetchDb := none, st := .running, onTail := false } ∧ t = { s.part with chains := t.chains })) ∧
      (∀ tl, e = .park tl → ahead issued x.fetchSeq = false → Runs (.descriptorFetch c slots) s (fun t =>
        (t.chain c.val).st = .parked ∧ (t.chain c.val).onTail = tl ∧ (t.chain c.val).cmds = x.cmds ∧
        (t.chain c.val).fetchSeq = x.fetchSeq ∧ (t.chain c.val).parkSeq = (if tl then x.fetchSeq else x.fetchSeq + 1) ∧
        t = { s.part with chains := t.chains })) ∧
      ((e = .badSeq ∨ ∃ tl, e = .park tl ∧ ahead issued x.fetchSeq = true) → Runs (.descriptorFetch c slots) s (fun t =>
        (t.chain c.val).st = .halted ∧ (t.chain c.val).halt = (if e = .badSeq then 0x83 else 0x82) ∧ (t.chain c.val).cmds = x.cmds ∧
        t = { s.part with chains := t.chains, fn0 := t.fn0, fn1 := t.fn1, tow := t.tow, dict := t.dict, log := t.log, out := t.out }))) ∧
    (∀ d : BitVec 512, ch.st = .running → ch.fetchN = 1 → slots = [d] → dOwn d = true → dHseq d = ch.fetchSeq + 1 → dEoc d = false →
      Runs (.descriptorFetch c slots) s (fun t => (t.chain c.val).fetchSeq = dHseq d ∧ (t.chain c.val).st = .running ∧
        ∃ y, (t.chain c.val).cmds = ch.cmds ++ [y] ∧ y.hseq = dHseq d ∧ y.desc = d ∧ y.phase = .accepted ∧ y.vector = ch.vector)))

/-- R286, R288, R289, Table 11.7 (11): a chain command while one is held is ignored; one for no chain of the function ends
with reason 4, during a warm reset with 5, during the freeze it is held. ENABLE takes the configuration in force for a ring of
an allowed size and alignment and parks a disabled chain with nothing fetched; PAUSE and DRAIN stop fetching; RESUME lets the
chain go on unless its doorbell lies too far ahead; RESET of a stopped chain with nothing in flight disables it and ends its
transactions. Refused they end with the reason of Table 11.7 and nothing else. A drained chain reads PAUSED. A value not in
the table ends with reason 6. -/
def Obligations.ChainCommandsTakeEffect : Prop := ∀ (f : Fn) (c : ChainId) (v : BitVec 32) (s : State) (x : FnSt) (ch : ChainSt)
    (R : Nat → Part → Prop),
  s.part.fn f = x → s.part.chain c.val = ch →
  R = (fun reason t => t.fn f = { x with cmdBusy := false, cmdResult := if reason = 0 then 1 else 2, cmdReason := reason } ∧
    (∀ g, g ≠ f → t.fn g = s.part.fn g)) →
  (∀ i code, (i, code) ∈ [(Instr.enable f, 1), (.pause f, 2), (.drain f, 3), (.resume f, 4), (.reset f, 5)] ∨
      (i = .unknownChainCmd f v ∧ code = v.toNat ∧ (code < 1 ∨ 5 < code)) →
    (x.cmdBusy = true → Stays i s) ∧
    (x.cmdBusy = false → s.part.selected f = none → Runs i s (fun t => R 4 t ∧ t = { s.part with fn0 := t.fn0, fn1 := t.fn1 })) ∧
    (x.cmdBusy = false → s.part.selected f = some c.val →
      (s.part.sched.resetting = true → Runs i s (fun t => R 5 t ∧ t = { s.part with fn0 := t.fn0, fn1 := t.fn1 })) ∧
      (s.part.sched.resetting = false → s.part.sched.frozen = true → Runs i s (fun t =>
        t.fn f = { x with cmdBusy := true, cmdHeld := some (c.val, code) } ∧ t = { s.part with fn0 := t.fn0, fn1 := t.fn1 })))) ∧
  (1 ≤ v.toNat → v.toNat ≤ 5 → Stays (.unknownChainCmd f v) s) ∧
  (x.cmdBusy = false → s.part.selected f = some c.val → s.part.sched.resetting = false → s.part.sched.frozen = false →
    (∀ i reason, (i = .enable f ∧ ch.st ≠ .disabled ∧ reason = 1) ∨
        (i = .enable f ∧ ch.st = .disabled ∧ (ch.regSize < 4 ∨ 16 < ch.regSize ∨ ch.regBase.toNat % 4096 ≠ 0) ∧ reason = 3) ∨
        (i = .pause f ∧ ch.st ≠ .running ∧ ch.st ≠ .parked ∧ reason = 1) ∨
        (i = .drain f ∧ ch.st ≠ .running ∧ ch.st ≠ .parked ∧ ch.st ≠ .paused ∧ reason = 1) ∨
        (i = .resume f ∧ ch.st ≠ .paused ∧ reason = 1) ∨
        (i = .reset f ∧ ch.st ≠ .disabled ∧ ch.st ≠ .paused ∧ ch.st ≠ .halted ∧ reason = 1) ∨
        (i = .reset f ∧ (ch.st = .disabled ∨ ch.st = .paused ∨ ch.st = .halted) ∧ ch.inflight ≠ 0 ∧ reason = 2) ∨
        (i = .unknownChainCmd f v ∧ (v.toNat < 1 ∨ 5 < v.toNat) ∧ reason = 6) →
      Runs i s (fun t => R reason t ∧ t = { s.part with fn0 := t.fn0, fn1 := t.fn1 })) ∧
    (ch.st = .disabled → 4 ≤ ch.regSize → ch.regSize ≤ 16 → ch.regBase.toNat % 4096 = 0 → Runs (.enable f) s (fun t => R 0 t ∧
      (t.chain c.val).st = .parked ∧ (t.chain c.val).ringBase = ch.regBase ∧ (t.chain c.val).sizeLog2 = ch.regSize ∧
      (t.chain c.val).seqBase = ch.regSeq ∧ (t.chain c.val).fetchSeq = ch.regSeq - 1 ∧ (t.chain c.val).dseq = ch.regSeq - 1 ∧
      (t.chain c.val).dbSeq = ch.regSeq - 1 ∧ (t.chain c.val).refetchDue = true ∧ (t.chain c.val).cmds = [] ∧
      (t.chain c.val).txs = [] ∧ t = { s.part with chains := t.chains, fn0 := t.fn0, fn1 := t.fn1 })) ∧
    (∀ i st, (i = .pause f ∧ st = ChainState.paused) ∨ (i = .drain f ∧ st = .draining) → (ch.st = .running ∨ ch.st = .parked) →
      Runs i s (fun t => R 0 t ∧
        t.chain c.val = { ch with st := st, fetchDb := none, refetchDue := false, wasParked := ch.st == .parked } ∧
        t = { s.part with chains := t.chains, fn0 := t.fn0, fn1 := t.fn1 })) ∧
    (ch.st = .paused → Runs (.drain f) s (fun t => R 0 t ∧ t.chain c.val = { ch with st := .draining } ∧
      t = { s.part with chains := t.chains, fn0 := t.fn0, fn1 := t.fn1 })) ∧
    (ch.st = .paused → ch.tooFar ch.dbSeq = false → Runs (.resume f) s (fun t => R 0 t ∧
      (t.chain c.val).st = (if ch.wasParked then .parked else .running) ∧ (t.chain c.val).dbSeq = ch.dbSeq ∧
      t = { s.part with chains := t.chains, fn0 := t.fn0, fn1 := t.fn1 })) ∧
    (ch.st = .paused → ch.tooFar ch.dbSeq = true → Runs (.resume f) s (fun t =>
      (t.chain c.val).st = .halted ∧ (t.chain c.val).halt = 0x82 ∧ (t.fn f).cmdResult = 1 ∧ t = { s.part with man := t.man, chains := t.chains, fn0 := t.fn0, fn1 := t.fn1, tow := t.tow, dict := t.dict, log := t.log, out := t.out })) ∧
    ((ch.st = .disabled ∨ ch.st = .paused ∨ ch.st = .halted) → ch.inflight = 0 → Runs (.reset f) s (fun t => R 0 t ∧
      (t.chain c.val).st = .disabled ∧ (t.chain c.val).halt = 0 ∧ (t.chain c.val).cmds = [] ∧ (t.chain c.val).txs = [] ∧
      (t.chain c.val).ignDb = 0 ∧ (t.chain c.val).foreignDb = 0 ∧ (t.chain c.val).refetches = 0 ∧
      t = { s.part with chains := t.chains, man := t.man, fn0 := t.fn0, fn1 := t.fn1 }))) ∧
  (ch.st ≠ .draining ∨ ch.inflight ≠ 0 → Stays (.drainComplete c) s) ∧
  (ch.st = .draining → ch.inflight = 0 → Runs (.drainComplete c) s (fun t => t.chain c.val = { ch with st := .paused } ∧
    (∀ d, d ≠ c.val → t.chain d = s.part.chain d) ∧ t = { s.part with chains := t.chains }))

/-- R89, R95, R134, R268, R269 to R279 (04, 06, 11): the command at the head of its chain's order is taken by the row of its
opcode alone. A check of R268 that fails ends it with the check's status; one whose key is loading waits; an opcode outside
Table 11.2 ends with 10H. READ waits for a slow member it needs, else ends with the status of the first block that failed, its
data in the peer buffer area or on the host port; VERIFY does the same and delivers nothing; COPY ends with its source's
failure, or its blocks are held for its destination and it lands. WRITE and UNMAP wait for admission; one of a transaction joins
it, or ends because its tag is free, timed out, unprotected or its limits are passed. FLUSH waits for the blocks it covers. -/
def Obligations.HostCommandsAreTaken : Prop := ∀ (c : ChainId) (h : BitVec 32) (bad : BadReads) (lf : LaneFaults) (s : State) (x : Cmd),
  takeable s.part c.val h .accepted = some x →
  (knownOpcode (dOpcode x.desc) = true → Stays (.unknownOpcode c h) s) ∧
  (knownOpcode (dOpcode x.desc) = false → Runs (.unknownOpcode c h) s (fun t => Completed c.val h 0x10 0 s.part t ∧ t = { s.part with chains := t.chains, fn0 := t.fn0, fn1 := t.fn1, vols := t.vols, out := t.out })) ∧
  (∀ i op, (i, op) ∈ [(Instr.read c h bad lf, 1), (.write c h, 2), (.flush c h, 3), (.unmap c h, 4), (.verify c h bad lf, 5),
      (.copy c h bad lf, 6), (.txBegin c h, 0x10), (.txCommit c h, 0x11), (.txAbort c h, 0x12)] →
    (dOpcode x.desc ≠ op → Stays i s) ∧
    (dOpcode x.desc = op → commandCheck s.part x.desc = .wait → Stays i s) ∧
    (dOpcode x.desc = op → ∀ st info, commandCheck s.part x.desc = .stop st info → Runs i s (fun t =>
      Completed c.val h st info s.part t ∧ t = { s.part with chains := t.chains, fn0 := t.fn0, fn1 := t.fn1, vols := t.vols, out := t.out }))) ∧
  (commandCheck s.part x.desc = .run →
    (∀ i, (i = .write c h ∧ dOpcode x.desc = 2) ∨ (i = .unmap c h ∧ dOpcode x.desc = 4) →
      (isTx x.desc = false → Runs i s (fun t => t.cmd? c.val h = some { x with phase := .waiting } ∧
        t = { s.part with chains := t.chains })) ∧
      (isTx x.desc = true →
        (s.part.tx? c.val (dTag x.desc) = none → Runs i s (fun t => Completed c.val h 0x44 0 s.part t ∧ t = { s.part with chains := t.chains, fn0 := t.fn0, fn1 := t.fn1, vols := t.vols, out := t.out })) ∧
        (∀ tx, s.part.tx? c.val (dTag x.desc) = some tx →
          (∀ st, (tx.timedOut = true ∧ st = 0x43) ∨ (tx.timedOut = false ∧ tx.noProtect = true ∧ st = 0x42) ∨
              (tx.timedOut = false ∧ tx.noProtect = false ∧ placedCommit s.part c.val (dTag x.desc) ≠ none ∧ st = 0x44) ∨
              (tx.timedOut = false ∧ tx.noProtect = false ∧ placedCommit s.part c.val (dTag x.desc) = none ∧ ((s.part.poolOfVol (dVol x.desc)).map (·.id) ≠ some tx.pool ∨
                64 < tx.extents + extentsOf x.desc ∨ 4096 < tx.blocks + dBlocks x.desc) ∧ st = 0x40) →
            Runs i s (fun t => Completed c.val h st 0 s.part t ∧ t = { s.part with chains := t.chains, fn0 := t.fn0, fn1 := t.fn1, vols := t.vols, out := t.out })) ∧
          (tx.timedOut = false → tx.noProtect = false → placedCommit s.part c.val (dTag x.desc) = none → (s.part.poolOfVol (dVol x.desc)).map (·.id) = some tx.pool →
            tx.extents + extentsOf x.desc ≤ 64 → tx.blocks + dBlocks x.desc ≤ 4096 → Runs i s (fun t =>
              t.cmd? c.val h = some { x with phase := .waiting } ∧
              t.tx? c.val (dTag x.desc) =
                some { tx with extents := tx.extents + extentsOf x.desc, blocks := tx.blocks + dBlocks x.desc } ∧
              t = { s.part with chains := t.chains }))))) ∧
    (∀ p v, s.part.volume? (dVol x.desc) = some (p, v) →
      (dOpcode x.desc = 3 →
        (poolServes p = false → Stays (.flush c h) s) ∧
        (poolServes p = true → flushPending s.part (dVol x.desc) (s.part.mark p.id) = true → Runs (.flush c h) s (fun t =>
          t.cmd? c.val h = some { x with phase := .admitted, tide := s.part.mark p.id } ∧ t = { s.part with chains := t.chains })) ∧
        (poolServes p = true → flushPending s.part (dVol x.desc) (s.part.mark p.id) = false → Runs (.flush c h) s (fun t =>
          Completed c.val h 0x00 0 s.part t ∧ t = { s.part with chains := t.chains, fn0 := t.fn0, fn1 := t.fn1, vols := t.vols, out := t.out }))) ∧
      (∀ u, dOpcode x.desc = 1 → readWaits c.val x s.part = some u → Runs (.read c h bad lf) s (fun t =>
        t = u ∧ t.cmd? c.val h = some { x with phase := .waiting } ∧ t = { s.part with chains := t.chains, members := t.members })) ∧
      (∀ i, (i = .read c h bad lf ∧ dOpcode x.desc = 1 ∧ readWaits c.val x s.part = none) ∨ (i = .verify c h bad lf ∧ dOpcode x.desc = 5) ∨
          (i = .copy c h bad lf ∧ dOpcode x.desc = 6) →
        (readHeld s.part p v (deviceLbas x.desc) = true → Stays i s) ∧
        (readHeld s.part p v (deviceLbas x.desc) = false → s.part.toll.faulty = true → Runs i s (fun t =>
          Completed c.val h 0x32 (infoOf v.id (dLba x.desc)) s.part t ∧ t = { s.part with chains := t.chains, fn0 := t.fn0, fn1 := t.fn1, vols := t.vols, out := t.out }))) ∧
      (readHeld s.part p v (deviceLbas x.desc) = false → s.part.toll.faulty = false →
        ∀ (s1 s2 w : Part) (l : List (Nat × BlockEnd)) (st : Nat) (info : BitVec 64),
          s1 = lf.mismatch.foldl (fun y u => checkMismatch u y) s.part →
          s2 = (if dOpcode x.desc = 5 ∧ dVerifyFull x.desc = true then verifyFull v.id bad (deviceLbas x.desc) s1 else s1) →
          readBlocks 5 (if dOpcode x.desc = 6 then 0 else dCopySel x.desc) bad lf v.id (deviceLbas x.desc) s2 = (l, w) →
          (countMedium bad w).cmd? c.val h = some x →
          firstFailure v.id (dOpcode x.desc ≠ 6 && dCopySel x.desc ≠ 0) l = (st, info) →
          (dOpcode x.desc = 1 → readWaits c.val x s.part = none → ∃ t,
            exec (.read c h bad lf) s = .next { s with
              part := t, peerMem := Memory.writeAll s.peerMem (if dPeer x.desc then deliverCells x.desc l else []) } ∧
            Completed c.val h st info (countMedium bad w) t ∧
            (dPeer x.desc = false → deliverCells x.desc l ≠ [] →
              ((countMedium bad w).fn ((countMedium bad w).chainFn c.val)).bme = true →
              ∃ ns ro, .hostData ((countMedium bad w).chainFn c.val) c.val ns ro
                (deliverCells x.desc l ++ deliverPi x.desc v.hostPi l) ∈ t.out) ∧ t = { s.part with sched := t.sched, man := t.man, chains := t.chains, fn0 := t.fn0, fn1 := t.fn1, pools := t.pools, vols := t.vols, members := t.members, toll := t.toll, pair := t.pair, tow := t.tow, dict := t.dict, log := t.log, out := t.out }) ∧
          (dOpcode x.desc = 5 →
            (∀ lba, dVerifyFull x.desc = true → st = 0 → firstDiverged (countMedium bad w) v.id (deviceLbas x.desc) = some lba →
              Runs (.verify c h bad lf) s (fun t => Completed c.val h 0x33 (infoOf v.id lba) (countMedium bad w) t ∧ t = { s.part with sched := t.sched, man := t.man, chains := t.chains, fn0 := t.fn0, fn1 := t.fn1, pools := t.pools, vols := t.vols, members := t.members, toll := t.toll, pair := t.pair, tow := t.tow, dict := t.dict, log := t.log, out := t.out })) ∧
            (dVerifyFull x.desc = false ∨ st ≠ 0 ∨ firstDiverged (countMedium bad w) v.id (deviceLbas x.desc) = none →
              Runs (.verify c h bad lf) s (fun t => Completed c.val h st info (countMedium bad w) t ∧ t = { s.part with sched := t.sched, man := t.man, chains := t.chains, fn0 := t.fn0, fn1 := t.fn1, pools := t.pools, vols := t.vols, members := t.members, toll := t.toll, pair := t.pair, tow := t.tow, dict := t.dict, log := t.log, out := t.out }))) ∧
          (dOpcode x.desc = 6 → st ≠ 0 → Runs (.copy c h bad lf) s (fun t =>
            Completed c.val h st info (countMedium bad w) t ∧ t = { s.part with islands := t.islands, sched := t.sched, man := t.man, chains := t.chains, fn0 := t.fn0, fn1 := t.fn1, pools := t.pools, vols := t.vols, members := t.members, toll := t.toll, pair := t.pair, tow := t.tow, dict := t.dict, log := t.log, out := t.out })) ∧
          (dOpcode x.desc = 6 → st = 0 → ∀ q u, (countMedium bad w).volume? (dDstVol x.desc) = some (q, u) →
            writeHeld (countMedium bad w) q none ((countMedium bad w).spots x.desc) = false →
            writeRefused (countMedium bad w) q ((countMedium bad w).spots x.desc) = false →
            writeFits (countMedium bad w) q u ((countMedium bad w).spots x.desc) = true → Runs (.copy c h bad lf) s (fun t =>
              (∃ y, t.cmd? c.val h = some y ∧ y.phase = (if q.writeState = 1 then .through else .landed)) ∧
              (∃ a, t.man.held = (countMedium bad w).man.held ++ a ∧
                ∀ b ∈ a, b.pool = q.id ∧ b.vol = u.id ∧ b.chain = c.val ∧ b.hseq = h ∧ b.tide = (countMedium bad w).sched.tideNow) ∧
              t = { s.part with islands := t.islands, sched := t.sched, man := t.man, chains := t.chains, fn0 := t.fn0, fn1 := t.fn1, pools := t.pools, vols := t.vols, members := t.members, toll := t.toll, pair := t.pair, tow := t.tow, dict := t.dict, log := t.log, out := t.out })))))

/-- R89, R91 to R93, R279 (04, 11): TX_BEGIN opens its tag in the pool of its volume when the tag is free and the pool is
PROTECTED, else ends with 44H or 41H, or waits while the device holds its most transactions. TX_COMMIT of an open tag is placed
in the open tide, counted, once every earlier command of the transaction is done, and waits for that before; one of a tag that
is unknown or whose TX_COMMIT was taken before, timed out, unprotected or failed ends with 44H, 43H, 41H or 42H, the tag free
and, where it failed, its blocks released (a tag whose commit was taken is no longer open: log entry 159). TX_ABORT ends an open transaction with its blocks released; one that is committing is not undone. -/
def Obligations.TransactionsBeginCommitAndAbort : Prop := ∀ (c : ChainId) (h : BitVec 32) (s : State) (x : Cmd) (gone : Part → Prop),
  takeable s.part c.val h .accepted = some x → commandCheck s.part x.desc = .run →
  gone = (fun t => t.tx? c.val (dTag x.desc) = none) →
  (dOpcode x.desc = 0x10 → ∀ p v, s.part.volume? (dVol x.desc) = some (p, v) →
    (s.part.tx? c.val (dTag x.desc) ≠ none → Runs (.txBegin c h) s (fun t => Completed c.val h 0x44 0 s.part t ∧ t = { s.part with chains := t.chains, fn0 := t.fn0, fn1 := t.fn1, vols := t.vols, out := t.out })) ∧
    (s.part.tx? c.val (dTag x.desc) = none →
      (poolServes p = false ∨ (p.writeState = 0 ∧ maxTxs ≤ s.part.openTxs) → Stays (.txBegin c h) s) ∧
      (poolServes p = true → p.writeState ≠ 0 → Runs (.txBegin c h) s (fun t => Completed c.val h 0x41 0 s.part t ∧ t = { s.part with chains := t.chains, fn0 := t.fn0, fn1 := t.fn1, vols := t.vols, out := t.out })) ∧
      (poolServes p = true → p.writeState = 0 → s.part.openTxs < maxTxs → Runs (.txBegin c h) s (fun t =>
        Completed c.val h 0x00 0 s.part t ∧
        t.tx? c.val (dTag x.desc) = some { tag := dTag x.desc, pool := p.id, extents := 0, blocks := 0, failed := false,
                                           timedOut := false, noProtect := false, commitTide := none } ∧ t = { s.part with chains := t.chains, fn0 := t.fn0, fn1 := t.fn1, vols := t.vols, out := t.out })))) ∧
  (∀ i, (i = .txCommit c h ∧ dOpcode x.desc = 0x11) ∨ (i = .txAbort c h ∧ dOpcode x.desc = 0x12) →
    (s.part.tx? c.val (dTag x.desc) = none → Runs i s (fun t => Completed c.val h 0x44 0 s.part t ∧ t = { s.part with chains := t.chains, fn0 := t.fn0, fn1 := t.fn1, vols := t.vols, out := t.out })) ∧
    (∀ tx, s.part.tx? c.val (dTag x.desc) = some tx → tx.timedOut = true → Runs i s (fun t =>
      Completed c.val h 0x43 0 s.part t ∧ gone t ∧ t = { s.part with chains := t.chains, fn0 := t.fn0, fn1 := t.fn1, vols := t.vols, out := t.out }))) ∧
  (∀ tx, s.part.tx? c.val (dTag x.desc) = some tx → tx.timedOut = false →
    (dOpcode x.desc = 0x11 →
      (tx.noProtect = true → Runs (.txCommit c h) s (fun t => Completed c.val h 0x41 0 s.part t ∧ gone t ∧ t = { s.part with chains := t.chains, fn0 := t.fn0, fn1 := t.fn1, vols := t.vols, out := t.out })) ∧
      (tx.noProtect = false → placedCommit s.part c.val (dTag x.desc) ≠ none → Runs (.txCommit c h) s (fun t => Completed c.val h 0x44 0 s.part t ∧ t = { s.part with chains := t.chains, fn0 := t.fn0, fn1 := t.fn1, vols := t.vols, out := t.out })) ∧
      (tx.noProtect = false → placedCommit s.part c.val (dTag x.desc) = none → tx.failed = true → Runs (.txCommit c h) s (fun t => Completed c.val h 0x42 0 s.part t ∧ gone t ∧
        (∀ b ∈ t.man.held, b.tx ≠ some (c.val, dTag x.desc)) ∧
        (∀ b ∈ s.part.man.held, b.tx ≠ some (c.val, dTag x.desc) → b ∈ t.man.held) ∧ t = { s.part with man := t.man, chains := t.chains, fn0 := t.fn0, fn1 := t.fn1, vols := t.vols, out := t.out })) ∧
      (tx.noProtect = false → placedCommit s.part c.val (dTag x.desc) = none → tx.failed = false →
        ∀ earlier, earlier = ((s.part.chain c.val).before h).filter (fun y => isTx y.desc && dTag y.desc == dTag x.desc) →
        ((∃ y ∈ earlier, y.phase ≠ .done) → Runs (.txCommit c h) s (fun t =>
          t.cmd? c.val h = some { x with phase := .admitted } ∧ t = { s.part with chains := t.chains })) ∧
        ((∀ y ∈ earlier, y.phase = .done) → Runs (.txCommit c h) s (fun t =>
          t.cmd? c.val h = some { x with phase := .placed, tide := s.part.sched.tideNow } ∧
          t.tx? c.val (dTag x.desc) = some { tx with commitTide := some s.part.sched.tideNow } ∧
          t = { s.part with chains := t.chains, man := { s.part.man with nCommits := s.part.man.nCommits + 1, news := t.man.news } })))) ∧
    (dOpcode x.desc = 0x12 →
      (tx.commitTide ≠ none ∨ placedCommit s.part c.val (dTag x.desc) ≠ none → Runs (.txAbort c h) s (fun t => Completed c.val h 0x44 0 s.part t ∧ t = { s.part with chains := t.chains, fn0 := t.fn0, fn1 := t.fn1, vols := t.vols, out := t.out })) ∧
      (tx.commitTide = none → placedCommit s.part c.val (dTag x.desc) = none → ((s.part.chain c.val).cmds.map (·.hseq)).Nodup → Runs (.txAbort c h) s (fun t =>
        Completed c.val h 0x00 0 s.part t ∧ gone t ∧ (∀ b ∈ t.man.held, b.tx ≠ some (c.val, dTag x.desc)) ∧
        (∀ b ∈ s.part.man.held, b.tx ≠ some (c.val, dTag x.desc) → b ∈ t.man.held) ∧ t = { s.part with man := t.man, chains := t.chains, fn0 := t.fn0, fn1 := t.fn1, vols := t.vols, out := t.out }))))

/-- R292, R293, R295, R301 to R304, R310 (12): a Custodian names the partner while no pool is paired. Units that name each other
with one revision form their pair: the leader, the higher tide plus one, path 1 up, every paired pool syncing; any other peer is
refused and the unit stays unpaired. A confirmed sync tide makes the owner's pool PAIRED and the standby's shadow complete. A
width of 4, 8 or 16 is taken. A lost path changes PAIR_STATE; with both lost the twin is declared failed. Path 1 returns with the
higher tide plus one, carries on PAIRED pools, ends a fence and syncs the others. RELEASE, received or driven, releases the
owner's pools or drops the standby's shadows. An owner fences its PAIRED pools; a faulty part whose hand-over took too long
fences itself and idles its Hawser. -/
def Obligations.PairsFormAndLosePaths : Prop := ∀ (q : Req) (uuid : Bytes) (peer : PeerIdent) (p : PoolId) (n tide : Nat) (s : State)
    (own : Nat → PoolSt → Prop),
  own = (fun k x => s.part.pool? k = some x ∧ (∀ y ∈ s.part.pools, y.id = k → y = x) ∧ x.isPaired = true ∧ x.pair.owner = 0) →
  (Allowed s.part q roleCustodian none →
    (uuid.length ≠ 16 → Refused (.pairPartnerUuid q uuid) s stTypeLen 0) ∧
    (uuid.length = 16 → s.part.pairedPools ≠ [] → Refused (.pairPartnerUuid q uuid) s stRule (ruleDetail 292 0)) ∧
    (uuid.length = 16 → s.part.pairedPools = [] → Runs (.pairPartnerUuid q uuid) s (fun t =>
      Answers t stOk 0 ∧ t.objBlob 0x2500 1 = uuid ∧ t = { s.part with islands := t.islands, fn0 := t.fn0, fn1 := t.fn1, dict := t.dict, out := t.out }))) ∧
  (2 ≤ s.part.pair.state → Stays (.pairForm peer) s) ∧
  (s.part.pair.state < 2 →
    (s.part.objBlob 0x2500 1 ≠ peer.uuid ∨ peer.revision ≠ 1 → Runs (.pairForm peer) s (fun t =>
      t.pair = { s.part.pair with state := 0 } ∧
      t = { s.part with pair := t.pair, dict := t.dict, log := t.log, tow := t.tow, out := t.out })) ∧
    (s.part.objBlob 0x2500 1 = peer.uuid → peer.revision = 1 → Runs (.pairForm peer) s (fun t =>
      t.pair.peer = some peer ∧ t.pair.role = b2n (leads deviceUuid peer.uuid) ∧ t.pair.path1Lost = false ∧
      t.pair.state = (if s.part.pair.path2Lost then 3 else 2) ∧ t.pair.width = peer.width ∧
      t.sched.tideNow = max s.part.sched.tideNow peer.tide + 1 ∧
      (s.part.pair.uuid ≠ zeroUuid → t.pair.uuid = s.part.pair.uuid) ∧
      (s.part.pair.uuid = zeroUuid → leads deviceUuid peer.uuid = false → t.pair.uuid = peer.pairUuid) ∧
      (∀ k x, s.part.pool? k = some x → x.isPaired = true → x.pair.owner = 0 ∨ x.pair.owner = 1 →
        ∃ y, t.pool? k = some y ∧ y.pair.state = 1 ∧ y.pair.owner = x.pair.owner) ∧ t = { s.part with islands := t.islands, sched := t.sched, man := t.man, chains := t.chains, fn0 := t.fn0, fn1 := t.fn1, pools := t.pools, vols := t.vols, members := t.members, toll := t.toll, pair := t.pair, tow := t.tow, dict := t.dict, log := t.log, out := t.out }))) ∧
  (∀ x, s.part.pool? p.val = some x →
    (x.pair.state ≠ 1 ∨ s.part.pair.path1Lost = true ∨ (x.pair.owner = 0 ∧ x.pair.syncTide = none) → Stays (.syncConfirmed p) s) ∧
    (x.pair.state = 1 → s.part.pair.path1Lost = false → Runs (.syncConfirmed p) s (fun t =>
      (∀ m, x.pair.owner = 0 → x.pair.syncTide = some m → m ≤ t.mark p.val ∧ ∃ y, t.pool? p.val = some y ∧ y.pair.state = 2 ∧
        y.pair.syncTide = none ∧ y.pair.failbackAt = some (s.part.timeUs + sec (s.part.objNum 0x2500 0x0A)) ∧ y.pair.lagZero = 0) ∧
      (x.pair.owner ≠ 0 → t.pool? p.val = some { x with pair := { x.pair with
        state := 2, coverage := 2, shadowTide := max x.pair.shadowTide (s.part.sched.tideNow - 1) } }) ∧ t = { s.part with sched := t.sched, man := t.man, chains := t.chains, fn0 := t.fn0, fn1 := t.fn1, pools := t.pools, vols := t.vols, tow := t.tow, dict := t.dict, log := t.log, out := t.out }))) ∧
  (n ≠ 4 → n ≠ 8 → n ≠ 16 → Stays (.hawserRetrain n) s) ∧
  (n = 4 ∨ n = 8 ∨ n = 16 → Runs (.hawserRetrain n) s (fun t =>
    t.pair = { s.part.pair with width := n, txIdle := false, health := t.pair.health } ∧
    (s.part.pair.width ≠ n → t.pair.health.getLsbD 0 = decide (n < 16)) ∧ t = { s.part with pair := t.pair, tow := t.tow, dict := t.dict, log := t.log, out := t.out })) ∧
  (s.part.pair.path1Lost = true ∨ s.part.pair.state < 2 → Stays .path1Lost s) ∧
  (s.part.pair.path1Lost = false → 2 ≤ s.part.pair.state → Runs .path1Lost s (fun t =>
    t.pair.path1Lost = true ∧ t.pair.txIdle = true ∧ t.pair.width = 0 ∧ t.pair.state = pairStateOf true s.part.pair.path2Lost ∧
    (∀ y ∈ t.dict.sessions, y.transport ≠ .twin) ∧
    (s.part.pair.path2Lost = true → t.pair.declared ≠ none) ∧
    (s.part.pair.path2Lost = false → t.pair.declared = s.part.pair.declared ∧ t.pools = s.part.pools) ∧ t = { s.part with sched := t.sched, man := t.man, chains := t.chains, fn0 := t.fn0, fn1 := t.fn1, pools := t.pools, vols := t.vols, members := t.members, pair := t.pair, tow := t.tow, dict := t.dict, log := t.log, out := t.out })) ∧
  (s.part.pair.path2Lost = true → Stays .path2Lost s) ∧
  (s.part.pair.path2Lost = false → Runs .path2Lost s (fun t =>
    t.pair.path2Lost = true ∧ t.pair.relReceived = false ∧
    (2 ≤ s.part.pair.state → t.pair.state = pairStateOf s.part.pair.path1Lost true) ∧
    (2 ≤ s.part.pair.state → s.part.pair.path1Lost = true → t.pair.declared ≠ none) ∧
    (s.part.pair.path1Lost = false → s.part.pair.state ≠ 4 → t.pools = s.part.pools) ∧ t = { s.part with sched := t.sched, man := t.man, chains := t.chains, fn0 := t.fn0, fn1 := t.fn1, pools := t.pools, vols := t.vols, members := t.members, pair := t.pair, tow := t.tow, dict := t.dict, log := t.log, out := t.out })) ∧
  (s.part.pair.path1Lost = false ∨ s.part.pair.state < 2 → Stays (.path1Return tide) s) ∧
  (s.part.pair.path1Lost = true → 2 ≤ s.part.pair.state → Runs (.path1Return tide) s (fun t =>
    t.pair.path1Lost = false ∧ t.pair.state = pairStateOf false s.part.pair.path2Lost ∧ t.pair.sleepAnnounced = [] ∧
    t.pair.driveRelease = false ∧ t.sched.tideNow = max s.part.sched.tideNow tide + 1 ∧
    (s.part.pair.declared = none → ∀ k x, own k x → x.pair.contest = none → x.pair.gap = false →
      ∃ y, t.pool? k = some y ∧ y.pair.state = (if x.pair.state = 2 ∨ x.pair.state = 4 then 2 else 1)) ∧ t = { s.part with sched := t.sched, man := t.man, chains := t.chains, fn0 := t.fn0, fn1 := t.fn1, pools := t.pools, vols := t.vols, members := t.members, pair := t.pair, tow := t.tow, dict := t.dict, log := t.log, out := t.out })) ∧
  (s.part.pair.path2Lost = true ∨ s.part.pair.state < 2 → Stays .releaseReceived s) ∧
  (∀ i, (i = .releaseReceived ∧ s.part.pair.path2Lost = false) ∨ i = .path2Return .release → 2 ≤ s.part.pair.state → Runs i s (fun t =>
    t.pair.relReceived = true ∧ t.pair.path2Lost = false ∧
    (∀ k x, own k x → x.pair.state ∈ [1, 2, 4] → ∃ y, t.pool? k = some y ∧ y.pair.state = 3 ∧ y.pair.contest = none) ∧
    t = { s.part with sched := t.sched, man := t.man, chains := t.chains, fn0 := t.fn0, fn1 := t.fn1, pools := t.pools, vols := t.vols, members := t.members, pair := t.pair, tow := t.tow, dict := t.dict, log := t.log, out := t.out })) ∧
  Runs (.path2Return .run) s (fun t => t.pair.path2Lost = false ∧ t.pair.relReceived = false ∧
    (2 ≤ s.part.pair.state → t.pair.state = pairStateOf s.part.pair.path1Lost false) ∧ t = { s.part with pair := t.pair, tow := t.tow, dict := t.dict, log := t.log, out := t.out }) ∧
  (s.part.pair.path1Lost = false ∨ s.part.pair.path2Lost = true ∨ s.part.pair.state < 2 → Stays .releaseTimeout s) ∧
  (s.part.pair.path1Lost = true → s.part.pair.path2Lost = false → 2 ≤ s.part.pair.state → Runs .releaseTimeout s (fun t =>
    t.pair = { s.part.pair with driveRelease := true } ∧
    (∀ k x, s.part.pool? k = some x → x.isPaired = true → x.pair.owner = 1 →
      ∃ y, t.pool? k = some y ∧ y.pair.shadow = [] ∧ y.pair.shadowWriting = [] ∧ y.pair.coverage = 0) ∧ t = { s.part with sched := t.sched, man := t.man, chains := t.chains, fn0 := t.fn0, fn1 := t.fn1, pools := t.pools, vols := t.vols, pair := t.pair, tow := t.tow, dict := t.dict, log := t.log, out := t.out })) ∧
  (s.part.pair.path1Lost = false → Stays .selfFence s) ∧
  (∀ i, (i = .selfFence ∧ s.part.pair.path1Lost = true) ∨
      (i = .faultyHandoverTimeout ∧ s.part.pair.faultyAt ≠ none ∧ s.part.ownPaired ≠ []) → Runs i s (fun t =>
    (∀ k x, own k x → x.pair.state = 2 → t.pool? k = some { x with pair := { x.pair with state := 4 } }) ∧
    (∀ k x, s.part.pool? k = some x → (∀ y ∈ s.part.pools, y.id = k → y = x) →
      x.isPaired = false ∨ x.pair.owner ≠ 0 ∨ x.pair.state ≠ 2 → t.pool? k = some x) ∧
    (i = .selfFence → t = { s.part with pools := t.pools }) ∧
    (i = .faultyHandoverTimeout → t.pair.path1Lost = true ∧ t.pair.path2Lost = true ∧ t.pair.faultyAt = none ∧ t.pair.width = 0 ∧
      (t.island .x).powered = false ∧ (t.island .x).ready = false ∧ t = { s.part with islands := t.islands, pools := t.pools, pair := t.pair, tow := t.tow, dict := t.dict, log := t.log, out := t.out }))) ∧
  (s.part.pair.faultyAt = none ∨ s.part.ownPaired = [] → Stays .faultyHandoverTimeout s)

/-- R205, R298, R302 to R309 (12): with both paths lost a pool that may be contested is contested on its three homes; its owner
does so after the reclaim delay. A second home won makes this unit the owner: the take-over is counted, the members still to be
fenced are listed and the switch-over gap opens; a second home lost makes it the standby with nothing of the pool kept. A contest
without a decision is given up. A member not fenced in time counts a timeout; one out of service needs no fence. The gap ends.
After the boot wait an undecided pool is owned by the unit whose key holds two of its homes, else by its twin. -/
def Obligations.ContestsDecideTheOwner : Prop := ∀ (p : PoolId) (k : MemberId) (home : Fin 3) (a : PreemptAnswer)
    (held : List (Nat × Nat)) (s : State),
  (s.part.pool? p.val = none → ∀ i ∈ [Instr.contest p, .reclaimDelay p, .preemptResult p home a, .contestGiveUp p,
      .memberFenceTimeout p k, .switchoverGapEnd p], Stays i s) ∧
  (∀ x, s.part.pool? p.val = some x →
    (∀ i may, (i = .contest p ∧ may = (s.part.pair.path1Lost && s.part.pair.path2Lost && mayContest s.part x)) ∨
        (i = .reclaimDelay p ∧ may = (decide (x.pair.owner = 0) && mayContest s.part x)) →
      (may = false → Stays i s) ∧
      (may = true → Runs i s (fun t =>
        t.pool? p.val = some { x with pair := { x.pair with
          contest := some { declTide := s.part.pair.declared.getD s.part.sched.tideNow, won := [], lost := [] } } } ∧
        t.out = s.part.out ++ (contestHomes s.part x).map (fun o => .preempt p.val (x.charter.idAt o)) ∧ t = { s.part with pools := t.pools, out := t.out }))) ∧
    (x.pair.contest = none → Stays (.preemptResult p home a) s ∧ Stays (.contestGiveUp p) s) ∧
    (∀ y, x.pair.contest = some y →
      Runs (.contestGiveUp p) s (fun t => t.pool? p.val = some { x with pair := { x.pair with contest := none } } ∧
        t = { s.part with pools := t.pools, tow := t.tow, dict := t.dict, log := t.log, out := t.out }) ∧
      (home.val ∈ y.won ∨ home.val ∈ y.lost → Stays (.preemptResult p home a) s) ∧
      (∀ z, home.val ∉ y.won → home.val ∉ y.lost →
          z = (match a with
            | .success => { y with won := y.won ++ [home.val] }
            | .conflict => { y with lost := y.lost ++ [home.val] }) →
        (z.won.length < 2 → z.lost.length < 2 → Runs (.preemptResult p home a) s (fun t =>
          t.pool? p.val = some { x with pair := { x.pair with contest := some z } } ∧ t = { s.part with pools := t.pools })) ∧
        (2 ≤ z.won.length → Runs (.preemptResult p home a) s (fun t =>
          t.pair.takeovers = s.part.pair.takeovers + 1 ∧
          (∃ w, t.pool? p.val = some w ∧ w.pair.owner = 0 ∧ w.pair.state = 3 ∧ w.pair.gap = true ∧ w.pair.contest = none ∧
            w.pair.fenceLeft = toFence s.part x.charter
              (z.won.map (fun n => x.charter.idAt ((contestHomes s.part x).getD n 0)))) ∧ t = { s.part with islands := t.islands, sched := t.sched, man := t.man, chains := t.chains, fn0 := t.fn0, fn1 := t.fn1, pools := t.pools, vols := t.vols, members := t.members, pair := t.pair, tow := t.tow, dict := t.dict, log := t.log, out := t.out })) ∧
        (z.won.length < 2 → 2 ≤ z.lost.length → Runs (.preemptResult p home a) s (fun t =>
          (∃ w, t.pool? p.val = some w ∧ w.pair.owner = 1 ∧ w.pair.contest = none ∧ w.pair.gap = false ∧ w.pair.shadow = [] ∧
            (s.part.pair.path1Lost = true → w.pair.state = 5)) ∧
          (∀ b ∈ t.man.held, b.pool ≠ p.val) ∧ t = { s.part with islands := t.islands, sched := t.sched, man := t.man, chains := t.chains, fn0 := t.fn0, fn1 := t.fn1, pools := t.pools, vols := t.vols, members := t.members, pair := t.pair, tow := t.tow, dict := t.dict, log := t.log, out := t.out })))) ∧
    (s.part.member? k.val = none ∨ k.val ∉ x.pair.fenceLeft → Stays (.memberFenceTimeout p k) s) ∧
    (∀ m, s.part.member? k.val = some m → k.val ∈ x.pair.fenceLeft →
      (m.state = 0 ∨ m.state = 4 → Runs (.memberFenceTimeout p k) s (fun t =>
        t.pool? p.val = some { x with pair := { x.pair with fenceLeft := x.pair.fenceLeft.filter (fun n => n != k.val) } } ∧
        t = { s.part with pools := t.pools })) ∧
      (m.state ≠ 0 → m.state ≠ 4 → Runs (.memberFenceTimeout p k) s (fun t =>
        (∃ y, t.member? k.val = some y ∧ y.timeouts = m.timeouts + 1) ∧ t = { s.part with sched := t.sched, man := t.man, chains := t.chains, fn0 := t.fn0, fn1 := t.fn1, pools := t.pools, vols := t.vols, members := t.members, tow := t.tow, dict := t.dict, log := t.log, out := t.out }))) ∧
    (x.pair.gap = false → Stays (.switchoverGapEnd p) s) ∧
    (x.pair.gap = true → Runs (.switchoverGapEnd p) s (fun t =>
      (∃ y, t.pool? p.val = some y ∧ y.pair.gap = false ∧ (s.part.pair.path1Lost = true → y.pair.state = 3)) ∧
      t = { s.part with sched := t.sched, man := t.man, chains := t.chains, fn0 := t.fn0, fn1 := t.fn1, pools := t.pools, vols := t.vols, members := t.members, pair := t.pair, tow := t.tow, dict := t.dict, log := t.log, out := t.out }))) ∧
  Runs (.pairBootWait held) s (fun t =>
    t.pair.state = (if s.part.pair.state = 1 then pairStateOf s.part.pair.path1Lost s.part.pair.path2Lost else s.part.pair.state) ∧
    t.dump.state ≠ 4 ∧
    (∀ n x, s.part.pool? n = some x → x.isPaired = true → x.pair.owner = 2 →
      ∃ y, t.pool? n = some y ∧ y.pair.owner = (if 2 ≤ (alGet n held).getD 0 then 0 else 1)) ∧ t = { s.part with islands := t.islands, sched := t.sched, man := t.man, chains := t.chains, fn0 := t.fn0, fn1 := t.fn1, pools := t.pools, vols := t.vols, members := t.members, pair := t.pair, tow := t.tow, dump := t.dump, dict := t.dict, log := t.log, out := t.out })

/-- R310 to R314, R321, R369 (12, 13, 15): a failback that is due, or an Operator's hand-over of a pool that may be handed over,
proposes the hand-over a lead ahead, or queues it behind a change in progress. A change of the twin this unit holds what it needs
for is accepted for its tide, the leader's before the follower's own of the same kind; any other is not answered. An acceptance
answers the requester; a change not accepted is proposed again, and lapses as PARTIAL after 30 s. At the agreed tide the old
owner keeps what it held as the shadow and the new one owns the pool. Probes of the standby's members and an announced sleep are
kept. -/
def Obligations.PoolsAreHandedOverByAgreedChanges : Prop := ∀ (q : Req) (p : PoolId) (ch mine : PairChange) (tide : Nat) (k : MemberId)
    (good present : Bool) (pools : List PoolId) (s : State) (asked : Part → Prop) (announced : PairChange → Nat → Part → Prop),
  asked = (fun t =>
    (s.part.pair.proposal = none → t.pair.proposal =
        some (.handover p true, s.part.sched.tideNow + s.part.leadTides, false, s.part.timeUs) ∧ t.pair.changeState = 1 ∧
      .hawserChange (.handover p true) (s.part.sched.tideNow + s.part.leadTides) false ∈ t.out) ∧
    (s.part.pair.proposal ≠ none → t.pair = { s.part.pair with toPropose := s.part.pair.toPropose ++ [(.handover p true, none)] })) →
  announced = (fun c n t => ∀ r b x, c = .handover r b → s.part.pool? r.val = some x →
    t.pool? r.val = some { x with pair := { x.pair with ownerNext := b2n b, handoverTide := n } }) →
  mine = fromTwin ch →
  (s.part.pool? p.val = none → Stays (.failback p) s ∧
    (Allowed s.part q roleOperator none → Refused (.poolHandover q p) s stState (ruleDetail 311 0))) ∧
  (∀ x, s.part.pool? p.val = some x →
    (failbackDue s.part x = false → Stays (.failback p) s) ∧
    (failbackDue s.part x = true → Runs (.failback p) s (fun t => asked t ∧ t = { s.part with pools := t.pools, pair := t.pair, out := t.out })) ∧
    (∀ may, may = (x.isPaired && x.pair.owner == 0 && x.pair.state == 2 && x.pair.ownerNext == 2) →
      Allowed s.part q roleOperator none →
      (may = false → Refused (.poolHandover q p) s stState (ruleDetail 311 0)) ∧
      (may = true → Runs (.poolHandover q p) s (fun t => asked t ∧
        (s.part.pair.proposal = none → t.pair.asker = some q ∧ t.dict.resp = none) ∧
        (s.part.pair.proposal ≠ none → Answers t stPending 0) ∧ t = { s.part with fn0 := t.fn0, fn1 := t.fn1, pools := t.pools, pair := t.pair, dict := t.dict, out := t.out }))) ∧
    (s.part.tow.sleeping = false →
      (x.pair.handoverTide = 0 ∨ s.part.sched.tideNow < x.pair.handoverTide → Stays (.handoverConfirmed p) s) ∧
      (x.pair.handoverTide ≠ 0 → x.pair.handoverTide ≤ s.part.sched.tideNow →
        (x.pair.owner = 0 → x.pair.ownerNext = 1 → Runs (.handoverConfirmed p) s (fun t =>
          (∃ y, t.pool? p.val = some y ∧ y.pair.owner = 1 ∧ y.pair.ownerNext = 2 ∧ y.pair.handoverTide = 0 ∧ y.pair.handing = false ∧
            y.pair.coverage = 2 ∧ y.pair.shadowTide = s.part.mark p.val ∧
            y.pair.shadow = (s.part.man.held.filter (fun b => b.pool == p.val && !b.through)).map Held.mirror) ∧
          (∀ b ∈ t.man.held, b.pool ≠ p.val) ∧ t = { s.part with islands := t.islands, sched := t.sched, man := t.man, chains := t.chains, fn0 := t.fn0, fn1 := t.fn1, pools := t.pools, vols := t.vols, members := t.members, pair := t.pair, tow := t.tow, dict := t.dict, log := t.log, out := t.out })) ∧
        (x.pair.owner = 1 → x.pair.ownerNext = 0 → Runs (.handoverConfirmed p) s (fun t =>
          (∃ y, t.pool? p.val = some y ∧ y.pair.owner = 0 ∧ y.pair.ownerNext = 2 ∧ y.pair.handoverTide = 0 ∧ y.pair.shadow = []) ∧
          t = { s.part with islands := t.islands, sched := t.sched, man := t.man, chains := t.chains, fn0 := t.fn0, fn1 := t.fn1, pools := t.pools, vols := t.vols, members := t.members, pair := t.pair, tow := t.tow, dict := t.dict, log := t.log, out := t.out }))))) ∧
  (s.part.pair.path1Lost = true ∨ s.part.pair.state < 2 ∨ (clashing s.part ch = true ∧ s.part.pair.role = 1) ∨
      (clashing s.part ch = false ∧ (holdsFor s.part mine = false ∨ tide ≤ s.part.sched.tideNow)) →
    Stays (.pairChangeProposal ch tide) s) ∧
  (s.part.pair.path1Lost = false → 2 ≤ s.part.pair.state → clashing s.part ch = false ∨ s.part.pair.role ≠ 1 →
    Runs (.pairChangeProposal ch tide) s (fun t =>
      (clashing s.part ch = true → t.pair.proposal = none ∧ t.pair.changeState = 0 ∧ t.pair.asker = none) ∧
      (clashing s.part ch = false → t.pair.proposal = s.part.pair.proposal) ∧
      (holdsFor s.part mine = true → s.part.sched.tideNow < tide →
        t.pair.agreed = s.part.pair.agreed ++ [(mine, tide)] ∧ .hawserChange ch tide true ∈ t.out ∧ announced mine tide t) ∧
      (holdsFor s.part mine = false ∨ tide ≤ s.part.sched.tideNow → t.pair.agreed = s.part.pair.agreed) ∧
      t = { s.part with fn0 := t.fn0, fn1 := t.fn1, pools := t.pools, pair := t.pair, tow := t.tow, dict := t.dict, log := t.log, out := t.out })) ∧
  (s.part.pair.proposal = none → Stays .pairChangeAccepted s ∧ Stays .pairChangeLapse s) ∧
  (∀ c n acc t0, s.part.pair.proposal = some (c, n, acc, t0) →
    Runs .pairChangeAccepted s (fun t => t.pair = { s.part.pair with proposal := some (c, n, true, t0), asker := none } ∧
      announced c n t ∧ (∀ r, s.part.pair.asker = some r → Answers t stOk 0) ∧ t = { s.part with fn0 := t.fn0, fn1 := t.fn1, pools := t.pools, pair := t.pair, tow := t.tow, dict := t.dict, log := t.log, out := t.out }) ∧
    (acc = true → Stays .pairChangeLapse s) ∧
    (acc = false → Runs .pairChangeLapse s (fun t =>
      (∀ r, s.part.pair.asker = some r → t0 + 100000 ≤ s.part.timeUs → t.pair.asker = none ∧ Answers t stPending 0) ∧
      (s.part.timeUs < t0 + sec 30 → t.pair.proposal = some (c, s.part.sched.tideNow + s.part.leadTides, false, t0) ∧
        .hawserChange c (s.part.sched.tideNow + s.part.leadTides) false ∈ t.out) ∧
      (t0 + sec 30 ≤ s.part.timeUs → s.part.pair.toPropose = [] → t.pair.proposal = none ∧ t.pair.changeState = 3) ∧
      (∀ d rest, t0 + sec 30 ≤ s.part.timeUs → s.part.pair.toPropose = d :: rest → t.pair.toPropose = rest ∧
        t.pair.proposal = some (d.1, d.2.getD (s.part.sched.tideNow + s.part.leadTides), false, s.part.timeUs)) ∧
      t = { s.part with fn0 := t.fn0, fn1 := t.fn1, pools := t.pools, pair := t.pair, dict := t.dict, out := t.out }))) ∧
  (k.val ∉ s.part.standbyMembers → Stays (.standbyProbe k good present) s) ∧
  (k.val ∈ s.part.standbyMembers → Runs (.standbyProbe k good present) s (fun t =>
    (∀ m, s.part.member? k.val = some m → t.member? k.val = some { m with registered := present && m.info.reservations }) ∧
    (k.val ∈ t.pair.probeBad ↔ good = false) ∧ (∀ n, n ≠ k.val → (n ∈ t.pair.probeBad ↔ n ∈ s.part.pair.probeBad)) ∧
    ((∀ n ∈ s.part.standbyMembers, n = k.val ∨ n ∈ s.part.pair.probed) → t.pair.probed = [] ∧ t.pair.testTime = s.part.timeUs) ∧
    t = { s.part with members := t.members, pair := t.pair })) ∧
  (s.part.pair.state < 2 → Stays (.sleepAnnouncement pools) s) ∧
  (2 ≤ s.part.pair.state → Runs (.sleepAnnouncement pools) s (fun t =>
    t.pair = { s.part.pair with sleepAnnounced := pools.map (·.val) } ∧ t = { s.part with pair := t.pair }))

/-- R69, R70, R316, R319, R327 to R333, Tables 4.1, 13.5 (04, 13): an input below WARN_MV braces a working part: counted, every
pool HELD; an input 200 mV above it ends the brace. A trigger starts a dump when a block is held and no dump runs: the image is
numbered, admission stops, both paths stop; any other leaves the part as it is. A lost target is down and dropped from the dump.
A dump that ends leaves its image, its result and the part without power. A threshold in its range and 400 mV from the other is
taken and acts at once. An adopted target carries this part's label. An unhealthy channel makes every pool write through. -/
def Obligations.BracesAndDumpsFollowTheInput : Prop := ∀ (q : Req) (mv ms v : Nat) (x : Fin 4) (ch : Fin 12) (mask : BitVec 8)
    (s : State) (reads : Part → Prop),
  reads = (fun t => t.tow.sense = s.part.tow.sense.set 0 mv) →
  (s.part.working = false ∨ s.part.warnMv ≤ mv ∨ s.part.sched.brace = true → Runs (.brace mv) s (fun t => reads t ∧
    t = { s.part with tow := { s.part.tow with sense := t.tow.sense } })) ∧
  (s.part.working = true → mv < s.part.warnMv → s.part.sched.brace = false → Runs (.brace mv) s (fun t => reads t ∧
    t.sched.brace = true ∧ t.tow.braceCount = s.part.tow.braceCount + 1 ∧
    t.tow.power = (if s.part.tow.power ≤ 2 then 2 else s.part.tow.power) ∧ t.tow.storeTest = false ∧ t.cal.state ≠ 1 ∧
    (∀ k y, s.part.pool? k = some y → y.life ≠ 0 → ∃ z, t.pool? k = some z ∧ z.writeState = 2) ∧ t = { s.part with sched := t.sched, man := t.man, chains := t.chains, fn0 := t.fn0, fn1 := t.fn1, pools := t.pools, vols := t.vols, tow := t.tow, cal := t.cal, dict := t.dict, log := t.log, out := t.out })) ∧
  (s.part.sched.brace = false ∨ mv < s.part.warnMv + 200 ∨ 2 ≤ s.part.sched.admitState → Runs (.braceRelease mv) s (fun t => reads t ∧
    t = { s.part with tow := { s.part.tow with sense := t.tow.sense } })) ∧
  (s.part.sched.brace = true → s.part.warnMv + 200 ≤ mv → s.part.sched.admitState < 2 → Runs (.braceRelease mv) s (fun t => reads t ∧
    t.sched.brace = false ∧ t.tow.power = (if s.part.tow.power = 2 then 0 else s.part.tow.power) ∧
    (s.part.sched.frozen = false → ∀ k y, s.part.pool? k = some y → y.life ≠ 0 → ∃ z, t.pool? k = some z ∧ z.writeState ≠ 2) ∧ t = { s.part with sched := t.sched, man := t.man, chains := t.chains, fn0 := t.fn0, fn1 := t.fn1, pools := t.pools, vols := t.vols, tow := t.tow, dict := t.dict, log := t.log, out := t.out })) ∧
  (∀ i cause go, (i = .dumpTriggerLow mv ∧ cause = 0 ∧ go = (mayDump s.part && decide (mv < s.part.dumpMv))) ∨
      (i = .comparatorTrip ∧ cause = 1 ∧ go = mayDump s.part) →
    (go = false → Runs i s (fun t => (i = .dumpTriggerLow mv → reads t) ∧
      t = { s.part with tow := { s.part.tow with sense := t.tow.sense } })) ∧
    (go = true → Runs i s (fun t => t.dump.state = 3 ∧ t.dump.seq = s.part.dump.seq + 1 ∧ t.dump.lostNow = [] ∧
      (∃ g, t.dump.running = some g ∧ g.seq = s.part.dump.seq + 1 ∧ g.cause = cause ∧ g.complete = false) ∧
      t.tow.power = 3 ∧ t.tow.dumpActive = true ∧ t.tow.chgEn = false ∧ t.sched.stopped = true ∧ t.sched.resetting = false ∧
      t.pair.path1Lost = true ∧ t.pair.path2Lost = true ∧ (∀ n ∈ dumpSleepers, (t.island n).powered = false) ∧ t = { s.part with islands := t.islands, sched := t.sched, man := t.man, chains := t.chains, fn0 := t.fn0, fn1 := t.fn1, pools := t.pools, vols := t.vols, toll := t.toll, pair := t.pair, tow := t.tow, dump := t.dump, cal := t.cal, dict := t.dict, log := t.log, out := t.out }))) ∧
  (∀ i, i ∈ [Instr.dumpTargetLost x, .dumpLinkDown x, .dumpTargetWarning x] → Runs i s (fun t =>
    (∀ y, s.part.dump.targets.find? (fun z => z.idx == x.val) = some y → ∃ z, t.dump.targets.find? (fun z => z.idx == x.val) = some z ∧
      z.live = false ∧ z.label = y.label) ∧
    (s.part.dump.state = 3 → x.val ∈ t.dump.lostNow ∧ t.dump.running = s.part.dump.running) ∧ t = { s.part with sched := t.sched, man := t.man, chains := t.chains, fn0 := t.fn0, fn1 := t.fn1, pools := t.pools, vols := t.vols, pair := t.pair, tow := t.tow, dump := t.dump, dict := t.dict, log := t.log, out := t.out })) ∧
  (s.part.dump.running = none → Stays (.dumpComplete ms) s) ∧
  (∀ g, s.part.dump.running = some g → Runs (.dumpComplete ms) s (fun t =>
    finishImage g s.part.dump.lostNow true ∈ t.dump.images ∧ t.dump.running = none ∧ t.dump.lastMs = ms ∧
    t.dump.lastResult = (if g.rows.length = 4 ∧ s.part.dump.lostNow = [] then 1 else 2) ∧ t.dump.state = 2 ∧
    t.tow.power = 6 ∧ t.tow.coreEn = false ∧ t.tow.dumpActive = false ∧ t.tow.afterDump = true ∧ .dumpImage g.slot g.seq ∈ t.out ∧
    t = { s.part with islands := t.islands, toll := t.toll, tow := t.tow, dump := t.dump, dict := t.dict, log := t.log, out := t.out })) ∧
  (Allowed s.part q roleOperator none →
    (∀ i st d, (i = .warnMv q v ∧ (v < 10200 ∨ 13000 < v) ∧ st = stRange ∧ d = 0) ∨
        (i = .warnMv q v ∧ 10200 ≤ v ∧ v ≤ 13000 ∧ v < s.part.dumpMv + 400 ∧ st = stRule ∧ d = ruleDetail 319 0) ∨
        (i = .dumpMv q v ∧ (v < 9800 ∨ 12600 < v) ∧ st = stRange ∧ d = 0) ∨
        (i = .dumpMv q v ∧ 9800 ≤ v ∧ v ≤ 12600 ∧ s.part.warnMv < v + 400 ∧ st = stRule ∧ d = ruleDetail 319 0) →
      Refused i s st d) ∧
    (10200 ≤ v → v ≤ 13000 → s.part.dumpMv + 400 ≤ v → Runs (.warnMv q v) s (fun t => t.warnMv = v ∧
      (mayDump s.part = false → (v : Int) ≤ s.part.senseAt 0 → Answers t stOk 0 ∧ t.sched = s.part.sched ∧ t.dump = s.part.dump) ∧
      (s.part.working = true → s.part.senseAt 0 < (v : Int) → t.sched.brace = true) ∧ t = { s.part with islands := t.islands, sched := t.sched, man := t.man, chains := t.chains, fn0 := t.fn0, fn1 := t.fn1, pools := t.pools, vols := t.vols, toll := t.toll, pair := t.pair, tow := t.tow, dump := t.dump, cal := t.cal, dict := t.dict, log := t.log, out := t.out })) ∧
    (9800 ≤ v → v ≤ 12600 → v + 400 ≤ s.part.warnMv → Runs (.dumpMv q v) s (fun t => t.dumpMv = v ∧
      (mayDump s.part = false → (s.part.warnMv : Int) ≤ s.part.senseAt 0 → Answers t stOk 0 ∧ t.sched = s.part.sched ∧
        t.dump = s.part.dump) ∧ t = { s.part with islands := t.islands, sched := t.sched, man := t.man, chains := t.chains, fn0 := t.fn0, fn1 := t.fn1, pools := t.pools, vols := t.vols, toll := t.toll, pair := t.pair, tow := t.tow, dump := t.dump, cal := t.cal, dict := t.dict, log := t.log, out := t.out }))) ∧
  (Allowed s.part q roleCustodian none →
    (16 ≤ mask.toNat → Refused (.dumpAdopt q mask) s stRange 0) ∧
    (mask.toNat < 16 → Runs (.dumpAdopt q mask) s (fun t => Answers t stOk 0 ∧
      t.dump.targets = s.part.dump.targets.map (fun y => if mask.getLsbD y.idx then { y with label := some deviceUuid } else y) ∧
      t = { s.part with sched := t.sched, man := t.man, chains := t.chains, fn0 := t.fn0, fn1 := t.fn1, pools := t.pools, vols := t.vols, pair := t.pair, tow := t.tow, dump := t.dump, dict := t.dict, log := t.log, out := t.out }))) ∧
  (ch.val ∈ s.part.sched.badChannels → Stays (.protChannelUnhealthy ch) s) ∧
  (ch.val ∉ s.part.sched.badChannels → Runs (.protChannelUnhealthy ch) s (fun t =>
    t.sched.badChannels = s.part.sched.badChannels ++ [ch.val] ∧
    (s.part.sched.brace = false → s.part.sched.frozen = false → ∀ k y, s.part.pool? k = some y → y.life ≠ 0 → ∃ z, t.pool? k = some z ∧ z.writeState = 1) ∧
    t = { s.part with sched := t.sched, man := t.man, chains := t.chains, fn0 := t.fn0, fn1 := t.fn1, pools := t.pools, vols := t.vols, tow := t.tow, dict := t.dict, log := t.log, out := t.out }))

/-- R324 to R326, R343 (13, 14): at 100 °C the part runs at half rate, below 95 °C at full rate again, each recorded. A trip at
110 °C dumps with cause THERMAL where a block is held, else takes the part down to island S; during a dump it is recorded. A
capacity test that may begin puts the store under load and ends a calibration, else it stays due; its result gives GOOD or
REPLACE and, when good, the measured values. Out of its temperature the store holds OUT_OF_TEMP over the state it returns to. -/
def Obligations.HeatAndTheStoreAreWatched : Prop := ∀ (q : Req) (c mC : Int) (cap esr : Nat) (s : State) (due : Part → Prop),
  due = (fun t => (testAllowed s.part = true → t.tow.store = 2 ∧ t.tow.storeUnder = s.part.tow.store ∧ t.tow.storeTest = true ∧
      t.tow.chgEn = false ∧ t.tow.testDue = false ∧ t.tow.power = 0) ∧
    (testAllowed s.part = false → t.tow.store = s.part.tow.store ∧ t.tow.testDue = true ∧ t.tow.power = s.part.tow.power) ∧
    t.cal.state ≠ 1) →
  Runs (.thermalThrottle c) s (fun t => t.tow.dieC = c ∧
    (c < 100 ∨ s.part.sched.throttled = true → t = { s.part with tow := { s.part.tow with dieC := c } }) ∧
    (100 ≤ c → s.part.sched.throttled = false → t.sched = { s.part.sched with throttled := true } ∧ t = { s.part with sched := t.sched, tow := t.tow, dict := t.dict, log := t.log, out := t.out })) ∧
  Runs (.thermalRelease c) s (fun t => t.tow.dieC = c ∧
    (95 ≤ c ∨ s.part.sched.throttled = false → t = { s.part with tow := { s.part.tow with dieC := c } }) ∧
    (c < 95 → s.part.sched.throttled = true → t.sched = { s.part.sched with throttled := false } ∧ t = { s.part with sched := t.sched, tow := t.tow, dict := t.dict, log := t.log, out := t.out })) ∧
  (c < 110 ∨ (s.part.working = false ∧ s.part.tow.power ≠ 3) → Runs (.thermalTrip c) s (fun t =>
    t = { s.part with tow := { s.part.tow with dieC := c } })) ∧
  (110 ≤ c → s.part.working = true ∨ s.part.tow.power = 3 → Runs (.thermalTrip c) s (fun t => t.tow.dieC = c ∧ t.tow.tripped = true ∧
    (s.part.tow.power = 3 → t.tow.power = 3 ∧ t = { s.part with tow := t.tow, dict := t.dict, log := t.log, out := t.out }) ∧
    (s.part.tow.power ≠ 3 → mayDump s.part = true → t.dump.state = 3 ∧ t.tow.power = 3 ∧
      ∃ g, t.dump.running = some g ∧ g.cause = 2 ∧ g.seq = s.part.dump.seq + 1) ∧
    (s.part.tow.power ≠ 3 → mayDump s.part = false → t.tow.power = 6 ∧ t.tow.coreEn = false ∧ t.sched.stopped = true ∧
      t.sched.ready = false ∧ t.pair.path1Lost = true ∧ t.pair.path2Lost = true ∧ (∀ i, i ≠ .s → (t.island i).powered = false) ∧
      t = { s.part with islands := t.islands, sched := t.sched, toll := t.toll, pair := t.pair, tow := t.tow, cal := t.cal, dict := t.dict, log := t.log, out := t.out }) ∧ t = { s.part with islands := t.islands, sched := t.sched, man := t.man, chains := t.chains, fn0 := t.fn0, fn1 := t.fn1, pools := t.pools, vols := t.vols, toll := t.toll, pair := t.pair, tow := t.tow, dump := t.dump, cal := t.cal, dict := t.dict, log := t.log, out := t.out })) ∧
  Runs .storeTest s (fun t => due t ∧ t = { s.part with tow := t.tow, cal := t.cal, dict := t.dict, log := t.log, out := t.out }) ∧
  (Allowed s.part q roleCustodian none → Runs (.storeTestNow q) s (fun t => due t ∧ Answers t stOk 0 ∧ t = { s.part with fn0 := t.fn0, fn1 := t.fn1, tow := t.tow, cal := t.cal, dict := t.dict, log := t.log, out := t.out })) ∧
  (s.part.tow.store ≠ 2 → Stays (.storeTestEnd cap esr) s) ∧
  (s.part.tow.store = 2 → ∀ bad, bad = (decide (2 * cap < s.part.objNum 0x2701 3) || decide (1000 < esr)) →
    Runs (.storeTestEnd cap esr) s (fun t => t = { s.part with tow := { s.part.tow with
      storeTest := false, chgEn := true, store := if bad then 3 else 0, capMf := if bad then s.part.tow.capMf else cap,
      esrMohm := if bad then s.part.tow.esrMohm else esr } })) ∧
  ((-20000 ≤ mC ∧ mC ≤ 70000) ∨ s.part.tow.store = 4 → Stays (.storeOutOfTemp mC) s) ∧
  (mC < -20000 ∨ 70000 < mC → s.part.tow.store ≠ 4 → Runs (.storeOutOfTemp mC) s (fun t => t.tow.store = 4 ∧ t.tow.storeTest = false ∧
    t.tow.storeUnder = (if s.part.tow.store = 2 then s.part.tow.storeUnder else s.part.tow.store) ∧ t = { s.part with tow := t.tow, dict := t.dict, log := t.log, out := t.out })) ∧
  (s.part.tow.store ≠ 4 ∨ mC < -18000 ∨ 68000 < mC → Stays (.storeTempRecover mC) s) ∧
  (s.part.tow.store = 4 → -18000 ≤ mC → mC ≤ 68000 → Runs (.storeTempRecover mC) s (fun t =>
    t.tow.store = s.part.tow.storeUnder ∧ t = { s.part with tow := t.tow, dict := t.dict, log := t.log, out := t.out }))

/-- R15, R213, R320 to R323, Tables 13.3, 13.4 (13): a part with nothing to do goes IDLE. A sleep request is refused with its
cause; one carried out waits until nothing is held, issued or to hand over, and then stops the members and powers every island
down but S. The end of a scheduled wake's work asks for the same. A source that fires in archive sleep and is enabled wakes the
part at once where the wake limits hold: it boots with its cause recorded and the peer area cleared, a scheduled wake without
islands H and X; else the source is kept pending. A source that is disabled, or fires while the part is awake, does nothing but
bring a host port up. -/
def Obligations.ThePartSleepsAndWakes : Prop := ∀ (q : Req) (f : Fn) (node : Nat) (ch : Fin 8) (e : WakeEnv) (s : State)
    (pendsOr : Part → Prop) (awake : Nat → Part → Prop),
  pendsOr = (fun t => t.tow.sleepRefused = 0 ∧
    (s.part.man.held = [] → s.part.man.entries = [] → (∀ m ∈ s.part.members, m.waiting = [] ∧ m.outstanding = []) →
      toHandOver s.part = [] → t.tow.power = 5 ∧ t.tow.sleeping = false ∧ t.tow.coreEn = false ∧ t.sched.ready = false ∧
      (∀ i, i ≠ .s → (t.island i).powered = false) ∧ t.dict.sessions = []) ∧
    (s.part.man.held ≠ [] ∨ s.part.man.entries ≠ [] → t.tow.sleeping = true ∧ t.tow.power = s.part.tow.power ∧
      t.islands = s.part.islands ∧ t.members = s.part.members)) →
  awake = (fun src t => (t.tow.power = 0 ∨ t.tow.power = 4) ∧ t.tow.coreEn = true ∧ t.tow.wakeCause = src ∧ t.tow.wakePending = [] ∧
    t.tow.dieC = e.dieC ∧ t.sched.ready = true ∧ (∀ i, i ≠ .h → i ≠ .x → t.ready i = true) ∧ t.ready .h = decide (src ≠ 2) ∧
    (src = 2 → t.ready .x = false ∧
      t.tow.schedNext = some (s.part.timeUs + hour (s.part.objNum 0x2104 2)))) →
  (s.part.tow.power ≠ 0 ∨ nothingToDo s.part = false → Stays .idleEntry s) ∧
  (s.part.tow.power = 0 → nothingToDo s.part = true → Runs .idleEntry s (fun t =>
    t = { s.part with tow := { s.part.tow with power := 1 } })) ∧
  (∀ i forced, (i = .sleepRequest q ∧ forced = false) ∨ (i = .sleepRequestForced q ∧ forced = true) →
    Allowed s.part q roleOperator none →
    (sleepRefusal forced s.part ≠ 0 → Runs i s (fun t => Answers t stState (ruleDetail 321 (sleepRefusal forced s.part)) ∧
      t.tow = { s.part.tow with sleepRefused := sleepRefusal forced s.part } ∧
      t = { s.part with tow := t.tow, dict := t.dict, out := t.out, fn0 := t.fn0, fn1 := t.fn1 })) ∧
    (sleepRefusal forced s.part = 0 → Runs i s (fun t => pendsOr t ∧ t = { s.part with islands := t.islands, sched := t.sched, fn0 := t.fn0, fn1 := t.fn1, pools := t.pools, members := t.members, toll := t.toll, pair := t.pair, tow := t.tow, dict := t.dict, log := t.log, out := t.out }))) ∧
  (s.part.tow.wakeCause ≠ 2 ∨ 1 < s.part.tow.power ∨ s.part.tow.sleeping = true → Stays .returnToArchiveSleep s) ∧
  (s.part.tow.wakeCause = 2 → s.part.tow.power ≤ 1 → s.part.tow.sleeping = false →
    (sleepRefusal false s.part ≠ 0 → Runs .returnToArchiveSleep s (fun t =>
      t = { s.part with tow := { s.part.tow with sleepRefused := sleepRefusal false s.part } })) ∧
    (sleepRefusal false s.part = 0 → Runs .returnToArchiveSleep s (fun t => pendsOr t ∧ t = { s.part with islands := t.islands, sched := t.sched, pools := t.pools, members := t.members, toll := t.toll, pair := t.pair, tow := t.tow, dict := t.dict, log := t.log, out := t.out }))) ∧
  (∀ i src, (i, src) ∈ [(Instr.wakeHost f e, 0), (.wakeCan node e, 1), (.wakeScheduled e, 2), (.wakePresence e, 3),
      (.wakeThreshold ch e, 4), (.wakeStore e, 5)] →
    (src = 1 → node = s.part.dict.canNode ∧ s.part.objNum 0x1100 4 ≠ 0) →
    s.part.tow.power = 5 → (s.part.objNum 0x2700 4).testBit src = true →
    (wakeLimits s.part e = false → Runs i s (fun t => src ∈ t.tow.wakePending ∧ (∀ n ∈ s.part.tow.wakePending, n ∈ t.tow.wakePending) ∧
      t.tow.power = 5 ∧ t = { s.part with tow := t.tow, dict := t.dict, log := t.log, out := t.out })) ∧
    (wakeLimits s.part e = true → ∃ t, exec i s = .next { s with part := t, peerMem := [] } ∧ awake src t ∧
      (src = 0 → (t.fn f).perst = false) ∧ t = { s.part with islands := t.islands, bridges := t.bridges, sched := t.sched, man := t.man, chains := t.chains, fn0 := t.fn0, fn1 := t.fn1, chainSplit := t.chainSplit, tableGen := t.tableGen, peerBar := t.peerBar, subsysId := t.subsysId, pools := t.pools, vols := t.vols, members := t.members, fabric := t.fabric, toll := t.toll, pair := t.pair, tow := t.tow, dump := t.dump, cal := t.cal, dict := t.dict, log := t.log, out := t.out })) ∧
  (∀ i src, (i, src) ∈ [(Instr.wakeScheduled e, 2), (.wakePresence e, 3), (.wakeThreshold ch e, 4), (.wakeStore e, 5)] →
    s.part.tow.power ≠ 5 ∨ (s.part.objNum 0x2700 4).testBit src = false → Stays i s) ∧
  (s.part.tow.power ≠ 5 ∨ (s.part.objNum 0x2700 4).testBit 1 = false ∨ node ≠ s.part.dict.canNode ∨ s.part.objNum 0x1100 4 = 0 →
    Stays (.wakeCan node e) s) ∧
  (s.part.working = false → s.part.tow.power ≠ 5 ∨ (s.part.objNum 0x2700 4).testBit 0 = false → Stays (.wakeHost f e) s) ∧
  (s.part.working = true → Runs (.wakeHost f e) s (fun t => (t.fn f).perst = false ∧ t.ready .h = true ∧
    (s.part.ready .h = false → s.part.pair.state ≠ 0 → t.ready .x = true) ∧
    t = { s.part with fn0 := t.fn0, fn1 := t.fn1, islands := t.islands, out := t.out }))

/-- R256, R322, R324, R334, R393, R396 to R401, R407, R410, Table 17.7 (10, 13, 17): a boot, at power on, after a loss of the
rails, at the release of COLD_RESET_N, after a dump, after a thermal trip or when the wake limits are met again, runs the image
the boot ROM finds: the part is ACTIVE or RESTORING and READY, every island but X up, the channels found noted, the peer area
cleared; with no image only the boot ROM runs; with the factory strap the part does not boot. A boot outside the wake limits
waits for them. COLD_RESET_N is honoured while nothing is held and no dump runs. A test access port instruction takes force. -/
def Obligations.ThePartBoots : Prop := ∀ (b : BootEnv) (e : WakeEnv) (c : Int) (op : TapOp) (s : State) (up : BootEnv → Part → Prop)
    (waits : Nat → Bool → Part → Prop),
  up = (fun b t => (b.strapFactory = true → t.tow.power = 6 ∧ t.tow.coreEn = true) ∧
    (b.strapFactory = false → b.slot0Good = false → b.slot1Good = false → t.fw.bootFailed = true ∧ t.tow.power = 6 ∧ t.ready .g = true) ∧
    (b.strapFactory = false → b.slot0Good = true ∨ b.slot1Good = true → (t.tow.power = 0 ∨ t.tow.power = 4) ∧ t.tow.coreEn = true ∧
      t.sched.ready = true ∧ (∀ i, i ≠ .x → t.ready i = true) ∧ t.tow.dieC = b.wake.dieC ∧ t.fw.bootFailed = false ∧
      t.sched.badChannels = (List.range 12).filter (fun i => decide (b.channels ≤ i)))) →
  waits = (fun cause lost t => t.tow.limitsWait = some (cause, lost, b) ∧ t.tow.power = 6 ∧ t.tow.coreEn = false ∧
    (∀ i, (t.island i).powered = decide (i = .s) ∧ t.ready i = decide (i = .s))) →
  (∃ t, exec (.powerOn b) s = .next { s with part := t, peerMem := [] } ∧ (wakeLimits s.part b.wake = true → up b t) ∧
    (wakeLimits s.part b.wake = false → waits 0 true t) ∧ t = { s.part with islands := t.islands, bridges := t.bridges, sched := t.sched, man := t.man, chains := t.chains, fn0 := t.fn0, fn1 := t.fn1, chainSplit := t.chainSplit, tableGen := t.tableGen, peerBar := t.peerBar, subsysId := t.subsysId, pools := t.pools, vols := t.vols, members := t.members, fabric := t.fabric, toll := t.toll, pair := t.pair, tow := t.tow, dump := t.dump, cal := t.cal, dict := t.dict, fw := t.fw, log := t.log, out := t.out }) ∧
  (s.part.tow.coreEn = false → Stays (.railsGoodFall b) s) ∧
  (s.part.tow.coreEn = true → ∃ t, exec (.railsGoodFall b) s = .next { s with part := t, peerMem := [] } ∧
    (wakeLimits s.part b.wake = true → up b t) ∧ (wakeLimits s.part b.wake = false → waits 5 false t) ∧ t = { s.part with islands := t.islands, bridges := t.bridges, sched := t.sched, man := t.man, chains := t.chains, fn0 := t.fn0, fn1 := t.fn1, chainSplit := t.chainSplit, tableGen := t.tableGen, peerBar := t.peerBar, subsysId := t.subsysId, pools := t.pools, vols := t.vols, members := t.members, fabric := t.fabric, toll := t.toll, pair := t.pair, tow := t.tow, dump := t.dump, cal := t.cal, dict := t.dict, fw := t.fw, log := t.log, out := t.out }) ∧
  (restoreDue b s.part = false → Stays (.restoreBoot b) s) ∧
  (restoreDue b s.part = true → ∃ t, exec (.restoreBoot b) s = .next { s with part := t, peerMem := [] } ∧ up b t ∧ t = { s.part with islands := t.islands, bridges := t.bridges, sched := t.sched, man := t.man, chains := t.chains, fn0 := t.fn0, fn1 := t.fn1, chainSplit := t.chainSplit, tableGen := t.tableGen, peerBar := t.peerBar, subsysId := t.subsysId, pools := t.pools, vols := t.vols, members := t.members, fabric := t.fabric, toll := t.toll, pair := t.pair, tow := t.tow, dump := t.dump, cal := t.cal, dict := t.dict, fw := t.fw, log := t.log, out := t.out }) ∧
  (recoveryDue c s.part = false → Runs (.thermalRecovery c b) s (fun t => t = { s.part with tow := { s.part.tow with dieC := c } })) ∧
  (recoveryDue c s.part = true → ∃ t, exec (.thermalRecovery c b) s = .next { s with part := t, peerMem := [] } ∧ up b t ∧
    t.tow.tripped = (b.strapFactory || (!b.slot0Good && !b.slot1Good)) ∧ t = { s.part with islands := t.islands, bridges := t.bridges, sched := t.sched, man := t.man, chains := t.chains, fn0 := t.fn0, fn1 := t.fn1, chainSplit := t.chainSplit, tableGen := t.tableGen, peerBar := t.peerBar, subsysId := t.subsysId, pools := t.pools, vols := t.vols, members := t.members, fabric := t.fabric, toll := t.toll, pair := t.pair, tow := t.tow, dump := t.dump, cal := t.cal, dict := t.dict, fw := t.fw, log := t.log, out := t.out }) ∧
  (s.part.tow.coldHeld = true → Stays (.coldResetN true b) s) ∧
  (s.part.tow.coldHeld = false →
    (coldAllowed s.part = false → Runs (.coldResetN true b) s (fun t =>
      t = { s.part with log := t.log, dict := t.dict, tow := t.tow, out := t.out } ∧ t.tow.coldHeld = false)) ∧
    (coldAllowed s.part = true → ∃ t, exec (.coldResetN true b) s = .next { s with part := t, peerMem := [] } ∧
      t.tow.coldHeld = true ∧ t.chains = [] ∧ t.dict.sessions = [] ∧ (∀ i, i ≠ .s → t.ready i = false) ∧
      t.tow.power = (if s.part.tow.coreEn then 6 else s.part.tow.power) ∧ t.pools = s.part.pools) ∧
    Stays (.coldResetN false b) s) ∧
  (s.part.tow.coldHeld = true → Runs (.coldResetN false b) s (fun t => t.tow.coldHeld = false ∧ t.tow.tap = .bypass ∧
    (s.part.tow.coreEn = true → up b t) ∧
    (s.part.tow.coreEn = false → t = { s.part with tow := { s.part.tow with coldHeld := false, tap := .bypass } }) ∧ t = { s.part with islands := t.islands, bridges := t.bridges, sched := t.sched, man := t.man, chains := t.chains, fn0 := t.fn0, fn1 := t.fn1, chainSplit := t.chainSplit, tableGen := t.tableGen, peerBar := t.peerBar, subsysId := t.subsysId, pools := t.pools, vols := t.vols, members := t.members, fabric := t.fabric, toll := t.toll, pair := t.pair, tow := t.tow, dump := t.dump, cal := t.cal, dict := t.dict, fw := t.fw, log := t.log, out := t.out })) ∧
  (wakeLimits s.part e = false → Stays (.wakeLimitsMet e) s) ∧
  (wakeLimits s.part e = true →
    (∀ cause lost d, s.part.tow.limitsWait = some (cause, lost, d) →
      ∃ t, exec (.wakeLimitsMet e) s = .next { s with part := t, peerMem := [] } ∧ up { d with wake := e } t ∧ t.tow.limitsWait = none ∧
        t = { s.part with islands := t.islands, bridges := t.bridges, sched := t.sched, man := t.man, chains := t.chains, fn0 := t.fn0, fn1 := t.fn1, chainSplit := t.chainSplit, tableGen := t.tableGen, peerBar := t.peerBar, subsysId := t.subsysId, pools := t.pools, vols := t.vols, members := t.members, fabric := t.fabric, toll := t.toll, pair := t.pair, tow := t.tow, dump := t.dump, cal := t.cal, dict := t.dict, fw := t.fw, log := t.log, out := t.out }) ∧
    (s.part.tow.limitsWait = none → s.part.tow.power ≠ 5 ∨ s.part.tow.wakePending = [] → Stays (.wakeLimitsMet e) s) ∧
    (∀ src rest, s.part.tow.limitsWait = none → s.part.tow.power = 5 → s.part.tow.wakePending = src :: rest →
      ∃ t, exec (.wakeLimitsMet e) s = .next { s with part := t, peerMem := [] } ∧ (t.tow.power = 0 ∨ t.tow.power = 4) ∧
        t.tow.wakeCause = src ∧ t.tow.wakePending = [] ∧ t.sched.ready = true ∧ t = { s.part with islands := t.islands, bridges := t.bridges, sched := t.sched, man := t.man, chains := t.chains, fn0 := t.fn0, fn1 := t.fn1, chainSplit := t.chainSplit, tableGen := t.tableGen, peerBar := t.peerBar, subsysId := t.subsysId, pools := t.pools, vols := t.vols, members := t.members, fabric := t.fabric, toll := t.toll, pair := t.pair, tow := t.tow, dump := t.dump, cal := t.cal, dict := t.dict, log := t.log, out := t.out })) ∧
  Runs (.tapInstruction op) s (fun t => t.tow = { s.part.tow with tap := tapActs op s.part.tow.coldHeld } ∧
    (op = .idcode → t.out = s.part.out ++ [.tapIdcode idcode]) ∧ (op ≠ .idcode → t.out = s.part.out) ∧
    t = { s.part with tow := t.tow, out := t.out })

/-- R337 to R348 (14): an Operator's calibration is refused with its cause, or runs: the reference found, the start time, every
reading marked stale. Its two runs end it: the outcome of Table 14.2 is recorded, only an accepted one moves the targets (the mean
of both runs, a rate at most 20 ppm from the one in force), the coefficients in force stay, the marks fall. Each slew step moves a
coefficient by 1/64 of the way. A Custodian makes the factory values the targets. -/
def Obligations.CalibrationsRun : Prop := ∀ (q : Req) (what : Nat) (refs : CalRefs) (r : CalRuns) (s : State) (c : CalSt)
    (fresh : Part → Prop),
  s.part.cal = c →
  fresh = (fun t => ∀ (i f : Nat), s.part.tow.flags[i]? = some f → t.tow.flags[i]? = some (f / 2 * 2)) →
  (Allowed s.part q roleOperator none →
    (4 ≤ what → Refused (.calStart q what refs) s stRange 0) ∧
    (what < 4 → calRefusal what refs s.part ≠ 0 → Runs (.calStart q what refs) s (fun t =>
      Answers t stState (ruleDetail 340 (calRefusal what refs s.part)) ∧
      t.cal = { c with refused := calRefusal what refs s.part } ∧ t = { s.part with fn0 := t.fn0, fn1 := t.fn1, cal := t.cal, dict := t.dict, out := t.out })) ∧
    (what < 4 → calRefusal what refs s.part = 0 → Runs (.calStart q what refs) s (fun t => Answers t stOk 0 ∧
      t.cal = { c with state := 1, refused := 0, fref := frefFound refs, what := what, startAt := s.part.timeUs } ∧
      (∀ (i f : Nat), s.part.tow.flags[i]? = some f → t.tow.flags[i]? = some (f / 2 * 2 + 1)) ∧ t = { s.part with fn0 := t.fn0, fn1 := t.fn1, tow := t.tow, cal := t.cal, dict := t.dict, log := t.log, out := t.out }))) ∧
  (c.state ≠ 1 → Stays (.calRunsComplete r) s) ∧
  (c.state = 1 → ∀ n, n = calOutcome c r → Runs (.calRunsComplete r) s (fun t =>
    t.cal.result = n ∧ t.cal.state = (if t.cal.slewing then 2 else 0) ∧ fresh t ∧
    t.cal.gain = c.gain ∧ t.cal.offset = c.offset ∧ t.cal.time = c.time ∧ t.cal.xtal = c.xtal ∧
    (∃ h, t.cal.history.head? = some h ∧ h.outcome = n ∧ h.runs = some r ∧ h.start = c.startAt) ∧
    (n = 1 ∧ c.what.testBit 0 = true →
      t.cal.tGain = meanOf r.run1.gainPpb r.run2.gainPpb ∧ t.cal.tOffset = meanOf r.run1.offset r.run2.offset) ∧
    (n = 1 ∧ c.what.testBit 1 = true → t.cal.tTime = clipRate c.time (meanOf r.run1.timePpb r.run2.timePpb) ∧
      t.cal.tXtal = clipRate c.xtal (meanOf r.run1.xtalPpb r.run2.xtalPpb)) ∧
    (n ≠ 1 ∨ c.what.testBit 0 = false → t.cal.tGain = c.tGain ∧ t.cal.tOffset = c.tOffset) ∧
    (n ≠ 1 ∨ c.what.testBit 1 = false → t.cal.tTime = c.tTime ∧ t.cal.tXtal = c.tXtal) ∧ t = { s.part with tow := t.tow, cal := t.cal, dict := t.dict, log := t.log, out := t.out })) ∧
  Runs .calSlewStep s (fun t => t.cal.gain = slewTo c.gain c.tGain ∧ t.cal.offset = slewTo c.offset c.tOffset ∧
    t.cal.time = slewTo c.time c.tTime ∧ t.cal.xtal = slewTo c.xtal c.tXtal ∧
    (c.state = 1 → t.cal.state = 1) ∧ (c.state ≠ 1 → t.cal.state = (if t.cal.slewing then 2 else 0)) ∧
    t.cal = { c with gain := t.cal.gain, offset := t.cal.offset, time := t.cal.time, xtal := t.cal.xtal, state := t.cal.state } ∧
    t = { s.part with cal := t.cal }) ∧
  (Allowed s.part q roleCustodian none → Runs (.calFactory q) s (fun t => Answers t stOk 0 ∧
    t.cal = { c with tGain := Config.factoryGainPpb, tOffset := Config.factoryOffset, tTime := 0, tXtal := 0, state := t.cal.state } ∧
    t = { s.part with fn0 := t.fn0, fn1 := t.fn1, cal := t.cal, dict := t.dict, out := t.out }))

/-- R376 to R381, R385 (16): an event reaches the engine while island G is ready: a repeat counts in its record, another is
numbered and queued; with the queue full one below severity 8 is dropped and counted. While G sleeps the Towpath holds 64 of its
own and counts the rest, and no other is kept. The oldest queued record is written, to the permanent region while it has room, else
around the circulating one. Drops are reported once the queue has room. An export leaves on every home this part's records and is
timed; an Operator orders one. -/
def Obligations.EventsAreLoggedAndExported : Prop := ∀ (q : Req) (e : LogEv) (s : State) (g : LogSt) (sev w : Nat) (exported : Part → Prop),
  s.part.log = g → sev = (sevOf e.code).getD e.sev → w = sec (s.part.objNum 0x5000 4) →
  exported = (fun t => (exportHomes s.part ≠ [] → t.log.exportLast = s.part.timeUs) ∧
    ∀ k ∈ exportHomes s.part, ∀ m, s.part.member? k = some m → ∃ y x, t.member? k = some y ∧ y.logExport = some x ∧ x.uuid = deviceUuid ∧
      x.exported = s.part.timeUs ∧ x.permCount = g.perm.length ∧ x.circWritten = g.circWritten) →
  (s.part.ready .g = false →
    (e.subsystem ≠ 19 → Stays (.logEvent e) s) ∧
    (e.subsystem = 19 → s.part.tow.heldLog.length < 64 → Runs (.logEvent e) s (fun t =>
      t = { s.part with tow := { s.part.tow with heldLog := s.part.tow.heldLog ++ [e] } })) ∧
    (e.subsystem = 19 → 64 ≤ s.part.tow.heldLog.length → Runs (.logEvent e) s (fun t =>
      t = { s.part with tow := { s.part.tow with heldOver := s.part.tow.heldOver + 1 } })) ∧
    Stays .logRecordWrite s ∧ Stays .logDropped s) ∧
  (s.part.ready .g = true →
    (∀ r, g.repeated e = some r → Runs (.logEvent e) s (fun t => t.log = g.touch r (r.again e.time) ∧ t = { s.part with log := t.log })) ∧
    (g.repeated e = none → g.queue.length < logQueueMax → Runs (.logEvent e) s (fun t =>
      t.log.queue = g.queue ++ [LogRec.ofEv e g.seqNext sev w false] ∧ t.log.seqNext = g.seqNext + 1 ∧
      t.log.mark = (if g.mark ≤ g.seqNext then g.mark + 1024 else g.mark) ∧ t = { s.part with dict := t.dict, log := t.log, out := t.out })) ∧
    (g.repeated e = none → logQueueMax ≤ g.queue.length → sev < 8 → Runs (.logEvent e) s (fun t =>
      t.log.queue = g.queue ∧ t.log.dropped = g.dropped + 1 ∧ t.log.sinceLow = g.sinceLow + 1 ∧ t = { s.part with log := t.log })) ∧
    (∀ r rest, g.queue = r :: rest →
      (g.perm.length < permSlots → Runs .logRecordWrite s (fun t => t.log.perm = g.perm ++ [{ r with permanent := true }] ∧
        t.log.circ = g.circ ∧ (g.overflow = [] → t.log.queue = rest) ∧ t = { s.part with log := t.log })) ∧
      (permSlots ≤ g.perm.length → Runs .logRecordWrite s (fun t => alGet (g.circWritten % circSlots) t.log.circ = some r ∧
        t.log.circWritten = g.circWritten + 1 ∧ t.log.perm = g.perm ∧ (g.overflow = [] → t.log.queue = rest) ∧
        t = { s.part with log := t.log }))) ∧
    (logQueueMax ≤ g.queue.length → Stays .logDropped s) ∧
    (g.queue.length + 2 ≤ logQueueMax → Runs .logDropped s (fun t => t.log.sinceLow = 0 ∧ t.log.sinceHigh = 0 ∧
      t.log.dropped = g.dropped ∧ t = { s.part with tow := t.tow, dict := t.dict, log := t.log, out := t.out }))) ∧
  (exportHomes s.part = [] → Stays .logExport s) ∧
  Runs .logExport s (fun t => exported t ∧ t = { s.part with members := t.members, tow := t.tow, dict := t.dict, log := t.log, out := t.out }) ∧
  (Allowed s.part q roleOperator none → Runs (.logExportNow q) s (fun t => exported t ∧ Answers t stOk 0 ∧ t = { s.part with fn0 := t.fn0, fn1 := t.fn1, members := t.members, tow := t.tow, dict := t.dict, log := t.log, out := t.out }))

/-- R352 to R361, R365 (15): a frame for the partner is relayed with path 1 up, or answered by this unit; a malformed one, or one
for no session here, is answered and changes nothing else; one whose MAC is wrong is dropped and counted; the SEQ before the one
expected gets the last response again; any other SEQ is answered by itself. OPEN makes a session, open unless it must
authenticate; refused it makes none. AUTH with the right proof opens the session, a wrong one ends it and counts, the fifth within
60 s locking the transport. KEEPALIVE, CLOSE and an idle session do what their names say, a lock ends. CLAIM sets the first
Custodian credential on a mailbox. -/
def Obligations.SessionsOpenAndClose : Prop := ∀ (tr : Transport) (node : Nat) (f : Frame) (o : Outside) (n : Nat) (s : State)
    (here : Nat → Prop) (taken : SessSt → Nat → Prop),
  here = (fun op => (f.twin = false ∨ tr = .twin) ∧ wellFormedFrame tr op f = true) →
  taken = (fun x op => here op ∧ s.part.sess? f.session = some x ∧ x.boundTo tr node = true ∧ (x.isOpen = true → macGood x op f = true) ∧
    f.seq = x.nextSeq) →
  (∀ i op, (i, op) ∈ [(Instr.auth tr node f, 2), (.sessionClose tr node f, 3), (.keepalive tr node f, 5), (.dictRead tr node f, 0x10),
      (.dictWrite tr node f o, 0x11), (.sessionOpen tr node f, 1), (.claim tr f, 4), (.twinRelay tr node n f, n)] →
    ((f.twin = true ∧ tr ≠ .twin) ∨ i = .twinRelay tr node n f →
      wellFormedFrame tr op f = true → s.part.pair.path1Lost = false → s.part.pair.state ≠ 0 → Runs i s (fun t =>
        t = { s.part with out := s.part.out ++ [.twinFrame (requestBody op f ++ f.mac)] })) ∧
    ((f.twin = true ∧ tr ≠ .twin ∧ (wellFormedFrame tr op f = false ∨ s.part.pair.path1Lost = true ∨ s.part.pair.state = 0)) ∨
        (i = .twinRelay tr node n f ∧ (wellFormedFrame tr op f = false ∨ s.part.pair.path1Lost = true ∨ s.part.pair.state = 0)) ∨
        (wellFormedFrame tr op f = false ∧ (f.twin = false ∨ tr = .twin)) ∨
        (op ∈ [2, 3, 5, 0x10, 0x11] ∧ here op ∧ i ≠ .twinRelay tr node n f ∧
          ∀ x, s.part.sess? f.session = some x → x.boundTo tr node = false) →
      Runs i s (fun t => t = { s.part with fn0 := t.fn0, fn1 := t.fn1, out := t.out }))) ∧
  (∀ i op, (i, op) ∈ [(Instr.auth tr node f, 2), (.sessionClose tr node f, 3), (.keepalive tr node f, 5), (.dictRead tr node f, 0x10),
      (.dictWrite tr node f o, 0x11)] → here op → ∀ x, s.part.sess? f.session = some x → x.boundTo tr node = true →
    (x.isOpen = true → macGood x op f = false → Runs i s (fun t =>
      t.dict.macDrops = s.part.dict.macDrops + (if x.noAuth then 0 else 1) ∧ t.dict.sessions = s.part.dict.sessions ∧
      t.out = s.part.out ∧ t = { s.part with dict := t.dict, fn0 := t.fn0, fn1 := t.fn1 })) ∧
    (x.isOpen = false ∨ macGood x op f = true →
      (∀ b, f.seq + 1 = x.nextSeq → x.lastResp = some b → Runs i s (fun t => t.dict = s.part.dict ∧ t = { s.part with fn0 := t.fn0, fn1 := t.fn1, out := t.out })) ∧
      (f.seq ≠ x.nextSeq → f.seq + 1 ≠ x.nextSeq ∨ x.lastResp = none → Runs i s (fun t =>
        (∃ y, t.sess? f.session = some y ∧ y.devSeq = x.devSeq + 1 ∧ y.nextSeq = x.nextSeq ∧ y.lastResp = x.lastResp) ∧
        t = { s.part with dict := t.dict, out := t.out, fn0 := t.fn0, fn1 := t.fn1 })))) ∧
  (here 1 →
    (openRefusal tr f s.part ≠ none → Runs (.sessionOpen tr node f) s (fun t => t = { s.part with fn0 := t.fn0, fn1 := t.fn1, out := t.out })) ∧
    (openRefusal tr f s.part = none → s.part.sess? (freshSession s.part) = none → Runs (.sessionOpen tr node f) s (fun t =>
      Answers t stOk 0 ∧ (∃ x ∈ t.dict.sessions, x.id = freshSession s.part ∧ x.transport = tr ∧ x.node = node ∧
        x.role = (f.data.getD 0 0).toNat ∧ x.isOpen = !needsAuth s.part x.role ∧ x.nextSeq = 1 ∧ x.lastResp ≠ none) ∧
      (∀ y ∈ s.part.dict.sessions, y ∈ t.dict.sessions) ∧ t = { s.part with fn0 := t.fn0, fn1 := t.fn1, toll := t.toll, dict := t.dict, out := t.out }))) ∧
  (∀ x, taken x 2 →
    (x.isOpen = true → Runs (.auth tr node f) s (fun t => Answers t stBadOp 0 ∧ t = { s.part with fn0 := t.fn0, fn1 := t.fn1, dict := t.dict, out := t.out })) ∧
    (x.isOpen = false →
      (f.data.length ≠ 16 → Runs (.auth tr node f) s (fun t => Answers t stTypeLen 0 ∧ t = { s.part with fn0 := t.fn0, fn1 := t.fn1, dict := t.dict, out := t.out })) ∧
      (f.data.length = 16 → f.data = cmac x.kMac (ascii "PLYAUTHC" ++ x.ctx) → Runs (.auth tr node f) s (fun t => Answers t stOk 0 ∧
        (f.seq ≠ 0xFFFF → ∃ y, t.sess? f.session = some y ∧ y.isOpen = true ∧ y.role = x.role) ∧ t = { s.part with fn0 := t.fn0, fn1 := t.fn1, dict := t.dict, out := t.out })) ∧
      (f.data.length = 16 → f.data ≠ cmac x.kMac (ascii "PLYAUTHC" ++ x.ctx) → Runs (.auth tr node f) s (fun t =>
        Answers t stAuth 0 ∧ t.sess? f.session = none ∧ t.dict.authFails = s.part.dict.authFails + 1 ∧
        (4 ≤ (s.part.dict.failTimes.filter (fun l => decide (l.1 = x.transport) && decide (s.part.timeUs < l.2 + sec 60))).length →
          (x.transport, s.part.timeUs + sec 60) ∈ t.dict.locked) ∧ t = { s.part with fn0 := t.fn0, fn1 := t.fn1, tow := t.tow, dict := t.dict, log := t.log, out := t.out })))) ∧
  (∀ x, taken x 3 → Runs (.sessionClose tr node f) s (fun t => Answers t stOk 0 ∧ t.sess? f.session = none ∧
    (∀ l ∈ t.dict.locks, l.2 ≠ x.id) ∧ t = { s.part with fn0 := t.fn0, fn1 := t.fn1, dict := t.dict, out := t.out })) ∧
  (∀ x, taken x 5 →
    (x.isOpen = false → Runs (.keepalive tr node f) s (fun t => Answers t stSession 0 ∧ t = { s.part with fn0 := t.fn0, fn1 := t.fn1, dict := t.dict, out := t.out })) ∧
    (x.isOpen = true → Runs (.keepalive tr node f) s (fun t => Answers t stOk 0 ∧
      (f.seq ≠ 0xFFFF → ∃ y, t.sess? f.session = some y ∧ y.nextSeq = x.nextSeq + 1 ∧ y.lastResp ≠ none ∧ y.isOpen = true) ∧
      t = { s.part with fn0 := t.fn0, fn1 := t.fn1, dict := t.dict, out := t.out }))) ∧
  (here 4 → f.data.length = 32 → f.session = 0 →
    (isMailbox tr = false ∨ (cred s.part 2).isSome → Runs (.claim tr f) s (fun t => t = { s.part with fn0 := t.fn0, fn1 := t.fn1, out := t.out })) ∧
    (isMailbox tr = true → cred s.part 2 = none → Runs (.claim tr f) s (fun t => cred t 2 = some f.data ∧
      t.dict = { s.part.dict with creds := t.dict.creds } ∧ t = { s.part with fn0 := t.fn0, fn1 := t.fn1, dict := t.dict, out := t.out }))) ∧
  Runs (.sessionIdle n) s (fun t => t.sess? n = none ∧ (∀ y ∈ s.part.dict.sessions, y.id ≠ n → y ∈ t.dict.sessions) ∧
    (∀ l ∈ t.dict.locks, l.2 ≠ n) ∧ t = { s.part with dict := t.dict }) ∧
  Runs (.transportLockExpire tr) s (fun t => lockedFor tr t = none ∧
    t.dict = { s.part.dict with locked := t.dict.locked } ∧ t = { s.part with dict := t.dict })

/-- R98, R245, R350 to R352, R356, R362, R364, R367, R373, R374 (04, 15): a Custodian's wrapped credential is set; the reset empties
every credential, zeroises Tollgate and ends every session, on a mailbox alone. A scope's lock is released by its holder and
broken by a Custodian. New CAN settings take force after their second; the debug registers unlock; a mailbox is released. A staged
image takes its length, then its bytes in order to the last, then VALID or INVALID by signature and epoch; an activation that no
item of R374 refuses freezes the part. -/
def Obligations.CredentialsLocksAndImagesAreKept : Prop := ∀ (q : Req) (cr : Fin 3) (wrap data : Bytes) (v : BitVec 32) (n : Nat)
    (f : Fn) (partner : Bool) (s : State) (x : FwSt),
  s.part.fw = x →
  (Allowed s.part q roleCustodian none →
    (wrap.length ≠ 40 → Refused (.credWrite q cr wrap) s stTypeLen 0) ∧
    (wrap.length = 40 → (∀ k, (s.part.transportKey q.session).bind (fun t => kwpUnwrap t wrap) = some k → k.length ≠ 32) →
      Refused (.credWrite q cr wrap) s stRule (ruleDetail 356 2)) ∧
    (∀ k, wrap.length = 40 → (s.part.transportKey q.session).bind (fun t => kwpUnwrap t wrap) = some k → k.length = 32 →
      Runs (.credWrite q cr wrap) s (fun t => Answers t stOk 0 ∧ cred t cr.val = some k ∧
        (∀ r, r ≠ cr.val → cred t r = cred s.part r) ∧ t = { s.part with fn0 := t.fn0, fn1 := t.fn1, dict := t.dict, out := t.out })) ∧
    (scopeGood (scopeOf v) = false → Refused (.stageBreak q v) s stRange 0) ∧
    (scopeGood (scopeOf v) = true → Runs (.stageBreak q v) s (fun t => Answers t stOk 0 ∧ t.lockHolder (scopeOf v) = none ∧
      (∀ sc, sc ≠ scopeOf v → ∀ h, t.lockHolder sc = some h → s.part.lockHolder sc = some h) ∧ t = { s.part with fn0 := t.fn0, fn1 := t.fn1, dict := t.dict, out := t.out })) ∧
    (1 < n → Refused (.debugUnlock q n) s stRange 0) ∧
    (n ≤ 1 → Runs (.debugUnlock q n) s (fun t => Answers t stOk 0 ∧ t.objNum 0x2000 2 = n ∧ t = { s.part with fn0 := t.fn0, fn1 := t.fn1, dict := t.dict, out := t.out }))) ∧
  (Allowed s.part q roleOperator none → scopeGood (scopeOf v) = false → Refused (.stageRelease q v) s stRange 0) ∧
  (Allowed s.part q roleOperator (some (scopeOf v)) → scopeGood (scopeOf v) = true → Runs (.stageRelease q v) s (fun t =>
    Answers t stOk 0 ∧ t.lockHolder (scopeOf v) = none ∧ t = { s.part with fn0 := t.fn0, fn1 := t.fn1, dict := t.dict, out := t.out })) ∧
  (Allowed s.part q (if isMailbox q.transport then 0 else roleOperator) none →
    (v ≠ 0xA55A#32 → Refused (.credReset q v) s stRange 0) ∧
    (v = 0xA55A#32 → isMailbox q.transport = false → Refused (.credReset q v) s stRule (ruleDetail 356 3)) ∧
    (v = 0xA55A#32 → isMailbox q.transport = true → Runs (.credReset q v) s (fun t => Answers t stOk 0 ∧ t.dict.creds = [] ∧
      t.dict.sessions = [] ∧ t.toll.keks = [] ∧ t.toll.slots = [] ∧ t = { s.part with fn0 := t.fn0, fn1 := t.fn1, toll := t.toll, dict := t.dict, out := t.out }))) ∧
  (s.part.dict.canPending = false → Stays .canConfigApply s) ∧
  (s.part.dict.canPending = true → Runs .canConfigApply s (fun t => t = { s.part with dict := { s.part.dict with
    canPending := false, canNode := s.part.objNum 0x1100 1, canNom := s.part.objNum 0x1100 2,
    canData := s.part.objNum 0x1100 3 } })) ∧
  (v ≠ 1#32 → Stays (.mbxRelease f v) s) ∧
  (v = 1#32 → Runs (.mbxRelease f v) s (fun t => t.fn f = { s.part.fn f with mbxReady := false } ∧
    (∀ g, g ≠ f → t.fn g = s.part.fn g) ∧ t = { s.part with fn0 := t.fn0, fn1 := t.fn1 })) ∧
  (Allowed s.part q roleCustodian (some scopeFw) →
    (n < 4096 ∨ 16777216 < n → Refused (.fwStageBegin q n) s stRange 0) ∧
    (4096 ≤ n → n ≤ 16777216 → x.activating = true → Refused (.fwStageBegin q n) s stState (ruleDetail 374 2)) ∧
    (4096 ≤ n → n ≤ 16777216 → x.activating = false → Runs (.fwStageBegin q n) s (fun t => Answers t stOk 0 ∧
      t.fw.state = 1 ∧ t.fw.len = n ∧ t.fw.next = 0 ∧ t.fw.image = [] ∧ t.fw.prevValid = false ∧ t.fw.activeSlot = x.activeSlot ∧
      ((∀ y, s.part.sess? q.session = some y → y.inHand = none) → t.lockHolder scopeFw = some q.session) ∧ t = { s.part with fn0 := t.fn0, fn1 := t.fn1, dict := t.dict, fw := t.fw, out := t.out })) ∧
    (4096 < data.length → Refused (.fwStageData q data) s stTypeLen 0) ∧
    (data.length ≤ 4096 → x.state ≠ 1 ∨ data.length ≠ stageRoom x → Refused (.fwStageData q data) s stSegment (x.next % 65536)) ∧
    (data.length ≤ 4096 → x.state = 1 → data.length = stageRoom x → Runs (.fwStageData q data) s (fun t => Answers t stOk 0 ∧
      t.fw = { x with image := x.image ++ data, next := x.next + data.length, state := if x.next + data.length = x.len then 2 else 1 } ∧
      t = { s.part with fn0 := t.fn0, fn1 := t.fn1, dict := t.dict, fw := t.fw, out := t.out })) ∧
    (activateRefused partner s.part ≠ 0 →
      Refused (.fwActivate q partner) s stState (ruleDetail 374 (activateRefused partner s.part))) ∧
    (activateRefused partner s.part = 0 → Runs (.fwActivate q partner) s (fun t => Answers t stOk 0 ∧ t.fw = { x with activating := true } ∧
      t.sched = { s.part.sched with frozen := true, admitState := t.sched.admitState } ∧ t = { s.part with sched := t.sched, man := t.man, chains := t.chains, fn0 := t.fn0, fn1 := t.fn1, pools := t.pools, vols := t.vols, tow := t.tow, dict := t.dict, fw := t.fw, log := t.log, out := t.out }))) ∧
  (x.state ≠ 2 → Stays .fwStageVerify s) ∧
  (x.state = 2 → Runs .fwStageVerify s (fun t => t = { s.part with fw := { x with
    state := if Config.imageSignatureGood x.image = true ∧ x.epoch ≤ Config.imageEpoch x.image then 3 else 4,
    stagedVersion := Config.imageVersion x.image } }))

/-- R349 to R351, R357, R359 to R361, R364, R366 to R372 (15): a read of an object the dictionary lists answers its value, whole or
its first bytes, and its highest subindex at subindex 0; one it does not list NO_OBJECT. A write of an object that is not listed,
read only, or beyond the session's privilege is answered so; one of a wrong length or content TYPE_LEN, out of its range RANGE, of
a scope another session holds CONFLICT, each with no effect. A whole good value of an object without an action is kept and answered
OK, its scope's lock taken where it is staged. A request in a mailbox that is busy or not yet read is dropped; one that is taken is
carried out as its frame says, or answered TYPE_LEN where its bytes are no request. -/
def Obligations.ObjectsAreReadAndWritten : Prop := ∀ (tr : Transport) (node : Nat) (f : Frame) (o : Outside) (fn : Fn) (len : Nat)
    (s : State) (x : SessSt) (taken : Nat → Prop) (wrong : Nat → Prop),
  taken = (fun op => (f.twin = false ∨ tr = .twin) ∧ wellFormedFrame tr op f = true ∧ s.part.sess? f.session = some x ∧
    x.boundTo tr node = true ∧ (x.isOpen = true → macGood x op f = true) ∧ f.seq = x.nextSeq) →
  wrong = (fun st => Runs (.dictWrite tr node f o) s (fun t => (∃ d, Answers t st d) ∧
    t.dict.objs = s.part.dict.objs ∧ t.dict.locks = s.part.dict.locks ∧ t = { s.part with fn0 := t.fn0, fn1 := t.fn1, dict := t.dict, out := t.out })) →
  (taken 0x10 → x.isOpen = false → Runs (.dictRead tr node f) s (fun t => Answers t stSession 0 ∧ t = { s.part with fn0 := t.fn0, fn1 := t.fn1, dict := t.dict, out := t.out })) ∧
  (taken 0x11 → x.isOpen = false → Runs (.dictWrite tr node f o) s (fun t => Answers t stSession 0 ∧ t = { s.part with fn0 := t.fn0, fn1 := t.fn1, dict := t.dict, out := t.out })) ∧
  (taken 0x10 → x.isOpen = true → f.seq ≠ 0xFFFF →
    (f.sub = 0 → highestSub f.index = none → Runs (.dictRead tr node f) s (fun t => Answers t stNoObject 0 ∧ t = { s.part with fn0 := t.fn0, fn1 := t.fn1, dict := t.dict, out := t.out })) ∧
    (∀ n, f.sub = 0 → highestSub f.index = some n → f.data = [] → Runs (.dictRead tr node f) s (fun t =>
      (∃ r, t.dict.resp = some r ∧ r.status = stOk ∧ r.data = (leBytes 1 n).take (maxData x.transport)) ∧ t = { s.part with fn0 := t.fn0, fn1 := t.fn1, dict := t.dict, out := t.out })) ∧
    (f.sub ≠ 0 → objRow? f.index f.sub = none → Runs (.dictRead tr node f) s (fun t => Answers t stNoObject 0 ∧ t = { s.part with fn0 := t.fn0, fn1 := t.fn1, dict := t.dict, out := t.out })) ∧
    (∀ r, f.sub ≠ 0 → objRow? f.index f.sub = some r →
      (f.data ≠ [] → Runs (.dictRead tr node f) s (fun t => Answers t stTypeLen 0 ∧ t = { s.part with fn0 := t.fn0, fn1 := t.fn1, dict := t.dict, out := t.out })) ∧
      (∀ y u, f.data = [] → f.offset = 0 → x.snapshot = none → x.partBlob = none →
          y = { x with nextSeq := x.nextSeq + 1, inHand := some (0x10, f) } → u = s.part.modSess x.id (fun _ => y) →
        Runs (.dictRead tr node f) s (fun t =>
          (∃ a, t.dict.resp = some a ∧ a.status = stOk ∧ a.data = (objValue u y r f.index f.sub).take (maxData x.transport) ∧
            a.total = (objValue u y r f.index f.sub).length) ∧
          t.dict.objs = s.part.dict.objs ∧ t = { s.part with fn0 := t.fn0, fn1 := t.fn1, dict := t.dict, out := t.out })))) ∧
  (taken 0x11 → x.isOpen = true → x.partBlob = none → f.seq ≠ 0xFFFF →
    (∀ st, writable x f.index f.sub = .error st → wrong st) ∧
    (∀ r, writable x f.index f.sub = .ok r →
      ((typeLen r.ty).isSome → f.last = false ∨ f.offset ≠ 0 ∨ f.total ≠ f.data.length → wrong stTypeLen) ∧
      (f.last = true → f.offset = 0 → f.total = f.data.length →
        (lengthGood r f.data.length = false ∨ contentGood r f.data = false → wrong stTypeLen) ∧
        (lengthGood r f.data.length = true → contentGood r f.data = true →
          (valueGood r f.data = false → wrong stRange) ∧
          (∀ sc h, valueGood r f.data = true → scopeFor r f.index f.sub = some sc → s.part.lockHolder sc = some h → h ≠ x.id →
            wrong stConflict) ∧
          (valueGood r f.data = true → (∀ sc, scopeFor r f.index f.sub = some sc → s.part.lockHolder sc = none) →
            r.staged = false → actionOf x.req o f.index f.sub (ofLe f.data) f.data = none → f.index ≠ 0x1100 →
            (f.index < 0x2200 ∨ 0x2290 ≤ f.index) → Runs (.dictWrite tr node f o) s (fun t => Answers t stOk 0 ∧
              alGet (f.index, f.sub) t.dict.objs = some (if (typeLen r.ty).isSome then .num (ofLe f.data) else .blob f.data) ∧
              (∀ k, k ≠ (f.index, f.sub) → alGet k t.dict.objs = alGet k s.part.dict.objs) ∧ t = { s.part with fn0 := t.fn0, fn1 := t.fn1, dict := t.dict, out := t.out })))))) ∧
  ((s.part.fn fn).mbxBusy = true ∨ (s.part.fn fn).mbxReady = true → Runs (.mbxSubmit fn len o) s (fun t =>
    t.fn fn = { s.part.fn fn with mbxDropped := true } ∧ (∀ g, g ≠ fn → t.fn g = s.part.fn g) ∧
    t = { s.part with fn0 := t.fn0, fn1 := t.fn1 })) ∧
  ((s.part.fn fn).mbxBusy = false → (s.part.fn fn).mbxReady = false → ∀ b u, b = mbxBytes (s.part.fn fn) len →
      u = s.part.modFn fn (fun y => { y with mbxDropped := false, mbxBusy := true }) →
    (len < 24 ∨ 4120 < len → Runs (.mbxSubmit fn len o) s (fun t => (t.fn fn).mbxReady = true ∧ (t.fn fn).mbxBusy = false ∧
      (t.fn fn).mbxDropped = false ∧ t = { s.part with fn0 := t.fn0, fn1 := t.fn1, out := t.out })) ∧
    (24 ≤ len → len ≤ 4120 → (ofLe ((b.drop 1).take 1)).testBit 2 = false → ofLe (b.take 1) = 5 →
      Runs (.mbxSubmit fn len o) s (fun t =>
        exec (.keepalive (mbxOf fn) 0 (frameOf b)) { s with part := u } = .next { s with part := t })) ∧
    (24 ≤ len → len ≤ 4120 → (ofLe ((b.drop 1).take 1)).testBit 2 = false → ofLe (b.take 1) = 0x11 →
      Runs (.mbxSubmit fn len o) s (fun t =>
        exec (.dictWrite (mbxOf fn) 0 (frameOf b) o) { s with part := u } = .next { s with part := t })))

/-- R387 to R392, Tables 17.1 to 17.4a (17): on the 61 × 61 grid the balls of a member lane, a host port's lane, a Hawser lane and a
dump lane stand at the row and column that R389 and Table 17.3 give, and nowhere else. A ball of domain IO is high-impedance
while CORE_EN is low; FAULT_N is pulled low while the part is FAULTY or no image has booted, and not driven otherwise; the PERST
output of a link group or dump link is low while its island is not ready (the 100 ms before it rises are left out, log entry 117). -/
def Obligations.BallsStandWhereTheMapSays : Prop :=
  (∀ r c, 1 ≤ r → r ≤ 61 → 1 ≤ c → c ≤ 61 → ∀ leg,
    (∀ l, l < 144 → (ballAt r c = .member l leg ↔ memberBall l leg = (r, c))) ∧
    (∀ p n, p < 2 → n < 16 → (ballAt r c = .host p n leg ↔ hostBall p n leg = (r, c))) ∧
    (∀ n, n < 16 → (ballAt r c = .hawser n leg ↔ hawserBall n leg = (r, c))) ∧
    (∀ d n, d < 4 → n < 4 → (ballAt r c = .dump d n leg ↔ dumpBall d n leg = (r, c)))) ∧
  (∀ s : Part, (s.tow.coreEn = false → ∀ b, (b = .faultN ∨ (∃ g, b = .memberPerst g) ∨ ∃ d, b = .dumpPerst d) → s.ballLevel b = none) ∧
    (s.tow.coreEn = true → (s.ballLevel .faultN = some false ↔ s.sched.faulty = true ∨ s.fw.bootFailed = true ∨ s.ready .g = false) ∧
      s.ballLevel .faultN ≠ some true ∧ (∀ g, s.ballLevel (.memberPerst g) = some (s.ready (.l g))) ∧
      ∀ d, s.ballLevel (.dumpPerst d) = some (s.ready .d)) ∧
    s.ballLevel .coreEn = some s.tow.coreEn ∧ s.ballLevel .wakeN ≠ some true)

end
end

