-- ==== Sys2Proof/Laws/State.lean ====
section
/-! SUPPORT. The update lemmas of the state: what each named update changes, and that it changes nothing else. -/

namespace Sys2Proof.Machine

@[simp] theorem State.onPart_part (f : Part → Part) (s : State) : (s.onPart f).part = f s.part := rfl
@[simp] theorem State.onPart_pending (f : Part → Part) (s : State) : (s.onPart f).pending = s.pending := rfl
@[simp] theorem State.onPart_peerMem (f : Part → Part) (s : State) : (s.onPart f).peerMem = s.peerMem := rfl

/-- `modMan` changes one field. -/
@[simp] theorem Part.modMan_fields (s : Part) (g : ManifestSt → ManifestSt) :
    (s.modMan g).man = g s.man ∧
    (s.modMan g).timeUs = s.timeUs ∧
    (s.modMan g).islands = s.islands ∧
    (s.modMan g).bridges = s.bridges ∧
    (s.modMan g).sched = s.sched ∧
    (s.modMan g).chains = s.chains ∧
    (s.modMan g).fn0 = s.fn0 ∧
    (s.modMan g).fn1 = s.fn1 ∧
    (s.modMan g).chainSplit = s.chainSplit ∧
    (s.modMan g).tableGen = s.tableGen ∧
    (s.modMan g).peerBar = s.peerBar ∧
    (s.modMan g).subsysId = s.subsysId ∧
    (s.modMan g).pools = s.pools ∧
    (s.modMan g).vols = s.vols ∧
    (s.modMan g).members = s.members ∧
    (s.modMan g).fabric = s.fabric ∧
    (s.modMan g).fleet = s.fleet ∧
    (s.modMan g).toll = s.toll ∧
    (s.modMan g).pair = s.pair ∧
    (s.modMan g).tow = s.tow ∧
    (s.modMan g).dump = s.dump ∧
    (s.modMan g).cal = s.cal ∧
    (s.modMan g).dict = s.dict ∧
    (s.modMan g).fw = s.fw ∧
    (s.modMan g).log = s.log ∧
    (s.modMan g).out = s.out ∧
    (∀ (n₁ : Nat), (s.modMan g).pool? n₁ = s.pool? n₁) ∧
    (∀ (n₁ : Nat), (s.modMan g).charter? n₁ = s.charter? n₁) ∧
    (∀ (n₁ : Nat), (s.modMan g).volume? n₁ = s.volume? n₁) ∧
    (∀ (n₁ : Nat), (s.modMan g).poolOfMember n₁ = s.poolOfMember n₁) ∧
    (∀ (n₁ : Nat), (s.modMan g).member? n₁ = s.member? n₁) ∧
    (∀ (n₁ : Nat), (s.modMan g).chain n₁ = s.chain n₁) ∧
    (∀ (n₁ : Nat) (h₁ : BitVec 32), (s.modMan g).cmd? n₁ h₁ = s.cmd? n₁ h₁) ∧
    (∀ (n₁ : Nat), (s.modMan g).chainFn n₁ = s.chainFn n₁) ∧
    (∀ (g₁ : Fn), (s.modMan g).fn g₁ = s.fn g₁) ∧
    (∀ (n₁ : Nat), (s.modMan g).vol n₁ = s.vol n₁) ∧
    (∀ (i₁ : Island), (s.modMan g).island i₁ = s.island i₁) ∧
    (∀ (i₁ : Island), (s.modMan g).ready i₁ = s.ready i₁) ∧
    (∀ (n₁ : Nat) (n₂ : Nat), (s.modMan g).objInt n₁ n₂ = s.objInt n₁ n₂) ∧
    (∀ (n₁ : Nat) (n₂ : Nat), (s.modMan g).objNum n₁ n₂ = s.objNum n₁ n₂) ∧
    (∀ (n₁ : Nat) (n₂ : Nat), (s.modMan g).objBlob n₁ n₂ = s.objBlob n₁ n₂) ∧
    (s.modMan g).timeoutUs = s.timeoutUs ∧
    (s.modMan g).leadTides = s.leadTides ∧
    (s.modMan g).readsHalted = s.readsHalted ∧
    (∀ (b₁ : Bool), (s.modMan g).writesHalted b₁ = s.writesHalted b₁) :=
  ⟨rfl, rfl, rfl, rfl, rfl, rfl, rfl, rfl, rfl, rfl, rfl, rfl, rfl, rfl, rfl, rfl, rfl, rfl, rfl, rfl, rfl, rfl, rfl, rfl, rfl, rfl, fun _ => rfl, fun _ => rfl, fun _ => rfl, fun _ => rfl, fun _ => rfl, fun _ => rfl, fun _ _ => rfl, fun _ => rfl, fun _ => rfl, fun _ => rfl, fun _ => rfl, fun _ => rfl, fun _ _ => rfl, fun _ _ => rfl, fun _ _ => rfl, rfl, rfl, rfl, fun _ => rfl⟩

/-- `modSched` changes one field. -/
@[simp] theorem Part.modSched_fields (s : Part) (g : SchedSt → SchedSt) :
    (s.modSched g).sched = g s.sched ∧
    (s.modSched g).timeUs = s.timeUs ∧
    (s.modSched g).islands = s.islands ∧
    (s.modSched g).bridges = s.bridges ∧
    (s.modSched g).man = s.man ∧
    (s.modSched g).chains = s.chains ∧
    (s.modSched g).fn0 = s.fn0 ∧
    (s.modSched g).fn1 = s.fn1 ∧
    (s.modSched g).chainSplit = s.chainSplit ∧
    (s.modSched g).tableGen = s.tableGen ∧
    (s.modSched g).peerBar = s.peerBar ∧
    (s.modSched g).subsysId = s.subsysId ∧
    (s.modSched g).pools = s.pools ∧
    (s.modSched g).vols = s.vols ∧
    (s.modSched g).members = s.members ∧
    (s.modSched g).fabric = s.fabric ∧
    (s.modSched g).fleet = s.fleet ∧
    (s.modSched g).toll = s.toll ∧
    (s.modSched g).pair = s.pair ∧
    (s.modSched g).tow = s.tow ∧
    (s.modSched g).dump = s.dump ∧
    (s.modSched g).cal = s.cal ∧
    (s.modSched g).dict = s.dict ∧
    (s.modSched g).fw = s.fw ∧
    (s.modSched g).log = s.log ∧
    (s.modSched g).out = s.out ∧
    (∀ (n₁ : Nat), (s.modSched g).pool? n₁ = s.pool? n₁) ∧
    (∀ (n₁ : Nat), (s.modSched g).charter? n₁ = s.charter? n₁) ∧
    (∀ (n₁ : Nat), (s.modSched g).volume? n₁ = s.volume? n₁) ∧
    (∀ (n₁ : Nat), (s.modSched g).poolOfMember n₁ = s.poolOfMember n₁) ∧
    (∀ (n₁ : Nat), (s.modSched g).member? n₁ = s.member? n₁) ∧
    (∀ (n₁ : Nat), (s.modSched g).chain n₁ = s.chain n₁) ∧
    (∀ (n₁ : Nat) (h₁ : BitVec 32), (s.modSched g).cmd? n₁ h₁ = s.cmd? n₁ h₁) ∧
    (∀ (n₁ : Nat), (s.modSched g).chainFn n₁ = s.chainFn n₁) ∧
    (∀ (g₁ : Fn), (s.modSched g).fn g₁ = s.fn g₁) ∧
    (∀ (n₁ : Nat), (s.modSched g).vol n₁ = s.vol n₁) ∧
    (∀ (i₁ : Island), (s.modSched g).island i₁ = s.island i₁) ∧
    (∀ (i₁ : Island), (s.modSched g).ready i₁ = s.ready i₁) ∧
    (∀ (n₁ : Nat) (n₂ : Nat), (s.modSched g).objInt n₁ n₂ = s.objInt n₁ n₂) ∧
    (∀ (n₁ : Nat) (n₂ : Nat), (s.modSched g).objNum n₁ n₂ = s.objNum n₁ n₂) ∧
    (∀ (n₁ : Nat) (n₂ : Nat), (s.modSched g).objBlob n₁ n₂ = s.objBlob n₁ n₂) ∧
    (s.modSched g).timeoutUs = s.timeoutUs ∧
    (s.modSched g).leadTides = s.leadTides :=
  ⟨rfl, rfl, rfl, rfl, rfl, rfl, rfl, rfl, rfl, rfl, rfl, rfl, rfl, rfl, rfl, rfl, rfl, rfl, rfl, rfl, rfl, rfl, rfl, rfl, rfl, rfl, fun _ => rfl, fun _ => rfl, fun _ => rfl, fun _ => rfl, fun _ => rfl, fun _ => rfl, fun _ _ => rfl, fun _ => rfl, fun _ => rfl, fun _ => rfl, fun _ => rfl, fun _ => rfl, fun _ _ => rfl, fun _ _ => rfl, fun _ _ => rfl, rfl, rfl⟩

/-- `modTow` changes one field. -/
@[simp] theorem Part.modTow_fields (s : Part) (g : TowSt → TowSt) :
    (s.modTow g).tow = g s.tow ∧
    (s.modTow g).timeUs = s.timeUs ∧
    (s.modTow g).islands = s.islands ∧
    (s.modTow g).bridges = s.bridges ∧
    (s.modTow g).sched = s.sched ∧
    (s.modTow g).man = s.man ∧
    (s.modTow g).chains = s.chains ∧
    (s.modTow g).fn0 = s.fn0 ∧
    (s.modTow g).fn1 = s.fn1 ∧
    (s.modTow g).chainSplit = s.chainSplit ∧
    (s.modTow g).tableGen = s.tableGen ∧
    (s.modTow g).peerBar = s.peerBar ∧
    (s.modTow g).subsysId = s.subsysId ∧
    (s.modTow g).pools = s.pools ∧
    (s.modTow g).vols = s.vols ∧
    (s.modTow g).members = s.members ∧
    (s.modTow g).fabric = s.fabric ∧
    (s.modTow g).fleet = s.fleet ∧
    (s.modTow g).toll = s.toll ∧
    (s.modTow g).pair = s.pair ∧
    (s.modTow g).dump = s.dump ∧
    (s.modTow g).cal = s.cal ∧
    (s.modTow g).dict = s.dict ∧
    (s.modTow g).fw = s.fw ∧
    (s.modTow g).log = s.log ∧
    (s.modTow g).out = s.out ∧
    (∀ (n₁ : Nat), (s.modTow g).pool? n₁ = s.pool? n₁) ∧
    (∀ (n₁ : Nat), (s.modTow g).charter? n₁ = s.charter? n₁) ∧
    (∀ (n₁ : Nat), (s.modTow g).volume? n₁ = s.volume? n₁) ∧
    (∀ (n₁ : Nat), (s.modTow g).poolOfMember n₁ = s.poolOfMember n₁) ∧
    (∀ (n₁ : Nat), (s.modTow g).member? n₁ = s.member? n₁) ∧
    (∀ (n₁ : Nat), (s.modTow g).chain n₁ = s.chain n₁) ∧
    (∀ (n₁ : Nat) (h₁ : BitVec 32), (s.modTow g).cmd? n₁ h₁ = s.cmd? n₁ h₁) ∧
    (∀ (n₁ : Nat), (s.modTow g).chainFn n₁ = s.chainFn n₁) ∧
    (∀ (g₁ : Fn), (s.modTow g).fn g₁ = s.fn g₁) ∧
    (∀ (n₁ : Nat), (s.modTow g).vol n₁ = s.vol n₁) ∧
    (∀ (i₁ : Island), (s.modTow g).island i₁ = s.island i₁) ∧
    (∀ (i₁ : Island), (s.modTow g).ready i₁ = s.ready i₁) ∧
    (∀ (n₁ : Nat) (n₂ : Nat), (s.modTow g).objInt n₁ n₂ = s.objInt n₁ n₂) ∧
    (∀ (n₁ : Nat) (n₂ : Nat), (s.modTow g).objNum n₁ n₂ = s.objNum n₁ n₂) ∧
    (∀ (n₁ : Nat) (n₂ : Nat), (s.modTow g).objBlob n₁ n₂ = s.objBlob n₁ n₂) ∧
    (s.modTow g).timeoutUs = s.timeoutUs ∧
    (s.modTow g).leadTides = s.leadTides ∧
    (s.modTow g).readsHalted = s.readsHalted ∧
    (∀ (b₁ : Bool), (s.modTow g).writesHalted b₁ = s.writesHalted b₁) :=
  ⟨rfl, rfl, rfl, rfl, rfl, rfl, rfl, rfl, rfl, rfl, rfl, rfl, rfl, rfl, rfl, rfl, rfl, rfl, rfl, rfl, rfl, rfl, rfl, rfl, rfl, rfl, fun _ => rfl, fun _ => rfl, fun _ => rfl, fun _ => rfl, fun _ => rfl, fun _ => rfl, fun _ _ => rfl, fun _ => rfl, fun _ => rfl, fun _ => rfl, fun _ => rfl, fun _ => rfl, fun _ _ => rfl, fun _ _ => rfl, fun _ _ => rfl, rfl, rfl, rfl, fun _ => rfl⟩

/-- `modDump` changes one field. -/
@[simp] theorem Part.modDump_fields (s : Part) (g : DumpSt → DumpSt) :
    (s.modDump g).dump = g s.dump ∧
    (s.modDump g).timeUs = s.timeUs ∧
    (s.modDump g).islands = s.islands ∧
    (s.modDump g).bridges = s.bridges ∧
    (s.modDump g).sched = s.sched ∧
    (s.modDump g).man = s.man ∧
    (s.modDump g).chains = s.chains ∧
    (s.modDump g).fn0 = s.fn0 ∧
    (s.modDump g).fn1 = s.fn1 ∧
    (s.modDump g).chainSplit = s.chainSplit ∧
    (s.modDump g).tableGen = s.tableGen ∧
    (s.modDump g).peerBar = s.peerBar ∧
    (s.modDump g).subsysId = s.subsysId ∧
    (s.modDump g).pools = s.pools ∧
    (s.modDump g).vols = s.vols ∧
    (s.modDump g).members = s.members ∧
    (s.modDump g).fabric = s.fabric ∧
    (s.modDump g).fleet = s.fleet ∧
    (s.modDump g).toll = s.toll ∧
    (s.modDump g).pair = s.pair ∧
    (s.modDump g).tow = s.tow ∧
    (s.modDump g).cal = s.cal ∧
    (s.modDump g).dict = s.dict ∧
    (s.modDump g).fw = s.fw ∧
    (s.modDump g).log = s.log ∧
    (s.modDump g).out = s.out ∧
    (∀ (n₁ : Nat), (s.modDump g).pool? n₁ = s.pool? n₁) ∧
    (∀ (n₁ : Nat), (s.modDump g).charter? n₁ = s.charter? n₁) ∧
    (∀ (n₁ : Nat), (s.modDump g).volume? n₁ = s.volume? n₁) ∧
    (∀ (n₁ : Nat), (s.modDump g).poolOfMember n₁ = s.poolOfMember n₁) ∧
    (∀ (n₁ : Nat), (s.modDump g).member? n₁ = s.member? n₁) ∧
    (∀ (n₁ : Nat), (s.modDump g).chain n₁ = s.chain n₁) ∧
    (∀ (n₁ : Nat) (h₁ : BitVec 32), (s.modDump g).cmd? n₁ h₁ = s.cmd? n₁ h₁) ∧
    (∀ (n₁ : Nat), (s.modDump g).chainFn n₁ = s.chainFn n₁) ∧
    (∀ (g₁ : Fn), (s.modDump g).fn g₁ = s.fn g₁) ∧
    (∀ (n₁ : Nat), (s.modDump g).vol n₁ = s.vol n₁) ∧
    (∀ (i₁ : Island), (s.modDump g).island i₁ = s.island i₁) ∧
    (∀ (i₁ : Island), (s.modDump g).ready i₁ = s.ready i₁) ∧
    (∀ (n₁ : Nat) (n₂ : Nat), (s.modDump g).objInt n₁ n₂ = s.objInt n₁ n₂) ∧
    (∀ (n₁ : Nat) (n₂ : Nat), (s.modDump g).objNum n₁ n₂ = s.objNum n₁ n₂) ∧
    (∀ (n₁ : Nat) (n₂ : Nat), (s.modDump g).objBlob n₁ n₂ = s.objBlob n₁ n₂) ∧
    (s.modDump g).timeoutUs = s.timeoutUs ∧
    (s.modDump g).leadTides = s.leadTides ∧
    (s.modDump g).readsHalted = s.readsHalted ∧
    (∀ (b₁ : Bool), (s.modDump g).writesHalted b₁ = s.writesHalted b₁) :=
  ⟨rfl, rfl, rfl, rfl, rfl, rfl, rfl, rfl, rfl, rfl, rfl, rfl, rfl, rfl, rfl, rfl, rfl, rfl, rfl, rfl, rfl, rfl, rfl, rfl, rfl, rfl, fun _ => rfl, fun _ => rfl, fun _ => rfl, fun _ => rfl, fun _ => rfl, fun _ => rfl, fun _ _ => rfl, fun _ => rfl, fun _ => rfl, fun _ => rfl, fun _ => rfl, fun _ => rfl, fun _ _ => rfl, fun _ _ => rfl, fun _ _ => rfl, rfl, rfl, rfl, fun _ => rfl⟩

/-- `modPair` changes one field. -/
@[simp] theorem Part.modPair_fields (s : Part) (g : PairSt → PairSt) :
    (s.modPair g).pair = g s.pair ∧
    (s.modPair g).timeUs = s.timeUs ∧
    (s.modPair g).islands = s.islands ∧
    (s.modPair g).bridges = s.bridges ∧
    (s.modPair g).sched = s.sched ∧
    (s.modPair g).man = s.man ∧
    (s.modPair g).chains = s.chains ∧
    (s.modPair g).fn0 = s.fn0 ∧
    (s.modPair g).fn1 = s.fn1 ∧
    (s.modPair g).chainSplit = s.chainSplit ∧
    (s.modPair g).tableGen = s.tableGen ∧
    (s.modPair g).peerBar = s.peerBar ∧
    (s.modPair g).subsysId = s.subsysId ∧
    (s.modPair g).pools = s.pools ∧
    (s.modPair g).vols = s.vols ∧
    (s.modPair g).members = s.members ∧
    (s.modPair g).fabric = s.fabric ∧
    (s.modPair g).fleet = s.fleet ∧
    (s.modPair g).toll = s.toll ∧
    (s.modPair g).tow = s.tow ∧
    (s.modPair g).dump = s.dump ∧
    (s.modPair g).cal = s.cal ∧
    (s.modPair g).dict = s.dict ∧
    (s.modPair g).fw = s.fw ∧
    (s.modPair g).log = s.log ∧
    (s.modPair g).out = s.out ∧
    (∀ (n₁ : Nat), (s.modPair g).pool? n₁ = s.pool? n₁) ∧
    (∀ (n₁ : Nat), (s.modPair g).charter? n₁ = s.charter? n₁) ∧
    (∀ (n₁ : Nat), (s.modPair g).volume? n₁ = s.volume? n₁) ∧
    (∀ (n₁ : Nat), (s.modPair g).poolOfMember n₁ = s.poolOfMember n₁) ∧
    (∀ (n₁ : Nat), (s.modPair g).member? n₁ = s.member? n₁) ∧
    (∀ (n₁ : Nat), (s.modPair g).chain n₁ = s.chain n₁) ∧
    (∀ (n₁ : Nat) (h₁ : BitVec 32), (s.modPair g).cmd? n₁ h₁ = s.cmd? n₁ h₁) ∧
    (∀ (n₁ : Nat), (s.modPair g).chainFn n₁ = s.chainFn n₁) ∧
    (∀ (g₁ : Fn), (s.modPair g).fn g₁ = s.fn g₁) ∧
    (∀ (n₁ : Nat), (s.modPair g).vol n₁ = s.vol n₁) ∧
    (∀ (i₁ : Island), (s.modPair g).island i₁ = s.island i₁) ∧
    (∀ (i₁ : Island), (s.modPair g).ready i₁ = s.ready i₁) ∧
    (∀ (n₁ : Nat) (n₂ : Nat), (s.modPair g).objInt n₁ n₂ = s.objInt n₁ n₂) ∧
    (∀ (n₁ : Nat) (n₂ : Nat), (s.modPair g).objNum n₁ n₂ = s.objNum n₁ n₂) ∧
    (∀ (n₁ : Nat) (n₂ : Nat), (s.modPair g).objBlob n₁ n₂ = s.objBlob n₁ n₂) ∧
    (s.modPair g).timeoutUs = s.timeoutUs ∧
    (s.modPair g).leadTides = s.leadTides ∧
    (s.modPair g).readsHalted = s.readsHalted ∧
    (∀ (b₁ : Bool), (s.modPair g).writesHalted b₁ = s.writesHalted b₁) :=
  ⟨rfl, rfl, rfl, rfl, rfl, rfl, rfl, rfl, rfl, rfl, rfl, rfl, rfl, rfl, rfl, rfl, rfl, rfl, rfl, rfl, rfl, rfl, rfl, rfl, rfl, rfl, fun _ => rfl, fun _ => rfl, fun _ => rfl, fun _ => rfl, fun _ => rfl, fun _ => rfl, fun _ _ => rfl, fun _ => rfl, fun _ => rfl, fun _ => rfl, fun _ => rfl, fun _ => rfl, fun _ _ => rfl, fun _ _ => rfl, fun _ _ => rfl, rfl, rfl, rfl, fun _ => rfl⟩

/-- `modToll` changes one field. -/
@[simp] theorem Part.modToll_fields (s : Part) (g : TollSt → TollSt) :
    (s.modToll g).toll = g s.toll ∧
    (s.modToll g).timeUs = s.timeUs ∧
    (s.modToll g).islands = s.islands ∧
    (s.modToll g).bridges = s.bridges ∧
    (s.modToll g).sched = s.sched ∧
    (s.modToll g).man = s.man ∧
    (s.modToll g).chains = s.chains ∧
    (s.modToll g).fn0 = s.fn0 ∧
    (s.modToll g).fn1 = s.fn1 ∧
    (s.modToll g).chainSplit = s.chainSplit ∧
    (s.modToll g).tableGen = s.tableGen ∧
    (s.modToll g).peerBar = s.peerBar ∧
    (s.modToll g).subsysId = s.subsysId ∧
    (s.modToll g).pools = s.pools ∧
    (s.modToll g).vols = s.vols ∧
    (s.modToll g).members = s.members ∧
    (s.modToll g).fabric = s.fabric ∧
    (s.modToll g).fleet = s.fleet ∧
    (s.modToll g).pair = s.pair ∧
    (s.modToll g).tow = s.tow ∧
    (s.modToll g).dump = s.dump ∧
    (s.modToll g).cal = s.cal ∧
    (s.modToll g).dict = s.dict ∧
    (s.modToll g).fw = s.fw ∧
    (s.modToll g).log = s.log ∧
    (s.modToll g).out = s.out ∧
    (∀ (n₁ : Nat), (s.modToll g).pool? n₁ = s.pool? n₁) ∧
    (∀ (n₁ : Nat), (s.modToll g).charter? n₁ = s.charter? n₁) ∧
    (∀ (n₁ : Nat), (s.modToll g).volume? n₁ = s.volume? n₁) ∧
    (∀ (n₁ : Nat), (s.modToll g).poolOfMember n₁ = s.poolOfMember n₁) ∧
    (∀ (n₁ : Nat), (s.modToll g).member? n₁ = s.member? n₁) ∧
    (∀ (n₁ : Nat), (s.modToll g).chain n₁ = s.chain n₁) ∧
    (∀ (n₁ : Nat) (h₁ : BitVec 32), (s.modToll g).cmd? n₁ h₁ = s.cmd? n₁ h₁) ∧
    (∀ (n₁ : Nat), (s.modToll g).chainFn n₁ = s.chainFn n₁) ∧
    (∀ (g₁ : Fn), (s.modToll g).fn g₁ = s.fn g₁) ∧
    (∀ (n₁ : Nat), (s.modToll g).vol n₁ = s.vol n₁) ∧
    (∀ (i₁ : Island), (s.modToll g).island i₁ = s.island i₁) ∧
    (∀ (i₁ : Island), (s.modToll g).ready i₁ = s.ready i₁) ∧
    (∀ (n₁ : Nat) (n₂ : Nat), (s.modToll g).objInt n₁ n₂ = s.objInt n₁ n₂) ∧
    (∀ (n₁ : Nat) (n₂ : Nat), (s.modToll g).objNum n₁ n₂ = s.objNum n₁ n₂) ∧
    (∀ (n₁ : Nat) (n₂ : Nat), (s.modToll g).objBlob n₁ n₂ = s.objBlob n₁ n₂) ∧
    (s.modToll g).timeoutUs = s.timeoutUs ∧
    (s.modToll g).leadTides = s.leadTides ∧
    (s.modToll g).readsHalted = s.readsHalted ∧
    (∀ (b₁ : Bool), (s.modToll g).writesHalted b₁ = s.writesHalted b₁) :=
  ⟨rfl, rfl, rfl, rfl, rfl, rfl, rfl, rfl, rfl, rfl, rfl, rfl, rfl, rfl, rfl, rfl, rfl, rfl, rfl, rfl, rfl, rfl, rfl, rfl, rfl, rfl, fun _ => rfl, fun _ => rfl, fun _ => rfl, fun _ => rfl, fun _ => rfl, fun _ => rfl, fun _ _ => rfl, fun _ => rfl, fun _ => rfl, fun _ => rfl, fun _ => rfl, fun _ => rfl, fun _ _ => rfl, fun _ _ => rfl, fun _ _ => rfl, rfl, rfl, rfl, fun _ => rfl⟩

/-- `modDict` changes one field. -/
@[simp] theorem Part.modDict_fields (s : Part) (g : DictSt → DictSt) :
    (s.modDict g).dict = g s.dict ∧
    (s.modDict g).timeUs = s.timeUs ∧
    (s.modDict g).islands = s.islands ∧
    (s.modDict g).bridges = s.bridges ∧
    (s.modDict g).sched = s.sched ∧
    (s.modDict g).man = s.man ∧
    (s.modDict g).chains = s.chains ∧
    (s.modDict g).fn0 = s.fn0 ∧
    (s.modDict g).fn1 = s.fn1 ∧
    (s.modDict g).chainSplit = s.chainSplit ∧
    (s.modDict g).tableGen = s.tableGen ∧
    (s.modDict g).peerBar = s.peerBar ∧
    (s.modDict g).subsysId = s.subsysId ∧
    (s.modDict g).pools = s.pools ∧
    (s.modDict g).vols = s.vols ∧
    (s.modDict g).members = s.members ∧
    (s.modDict g).fabric = s.fabric ∧
    (s.modDict g).fleet = s.fleet ∧
    (s.modDict g).toll = s.toll ∧
    (s.modDict g).pair = s.pair ∧
    (s.modDict g).tow = s.tow ∧
    (s.modDict g).dump = s.dump ∧
    (s.modDict g).cal = s.cal ∧
    (s.modDict g).fw = s.fw ∧
    (s.modDict g).log = s.log ∧
    (s.modDict g).out = s.out ∧
    (∀ (n₁ : Nat), (s.modDict g).pool? n₁ = s.pool? n₁) ∧
    (∀ (n₁ : Nat), (s.modDict g).charter? n₁ = s.charter? n₁) ∧
    (∀ (n₁ : Nat), (s.modDict g).volume? n₁ = s.volume? n₁) ∧
    (∀ (n₁ : Nat), (s.modDict g).poolOfMember n₁ = s.poolOfMember n₁) ∧
    (∀ (n₁ : Nat), (s.modDict g).member? n₁ = s.member? n₁) ∧
    (∀ (n₁ : Nat), (s.modDict g).chain n₁ = s.chain n₁) ∧
    (∀ (n₁ : Nat) (h₁ : BitVec 32), (s.modDict g).cmd? n₁ h₁ = s.cmd? n₁ h₁) ∧
    (∀ (n₁ : Nat), (s.modDict g).chainFn n₁ = s.chainFn n₁) ∧
    (∀ (g₁ : Fn), (s.modDict g).fn g₁ = s.fn g₁) ∧
    (∀ (n₁ : Nat), (s.modDict g).vol n₁ = s.vol n₁) ∧
    (∀ (i₁ : Island), (s.modDict g).island i₁ = s.island i₁) ∧
    (∀ (i₁ : Island), (s.modDict g).ready i₁ = s.ready i₁) ∧
    (s.modDict g).readsHalted = s.readsHalted ∧
    (∀ (b₁ : Bool), (s.modDict g).writesHalted b₁ = s.writesHalted b₁) :=
  ⟨rfl, rfl, rfl, rfl, rfl, rfl, rfl, rfl, rfl, rfl, rfl, rfl, rfl, rfl, rfl, rfl, rfl, rfl, rfl, rfl, rfl, rfl, rfl, rfl, rfl, rfl, fun _ => rfl, fun _ => rfl, fun _ => rfl, fun _ => rfl, fun _ => rfl, fun _ => rfl, fun _ _ => rfl, fun _ => rfl, fun _ => rfl, fun _ => rfl, fun _ => rfl, fun _ => rfl, rfl, fun _ => rfl⟩

/-- `modLog` changes one field. -/
@[simp] theorem Part.modLog_fields (s : Part) (g : LogSt → LogSt) :
    (s.modLog g).log = g s.log ∧
    (s.modLog g).timeUs = s.timeUs ∧
    (s.modLog g).islands = s.islands ∧
    (s.modLog g).bridges = s.bridges ∧
    (s.modLog g).sched = s.sched ∧
    (s.modLog g).man = s.man ∧
    (s.modLog g).chains = s.chains ∧
    (s.modLog g).fn0 = s.fn0 ∧
    (s.modLog g).fn1 = s.fn1 ∧
    (s.modLog g).chainSplit = s.chainSplit ∧
    (s.modLog g).tableGen = s.tableGen ∧
    (s.modLog g).peerBar = s.peerBar ∧
    (s.modLog g).subsysId = s.subsysId ∧
    (s.modLog g).pools = s.pools ∧
    (s.modLog g).vols = s.vols ∧
    (s.modLog g).members = s.members ∧
    (s.modLog g).fabric = s.fabric ∧
    (s.modLog g).fleet = s.fleet ∧
    (s.modLog g).toll = s.toll ∧
    (s.modLog g).pair = s.pair ∧
    (s.modLog g).tow = s.tow ∧
    (s.modLog g).dump = s.dump ∧
    (s.modLog g).cal = s.cal ∧
    (s.modLog g).dict = s.dict ∧
    (s.modLog g).fw = s.fw ∧
    (s.modLog g).out = s.out ∧
    (∀ (n₁ : Nat), (s.modLog g).pool? n₁ = s.pool? n₁) ∧
    (∀ (n₁ : Nat), (s.modLog g).charter? n₁ = s.charter? n₁) ∧
    (∀ (n₁ : Nat), (s.modLog g).volume? n₁ = s.volume? n₁) ∧
    (∀ (n₁ : Nat), (s.modLog g).poolOfMember n₁ = s.poolOfMember n₁) ∧
    (∀ (n₁ : Nat), (s.modLog g).member? n₁ = s.member? n₁) ∧
    (∀ (n₁ : Nat), (s.modLog g).chain n₁ = s.chain n₁) ∧
    (∀ (n₁ : Nat) (h₁ : BitVec 32), (s.modLog g).cmd? n₁ h₁ = s.cmd? n₁ h₁) ∧
    (∀ (n₁ : Nat), (s.modLog g).chainFn n₁ = s.chainFn n₁) ∧
    (∀ (g₁ : Fn), (s.modLog g).fn g₁ = s.fn g₁) ∧
    (∀ (n₁ : Nat), (s.modLog g).vol n₁ = s.vol n₁) ∧
    (∀ (i₁ : Island), (s.modLog g).island i₁ = s.island i₁) ∧
    (∀ (i₁ : Island), (s.modLog g).ready i₁ = s.ready i₁) ∧
    (∀ (n₁ : Nat) (n₂ : Nat), (s.modLog g).objInt n₁ n₂ = s.objInt n₁ n₂) ∧
    (∀ (n₁ : Nat) (n₂ : Nat), (s.modLog g).objNum n₁ n₂ = s.objNum n₁ n₂) ∧
    (∀ (n₁ : Nat) (n₂ : Nat), (s.modLog g).objBlob n₁ n₂ = s.objBlob n₁ n₂) ∧
    (s.modLog g).timeoutUs = s.timeoutUs ∧
    (s.modLog g).leadTides = s.leadTides ∧
    (s.modLog g).readsHalted = s.readsHalted ∧
    (∀ (b₁ : Bool), (s.modLog g).writesHalted b₁ = s.writesHalted b₁) :=
  ⟨rfl, rfl, rfl, rfl, rfl, rfl, rfl, rfl, rfl, rfl, rfl, rfl, rfl, rfl, rfl, rfl, rfl, rfl, rfl, rfl, rfl, rfl, rfl, rfl, rfl, rfl, fun _ => rfl, fun _ => rfl, fun _ => rfl, fun _ => rfl, fun _ => rfl, fun _ => rfl, fun _ _ => rfl, fun _ => rfl, fun _ => rfl, fun _ => rfl, fun _ => rfl, fun _ => rfl, fun _ _ => rfl, fun _ _ => rfl, fun _ _ => rfl, rfl, rfl, rfl, fun _ => rfl⟩

/-- `modFw` changes one field. -/
@[simp] theorem Part.modFw_fields (s : Part) (g : FwSt → FwSt) :
    (s.modFw g).fw = g s.fw ∧
    (s.modFw g).timeUs = s.timeUs ∧
    (s.modFw g).islands = s.islands ∧
    (s.modFw g).bridges = s.bridges ∧
    (s.modFw g).sched = s.sched ∧
    (s.modFw g).man = s.man ∧
    (s.modFw g).chains = s.chains ∧
    (s.modFw g).fn0 = s.fn0 ∧
    (s.modFw g).fn1 = s.fn1 ∧
    (s.modFw g).chainSplit = s.chainSplit ∧
    (s.modFw g).tableGen = s.tableGen ∧
    (s.modFw g).peerBar = s.peerBar ∧
    (s.modFw g).subsysId = s.subsysId ∧
    (s.modFw g).pools = s.pools ∧
    (s.modFw g).vols = s.vols ∧
    (s.modFw g).members = s.members ∧
    (s.modFw g).fabric = s.fabric ∧
    (s.modFw g).fleet = s.fleet ∧
    (s.modFw g).toll = s.toll ∧
    (s.modFw g).pair = s.pair ∧
    (s.modFw g).tow = s.tow ∧
    (s.modFw g).dump = s.dump ∧
    (s.modFw g).cal = s.cal ∧
    (s.modFw g).dict = s.dict ∧
    (s.modFw g).log = s.log ∧
    (s.modFw g).out = s.out ∧
    (∀ (n₁ : Nat), (s.modFw g).pool? n₁ = s.pool? n₁) ∧
    (∀ (n₁ : Nat), (s.modFw g).charter? n₁ = s.charter? n₁) ∧
    (∀ (n₁ : Nat), (s.modFw g).volume? n₁ = s.volume? n₁) ∧
    (∀ (n₁ : Nat), (s.modFw g).poolOfMember n₁ = s.poolOfMember n₁) ∧
    (∀ (n₁ : Nat), (s.modFw g).member? n₁ = s.member? n₁) ∧
    (∀ (n₁ : Nat), (s.modFw g).chain n₁ = s.chain n₁) ∧
    (∀ (n₁ : Nat) (h₁ : BitVec 32), (s.modFw g).cmd? n₁ h₁ = s.cmd? n₁ h₁) ∧
    (∀ (n₁ : Nat), (s.modFw g).chainFn n₁ = s.chainFn n₁) ∧
    (∀ (g₁ : Fn), (s.modFw g).fn g₁ = s.fn g₁) ∧
    (∀ (n₁ : Nat), (s.modFw g).vol n₁ = s.vol n₁) ∧
    (∀ (i₁ : Island), (s.modFw g).island i₁ = s.island i₁) ∧
    (∀ (i₁ : Island), (s.modFw g).ready i₁ = s.ready i₁) ∧
    (∀ (n₁ : Nat) (n₂ : Nat), (s.modFw g).objInt n₁ n₂ = s.objInt n₁ n₂) ∧
    (∀ (n₁ : Nat) (n₂ : Nat), (s.modFw g).objNum n₁ n₂ = s.objNum n₁ n₂) ∧
    (∀ (n₁ : Nat) (n₂ : Nat), (s.modFw g).objBlob n₁ n₂ = s.objBlob n₁ n₂) ∧
    (s.modFw g).timeoutUs = s.timeoutUs ∧
    (s.modFw g).leadTides = s.leadTides ∧
    (s.modFw g).readsHalted = s.readsHalted ∧
    (∀ (b₁ : Bool), (s.modFw g).writesHalted b₁ = s.writesHalted b₁) :=
  ⟨rfl, rfl, rfl, rfl, rfl, rfl, rfl, rfl, rfl, rfl, rfl, rfl, rfl, rfl, rfl, rfl, rfl, rfl, rfl, rfl, rfl, rfl, rfl, rfl, rfl, rfl, fun _ => rfl, fun _ => rfl, fun _ => rfl, fun _ => rfl, fun _ => rfl, fun _ => rfl, fun _ _ => rfl, fun _ => rfl, fun _ => rfl, fun _ => rfl, fun _ => rfl, fun _ => rfl, fun _ _ => rfl, fun _ _ => rfl, fun _ _ => rfl, rfl, rfl, rfl, fun _ => rfl⟩

/-- `modCal` changes one field. -/
@[simp] theorem Part.modCal_fields (s : Part) (g : CalSt → CalSt) :
    (s.modCal g).cal = g s.cal ∧
    (s.modCal g).timeUs = s.timeUs ∧
    (s.modCal g).islands = s.islands ∧
    (s.modCal g).bridges = s.bridges ∧
    (s.modCal g).sched = s.sched ∧
    (s.modCal g).man = s.man ∧
    (s.modCal g).chains = s.chains ∧
    (s.modCal g).fn0 = s.fn0 ∧
    (s.modCal g).fn1 = s.fn1 ∧
    (s.modCal g).chainSplit = s.chainSplit ∧
    (s.modCal g).tableGen = s.tableGen ∧
    (s.modCal g).peerBar = s.peerBar ∧
    (s.modCal g).subsysId = s.subsysId ∧
    (s.modCal g).pools = s.pools ∧
    (s.modCal g).vols = s.vols ∧
    (s.modCal g).members = s.members ∧
    (s.modCal g).fabric = s.fabric ∧
    (s.modCal g).fleet = s.fleet ∧
    (s.modCal g).toll = s.toll ∧
    (s.modCal g).pair = s.pair ∧
    (s.modCal g).tow = s.tow ∧
    (s.modCal g).dump = s.dump ∧
    (s.modCal g).dict = s.dict ∧
    (s.modCal g).fw = s.fw ∧
    (s.modCal g).log = s.log ∧
    (s.modCal g).out = s.out ∧
    (∀ (n₁ : Nat), (s.modCal g).pool? n₁ = s.pool? n₁) ∧
    (∀ (n₁ : Nat), (s.modCal g).charter? n₁ = s.charter? n₁) ∧
    (∀ (n₁ : Nat), (s.modCal g).volume? n₁ = s.volume? n₁) ∧
    (∀ (n₁ : Nat), (s.modCal g).poolOfMember n₁ = s.poolOfMember n₁) ∧
    (∀ (n₁ : Nat), (s.modCal g).member? n₁ = s.member? n₁) ∧
    (∀ (n₁ : Nat), (s.modCal g).chain n₁ = s.chain n₁) ∧
    (∀ (n₁ : Nat) (h₁ : BitVec 32), (s.modCal g).cmd? n₁ h₁ = s.cmd? n₁ h₁) ∧
    (∀ (n₁ : Nat), (s.modCal g).chainFn n₁ = s.chainFn n₁) ∧
    (∀ (g₁ : Fn), (s.modCal g).fn g₁ = s.fn g₁) ∧
    (∀ (n₁ : Nat), (s.modCal g).vol n₁ = s.vol n₁) ∧
    (∀ (i₁ : Island), (s.modCal g).island i₁ = s.island i₁) ∧
    (∀ (i₁ : Island), (s.modCal g).ready i₁ = s.ready i₁) ∧
    (∀ (n₁ : Nat) (n₂ : Nat), (s.modCal g).objInt n₁ n₂ = s.objInt n₁ n₂) ∧
    (∀ (n₁ : Nat) (n₂ : Nat), (s.modCal g).objNum n₁ n₂ = s.objNum n₁ n₂) ∧
    (∀ (n₁ : Nat) (n₂ : Nat), (s.modCal g).objBlob n₁ n₂ = s.objBlob n₁ n₂) ∧
    (s.modCal g).timeoutUs = s.timeoutUs ∧
    (s.modCal g).leadTides = s.leadTides ∧
    (s.modCal g).readsHalted = s.readsHalted ∧
    (∀ (b₁ : Bool), (s.modCal g).writesHalted b₁ = s.writesHalted b₁) :=
  ⟨rfl, rfl, rfl, rfl, rfl, rfl, rfl, rfl, rfl, rfl, rfl, rfl, rfl, rfl, rfl, rfl, rfl, rfl, rfl, rfl, rfl, rfl, rfl, rfl, rfl, rfl, fun _ => rfl, fun _ => rfl, fun _ => rfl, fun _ => rfl, fun _ => rfl, fun _ => rfl, fun _ _ => rfl, fun _ => rfl, fun _ => rfl, fun _ => rfl, fun _ => rfl, fun _ => rfl, fun _ _ => rfl, fun _ _ => rfl, fun _ _ => rfl, rfl, rfl, rfl, fun _ => rfl⟩

/-- `modFab` changes one field. -/
@[simp] theorem Part.modFab_fields (s : Part) (g : FabricSt → FabricSt) :
    (s.modFab g).fabric = g s.fabric ∧
    (s.modFab g).timeUs = s.timeUs ∧
    (s.modFab g).islands = s.islands ∧
    (s.modFab g).bridges = s.bridges ∧
    (s.modFab g).sched = s.sched ∧
    (s.modFab g).man = s.man ∧
    (s.modFab g).chains = s.chains ∧
    (s.modFab g).fn0 = s.fn0 ∧
    (s.modFab g).fn1 = s.fn1 ∧
    (s.modFab g).chainSplit = s.chainSplit ∧
    (s.modFab g).tableGen = s.tableGen ∧
    (s.modFab g).peerBar = s.peerBar ∧
    (s.modFab g).subsysId = s.subsysId ∧
    (s.modFab g).pools = s.pools ∧
    (s.modFab g).vols = s.vols ∧
    (s.modFab g).members = s.members ∧
    (s.modFab g).fleet = s.fleet ∧
    (s.modFab g).toll = s.toll ∧
    (s.modFab g).pair = s.pair ∧
    (s.modFab g).tow = s.tow ∧
    (s.modFab g).dump = s.dump ∧
    (s.modFab g).cal = s.cal ∧
    (s.modFab g).dict = s.dict ∧
    (s.modFab g).fw = s.fw ∧
    (s.modFab g).log = s.log ∧
    (s.modFab g).out = s.out ∧
    (∀ (n₁ : Nat), (s.modFab g).pool? n₁ = s.pool? n₁) ∧
    (∀ (n₁ : Nat), (s.modFab g).charter? n₁ = s.charter? n₁) ∧
    (∀ (n₁ : Nat), (s.modFab g).volume? n₁ = s.volume? n₁) ∧
    (∀ (n₁ : Nat), (s.modFab g).poolOfMember n₁ = s.poolOfMember n₁) ∧
    (∀ (n₁ : Nat), (s.modFab g).member? n₁ = s.member? n₁) ∧
    (∀ (n₁ : Nat), (s.modFab g).chain n₁ = s.chain n₁) ∧
    (∀ (n₁ : Nat) (h₁ : BitVec 32), (s.modFab g).cmd? n₁ h₁ = s.cmd? n₁ h₁) ∧
    (∀ (n₁ : Nat), (s.modFab g).chainFn n₁ = s.chainFn n₁) ∧
    (∀ (g₁ : Fn), (s.modFab g).fn g₁ = s.fn g₁) ∧
    (∀ (n₁ : Nat), (s.modFab g).vol n₁ = s.vol n₁) ∧
    (∀ (i₁ : Island), (s.modFab g).island i₁ = s.island i₁) ∧
    (∀ (i₁ : Island), (s.modFab g).ready i₁ = s.ready i₁) ∧
    (∀ (n₁ : Nat) (n₂ : Nat), (s.modFab g).objInt n₁ n₂ = s.objInt n₁ n₂) ∧
    (∀ (n₁ : Nat) (n₂ : Nat), (s.modFab g).objNum n₁ n₂ = s.objNum n₁ n₂) ∧
    (∀ (n₁ : Nat) (n₂ : Nat), (s.modFab g).objBlob n₁ n₂ = s.objBlob n₁ n₂) ∧
    (s.modFab g).timeoutUs = s.timeoutUs ∧
    (s.modFab g).leadTides = s.leadTides ∧
    (s.modFab g).readsHalted = s.readsHalted ∧
    (∀ (b₁ : Bool), (s.modFab g).writesHalted b₁ = s.writesHalted b₁) :=
  ⟨rfl, rfl, rfl, rfl, rfl, rfl, rfl, rfl, rfl, rfl, rfl, rfl, rfl, rfl, rfl, rfl, rfl, rfl, rfl, rfl, rfl, rfl, rfl, rfl, rfl, rfl, fun _ => rfl, fun _ => rfl, fun _ => rfl, fun _ => rfl, fun _ => rfl, fun _ => rfl, fun _ _ => rfl, fun _ => rfl, fun _ => rfl, fun _ => rfl, fun _ => rfl, fun _ => rfl, fun _ _ => rfl, fun _ _ => rfl, fun _ _ => rfl, rfl, rfl, rfl, fun _ => rfl⟩

/-- `modFleet` changes one field. -/
@[simp] theorem Part.modFleet_fields (s : Part) (g : FleetSt → FleetSt) :
    (s.modFleet g).fleet = g s.fleet ∧
    (s.modFleet g).timeUs = s.timeUs ∧
    (s.modFleet g).islands = s.islands ∧
    (s.modFleet g).bridges = s.bridges ∧
    (s.modFleet g).sched = s.sched ∧
    (s.modFleet g).man = s.man ∧
    (s.modFleet g).chains = s.chains ∧
    (s.modFleet g).fn0 = s.fn0 ∧
    (s.modFleet g).fn1 = s.fn1 ∧
    (s.modFleet g).chainSplit = s.chainSplit ∧
    (s.modFleet g).tableGen = s.tableGen ∧
    (s.modFleet g).peerBar = s.peerBar ∧
    (s.modFleet g).subsysId = s.subsysId ∧
    (s.modFleet g).pools = s.pools ∧
    (s.modFleet g).vols = s.vols ∧
    (s.modFleet g).members = s.members ∧
    (s.modFleet g).fabric = s.fabric ∧
    (s.modFleet g).toll = s.toll ∧
    (s.modFleet g).pair = s.pair ∧
    (s.modFleet g).tow = s.tow ∧
    (s.modFleet g).dump = s.dump ∧
    (s.modFleet g).cal = s.cal ∧
    (s.modFleet g).dict = s.dict ∧
    (s.modFleet g).fw = s.fw ∧
    (s.modFleet g).log = s.log ∧
    (s.modFleet g).out = s.out ∧
    (∀ (n₁ : Nat), (s.modFleet g).pool? n₁ = s.pool? n₁) ∧
    (∀ (n₁ : Nat), (s.modFleet g).charter? n₁ = s.charter? n₁) ∧
    (∀ (n₁ : Nat), (s.modFleet g).volume? n₁ = s.volume? n₁) ∧
    (∀ (n₁ : Nat), (s.modFleet g).poolOfMember n₁ = s.poolOfMember n₁) ∧
    (∀ (n₁ : Nat), (s.modFleet g).member? n₁ = s.member? n₁) ∧
    (∀ (n₁ : Nat), (s.modFleet g).chain n₁ = s.chain n₁) ∧
    (∀ (n₁ : Nat) (h₁ : BitVec 32), (s.modFleet g).cmd? n₁ h₁ = s.cmd? n₁ h₁) ∧
    (∀ (n₁ : Nat), (s.modFleet g).chainFn n₁ = s.chainFn n₁) ∧
    (∀ (g₁ : Fn), (s.modFleet g).fn g₁ = s.fn g₁) ∧
    (∀ (n₁ : Nat), (s.modFleet g).vol n₁ = s.vol n₁) ∧
    (∀ (i₁ : Island), (s.modFleet g).island i₁ = s.island i₁) ∧
    (∀ (i₁ : Island), (s.modFleet g).ready i₁ = s.ready i₁) ∧
    (∀ (n₁ : Nat) (n₂ : Nat), (s.modFleet g).objInt n₁ n₂ = s.objInt n₁ n₂) ∧
    (∀ (n₁ : Nat) (n₂ : Nat), (s.modFleet g).objNum n₁ n₂ = s.objNum n₁ n₂) ∧
    (∀ (n₁ : Nat) (n₂ : Nat), (s.modFleet g).objBlob n₁ n₂ = s.objBlob n₁ n₂) ∧
    (s.modFleet g).timeoutUs = s.timeoutUs ∧
    (s.modFleet g).leadTides = s.leadTides ∧
    (s.modFleet g).readsHalted = s.readsHalted ∧
    (∀ (b₁ : Bool), (s.modFleet g).writesHalted b₁ = s.writesHalted b₁) :=
  ⟨rfl, rfl, rfl, rfl, rfl, rfl, rfl, rfl, rfl, rfl, rfl, rfl, rfl, rfl, rfl, rfl, rfl, rfl, rfl, rfl, rfl, rfl, rfl, rfl, rfl, rfl, fun _ => rfl, fun _ => rfl, fun _ => rfl, fun _ => rfl, fun _ => rfl, fun _ => rfl, fun _ _ => rfl, fun _ => rfl, fun _ => rfl, fun _ => rfl, fun _ => rfl, fun _ => rfl, fun _ _ => rfl, fun _ _ => rfl, fun _ _ => rfl, rfl, rfl, rfl, fun _ => rfl⟩

/-- `modPool` changes pools alone. -/
@[simp] theorem Part.modPool_fields (s : Part) (p : Nat) (g : PoolSt → PoolSt) :
    (s.modPool p g).timeUs = s.timeUs ∧
    (s.modPool p g).islands = s.islands ∧
    (s.modPool p g).bridges = s.bridges ∧
    (s.modPool p g).sched = s.sched ∧
    (s.modPool p g).man = s.man ∧
    (s.modPool p g).chains = s.chains ∧
    (s.modPool p g).fn0 = s.fn0 ∧
    (s.modPool p g).fn1 = s.fn1 ∧
    (s.modPool p g).chainSplit = s.chainSplit ∧
    (s.modPool p g).tableGen = s.tableGen ∧
    (s.modPool p g).peerBar = s.peerBar ∧
    (s.modPool p g).subsysId = s.subsysId ∧
    (s.modPool p g).vols = s.vols ∧
    (s.modPool p g).members = s.members ∧
    (s.modPool p g).fabric = s.fabric ∧
    (s.modPool p g).fleet = s.fleet ∧
    (s.modPool p g).toll = s.toll ∧
    (s.modPool p g).pair = s.pair ∧
    (s.modPool p g).tow = s.tow ∧
    (s.modPool p g).dump = s.dump ∧
    (s.modPool p g).cal = s.cal ∧
    (s.modPool p g).dict = s.dict ∧
    (s.modPool p g).fw = s.fw ∧
    (s.modPool p g).log = s.log ∧
    (s.modPool p g).out = s.out ∧
    (∀ (n₁ : Nat), (s.modPool p g).member? n₁ = s.member? n₁) ∧
    (∀ (n₁ : Nat), (s.modPool p g).chain n₁ = s.chain n₁) ∧
    (∀ (n₁ : Nat) (h₁ : BitVec 32), (s.modPool p g).cmd? n₁ h₁ = s.cmd? n₁ h₁) ∧
    (∀ (n₁ : Nat), (s.modPool p g).chainFn n₁ = s.chainFn n₁) ∧
    (∀ (g₁ : Fn), (s.modPool p g).fn g₁ = s.fn g₁) ∧
    (∀ (n₁ : Nat), (s.modPool p g).vol n₁ = s.vol n₁) ∧
    (∀ (i₁ : Island), (s.modPool p g).island i₁ = s.island i₁) ∧
    (∀ (i₁ : Island), (s.modPool p g).ready i₁ = s.ready i₁) ∧
    (∀ (n₁ : Nat) (n₂ : Nat), (s.modPool p g).objInt n₁ n₂ = s.objInt n₁ n₂) ∧
    (∀ (n₁ : Nat) (n₂ : Nat), (s.modPool p g).objNum n₁ n₂ = s.objNum n₁ n₂) ∧
    (∀ (n₁ : Nat) (n₂ : Nat), (s.modPool p g).objBlob n₁ n₂ = s.objBlob n₁ n₂) ∧
    (s.modPool p g).timeoutUs = s.timeoutUs ∧
    (s.modPool p g).leadTides = s.leadTides ∧
    (s.modPool p g).readsHalted = s.readsHalted ∧
    (∀ (b₁ : Bool), (s.modPool p g).writesHalted b₁ = s.writesHalted b₁) :=
  ⟨rfl, rfl, rfl, rfl, rfl, rfl, rfl, rfl, rfl, rfl, rfl, rfl, rfl, rfl, rfl, rfl, rfl, rfl, rfl, rfl, rfl, rfl, rfl, rfl, rfl, fun _ => rfl, fun _ => rfl, fun _ _ => rfl, fun _ => rfl, fun _ => rfl, fun _ => rfl, fun _ => rfl, fun _ => rfl, fun _ _ => rfl, fun _ _ => rfl, fun _ _ => rfl, rfl, rfl, rfl, fun _ => rfl⟩

/-- `modMember` changes members alone. -/
@[simp] theorem Part.modMember_fields (s : Part) (k : Nat) (g : MemberSt → MemberSt) :
    (s.modMember k g).timeUs = s.timeUs ∧
    (s.modMember k g).islands = s.islands ∧
    (s.modMember k g).bridges = s.bridges ∧
    (s.modMember k g).sched = s.sched ∧
    (s.modMember k g).man = s.man ∧
    (s.modMember k g).chains = s.chains ∧
    (s.modMember k g).fn0 = s.fn0 ∧
    (s.modMember k g).fn1 = s.fn1 ∧
    (s.modMember k g).chainSplit = s.chainSplit ∧
    (s.modMember k g).tableGen = s.tableGen ∧
    (s.modMember k g).peerBar = s.peerBar ∧
    (s.modMember k g).subsysId = s.subsysId ∧
    (s.modMember k g).pools = s.pools ∧
    (s.modMember k g).vols = s.vols ∧
    (s.modMember k g).fabric = s.fabric ∧
    (s.modMember k g).fleet = s.fleet ∧
    (s.modMember k g).toll = s.toll ∧
    (s.modMember k g).pair = s.pair ∧
    (s.modMember k g).tow = s.tow ∧
    (s.modMember k g).dump = s.dump ∧
    (s.modMember k g).cal = s.cal ∧
    (s.modMember k g).dict = s.dict ∧
    (s.modMember k g).fw = s.fw ∧
    (s.modMember k g).log = s.log ∧
    (s.modMember k g).out = s.out ∧
    (∀ (n₁ : Nat), (s.modMember k g).pool? n₁ = s.pool? n₁) ∧
    (∀ (n₁ : Nat), (s.modMember k g).charter? n₁ = s.charter? n₁) ∧
    (∀ (n₁ : Nat), (s.modMember k g).volume? n₁ = s.volume? n₁) ∧
    (∀ (n₁ : Nat), (s.modMember k g).poolOfMember n₁ = s.poolOfMember n₁) ∧
    (∀ (n₁ : Nat), (s.modMember k g).chain n₁ = s.chain n₁) ∧
    (∀ (n₁ : Nat) (h₁ : BitVec 32), (s.modMember k g).cmd? n₁ h₁ = s.cmd? n₁ h₁) ∧
    (∀ (n₁ : Nat), (s.modMember k g).chainFn n₁ = s.chainFn n₁) ∧
    (∀ (g₁ : Fn), (s.modMember k g).fn g₁ = s.fn g₁) ∧
    (∀ (n₁ : Nat), (s.modMember k g).vol n₁ = s.vol n₁) ∧
    (∀ (i₁ : Island), (s.modMember k g).island i₁ = s.island i₁) ∧
    (∀ (i₁ : Island), (s.modMember k g).ready i₁ = s.ready i₁) ∧
    (∀ (n₁ : Nat) (n₂ : Nat), (s.modMember k g).objInt n₁ n₂ = s.objInt n₁ n₂) ∧
    (∀ (n₁ : Nat) (n₂ : Nat), (s.modMember k g).objNum n₁ n₂ = s.objNum n₁ n₂) ∧
    (∀ (n₁ : Nat) (n₂ : Nat), (s.modMember k g).objBlob n₁ n₂ = s.objBlob n₁ n₂) ∧
    (s.modMember k g).timeoutUs = s.timeoutUs ∧
    (s.modMember k g).leadTides = s.leadTides ∧
    (s.modMember k g).readsHalted = s.readsHalted ∧
    (∀ (b₁ : Bool), (s.modMember k g).writesHalted b₁ = s.writesHalted b₁) :=
  ⟨rfl, rfl, rfl, rfl, rfl, rfl, rfl, rfl, rfl, rfl, rfl, rfl, rfl, rfl, rfl, rfl, rfl, rfl, rfl, rfl, rfl, rfl, rfl, rfl, rfl, fun _ => rfl, fun _ => rfl, fun _ => rfl, fun _ => rfl, fun _ => rfl, fun _ _ => rfl, fun _ => rfl, fun _ => rfl, fun _ => rfl, fun _ => rfl, fun _ => rfl, fun _ _ => rfl, fun _ _ => rfl, fun _ _ => rfl, rfl, rfl, rfl, fun _ => rfl⟩

/-- `setVol` changes vols alone. -/
@[simp] theorem Part.setVol_fields (s : Part) (x : VolSt) :
    (s.setVol x).timeUs = s.timeUs ∧
    (s.setVol x).islands = s.islands ∧
    (s.setVol x).bridges = s.bridges ∧
    (s.setVol x).sched = s.sched ∧
    (s.setVol x).man = s.man ∧
    (s.setVol x).chains = s.chains ∧
    (s.setVol x).fn0 = s.fn0 ∧
    (s.setVol x).fn1 = s.fn1 ∧
    (s.setVol x).chainSplit = s.chainSplit ∧
    (s.setVol x).tableGen = s.tableGen ∧
    (s.setVol x).peerBar = s.peerBar ∧
    (s.setVol x).subsysId = s.subsysId ∧
    (s.setVol x).pools = s.pools ∧
    (s.setVol x).members = s.members ∧
    (s.setVol x).fabric = s.fabric ∧
    (s.setVol x).fleet = s.fleet ∧
    (s.setVol x).toll = s.toll ∧
    (s.setVol x).pair = s.pair ∧
    (s.setVol x).tow = s.tow ∧
    (s.setVol x).dump = s.dump ∧
    (s.setVol x).cal = s.cal ∧
    (s.setVol x).dict = s.dict ∧
    (s.setVol x).fw = s.fw ∧
    (s.setVol x).log = s.log ∧
    (s.setVol x).out = s.out ∧
    (∀ (n₁ : Nat), (s.setVol x).pool? n₁ = s.pool? n₁) ∧
    (∀ (n₁ : Nat), (s.setVol x).charter? n₁ = s.charter? n₁) ∧
    (∀ (n₁ : Nat), (s.setVol x).volume? n₁ = s.volume? n₁) ∧
    (∀ (n₁ : Nat), (s.setVol x).poolOfMember n₁ = s.poolOfMember n₁) ∧
    (∀ (n₁ : Nat), (s.setVol x).member? n₁ = s.member? n₁) ∧
    (∀ (n₁ : Nat), (s.setVol x).chain n₁ = s.chain n₁) ∧
    (∀ (n₁ : Nat) (h₁ : BitVec 32), (s.setVol x).cmd? n₁ h₁ = s.cmd? n₁ h₁) ∧
    (∀ (n₁ : Nat), (s.setVol x).chainFn n₁ = s.chainFn n₁) ∧
    (∀ (g₁ : Fn), (s.setVol x).fn g₁ = s.fn g₁) ∧
    (∀ (i₁ : Island), (s.setVol x).island i₁ = s.island i₁) ∧
    (∀ (i₁ : Island), (s.setVol x).ready i₁ = s.ready i₁) ∧
    (∀ (n₁ : Nat) (n₂ : Nat), (s.setVol x).objInt n₁ n₂ = s.objInt n₁ n₂) ∧
    (∀ (n₁ : Nat) (n₂ : Nat), (s.setVol x).objNum n₁ n₂ = s.objNum n₁ n₂) ∧
    (∀ (n₁ : Nat) (n₂ : Nat), (s.setVol x).objBlob n₁ n₂ = s.objBlob n₁ n₂) ∧
    (s.setVol x).timeoutUs = s.timeoutUs ∧
    (s.setVol x).leadTides = s.leadTides ∧
    (s.setVol x).readsHalted = s.readsHalted ∧
    (∀ (b₁ : Bool), (s.setVol x).writesHalted b₁ = s.writesHalted b₁) :=
  ⟨rfl, rfl, rfl, rfl, rfl, rfl, rfl, rfl, rfl, rfl, rfl, rfl, rfl, rfl, rfl, rfl, rfl, rfl, rfl, rfl, rfl, rfl, rfl, rfl, rfl, fun _ => rfl, fun _ => rfl, fun _ => rfl, fun _ => rfl, fun _ => rfl, fun _ => rfl, fun _ _ => rfl, fun _ => rfl, fun _ => rfl, fun _ => rfl, fun _ => rfl, fun _ _ => rfl, fun _ _ => rfl, fun _ _ => rfl, rfl, rfl, rfl, fun _ => rfl⟩

/-- `modVol` changes vols alone. -/
@[simp] theorem Part.modVol_fields (s : Part) (v : Nat) (g : VolSt → VolSt) :
    (s.modVol v g).timeUs = s.timeUs ∧
    (s.modVol v g).islands = s.islands ∧
    (s.modVol v g).bridges = s.bridges ∧
    (s.modVol v g).sched = s.sched ∧
    (s.modVol v g).man = s.man ∧
    (s.modVol v g).chains = s.chains ∧
    (s.modVol v g).fn0 = s.fn0 ∧
    (s.modVol v g).fn1 = s.fn1 ∧
    (s.modVol v g).chainSplit = s.chainSplit ∧
    (s.modVol v g).tableGen = s.tableGen ∧
    (s.modVol v g).peerBar = s.peerBar ∧
    (s.modVol v g).subsysId = s.subsysId ∧
    (s.modVol v g).pools = s.pools ∧
    (s.modVol v g).members = s.members ∧
    (s.modVol v g).fabric = s.fabric ∧
    (s.modVol v g).fleet = s.fleet ∧
    (s.modVol v g).toll = s.toll ∧
    (s.modVol v g).pair = s.pair ∧
    (s.modVol v g).tow = s.tow ∧
    (s.modVol v g).dump = s.dump ∧
    (s.modVol v g).cal = s.cal ∧
    (s.modVol v g).dict = s.dict ∧
    (s.modVol v g).fw = s.fw ∧
    (s.modVol v g).log = s.log ∧
    (s.modVol v g).out = s.out ∧
    (∀ (n₁ : Nat), (s.modVol v g).pool? n₁ = s.pool? n₁) ∧
    (∀ (n₁ : Nat), (s.modVol v g).charter? n₁ = s.charter? n₁) ∧
    (∀ (n₁ : Nat), (s.modVol v g).volume? n₁ = s.volume? n₁) ∧
    (∀ (n₁ : Nat), (s.modVol v g).poolOfMember n₁ = s.poolOfMember n₁) ∧
    (∀ (n₁ : Nat), (s.modVol v g).member? n₁ = s.member? n₁) ∧
    (∀ (n₁ : Nat), (s.modVol v g).chain n₁ = s.chain n₁) ∧
    (∀ (n₁ : Nat) (h₁ : BitVec 32), (s.modVol v g).cmd? n₁ h₁ = s.cmd? n₁ h₁) ∧
    (∀ (n₁ : Nat), (s.modVol v g).chainFn n₁ = s.chainFn n₁) ∧
    (∀ (g₁ : Fn), (s.modVol v g).fn g₁ = s.fn g₁) ∧
    (∀ (i₁ : Island), (s.modVol v g).island i₁ = s.island i₁) ∧
    (∀ (i₁ : Island), (s.modVol v g).ready i₁ = s.ready i₁) ∧
    (∀ (n₁ : Nat) (n₂ : Nat), (s.modVol v g).objInt n₁ n₂ = s.objInt n₁ n₂) ∧
    (∀ (n₁ : Nat) (n₂ : Nat), (s.modVol v g).objNum n₁ n₂ = s.objNum n₁ n₂) ∧
    (∀ (n₁ : Nat) (n₂ : Nat), (s.modVol v g).objBlob n₁ n₂ = s.objBlob n₁ n₂) ∧
    (s.modVol v g).timeoutUs = s.timeoutUs ∧
    (s.modVol v g).leadTides = s.leadTides ∧
    (s.modVol v g).readsHalted = s.readsHalted ∧
    (∀ (b₁ : Bool), (s.modVol v g).writesHalted b₁ = s.writesHalted b₁) :=
  ⟨rfl, rfl, rfl, rfl, rfl, rfl, rfl, rfl, rfl, rfl, rfl, rfl, rfl, rfl, rfl, rfl, rfl, rfl, rfl, rfl, rfl, rfl, rfl, rfl, rfl, fun _ => rfl, fun _ => rfl, fun _ => rfl, fun _ => rfl, fun _ => rfl, fun _ => rfl, fun _ _ => rfl, fun _ => rfl, fun _ => rfl, fun _ => rfl, fun _ => rfl, fun _ _ => rfl, fun _ _ => rfl, fun _ _ => rfl, rfl, rfl, rfl, fun _ => rfl⟩

/-- `setChain` changes chains alone. -/
@[simp] theorem Part.setChain_fields (s : Part) (x : ChainSt) :
    (s.setChain x).timeUs = s.timeUs ∧
    (s.setChain x).islands = s.islands ∧
    (s.setChain x).bridges = s.bridges ∧
    (s.setChain x).sched = s.sched ∧
    (s.setChain x).man = s.man ∧
    (s.setChain x).fn0 = s.fn0 ∧
    (s.setChain x).fn1 = s.fn1 ∧
    (s.setChain x).chainSplit = s.chainSplit ∧
    (s.setChain x).tableGen = s.tableGen ∧
    (s.setChain x).peerBar = s.peerBar ∧
    (s.setChain x).subsysId = s.subsysId ∧
    (s.setChain x).pools = s.pools ∧
    (s.setChain x).vols = s.vols ∧
    (s.setChain x).members = s.members ∧
    (s.setChain x).fabric = s.fabric ∧
    (s.setChain x).fleet = s.fleet ∧
    (s.setChain x).toll = s.toll ∧
    (s.setChain x).pair = s.pair ∧
    (s.setChain x).tow = s.tow ∧
    (s.setChain x).dump = s.dump ∧
    (s.setChain x).cal = s.cal ∧
    (s.setChain x).dict = s.dict ∧
    (s.setChain x).fw = s.fw ∧
    (s.setChain x).log = s.log ∧
    (s.setChain x).out = s.out ∧
    (∀ (n₁ : Nat), (s.setChain x).pool? n₁ = s.pool? n₁) ∧
    (∀ (n₁ : Nat), (s.setChain x).charter? n₁ = s.charter? n₁) ∧
    (∀ (n₁ : Nat), (s.setChain x).volume? n₁ = s.volume? n₁) ∧
    (∀ (n₁ : Nat), (s.setChain x).poolOfMember n₁ = s.poolOfMember n₁) ∧
    (∀ (n₁ : Nat), (s.setChain x).member? n₁ = s.member? n₁) ∧
    (∀ (n₁ : Nat), (s.setChain x).chainFn n₁ = s.chainFn n₁) ∧
    (∀ (g₁ : Fn), (s.setChain x).fn g₁ = s.fn g₁) ∧
    (∀ (n₁ : Nat), (s.setChain x).vol n₁ = s.vol n₁) ∧
    (∀ (i₁ : Island), (s.setChain x).island i₁ = s.island i₁) ∧
    (∀ (i₁ : Island), (s.setChain x).ready i₁ = s.ready i₁) ∧
    (∀ (n₁ : Nat) (n₂ : Nat), (s.setChain x).objInt n₁ n₂ = s.objInt n₁ n₂) ∧
    (∀ (n₁ : Nat) (n₂ : Nat), (s.setChain x).objNum n₁ n₂ = s.objNum n₁ n₂) ∧
    (∀ (n₁ : Nat) (n₂ : Nat), (s.setChain x).objBlob n₁ n₂ = s.objBlob n₁ n₂) ∧
    (s.setChain x).timeoutUs = s.timeoutUs ∧
    (s.setChain x).leadTides = s.leadTides ∧
    (s.setChain x).readsHalted = s.readsHalted ∧
    (∀ (b₁ : Bool), (s.setChain x).writesHalted b₁ = s.writesHalted b₁) :=
  ⟨rfl, rfl, rfl, rfl, rfl, rfl, rfl, rfl, rfl, rfl, rfl, rfl, rfl, rfl, rfl, rfl, rfl, rfl, rfl, rfl, rfl, rfl, rfl, rfl, rfl, fun _ => rfl, fun _ => rfl, fun _ => rfl, fun _ => rfl, fun _ => rfl, fun _ => rfl, fun _ => rfl, fun _ => rfl, fun _ => rfl, fun _ => rfl, fun _ _ => rfl, fun _ _ => rfl, fun _ _ => rfl, rfl, rfl, rfl, fun _ => rfl⟩

/-- `modChain` changes chains alone. -/
@[simp] theorem Part.modChain_fields (s : Part) (c : Nat) (g : ChainSt → ChainSt) :
    (s.modChain c g).timeUs = s.timeUs ∧
    (s.modChain c g).islands = s.islands ∧
    (s.modChain c g).bridges = s.bridges ∧
    (s.modChain c g).sched = s.sched ∧
    (s.modChain c g).man = s.man ∧
    (s.modChain c g).fn0 = s.fn0 ∧
    (s.modChain c g).fn1 = s.fn1 ∧
    (s.modChain c g).chainSplit = s.chainSplit ∧
    (s.modChain c g).tableGen = s.tableGen ∧
    (s.modChain c g).peerBar = s.peerBar ∧
    (s.modChain c g).subsysId = s.subsysId ∧
    (s.modChain c g).pools = s.pools ∧
    (s.modChain c g).vols = s.vols ∧
    (s.modChain c g).members = s.members ∧
    (s.modChain c g).fabric = s.fabric ∧
    (s.modChain c g).fleet = s.fleet ∧
    (s.modChain c g).toll = s.toll ∧
    (s.modChain c g).pair = s.pair ∧
    (s.modChain c g).tow = s.tow ∧
    (s.modChain c g).dump = s.dump ∧
    (s.modChain c g).cal = s.cal ∧
    (s.modChain c g).dict = s.dict ∧
    (s.modChain c g).fw = s.fw ∧
    (s.modChain c g).log = s.log ∧
    (s.modChain c g).out = s.out ∧
    (∀ (n₁ : Nat), (s.modChain c g).pool? n₁ = s.pool? n₁) ∧
    (∀ (n₁ : Nat), (s.modChain c g).charter? n₁ = s.charter? n₁) ∧
    (∀ (n₁ : Nat), (s.modChain c g).volume? n₁ = s.volume? n₁) ∧
    (∀ (n₁ : Nat), (s.modChain c g).poolOfMember n₁ = s.poolOfMember n₁) ∧
    (∀ (n₁ : Nat), (s.modChain c g).member? n₁ = s.member? n₁) ∧
    (∀ (n₁ : Nat), (s.modChain c g).chainFn n₁ = s.chainFn n₁) ∧
    (∀ (g₁ : Fn), (s.modChain c g).fn g₁ = s.fn g₁) ∧
    (∀ (n₁ : Nat), (s.modChain c g).vol n₁ = s.vol n₁) ∧
    (∀ (i₁ : Island), (s.modChain c g).island i₁ = s.island i₁) ∧
    (∀ (i₁ : Island), (s.modChain c g).ready i₁ = s.ready i₁) ∧
    (∀ (n₁ : Nat) (n₂ : Nat), (s.modChain c g).objInt n₁ n₂ = s.objInt n₁ n₂) ∧
    (∀ (n₁ : Nat) (n₂ : Nat), (s.modChain c g).objNum n₁ n₂ = s.objNum n₁ n₂) ∧
    (∀ (n₁ : Nat) (n₂ : Nat), (s.modChain c g).objBlob n₁ n₂ = s.objBlob n₁ n₂) ∧
    (s.modChain c g).timeoutUs = s.timeoutUs ∧
    (s.modChain c g).leadTides = s.leadTides ∧
    (s.modChain c g).readsHalted = s.readsHalted ∧
    (∀ (b₁ : Bool), (s.modChain c g).writesHalted b₁ = s.writesHalted b₁) :=
  ⟨rfl, rfl, rfl, rfl, rfl, rfl, rfl, rfl, rfl, rfl, rfl, rfl, rfl, rfl, rfl, rfl, rfl, rfl, rfl, rfl, rfl, rfl, rfl, rfl, rfl, fun _ => rfl, fun _ => rfl, fun _ => rfl, fun _ => rfl, fun _ => rfl, fun _ => rfl, fun _ => rfl, fun _ => rfl, fun _ => rfl, fun _ => rfl, fun _ _ => rfl, fun _ _ => rfl, fun _ _ => rfl, rfl, rfl, rfl, fun _ => rfl⟩

/-- `modCmd` changes chains alone. -/
@[simp] theorem Part.modCmd_fields (s : Part) (c : Nat) (k : BitVec 32) (g : Cmd → Cmd) :
    (s.modCmd c k g).timeUs = s.timeUs ∧
    (s.modCmd c k g).islands = s.islands ∧
    (s.modCmd c k g).bridges = s.bridges ∧
    (s.modCmd c k g).sched = s.sched ∧
    (s.modCmd c k g).man = s.man ∧
    (s.modCmd c k g).fn0 = s.fn0 ∧
    (s.modCmd c k g).fn1 = s.fn1 ∧
    (s.modCmd c k g).chainSplit = s.chainSplit ∧
    (s.modCmd c k g).tableGen = s.tableGen ∧
    (s.modCmd c k g).peerBar = s.peerBar ∧
    (s.modCmd c k g).subsysId = s.subsysId ∧
    (s.modCmd c k g).pools = s.pools ∧
    (s.modCmd c k g).vols = s.vols ∧
    (s.modCmd c k g).members = s.members ∧
    (s.modCmd c k g).fabric = s.fabric ∧
    (s.modCmd c k g).fleet = s.fleet ∧
    (s.modCmd c k g).toll = s.toll ∧
    (s.modCmd c k g).pair = s.pair ∧
    (s.modCmd c k g).tow = s.tow ∧
    (s.modCmd c k g).dump = s.dump ∧
    (s.modCmd c k g).cal = s.cal ∧
    (s.modCmd c k g).dict = s.dict ∧
    (s.modCmd c k g).fw = s.fw ∧
    (s.modCmd c k g).log = s.log ∧
    (s.modCmd c k g).out = s.out ∧
    (∀ (n₁ : Nat), (s.modCmd c k g).pool? n₁ = s.pool? n₁) ∧
    (∀ (n₁ : Nat), (s.modCmd c k g).charter? n₁ = s.charter? n₁) ∧
    (∀ (n₁ : Nat), (s.modCmd c k g).volume? n₁ = s.volume? n₁) ∧
    (∀ (n₁ : Nat), (s.modCmd c k g).poolOfMember n₁ = s.poolOfMember n₁) ∧
    (∀ (n₁ : Nat), (s.modCmd c k g).member? n₁ = s.member? n₁) ∧
    (∀ (n₁ : Nat), (s.modCmd c k g).chainFn n₁ = s.chainFn n₁) ∧
    (∀ (g₁ : Fn), (s.modCmd c k g).fn g₁ = s.fn g₁) ∧
    (∀ (n₁ : Nat), (s.modCmd c k g).vol n₁ = s.vol n₁) ∧
    (∀ (i₁ : Island), (s.modCmd c k g).island i₁ = s.island i₁) ∧
    (∀ (i₁ : Island), (s.modCmd c k g).ready i₁ = s.ready i₁) ∧
    (∀ (n₁ : Nat) (n₂ : Nat), (s.modCmd c k g).objInt n₁ n₂ = s.objInt n₁ n₂) ∧
    (∀ (n₁ : Nat) (n₂ : Nat), (s.modCmd c k g).objNum n₁ n₂ = s.objNum n₁ n₂) ∧
    (∀ (n₁ : Nat) (n₂ : Nat), (s.modCmd c k g).objBlob n₁ n₂ = s.objBlob n₁ n₂) ∧
    (s.modCmd c k g).timeoutUs = s.timeoutUs ∧
    (s.modCmd c k g).leadTides = s.leadTides ∧
    (s.modCmd c k g).readsHalted = s.readsHalted ∧
    (∀ (b₁ : Bool), (s.modCmd c k g).writesHalted b₁ = s.writesHalted b₁) :=
  ⟨rfl, rfl, rfl, rfl, rfl, rfl, rfl, rfl, rfl, rfl, rfl, rfl, rfl, rfl, rfl, rfl, rfl, rfl, rfl, rfl, rfl, rfl, rfl, rfl, rfl, fun _ => rfl, fun _ => rfl, fun _ => rfl, fun _ => rfl, fun _ => rfl, fun _ => rfl, fun _ => rfl, fun _ => rfl, fun _ => rfl, fun _ => rfl, fun _ _ => rfl, fun _ _ => rfl, fun _ _ => rfl, rfl, rfl, rfl, fun _ => rfl⟩

/-- `modIsland` changes islands alone. -/
@[simp] theorem Part.modIsland_fields (s : Part) (j : Island) (g : IslandSt → IslandSt) :
    (s.modIsland j g).timeUs = s.timeUs ∧
    (s.modIsland j g).bridges = s.bridges ∧
    (s.modIsland j g).sched = s.sched ∧
    (s.modIsland j g).man = s.man ∧
    (s.modIsland j g).chains = s.chains ∧
    (s.modIsland j g).fn0 = s.fn0 ∧
    (s.modIsland j g).fn1 = s.fn1 ∧
    (s.modIsland j g).chainSplit = s.chainSplit ∧
    (s.modIsland j g).tableGen = s.tableGen ∧
    (s.modIsland j g).peerBar = s.peerBar ∧
    (s.modIsland j g).subsysId = s.subsysId ∧
    (s.modIsland j g).pools = s.pools ∧
    (s.modIsland j g).vols = s.vols ∧
    (s.modIsland j g).members = s.members ∧
    (s.modIsland j g).fabric = s.fabric ∧
    (s.modIsland j g).fleet = s.fleet ∧
    (s.modIsland j g).toll = s.toll ∧
    (s.modIsland j g).pair = s.pair ∧
    (s.modIsland j g).tow = s.tow ∧
    (s.modIsland j g).dump = s.dump ∧
    (s.modIsland j g).cal = s.cal ∧
    (s.modIsland j g).dict = s.dict ∧
    (s.modIsland j g).fw = s.fw ∧
    (s.modIsland j g).log = s.log ∧
    (s.modIsland j g).out = s.out ∧
    (∀ (n₁ : Nat), (s.modIsland j g).pool? n₁ = s.pool? n₁) ∧
    (∀ (n₁ : Nat), (s.modIsland j g).charter? n₁ = s.charter? n₁) ∧
    (∀ (n₁ : Nat), (s.modIsland j g).volume? n₁ = s.volume? n₁) ∧
    (∀ (n₁ : Nat), (s.modIsland j g).poolOfMember n₁ = s.poolOfMember n₁) ∧
    (∀ (n₁ : Nat), (s.modIsland j g).member? n₁ = s.member? n₁) ∧
    (∀ (n₁ : Nat), (s.modIsland j g).chain n₁ = s.chain n₁) ∧
    (∀ (n₁ : Nat) (h₁ : BitVec 32), (s.modIsland j g).cmd? n₁ h₁ = s.cmd? n₁ h₁) ∧
    (∀ (n₁ : Nat), (s.modIsland j g).chainFn n₁ = s.chainFn n₁) ∧
    (∀ (g₁ : Fn), (s.modIsland j g).fn g₁ = s.fn g₁) ∧
    (∀ (n₁ : Nat), (s.modIsland j g).vol n₁ = s.vol n₁) ∧
    (∀ (n₁ : Nat) (n₂ : Nat), (s.modIsland j g).objInt n₁ n₂ = s.objInt n₁ n₂) ∧
    (∀ (n₁ : Nat) (n₂ : Nat), (s.modIsland j g).objNum n₁ n₂ = s.objNum n₁ n₂) ∧
    (∀ (n₁ : Nat) (n₂ : Nat), (s.modIsland j g).objBlob n₁ n₂ = s.objBlob n₁ n₂) ∧
    (s.modIsland j g).timeoutUs = s.timeoutUs ∧
    (s.modIsland j g).leadTides = s.leadTides ∧
    (s.modIsland j g).readsHalted = s.readsHalted ∧
    (∀ (b₁ : Bool), (s.modIsland j g).writesHalted b₁ = s.writesHalted b₁) :=
  ⟨rfl, rfl, rfl, rfl, rfl, rfl, rfl, rfl, rfl, rfl, rfl, rfl, rfl, rfl, rfl, rfl, rfl, rfl, rfl, rfl, rfl, rfl, rfl, rfl, rfl, fun _ => rfl, fun _ => rfl, fun _ => rfl, fun _ => rfl, fun _ => rfl, fun _ => rfl, fun _ _ => rfl, fun _ => rfl, fun _ => rfl, fun _ => rfl, fun _ _ => rfl, fun _ _ => rfl, fun _ _ => rfl, rfl, rfl, rfl, fun _ => rfl⟩

/-- `setObjNum` changes dict alone. -/
@[simp] theorem Part.setObjNum_fields (s : Part) (k₁ k₂ n : Nat) :
    (s.setObjNum k₁ k₂ n).timeUs = s.timeUs ∧
    (s.setObjNum k₁ k₂ n).islands = s.islands ∧
    (s.setObjNum k₁ k₂ n).bridges = s.bridges ∧
    (s.setObjNum k₁ k₂ n).sched = s.sched ∧
    (s.setObjNum k₁ k₂ n).man = s.man ∧
    (s.setObjNum k₁ k₂ n).chains = s.chains ∧
    (s.setObjNum k₁ k₂ n).fn0 = s.fn0 ∧
    (s.setObjNum k₁ k₂ n).fn1 = s.fn1 ∧
    (s.setObjNum k₁ k₂ n).chainSplit = s.chainSplit ∧
    (s.setObjNum k₁ k₂ n).tableGen = s.tableGen ∧
    (s.setObjNum k₁ k₂ n).peerBar = s.peerBar ∧
    (s.setObjNum k₁ k₂ n).subsysId = s.subsysId ∧
    (s.setObjNum k₁ k₂ n).pools = s.pools ∧
    (s.setObjNum k₁ k₂ n).vols = s.vols ∧
    (s.setObjNum k₁ k₂ n).members = s.members ∧
    (s.setObjNum k₁ k₂ n).fabric = s.fabric ∧
    (s.setObjNum k₁ k₂ n).fleet = s.fleet ∧
    (s.setObjNum k₁ k₂ n).toll = s.toll ∧
    (s.setObjNum k₁ k₂ n).pair = s.pair ∧
    (s.setObjNum k₁ k₂ n).tow = s.tow ∧
    (s.setObjNum k₁ k₂ n).dump = s.dump ∧
    (s.setObjNum k₁ k₂ n).cal = s.cal ∧
    (s.setObjNum k₁ k₂ n).fw = s.fw ∧
    (s.setObjNum k₁ k₂ n).log = s.log ∧
    (s.setObjNum k₁ k₂ n).out = s.out ∧
    (∀ (n₁ : Nat), (s.setObjNum k₁ k₂ n).pool? n₁ = s.pool? n₁) ∧
    (∀ (n₁ : Nat), (s.setObjNum k₁ k₂ n).charter? n₁ = s.charter? n₁) ∧
    (∀ (n₁ : Nat), (s.setObjNum k₁ k₂ n).volume? n₁ = s.volume? n₁) ∧
    (∀ (n₁ : Nat), (s.setObjNum k₁ k₂ n).poolOfMember n₁ = s.poolOfMember n₁) ∧
    (∀ (n₁ : Nat), (s.setObjNum k₁ k₂ n).member? n₁ = s.member? n₁) ∧
    (∀ (n₁ : Nat), (s.setObjNum k₁ k₂ n).chain n₁ = s.chain n₁) ∧
    (∀ (n₁ : Nat) (h₁ : BitVec 32), (s.setObjNum k₁ k₂ n).cmd? n₁ h₁ = s.cmd? n₁ h₁) ∧
    (∀ (n₁ : Nat), (s.setObjNum k₁ k₂ n).chainFn n₁ = s.chainFn n₁) ∧
    (∀ (g₁ : Fn), (s.setObjNum k₁ k₂ n).fn g₁ = s.fn g₁) ∧
    (∀ (n₁ : Nat), (s.setObjNum k₁ k₂ n).vol n₁ = s.vol n₁) ∧
    (∀ (i₁ : Island), (s.setObjNum k₁ k₂ n).island i₁ = s.island i₁) ∧
    (∀ (i₁ : Island), (s.setObjNum k₁ k₂ n).ready i₁ = s.ready i₁) ∧
    (s.setObjNum k₁ k₂ n).readsHalted = s.readsHalted ∧
    (∀ (b₁ : Bool), (s.setObjNum k₁ k₂ n).writesHalted b₁ = s.writesHalted b₁) :=
  ⟨rfl, rfl, rfl, rfl, rfl, rfl, rfl, rfl, rfl, rfl, rfl, rfl, rfl, rfl, rfl, rfl, rfl, rfl, rfl, rfl, rfl, rfl, rfl, rfl, rfl, fun _ => rfl, fun _ => rfl, fun _ => rfl, fun _ => rfl, fun _ => rfl, fun _ => rfl, fun _ _ => rfl, fun _ => rfl, fun _ => rfl, fun _ => rfl, fun _ => rfl, fun _ => rfl, rfl, fun _ => rfl⟩

/-- `setObjBlob` changes dict alone. -/
@[simp] theorem Part.setObjBlob_fields (s : Part) (k₁ k₂ : Nat) (v : Bytes) :
    (s.setObjBlob k₁ k₂ v).timeUs = s.timeUs ∧
    (s.setObjBlob k₁ k₂ v).islands = s.islands ∧
    (s.setObjBlob k₁ k₂ v).bridges = s.bridges ∧
    (s.setObjBlob k₁ k₂ v).sched = s.sched ∧
    (s.setObjBlob k₁ k₂ v).man = s.man ∧
    (s.setObjBlob k₁ k₂ v).chains = s.chains ∧
    (s.setObjBlob k₁ k₂ v).fn0 = s.fn0 ∧
    (s.setObjBlob k₁ k₂ v).fn1 = s.fn1 ∧
    (s.setObjBlob k₁ k₂ v).chainSplit = s.chainSplit ∧
    (s.setObjBlob k₁ k₂ v).tableGen = s.tableGen ∧
    (s.setObjBlob k₁ k₂ v).peerBar = s.peerBar ∧
    (s.setObjBlob k₁ k₂ v).subsysId = s.subsysId ∧
    (s.setObjBlob k₁ k₂ v).pools = s.pools ∧
    (s.setObjBlob k₁ k₂ v).vols = s.vols ∧
    (s.setObjBlob k₁ k₂ v).members = s.members ∧
    (s.setObjBlob k₁ k₂ v).fabric = s.fabric ∧
    (s.setObjBlob k₁ k₂ v).fleet = s.fleet ∧
    (s.setObjBlob k₁ k₂ v).toll = s.toll ∧
    (s.setObjBlob k₁ k₂ v).pair = s.pair ∧
    (s.setObjBlob k₁ k₂ v).tow = s.tow ∧
    (s.setObjBlob k₁ k₂ v).dump = s.dump ∧
    (s.setObjBlob k₁ k₂ v).cal = s.cal ∧
    (s.setObjBlob k₁ k₂ v).fw = s.fw ∧
    (s.setObjBlob k₁ k₂ v).log = s.log ∧
    (s.setObjBlob k₁ k₂ v).out = s.out ∧
    (∀ (n₁ : Nat), (s.setObjBlob k₁ k₂ v).pool? n₁ = s.pool? n₁) ∧
    (∀ (n₁ : Nat), (s.setObjBlob k₁ k₂ v).charter? n₁ = s.charter? n₁) ∧
    (∀ (n₁ : Nat), (s.setObjBlob k₁ k₂ v).volume? n₁ = s.volume? n₁) ∧
    (∀ (n₁ : Nat), (s.setObjBlob k₁ k₂ v).poolOfMember n₁ = s.poolOfMember n₁) ∧
    (∀ (n₁ : Nat), (s.setObjBlob k₁ k₂ v).member? n₁ = s.member? n₁) ∧
    (∀ (n₁ : Nat), (s.setObjBlob k₁ k₂ v).chain n₁ = s.chain n₁) ∧
    (∀ (n₁ : Nat) (h₁ : BitVec 32), (s.setObjBlob k₁ k₂ v).cmd? n₁ h₁ = s.cmd? n₁ h₁) ∧
    (∀ (n₁ : Nat), (s.setObjBlob k₁ k₂ v).chainFn n₁ = s.chainFn n₁) ∧
    (∀ (g₁ : Fn), (s.setObjBlob k₁ k₂ v).fn g₁ = s.fn g₁) ∧
    (∀ (n₁ : Nat), (s.setObjBlob k₁ k₂ v).vol n₁ = s.vol n₁) ∧
    (∀ (i₁ : Island), (s.setObjBlob k₁ k₂ v).island i₁ = s.island i₁) ∧
    (∀ (i₁ : Island), (s.setObjBlob k₁ k₂ v).ready i₁ = s.ready i₁) ∧
    (s.setObjBlob k₁ k₂ v).readsHalted = s.readsHalted ∧
    (∀ (b₁ : Bool), (s.setObjBlob k₁ k₂ v).writesHalted b₁ = s.writesHalted b₁) :=
  ⟨rfl, rfl, rfl, rfl, rfl, rfl, rfl, rfl, rfl, rfl, rfl, rfl, rfl, rfl, rfl, rfl, rfl, rfl, rfl, rfl, rfl, rfl, rfl, rfl, rfl, fun _ => rfl, fun _ => rfl, fun _ => rfl, fun _ => rfl, fun _ => rfl, fun _ => rfl, fun _ _ => rfl, fun _ => rfl, fun _ => rfl, fun _ => rfl, fun _ => rfl, fun _ => rfl, rfl, fun _ => rfl⟩

/-- Drawing random bytes moves the DRBG position. -/
@[simp] theorem Part.draw_fields (s : Part) (n : Nat) :
    (s.draw n).2.toll = { s.toll with drbgPos := s.toll.drbgPos + n } ∧
    ((s.draw n).2).timeUs = s.timeUs ∧
    ((s.draw n).2).islands = s.islands ∧
    ((s.draw n).2).bridges = s.bridges ∧
    ((s.draw n).2).sched = s.sched ∧
    ((s.draw n).2).man = s.man ∧
    ((s.draw n).2).chains = s.chains ∧
    ((s.draw n).2).fn0 = s.fn0 ∧
    ((s.draw n).2).fn1 = s.fn1 ∧
    ((s.draw n).2).chainSplit = s.chainSplit ∧
    ((s.draw n).2).tableGen = s.tableGen ∧
    ((s.draw n).2).peerBar = s.peerBar ∧
    ((s.draw n).2).subsysId = s.subsysId ∧
    ((s.draw n).2).pools = s.pools ∧
    ((s.draw n).2).vols = s.vols ∧
    ((s.draw n).2).members = s.members ∧
    ((s.draw n).2).fabric = s.fabric ∧
    ((s.draw n).2).fleet = s.fleet ∧
    ((s.draw n).2).pair = s.pair ∧
    ((s.draw n).2).tow = s.tow ∧
    ((s.draw n).2).dump = s.dump ∧
    ((s.draw n).2).cal = s.cal ∧
    ((s.draw n).2).dict = s.dict ∧
    ((s.draw n).2).fw = s.fw ∧
    ((s.draw n).2).log = s.log ∧
    ((s.draw n).2).out = s.out ∧
    (∀ (n₁ : Nat), ((s.draw n).2).pool? n₁ = s.pool? n₁) ∧
    (∀ (n₁ : Nat), ((s.draw n).2).charter? n₁ = s.charter? n₁) ∧
    (∀ (n₁ : Nat), ((s.draw n).2).volume? n₁ = s.volume? n₁) ∧
    (∀ (n₁ : Nat), ((s.draw n).2).poolOfMember n₁ = s.poolOfMember n₁) ∧
    (∀ (n₁ : Nat), ((s.draw n).2).member? n₁ = s.member? n₁) ∧
    (∀ (n₁ : Nat), ((s.draw n).2).chain n₁ = s.chain n₁) ∧
    (∀ (n₁ : Nat) (h₁ : BitVec 32), ((s.draw n).2).cmd? n₁ h₁ = s.cmd? n₁ h₁) ∧
    (∀ (n₁ : Nat), ((s.draw n).2).chainFn n₁ = s.chainFn n₁) ∧
    (∀ (g₁ : Fn), ((s.draw n).2).fn g₁ = s.fn g₁) ∧
    (∀ (n₁ : Nat), ((s.draw n).2).vol n₁ = s.vol n₁) ∧
    (∀ (i₁ : Island), ((s.draw n).2).island i₁ = s.island i₁) ∧
    (∀ (i₁ : Island), ((s.draw n).2).ready i₁ = s.ready i₁) ∧
    (∀ (n₁ : Nat) (n₂ : Nat), ((s.draw n).2).objInt n₁ n₂ = s.objInt n₁ n₂) ∧
    (∀ (n₁ : Nat) (n₂ : Nat), ((s.draw n).2).objNum n₁ n₂ = s.objNum n₁ n₂) ∧
    (∀ (n₁ : Nat) (n₂ : Nat), ((s.draw n).2).objBlob n₁ n₂ = s.objBlob n₁ n₂) ∧
    ((s.draw n).2).timeoutUs = s.timeoutUs ∧
    ((s.draw n).2).leadTides = s.leadTides ∧
    ((s.draw n).2).readsHalted = s.readsHalted ∧
    (∀ (b₁ : Bool), ((s.draw n).2).writesHalted b₁ = s.writesHalted b₁) :=
  ⟨rfl, rfl, rfl, rfl, rfl, rfl, rfl, rfl, rfl, rfl, rfl, rfl, rfl, rfl, rfl, rfl, rfl, rfl, rfl, rfl, rfl, rfl, rfl, rfl, rfl, rfl, fun _ => rfl, fun _ => rfl, fun _ => rfl, fun _ => rfl, fun _ => rfl, fun _ => rfl, fun _ _ => rfl, fun _ => rfl, fun _ => rfl, fun _ => rfl, fun _ => rfl, fun _ => rfl, fun _ _ => rfl, fun _ _ => rfl, fun _ _ => rfl, rfl, rfl, rfl, fun _ => rfl⟩

/-- `emit` adds to the outward trace alone. -/
@[simp] theorem emit_fields (o : Output) (s : Part) :
    (emit o s).out = s.out ++ [o] ∧
    (emit o s).timeUs = s.timeUs ∧
    (emit o s).islands = s.islands ∧
    (emit o s).bridges = s.bridges ∧
    (emit o s).sched = s.sched ∧
    (emit o s).man = s.man ∧
    (emit o s).chains = s.chains ∧
    (emit o s).fn0 = s.fn0 ∧
    (emit o s).fn1 = s.fn1 ∧
    (emit o s).chainSplit = s.chainSplit ∧
    (emit o s).tableGen = s.tableGen ∧
    (emit o s).peerBar = s.peerBar ∧
    (emit o s).subsysId = s.subsysId ∧
    (emit o s).pools = s.pools ∧
    (emit o s).vols = s.vols ∧
    (emit o s).members = s.members ∧
    (emit o s).fabric = s.fabric ∧
    (emit o s).fleet = s.fleet ∧
    (emit o s).toll = s.toll ∧
    (emit o s).pair = s.pair ∧
    (emit o s).tow = s.tow ∧
    (emit o s).dump = s.dump ∧
    (emit o s).cal = s.cal ∧
    (emit o s).dict = s.dict ∧
    (emit o s).fw = s.fw ∧
    (emit o s).log = s.log ∧
    (∀ (n₁ : Nat), (emit o s).pool? n₁ = s.pool? n₁) ∧
    (∀ (n₁ : Nat), (emit o s).charter? n₁ = s.charter? n₁) ∧
    (∀ (n₁ : Nat), (emit o s).volume? n₁ = s.volume? n₁) ∧
    (∀ (n₁ : Nat), (emit o s).poolOfMember n₁ = s.poolOfMember n₁) ∧
    (∀ (n₁ : Nat), (emit o s).member? n₁ = s.member? n₁) ∧
    (∀ (n₁ : Nat), (emit o s).chain n₁ = s.chain n₁) ∧
    (∀ (n₁ : Nat) (h₁ : BitVec 32), (emit o s).cmd? n₁ h₁ = s.cmd? n₁ h₁) ∧
    (∀ (n₁ : Nat), (emit o s).chainFn n₁ = s.chainFn n₁) ∧
    (∀ (g₁ : Fn), (emit o s).fn g₁ = s.fn g₁) ∧
    (∀ (n₁ : Nat), (emit o s).vol n₁ = s.vol n₁) ∧
    (∀ (i₁ : Island), (emit o s).island i₁ = s.island i₁) ∧
    (∀ (i₁ : Island), (emit o s).ready i₁ = s.ready i₁) ∧
    (∀ (n₁ : Nat) (n₂ : Nat), (emit o s).objInt n₁ n₂ = s.objInt n₁ n₂) ∧
    (∀ (n₁ : Nat) (n₂ : Nat), (emit o s).objNum n₁ n₂ = s.objNum n₁ n₂) ∧
    (∀ (n₁ : Nat) (n₂ : Nat), (emit o s).objBlob n₁ n₂ = s.objBlob n₁ n₂) ∧
    (emit o s).timeoutUs = s.timeoutUs ∧
    (emit o s).leadTides = s.leadTides ∧
    (emit o s).readsHalted = s.readsHalted ∧
    (∀ (b₁ : Bool), (emit o s).writesHalted b₁ = s.writesHalted b₁) :=
  ⟨rfl, rfl, rfl, rfl, rfl, rfl, rfl, rfl, rfl, rfl, rfl, rfl, rfl, rfl, rfl, rfl, rfl, rfl, rfl, rfl, rfl, rfl, rfl, rfl, rfl, rfl, fun _ => rfl, fun _ => rfl, fun _ => rfl, fun _ => rfl, fun _ => rfl, fun _ => rfl, fun _ _ => rfl, fun _ => rfl, fun _ => rfl, fun _ => rfl, fun _ => rfl, fun _ => rfl, fun _ _ => rfl, fun _ _ => rfl, fun _ _ => rfl, rfl, rfl, rfl, fun _ => rfl⟩

/-- `setFn` changes one function's registers. -/
@[simp] theorem Part.setFn_fields (s : Part) (g : Fn) (x : FnSt) :
    (s.setFn g x).timeUs = s.timeUs ∧
    (s.setFn g x).islands = s.islands ∧
    (s.setFn g x).bridges = s.bridges ∧
    (s.setFn g x).sched = s.sched ∧
    (s.setFn g x).man = s.man ∧
    (s.setFn g x).chains = s.chains ∧
    (s.setFn g x).chainSplit = s.chainSplit ∧
    (s.setFn g x).tableGen = s.tableGen ∧
    (s.setFn g x).peerBar = s.peerBar ∧
    (s.setFn g x).subsysId = s.subsysId ∧
    (s.setFn g x).pools = s.pools ∧
    (s.setFn g x).vols = s.vols ∧
    (s.setFn g x).members = s.members ∧
    (s.setFn g x).fabric = s.fabric ∧
    (s.setFn g x).fleet = s.fleet ∧
    (s.setFn g x).toll = s.toll ∧
    (s.setFn g x).pair = s.pair ∧
    (s.setFn g x).tow = s.tow ∧
    (s.setFn g x).dump = s.dump ∧
    (s.setFn g x).cal = s.cal ∧
    (s.setFn g x).dict = s.dict ∧
    (s.setFn g x).fw = s.fw ∧
    (s.setFn g x).log = s.log ∧
    (s.setFn g x).out = s.out ∧
    (∀ (n₁ : Nat), (s.setFn g x).pool? n₁ = s.pool? n₁) ∧
    (∀ (n₁ : Nat), (s.setFn g x).charter? n₁ = s.charter? n₁) ∧
    (∀ (n₁ : Nat), (s.setFn g x).volume? n₁ = s.volume? n₁) ∧
    (∀ (n₁ : Nat), (s.setFn g x).poolOfMember n₁ = s.poolOfMember n₁) ∧
    (∀ (n₁ : Nat), (s.setFn g x).member? n₁ = s.member? n₁) ∧
    (∀ (n₁ : Nat), (s.setFn g x).chain n₁ = s.chain n₁) ∧
    (∀ (n₁ : Nat) (h₁ : BitVec 32), (s.setFn g x).cmd? n₁ h₁ = s.cmd? n₁ h₁) ∧
    (∀ (n₁ : Nat), (s.setFn g x).chainFn n₁ = s.chainFn n₁) ∧
    (∀ (n₁ : Nat), (s.setFn g x).vol n₁ = s.vol n₁) ∧
    (∀ (i₁ : Island), (s.setFn g x).island i₁ = s.island i₁) ∧
    (∀ (i₁ : Island), (s.setFn g x).ready i₁ = s.ready i₁) ∧
    (∀ (n₁ : Nat) (n₂ : Nat), (s.setFn g x).objInt n₁ n₂ = s.objInt n₁ n₂) ∧
    (∀ (n₁ : Nat) (n₂ : Nat), (s.setFn g x).objNum n₁ n₂ = s.objNum n₁ n₂) ∧
    (∀ (n₁ : Nat) (n₂ : Nat), (s.setFn g x).objBlob n₁ n₂ = s.objBlob n₁ n₂) ∧
    (s.setFn g x).timeoutUs = s.timeoutUs ∧
    (s.setFn g x).leadTides = s.leadTides ∧
    (s.setFn g x).readsHalted = s.readsHalted ∧
    (∀ (b₁ : Bool), (s.setFn g x).writesHalted b₁ = s.writesHalted b₁) := by
  cases g <;> exact ⟨rfl, rfl, rfl, rfl, rfl, rfl, rfl, rfl, rfl, rfl, rfl, rfl, rfl, rfl, rfl, rfl, rfl, rfl, rfl, rfl, rfl, rfl, rfl, rfl, fun _ => rfl, fun _ => rfl, fun _ => rfl, fun _ => rfl, fun _ => rfl, fun _ => rfl, fun _ _ => rfl, fun _ => rfl, fun _ => rfl, fun _ => rfl, fun _ => rfl, fun _ _ => rfl, fun _ _ => rfl, fun _ _ => rfl, rfl, rfl, rfl, fun _ => rfl⟩

/-! ### Reading back what an update wrote -/

@[simp] theorem Part.setFn_fn (s : Part) (f : Fn) (x : FnSt) : (s.setFn f x).fn f = x := by cases f <;> rfl

theorem Part.setFn_fn_ne (s : Part) {f g : Fn} (x : FnSt) (h : g ≠ f) : (s.setFn f x).fn g = s.fn g := by
  cases f <;> cases g <;> first | rfl | exact absurd rfl h

@[simp] theorem Part.modFn_fn (s : Part) (f : Fn) (g : FnSt → FnSt) : (s.modFn f g).fn f = g (s.fn f) := by
  cases f <;> rfl

theorem find?_updBy {α : Type} (p : α → Bool) (g : α → α) (l : List α) (hg : ∀ x, p x = true → p (g x) = true) :
    (updBy p g l).find? p = (l.find? p).map g := by
  induction l with
  | nil => rfl
  | cons x l ih =>
    cases h : p x with
    | true => simp only [updBy, List.map_cons, h, if_true, List.find?_cons, hg x h, Option.map_some]
    | false =>
      have ih' : (l.map (fun x => if p x then g x else x)).find? p = _ := ih
      simp only [updBy, List.map_cons, h, Bool.false_eq_true, if_false, List.find?_cons, ih']

theorem find?_updBy_other {α : Type} (p q : α → Bool) (g : α → α) (l : List α) (hg : ∀ x, p x = true → q (g x) = false)
    (hn : ∀ x, p x = true → q x = false) : (updBy p g l).find? q = l.find? q := by
  induction l with
  | nil => rfl
  | cons x l ih =>
    have ih' : (l.map (fun x => if p x then g x else x)).find? q = _ := ih
    cases h : p x with
    | true => simp only [updBy, List.map_cons, h, if_true, List.find?_cons, hg x h, hn x h, ih']
    | false => simp only [updBy, List.map_cons, h, Bool.false_eq_true, if_false, List.find?_cons, ih']

theorem find?_isSome_any {α : Type} (p : α → Bool) (l : List α) : (l.find? p).isSome = l.any p := by
  induction l with
  | nil => rfl
  | cons x l ih => by_cases h : p x <;> simp [h, ih]

/-- An entry of a keyed list read back after it is set or added. -/
theorem find?_set {α : Type} (p : α → Bool) (x : α) (l : List α) (hx : p x = true) :
    (if l.any p then updBy p (fun _ => x) l else l ++ [x]).find? p = some x := by
  by_cases h : l.any p
  · rw [if_pos h, find?_updBy p _ l (fun _ _ => hx)]
    have := find?_isSome_any p l
    rw [h] at this
    obtain ⟨y, hy⟩ := Option.isSome_iff_exists.mp this
    rw [hy]; rfl
  · rw [if_neg h, List.find?_append, List.find?_eq_none.mpr (fun y hy hp => h (List.any_eq_true.mpr ⟨y, hy, hp⟩))]
    simp [hx]

/-- The other entries are left alone. -/
theorem find?_set_other {α : Type} (p q : α → Bool) (x : α) (l : List α) (hx : q x = false)
    (hn : ∀ y, p y = true → q y = false) :
    (if l.any p then updBy p (fun _ => x) l else l ++ [x]).find? q = l.find? q := by
  split
  · exact find?_updBy_other p q _ l (fun _ _ => hx) hn
  · simp [List.find?_append, hx]

/-- A pool read back after its update. -/
@[simp] theorem Part.modPool_pool? (s : Part) (p : Nat) (g : PoolSt → PoolSt) (hg : ∀ x, (g x).id = x.id) :
    (s.modPool p g).pool? p = (s.pool? p).map g :=
  find?_updBy _ g s.pools (fun x hx => by simpa [hg] using hx)

/-- Another pool is left alone. -/
@[simp] theorem Part.modPool_pool?_ne (s : Part) {p q : Nat} (g : PoolSt → PoolSt) (hg : ∀ x, (g x).id = x.id) (h : q ≠ p) :
    (s.modPool p g).pool? q = s.pool? q :=
  find?_updBy_other _ _ g s.pools (fun x hx => by simp at hx; simp [hg, hx]; exact fun e => h e.symm)
    (fun x hx => by simp at hx; simp [hx]; exact fun e => h e.symm)

/-- A member read back after its update. -/
@[simp] theorem Part.modMember_member? (s : Part) (k : Nat) (g : MemberSt → MemberSt) (hg : ∀ x, (g x).id = x.id) :
    (s.modMember k g).member? k = (s.member? k).map g :=
  find?_updBy _ g s.members (fun x hx => by simpa [hg] using hx)

/-- Another member is left alone. -/
@[simp] theorem Part.modMember_member?_ne (s : Part) {k q : Nat} (g : MemberSt → MemberSt) (hg : ∀ x, (g x).id = x.id)
    (h : q ≠ k) : (s.modMember k g).member? q = s.member? q :=
  find?_updBy_other _ _ g s.members (fun x hx => by simp at hx; simp [hg, hx]; exact fun e => h e.symm)
    (fun x hx => by simp at hx; simp [hx]; exact fun e => h e.symm)

@[simp] theorem Part.chain_id (s : Part) (c : Nat) : (s.chain c).id = c := by
  unfold Part.chain
  cases h : s.chains.find? (fun x => x.id == c) with
  | none => rfl
  | some x => simpa using List.find?_some h

/-- A chain read back after it is set. -/
@[simp] theorem Part.setChain_chain (s : Part) (x : ChainSt) : (s.setChain x).chain x.id = x := by
  unfold Part.setChain Part.chain
  rw [find?_set (fun y : ChainSt => y.id == x.id) x s.chains (by simp)]
  rfl

theorem Part.setChain_chain_ne (s : Part) {c : Nat} (x : ChainSt) (h : c ≠ x.id) : (s.setChain x).chain c = s.chain c := by
  unfold Part.setChain Part.chain
  rw [find?_set_other (fun y : ChainSt => y.id == x.id) _ x s.chains (by simpa using h.symm)
    (fun y hy => by simp at hy; simp [hy]; exact h.symm)]

/-- A chain read back after its update. -/
@[simp] theorem Part.modChain_chain (s : Part) (c : Nat) (g : ChainSt → ChainSt) (hg : (g (s.chain c)).id = c) :
    (s.modChain c g).chain c = g (s.chain c) := by
  have := Part.setChain_chain s (g (s.chain c))
  rw [hg] at this
  exact this

@[simp] theorem Part.modChain_chain_ne (s : Part) {c d : Nat} (g : ChainSt → ChainSt) (hg : (g (s.chain c)).id = c) (h : d ≠ c) :
    (s.modChain c g).chain d = s.chain d :=
  Part.setChain_chain_ne s _ (by rw [hg]; exact h)

@[simp] theorem Part.vol_id (s : Part) (v : Nat) : (s.vol v).id = v := by
  unfold Part.vol
  cases h : s.vols.find? (fun x => x.id == v) with
  | none => rfl
  | some x => simpa using List.find?_some h

/-- A volume's record read back after its update. -/
@[simp] theorem Part.modVol_vol (s : Part) (v : Nat) (g : VolSt → VolSt) (hg : (g (s.vol v)).id = v) :
    (s.modVol v g).vol v = g (s.vol v) := by
  unfold Part.modVol Part.setVol
  rw [hg]
  simp only [Part.vol]
  rw [find?_set (fun y : VolSt => y.id == v) (g ((s.vols.find? (fun x => x.id == v)).getD (VolSt.fresh v))) s.vols
    (by have : (g ((s.vols.find? (fun x => x.id == v)).getD (VolSt.fresh v))).id = v := hg
        simp [this])]
  rfl

@[simp] theorem Part.island_island (s : Part) (i : Island) : (s.island i).island = i := by
  unfold Part.island
  cases h : s.islands.find? (fun x => decide (x.island = i)) with
  | none => rfl
  | some x => simpa using List.find?_some h

@[simp] theorem Part.setIsland_island (s : Part) (x : IslandSt) : (s.setIsland x).island x.island = x := by
  unfold Part.setIsland Part.island
  rw [find?_set (fun y : IslandSt => decide (y.island = x.island)) x s.islands (by simp)]
  rfl

/-- An island read back after its update. -/
@[simp] theorem Part.modIsland_island (s : Part) (i : Island) (g : IslandSt → IslandSt) (hg : ∀ x, (g x).island = x.island) :
    (s.modIsland i g).island i = g (s.island i) := by
  have := Part.setIsland_island s (g (s.island i))
  rw [hg, Part.island_island] at this
  exact this

theorem Part.setIsland_island_ne (s : Part) {j : Island} (x : IslandSt) (h : j ≠ x.island) :
    (s.setIsland x).island j = s.island j := by
  unfold Part.setIsland Part.island
  rw [find?_set_other (fun y : IslandSt => decide (y.island = x.island)) _ x s.islands
    (by simpa using h.symm) (fun y hy => by simp at hy; simp [hy]; exact h.symm)]

@[simp] theorem Part.modIsland_island_ne (s : Part) {i j : Island} (g : IslandSt → IslandSt) (hg : ∀ x, (g x).island = x.island)
    (h : j ≠ i) : (s.modIsland i g).island j = s.island j :=
  Part.setIsland_island_ne s _ (by rw [hg, Part.island_island]; exact h)

@[simp] theorem alGet_alSet {κ α : Type} [DecidableEq κ] (k : κ) (v : α) (l : List (κ × α)) :
    alGet k (alSet k v l) = some v := by
  induction l with
  | nil => simp [alSet, alGet]
  | cons e l ih =>
    obtain ⟨k', v'⟩ := e
    by_cases h : k' = k <;> simp [alSet, alGet, h, ih]

theorem alGet_alSet_ne {κ α : Type} [DecidableEq κ] {k q : κ} (v : α) (l : List (κ × α)) (h : q ≠ k) :
    alGet q (alSet k v l) = alGet q l := by
  induction l with
  | nil => simp [alSet, alGet, Ne.symm h]
  | cons e l ih =>
    obtain ⟨k', v'⟩ := e
    by_cases h1 : k' = k
    · subst h1; simp [alSet, alGet, Ne.symm h]
    · by_cases h2 : k' = q
      · subst h2; simp [alSet, alGet, h1]
      · simp [alSet, alGet, h1, h2, ih]

@[simp] theorem alGet_alDel {κ α : Type} [DecidableEq κ] (k : κ) (l : List (κ × α)) :
    alGet k (alDel k l) = none := by
  induction l with
  | nil => rfl
  | cons e l ih =>
    obtain ⟨k', v'⟩ := e
    have ih' : alGet k (List.filter (fun e => !decide (e.1 = k)) l) = none := ih
    by_cases h : k' = k <;> simp [alDel, alGet, h, ih']

/-- Two parts agree when every field does. -/
theorem Part.ext_fields {s t : Part} (h0 : s.timeUs = t.timeUs) (h1 : s.islands = t.islands) (h2 : s.bridges = t.bridges) (h3 : s.sched = t.sched) (h4 : s.man = t.man) (h5 : s.chains = t.chains) (h6 : s.fn0 = t.fn0) (h7 : s.fn1 = t.fn1) (h8 : s.chainSplit = t.chainSplit) (h9 : s.tableGen = t.tableGen) (h10 : s.peerBar = t.peerBar) (h11 : s.subsysId = t.subsysId) (h12 : s.pools = t.pools) (h13 : s.vols = t.vols) (h14 : s.members = t.members) (h15 : s.fabric = t.fabric) (h16 : s.fleet = t.fleet) (h17 : s.toll = t.toll) (h18 : s.pair = t.pair) (h19 : s.tow = t.tow) (h20 : s.dump = t.dump) (h21 : s.cal = t.cal) (h22 : s.dict = t.dict) (h23 : s.fw = t.fw) (h24 : s.log = t.log) (h25 : s.out = t.out) : s = t := by
  cases s; cases t
  simp only at h0 h1 h2 h3 h4 h5 h6 h7 h8 h9 h10 h11 h12 h13 h14 h15 h16 h17 h18 h19 h20 h21 h22 h23 h24 h25
  subst h0 h1 h2 h3 h4 h5 h6 h7 h8 h9 h10 h11 h12 h13 h14 h15 h16 h17 h18 h19 h20 h21 h22 h23 h24 h25
  rfl

end Sys2Proof.Machine
end

