-- ==== Sys2Proof/Laws/Ops.lean ====
section
/-! SUPPORT. What each shared operation can do, said once: the part of the state it changes, and that it leaves the rest. -/

namespace Sys2Proof.Machine

/-- What one operation keeps, a fold of it keeps. -/
theorem foldl_keeps {α β : Type} (f : Part → α → Part) (π : Part → β) (h : ∀ s x, π (f s x) = π s) (l : List α) :
    ∀ s, π (l.foldl f s) = π s := by
  induction l with
  | nil => intro s; rfl
  | cons x l ih => intro s; simp [ih, h]

theorem objInt_congr {s t : Part} (h : t.dict.objs = s.dict.objs) (a b : Nat) : t.objInt a b = s.objInt a b := by
  simp only [Part.objInt, h]
theorem objBlob_congr {s t : Part} (h : t.dict.objs = s.dict.objs) (a b : Nat) : t.objBlob a b = s.objBlob a b := by
  simp only [Part.objBlob, h]

theorem Part.setFn_keeps {α : Type} (π : FnSt → α) (s : Part) (f g : Fn) (x : FnSt) (h : π x = π (s.fn f)) :
    π ((s.setFn f x).fn g) = π (s.fn g) := by
  cases f <;> cases g <;> first | exact h | rfl

/-- A message goes out, or its pending bit rises: nothing else. -/
@[simp] theorem sendVector_frame (f : Fn) (v : Nat) (s : Part) :
    (sendVector f v s).timeUs = s.timeUs ∧
    (sendVector f v s).islands = s.islands ∧
    (sendVector f v s).bridges = s.bridges ∧
    (sendVector f v s).sched = s.sched ∧
    (sendVector f v s).man = s.man ∧
    (sendVector f v s).chains = s.chains ∧
    (sendVector f v s).chainSplit = s.chainSplit ∧
    (sendVector f v s).tableGen = s.tableGen ∧
    (sendVector f v s).peerBar = s.peerBar ∧
    (sendVector f v s).subsysId = s.subsysId ∧
    (sendVector f v s).pools = s.pools ∧
    (sendVector f v s).vols = s.vols ∧
    (sendVector f v s).members = s.members ∧
    (sendVector f v s).fabric = s.fabric ∧
    (sendVector f v s).fleet = s.fleet ∧
    (sendVector f v s).toll = s.toll ∧
    (sendVector f v s).pair = s.pair ∧
    (sendVector f v s).tow = s.tow ∧
    (sendVector f v s).dump = s.dump ∧
    (sendVector f v s).cal = s.cal ∧
    (sendVector f v s).dict = s.dict ∧
    (sendVector f v s).fw = s.fw ∧
    (sendVector f v s).log = s.log ∧
    (∀ (n₁ : Nat), (sendVector f v s).pool? n₁ = s.pool? n₁) ∧
    (∀ (n₁ : Nat), (sendVector f v s).charter? n₁ = s.charter? n₁) ∧
    (∀ (n₁ : Nat), (sendVector f v s).volume? n₁ = s.volume? n₁) ∧
    (∀ (n₁ : Nat), (sendVector f v s).poolOfMember n₁ = s.poolOfMember n₁) ∧
    (∀ (n₁ : Nat), (sendVector f v s).member? n₁ = s.member? n₁) ∧
    (∀ (n₁ : Nat), (sendVector f v s).chain n₁ = s.chain n₁) ∧
    (∀ (n₁ : Nat) (h₁ : BitVec 32), (sendVector f v s).cmd? n₁ h₁ = s.cmd? n₁ h₁) ∧
    (∀ (n₁ : Nat), (sendVector f v s).chainFn n₁ = s.chainFn n₁) ∧
    (∀ (n₁ : Nat), (sendVector f v s).vol n₁ = s.vol n₁) ∧
    (∀ (i₁ : Island), (sendVector f v s).island i₁ = s.island i₁) ∧
    (∀ (i₁ : Island), (sendVector f v s).ready i₁ = s.ready i₁) ∧
    (∀ (n₁ : Nat) (n₂ : Nat), (sendVector f v s).objInt n₁ n₂ = s.objInt n₁ n₂) ∧
    (∀ (n₁ : Nat) (n₂ : Nat), (sendVector f v s).objNum n₁ n₂ = s.objNum n₁ n₂) ∧
    (∀ (n₁ : Nat) (n₂ : Nat), (sendVector f v s).objBlob n₁ n₂ = s.objBlob n₁ n₂) ∧
    (sendVector f v s).timeoutUs = s.timeoutUs ∧
    (sendVector f v s).leadTides = s.leadTides ∧
    (sendVector f v s).readsHalted = s.readsHalted ∧
    (∀ (b₁ : Bool), (sendVector f v s).writesHalted b₁ = s.writesHalted b₁) ∧
    (∀ (g₁ : Fn), ((sendVector f v s).fn g₁).bme = (s.fn g₁).bme) ∧
    (∀ (g₁ : Fn), ((sendVector f v s).fn g₁).mse = (s.fn g₁).mse) ∧
    (∀ (g₁ : Fn), ((sendVector f v s).fn g₁).linkUp = (s.fn g₁).linkUp) ∧
    (∀ (g₁ : Fn), ((sendVector f v s).fn g₁).d0 = (s.fn g₁).d0) ∧
    (∀ (g₁ : Fn), ((sendVector f v s).fn g₁).retry = (s.fn g₁).retry) ∧
    (∀ (g₁ : Fn), ((sendVector f v s).fn g₁).perst = (s.fn g₁).perst) ∧
    (∀ (g₁ : Fn), ((sendVector f v s).fn g₁).cause = (s.fn g₁).cause) ∧
    (∀ (g₁ : Fn), ((sendVector f v s).fn g₁).enable = (s.fn g₁).enable) ∧
    (∀ (g₁ : Fn), ((sendVector f v s).fn g₁).renewed = (s.fn g₁).renewed) ∧
    (∀ (g₁ : Fn), ((sendVector f v s).fn g₁).bmeDiscards = (s.fn g₁).bmeDiscards) ∧
    (∀ (g₁ : Fn), ((sendVector f v s).fn g₁).chainSel = (s.fn g₁).chainSel) ∧
    (∀ (g₁ : Fn), ((sendVector f v s).fn g₁).cmdBusy = (s.fn g₁).cmdBusy) ∧
    (∀ (g₁ : Fn), ((sendVector f v s).fn g₁).cmdResult = (s.fn g₁).cmdResult) ∧
    (∀ (g₁ : Fn), ((sendVector f v s).fn g₁).cmdReason = (s.fn g₁).cmdReason) ∧
    (∀ (g₁ : Fn), ((sendVector f v s).fn g₁).cmdHeld = (s.fn g₁).cmdHeld) ∧
    (∀ (g₁ : Fn), ((sendVector f v s).fn g₁).msixOn = (s.fn g₁).msixOn) ∧
    (∀ (g₁ : Fn), ((sendVector f v s).fn g₁).fnMask = (s.fn g₁).fnMask) ∧
    (∀ (g₁ : Fn), ((sendVector f v s).fn g₁).unmasked = (s.fn g₁).unmasked) ∧
    (∀ (g₁ : Fn), ((sendVector f v s).fn g₁).modCount = (s.fn g₁).modCount) ∧
    (∀ (g₁ : Fn), ((sendVector f v s).fn g₁).shadow = (s.fn g₁).shadow) ∧
    (∀ (g₁ : Fn), ((sendVector f v s).fn g₁).active = (s.fn g₁).active) ∧
    (∀ (g₁ : Fn), ((sendVector f v s).fn g₁).latched = (s.fn g₁).latched) ∧
    (∀ (g₁ : Fn), ((sendVector f v s).fn g₁).commits = (s.fn g₁).commits) ∧
    (∀ (g₁ : Fn), ((sendVector f v s).fn g₁).lastResult = (s.fn g₁).lastResult) ∧
    (∀ (g₁ : Fn), ((sendVector f v s).fn g₁).badWindow = (s.fn g₁).badWindow) ∧
    (∀ (g₁ : Fn), ((sendVector f v s).fn g₁).winDrops = (s.fn g₁).winDrops) ∧
    (∀ (g₁ : Fn), ((sendVector f v s).fn g₁).bar4Gib = (s.fn g₁).bar4Gib) ∧
    (∀ (g₁ : Fn), ((sendVector f v s).fn g₁).mbxBusy = (s.fn g₁).mbxBusy) ∧
    (∀ (g₁ : Fn), ((sendVector f v s).fn g₁).mbxReady = (s.fn g₁).mbxReady) := by
  unfold sendVector
  simp only []
  split
  · simp
  · split
    · simp
    · simp [Part.setFn_keeps]

/-- An event touches its function's cause, renewed mark and pending bits, and the trace. -/
@[simp] theorem raiseEvent_frame (bit : Nat) (f : Fn) (s : Part) :
    (raiseEvent bit f s).timeUs = s.timeUs ∧
    (raiseEvent bit f s).islands = s.islands ∧
    (raiseEvent bit f s).bridges = s.bridges ∧
    (raiseEvent bit f s).sched = s.sched ∧
    (raiseEvent bit f s).man = s.man ∧
    (raiseEvent bit f s).chains = s.chains ∧
    (raiseEvent bit f s).chainSplit = s.chainSplit ∧
    (raiseEvent bit f s).tableGen = s.tableGen ∧
    (raiseEvent bit f s).peerBar = s.peerBar ∧
    (raiseEvent bit f s).subsysId = s.subsysId ∧
    (raiseEvent bit f s).pools = s.pools ∧
    (raiseEvent bit f s).vols = s.vols ∧
    (raiseEvent bit f s).members = s.members ∧
    (raiseEvent bit f s).fabric = s.fabric ∧
    (raiseEvent bit f s).fleet = s.fleet ∧
    (raiseEvent bit f s).toll = s.toll ∧
    (raiseEvent bit f s).pair = s.pair ∧
    (raiseEvent bit f s).tow = s.tow ∧
    (raiseEvent bit f s).dump = s.dump ∧
    (raiseEvent bit f s).cal = s.cal ∧
    (raiseEvent bit f s).dict = s.dict ∧
    (raiseEvent bit f s).fw = s.fw ∧
    (raiseEvent bit f s).log = s.log ∧
    (∀ (n₁ : Nat), (raiseEvent bit f s).pool? n₁ = s.pool? n₁) ∧
    (∀ (n₁ : Nat), (raiseEvent bit f s).charter? n₁ = s.charter? n₁) ∧
    (∀ (n₁ : Nat), (raiseEvent bit f s).volume? n₁ = s.volume? n₁) ∧
    (∀ (n₁ : Nat), (raiseEvent bit f s).poolOfMember n₁ = s.poolOfMember n₁) ∧
    (∀ (n₁ : Nat), (raiseEvent bit f s).member? n₁ = s.member? n₁) ∧
    (∀ (n₁ : Nat), (raiseEvent bit f s).chain n₁ = s.chain n₁) ∧
    (∀ (n₁ : Nat) (h₁ : BitVec 32), (raiseEvent bit f s).cmd? n₁ h₁ = s.cmd? n₁ h₁) ∧
    (∀ (n₁ : Nat), (raiseEvent bit f s).chainFn n₁ = s.chainFn n₁) ∧
    (∀ (n₁ : Nat), (raiseEvent bit f s).vol n₁ = s.vol n₁) ∧
    (∀ (i₁ : Island), (raiseEvent bit f s).island i₁ = s.island i₁) ∧
    (∀ (i₁ : Island), (raiseEvent bit f s).ready i₁ = s.ready i₁) ∧
    (∀ (n₁ : Nat) (n₂ : Nat), (raiseEvent bit f s).objInt n₁ n₂ = s.objInt n₁ n₂) ∧
    (∀ (n₁ : Nat) (n₂ : Nat), (raiseEvent bit f s).objNum n₁ n₂ = s.objNum n₁ n₂) ∧
    (∀ (n₁ : Nat) (n₂ : Nat), (raiseEvent bit f s).objBlob n₁ n₂ = s.objBlob n₁ n₂) ∧
    (raiseEvent bit f s).timeoutUs = s.timeoutUs ∧
    (raiseEvent bit f s).leadTides = s.leadTides ∧
    (raiseEvent bit f s).readsHalted = s.readsHalted ∧
    (∀ (b₁ : Bool), (raiseEvent bit f s).writesHalted b₁ = s.writesHalted b₁) ∧
    (∀ (g₁ : Fn), ((raiseEvent bit f s).fn g₁).bme = (s.fn g₁).bme) ∧
    (∀ (g₁ : Fn), ((raiseEvent bit f s).fn g₁).mse = (s.fn g₁).mse) ∧
    (∀ (g₁ : Fn), ((raiseEvent bit f s).fn g₁).linkUp = (s.fn g₁).linkUp) ∧
    (∀ (g₁ : Fn), ((raiseEvent bit f s).fn g₁).d0 = (s.fn g₁).d0) ∧
    (∀ (g₁ : Fn), ((raiseEvent bit f s).fn g₁).retry = (s.fn g₁).retry) ∧
    (∀ (g₁ : Fn), ((raiseEvent bit f s).fn g₁).perst = (s.fn g₁).perst) ∧
    (∀ (g₁ : Fn), ((raiseEvent bit f s).fn g₁).enable = (s.fn g₁).enable) ∧
    (∀ (g₁ : Fn), ((raiseEvent bit f s).fn g₁).bmeDiscards = (s.fn g₁).bmeDiscards) ∧
    (∀ (g₁ : Fn), ((raiseEvent bit f s).fn g₁).chainSel = (s.fn g₁).chainSel) ∧
    (∀ (g₁ : Fn), ((raiseEvent bit f s).fn g₁).cmdBusy = (s.fn g₁).cmdBusy) ∧
    (∀ (g₁ : Fn), ((raiseEvent bit f s).fn g₁).cmdResult = (s.fn g₁).cmdResult) ∧
    (∀ (g₁ : Fn), ((raiseEvent bit f s).fn g₁).cmdReason = (s.fn g₁).cmdReason) ∧
    (∀ (g₁ : Fn), ((raiseEvent bit f s).fn g₁).cmdHeld = (s.fn g₁).cmdHeld) ∧
    (∀ (g₁ : Fn), ((raiseEvent bit f s).fn g₁).msixOn = (s.fn g₁).msixOn) ∧
    (∀ (g₁ : Fn), ((raiseEvent bit f s).fn g₁).fnMask = (s.fn g₁).fnMask) ∧
    (∀ (g₁ : Fn), ((raiseEvent bit f s).fn g₁).unmasked = (s.fn g₁).unmasked) ∧
    (∀ (g₁ : Fn), ((raiseEvent bit f s).fn g₁).modCount = (s.fn g₁).modCount) ∧
    (∀ (g₁ : Fn), ((raiseEvent bit f s).fn g₁).shadow = (s.fn g₁).shadow) ∧
    (∀ (g₁ : Fn), ((raiseEvent bit f s).fn g₁).active = (s.fn g₁).active) ∧
    (∀ (g₁ : Fn), ((raiseEvent bit f s).fn g₁).latched = (s.fn g₁).latched) ∧
    (∀ (g₁ : Fn), ((raiseEvent bit f s).fn g₁).commits = (s.fn g₁).commits) ∧
    (∀ (g₁ : Fn), ((raiseEvent bit f s).fn g₁).lastResult = (s.fn g₁).lastResult) ∧
    (∀ (g₁ : Fn), ((raiseEvent bit f s).fn g₁).badWindow = (s.fn g₁).badWindow) ∧
    (∀ (g₁ : Fn), ((raiseEvent bit f s).fn g₁).winDrops = (s.fn g₁).winDrops) ∧
    (∀ (g₁ : Fn), ((raiseEvent bit f s).fn g₁).bar4Gib = (s.fn g₁).bar4Gib) ∧
    (∀ (g₁ : Fn), ((raiseEvent bit f s).fn g₁).mbxBusy = (s.fn g₁).mbxBusy) ∧
    (∀ (g₁ : Fn), ((raiseEvent bit f s).fn g₁).mbxReady = (s.fn g₁).mbxReady) := by
  unfold raiseEvent
  simp only []
  split
  · simp [Part.setFn_keeps]
  · split <;> simp [Part.setFn_keeps]

@[simp] theorem raiseBoth_frame (bit : Nat) (s : Part) :
    (raiseBoth bit s).timeUs = s.timeUs ∧
    (raiseBoth bit s).islands = s.islands ∧
    (raiseBoth bit s).bridges = s.bridges ∧
    (raiseBoth bit s).sched = s.sched ∧
    (raiseBoth bit s).man = s.man ∧
    (raiseBoth bit s).chains = s.chains ∧
    (raiseBoth bit s).chainSplit = s.chainSplit ∧
    (raiseBoth bit s).tableGen = s.tableGen ∧
    (raiseBoth bit s).peerBar = s.peerBar ∧
    (raiseBoth bit s).subsysId = s.subsysId ∧
    (raiseBoth bit s).pools = s.pools ∧
    (raiseBoth bit s).vols = s.vols ∧
    (raiseBoth bit s).members = s.members ∧
    (raiseBoth bit s).fabric = s.fabric ∧
    (raiseBoth bit s).fleet = s.fleet ∧
    (raiseBoth bit s).toll = s.toll ∧
    (raiseBoth bit s).pair = s.pair ∧
    (raiseBoth bit s).tow = s.tow ∧
    (raiseBoth bit s).dump = s.dump ∧
    (raiseBoth bit s).cal = s.cal ∧
    (raiseBoth bit s).dict = s.dict ∧
    (raiseBoth bit s).fw = s.fw ∧
    (raiseBoth bit s).log = s.log ∧
    (∀ (n₁ : Nat), (raiseBoth bit s).pool? n₁ = s.pool? n₁) ∧
    (∀ (n₁ : Nat), (raiseBoth bit s).charter? n₁ = s.charter? n₁) ∧
    (∀ (n₁ : Nat), (raiseBoth bit s).volume? n₁ = s.volume? n₁) ∧
    (∀ (n₁ : Nat), (raiseBoth bit s).poolOfMember n₁ = s.poolOfMember n₁) ∧
    (∀ (n₁ : Nat), (raiseBoth bit s).member? n₁ = s.member? n₁) ∧
    (∀ (n₁ : Nat), (raiseBoth bit s).chain n₁ = s.chain n₁) ∧
    (∀ (n₁ : Nat) (h₁ : BitVec 32), (raiseBoth bit s).cmd? n₁ h₁ = s.cmd? n₁ h₁) ∧
    (∀ (n₁ : Nat), (raiseBoth bit s).chainFn n₁ = s.chainFn n₁) ∧
    (∀ (n₁ : Nat), (raiseBoth bit s).vol n₁ = s.vol n₁) ∧
    (∀ (i₁ : Island), (raiseBoth bit s).island i₁ = s.island i₁) ∧
    (∀ (i₁ : Island), (raiseBoth bit s).ready i₁ = s.ready i₁) ∧
    (∀ (n₁ : Nat) (n₂ : Nat), (raiseBoth bit s).objInt n₁ n₂ = s.objInt n₁ n₂) ∧
    (∀ (n₁ : Nat) (n₂ : Nat), (raiseBoth bit s).objNum n₁ n₂ = s.objNum n₁ n₂) ∧
    (∀ (n₁ : Nat) (n₂ : Nat), (raiseBoth bit s).objBlob n₁ n₂ = s.objBlob n₁ n₂) ∧
    (raiseBoth bit s).timeoutUs = s.timeoutUs ∧
    (raiseBoth bit s).leadTides = s.leadTides ∧
    (raiseBoth bit s).readsHalted = s.readsHalted ∧
    (∀ (b₁ : Bool), (raiseBoth bit s).writesHalted b₁ = s.writesHalted b₁) ∧
    (∀ (g₁ : Fn), ((raiseBoth bit s).fn g₁).bme = (s.fn g₁).bme) ∧
    (∀ (g₁ : Fn), ((raiseBoth bit s).fn g₁).mse = (s.fn g₁).mse) ∧
    (∀ (g₁ : Fn), ((raiseBoth bit s).fn g₁).linkUp = (s.fn g₁).linkUp) ∧
    (∀ (g₁ : Fn), ((raiseBoth bit s).fn g₁).d0 = (s.fn g₁).d0) ∧
    (∀ (g₁ : Fn), ((raiseBoth bit s).fn g₁).retry = (s.fn g₁).retry) ∧
    (∀ (g₁ : Fn), ((raiseBoth bit s).fn g₁).perst = (s.fn g₁).perst) ∧
    (∀ (g₁ : Fn), ((raiseBoth bit s).fn g₁).enable = (s.fn g₁).enable) ∧
    (∀ (g₁ : Fn), ((raiseBoth bit s).fn g₁).bmeDiscards = (s.fn g₁).bmeDiscards) ∧
    (∀ (g₁ : Fn), ((raiseBoth bit s).fn g₁).chainSel = (s.fn g₁).chainSel) ∧
    (∀ (g₁ : Fn), ((raiseBoth bit s).fn g₁).cmdBusy = (s.fn g₁).cmdBusy) ∧
    (∀ (g₁ : Fn), ((raiseBoth bit s).fn g₁).cmdResult = (s.fn g₁).cmdResult) ∧
    (∀ (g₁ : Fn), ((raiseBoth bit s).fn g₁).cmdReason = (s.fn g₁).cmdReason) ∧
    (∀ (g₁ : Fn), ((raiseBoth bit s).fn g₁).cmdHeld = (s.fn g₁).cmdHeld) ∧
    (∀ (g₁ : Fn), ((raiseBoth bit s).fn g₁).msixOn = (s.fn g₁).msixOn) ∧
    (∀ (g₁ : Fn), ((raiseBoth bit s).fn g₁).fnMask = (s.fn g₁).fnMask) ∧
    (∀ (g₁ : Fn), ((raiseBoth bit s).fn g₁).unmasked = (s.fn g₁).unmasked) ∧
    (∀ (g₁ : Fn), ((raiseBoth bit s).fn g₁).modCount = (s.fn g₁).modCount) ∧
    (∀ (g₁ : Fn), ((raiseBoth bit s).fn g₁).shadow = (s.fn g₁).shadow) ∧
    (∀ (g₁ : Fn), ((raiseBoth bit s).fn g₁).active = (s.fn g₁).active) ∧
    (∀ (g₁ : Fn), ((raiseBoth bit s).fn g₁).latched = (s.fn g₁).latched) ∧
    (∀ (g₁ : Fn), ((raiseBoth bit s).fn g₁).commits = (s.fn g₁).commits) ∧
    (∀ (g₁ : Fn), ((raiseBoth bit s).fn g₁).lastResult = (s.fn g₁).lastResult) ∧
    (∀ (g₁ : Fn), ((raiseBoth bit s).fn g₁).badWindow = (s.fn g₁).badWindow) ∧
    (∀ (g₁ : Fn), ((raiseBoth bit s).fn g₁).winDrops = (s.fn g₁).winDrops) ∧
    (∀ (g₁ : Fn), ((raiseBoth bit s).fn g₁).bar4Gib = (s.fn g₁).bar4Gib) ∧
    (∀ (g₁ : Fn), ((raiseBoth bit s).fn g₁).mbxBusy = (s.fn g₁).mbxBusy) ∧
    (∀ (g₁ : Fn), ((raiseBoth bit s).fn g₁).mbxReady = (s.fn g₁).mbxReady) := by
  simp [raiseBoth]

/-- A status change writes the scheduler's record and raises DEVICE_STATE. -/
@[simp] theorem setStatus_frame (u : SchedSt → SchedSt) (s : Part) :
    (setStatus u s).sched = u s.sched ∧
    (setStatus u s).timeUs = s.timeUs ∧
    (setStatus u s).islands = s.islands ∧
    (setStatus u s).bridges = s.bridges ∧
    (setStatus u s).man = s.man ∧
    (setStatus u s).chains = s.chains ∧
    (setStatus u s).chainSplit = s.chainSplit ∧
    (setStatus u s).tableGen = s.tableGen ∧
    (setStatus u s).peerBar = s.peerBar ∧
    (setStatus u s).subsysId = s.subsysId ∧
    (setStatus u s).pools = s.pools ∧
    (setStatus u s).vols = s.vols ∧
    (setStatus u s).members = s.members ∧
    (setStatus u s).fabric = s.fabric ∧
    (setStatus u s).fleet = s.fleet ∧
    (setStatus u s).toll = s.toll ∧
    (setStatus u s).pair = s.pair ∧
    (setStatus u s).tow = s.tow ∧
    (setStatus u s).dump = s.dump ∧
    (setStatus u s).cal = s.cal ∧
    (setStatus u s).dict = s.dict ∧
    (setStatus u s).fw = s.fw ∧
    (setStatus u s).log = s.log ∧
    (∀ (n₁ : Nat), (setStatus u s).pool? n₁ = s.pool? n₁) ∧
    (∀ (n₁ : Nat), (setStatus u s).charter? n₁ = s.charter? n₁) ∧
    (∀ (n₁ : Nat), (setStatus u s).volume? n₁ = s.volume? n₁) ∧
    (∀ (n₁ : Nat), (setStatus u s).poolOfMember n₁ = s.poolOfMember n₁) ∧
    (∀ (n₁ : Nat), (setStatus u s).member? n₁ = s.member? n₁) ∧
    (∀ (n₁ : Nat), (setStatus u s).chain n₁ = s.chain n₁) ∧
    (∀ (n₁ : Nat) (h₁ : BitVec 32), (setStatus u s).cmd? n₁ h₁ = s.cmd? n₁ h₁) ∧
    (∀ (n₁ : Nat), (setStatus u s).chainFn n₁ = s.chainFn n₁) ∧
    (∀ (n₁ : Nat), (setStatus u s).vol n₁ = s.vol n₁) ∧
    (∀ (i₁ : Island), (setStatus u s).island i₁ = s.island i₁) ∧
    (∀ (i₁ : Island), (setStatus u s).ready i₁ = s.ready i₁) ∧
    (∀ (n₁ : Nat) (n₂ : Nat), (setStatus u s).objInt n₁ n₂ = s.objInt n₁ n₂) ∧
    (∀ (n₁ : Nat) (n₂ : Nat), (setStatus u s).objNum n₁ n₂ = s.objNum n₁ n₂) ∧
    (∀ (n₁ : Nat) (n₂ : Nat), (setStatus u s).objBlob n₁ n₂ = s.objBlob n₁ n₂) ∧
    (setStatus u s).timeoutUs = s.timeoutUs ∧
    (setStatus u s).leadTides = s.leadTides ∧
    (∀ (g₁ : Fn), ((setStatus u s).fn g₁).bme = (s.fn g₁).bme) ∧
    (∀ (g₁ : Fn), ((setStatus u s).fn g₁).mse = (s.fn g₁).mse) ∧
    (∀ (g₁ : Fn), ((setStatus u s).fn g₁).linkUp = (s.fn g₁).linkUp) ∧
    (∀ (g₁ : Fn), ((setStatus u s).fn g₁).d0 = (s.fn g₁).d0) ∧
    (∀ (g₁ : Fn), ((setStatus u s).fn g₁).retry = (s.fn g₁).retry) ∧
    (∀ (g₁ : Fn), ((setStatus u s).fn g₁).perst = (s.fn g₁).perst) ∧
    (∀ (g₁ : Fn), ((setStatus u s).fn g₁).enable = (s.fn g₁).enable) ∧
    (∀ (g₁ : Fn), ((setStatus u s).fn g₁).bmeDiscards = (s.fn g₁).bmeDiscards) ∧
    (∀ (g₁ : Fn), ((setStatus u s).fn g₁).chainSel = (s.fn g₁).chainSel) ∧
    (∀ (g₁ : Fn), ((setStatus u s).fn g₁).cmdBusy = (s.fn g₁).cmdBusy) ∧
    (∀ (g₁ : Fn), ((setStatus u s).fn g₁).cmdResult = (s.fn g₁).cmdResult) ∧
    (∀ (g₁ : Fn), ((setStatus u s).fn g₁).cmdReason = (s.fn g₁).cmdReason) ∧
    (∀ (g₁ : Fn), ((setStatus u s).fn g₁).cmdHeld = (s.fn g₁).cmdHeld) ∧
    (∀ (g₁ : Fn), ((setStatus u s).fn g₁).msixOn = (s.fn g₁).msixOn) ∧
    (∀ (g₁ : Fn), ((setStatus u s).fn g₁).fnMask = (s.fn g₁).fnMask) ∧
    (∀ (g₁ : Fn), ((setStatus u s).fn g₁).unmasked = (s.fn g₁).unmasked) ∧
    (∀ (g₁ : Fn), ((setStatus u s).fn g₁).modCount = (s.fn g₁).modCount) ∧
    (∀ (g₁ : Fn), ((setStatus u s).fn g₁).shadow = (s.fn g₁).shadow) ∧
    (∀ (g₁ : Fn), ((setStatus u s).fn g₁).active = (s.fn g₁).active) ∧
    (∀ (g₁ : Fn), ((setStatus u s).fn g₁).latched = (s.fn g₁).latched) ∧
    (∀ (g₁ : Fn), ((setStatus u s).fn g₁).commits = (s.fn g₁).commits) ∧
    (∀ (g₁ : Fn), ((setStatus u s).fn g₁).lastResult = (s.fn g₁).lastResult) ∧
    (∀ (g₁ : Fn), ((setStatus u s).fn g₁).badWindow = (s.fn g₁).badWindow) ∧
    (∀ (g₁ : Fn), ((setStatus u s).fn g₁).winDrops = (s.fn g₁).winDrops) ∧
    (∀ (g₁ : Fn), ((setStatus u s).fn g₁).bar4Gib = (s.fn g₁).bar4Gib) ∧
    (∀ (g₁ : Fn), ((setStatus u s).fn g₁).mbxBusy = (s.fn g₁).mbxBusy) ∧
    (∀ (g₁ : Fn), ((setStatus u s).fn g₁).mbxReady = (s.fn g₁).mbxReady) := by
  have e : setStatus u s = if s.sched.ready ≠ (u s.sched).ready ∨ s.sched.frozen ≠ (u s.sched).frozen ∨ s.sched.resetting ≠ (u s.sched).resetting ∨ s.sched.faulty ≠ (u s.sched).faulty then raiseBoth 3 (s.modSched u) else s.modSched u := rfl
  rw [e]
  split <;> simp

/-- A completion's message: pending bits, moderation counts and the trace. -/
@[simp] theorem completionMessage_frame (f : Fn) (v : Nat) (s : Part) :
    (completionMessage f v s).timeUs = s.timeUs ∧
    (completionMessage f v s).islands = s.islands ∧
    (completionMessage f v s).bridges = s.bridges ∧
    (completionMessage f v s).sched = s.sched ∧
    (completionMessage f v s).man = s.man ∧
    (completionMessage f v s).chains = s.chains ∧
    (completionMessage f v s).chainSplit = s.chainSplit ∧
    (completionMessage f v s).tableGen = s.tableGen ∧
    (completionMessage f v s).peerBar = s.peerBar ∧
    (completionMessage f v s).subsysId = s.subsysId ∧
    (completionMessage f v s).pools = s.pools ∧
    (completionMessage f v s).vols = s.vols ∧
    (completionMessage f v s).members = s.members ∧
    (completionMessage f v s).fabric = s.fabric ∧
    (completionMessage f v s).fleet = s.fleet ∧
    (completionMessage f v s).toll = s.toll ∧
    (completionMessage f v s).pair = s.pair ∧
    (completionMessage f v s).tow = s.tow ∧
    (completionMessage f v s).dump = s.dump ∧
    (completionMessage f v s).cal = s.cal ∧
    (completionMessage f v s).dict = s.dict ∧
    (completionMessage f v s).fw = s.fw ∧
    (completionMessage f v s).log = s.log ∧
    (∀ (n₁ : Nat), (completionMessage f v s).pool? n₁ = s.pool? n₁) ∧
    (∀ (n₁ : Nat), (completionMessage f v s).charter? n₁ = s.charter? n₁) ∧
    (∀ (n₁ : Nat), (completionMessage f v s).volume? n₁ = s.volume? n₁) ∧
    (∀ (n₁ : Nat), (completionMessage f v s).poolOfMember n₁ = s.poolOfMember n₁) ∧
    (∀ (n₁ : Nat), (completionMessage f v s).member? n₁ = s.member? n₁) ∧
    (∀ (n₁ : Nat), (completionMessage f v s).chain n₁ = s.chain n₁) ∧
    (∀ (n₁ : Nat) (h₁ : BitVec 32), (completionMessage f v s).cmd? n₁ h₁ = s.cmd? n₁ h₁) ∧
    (∀ (n₁ : Nat), (completionMessage f v s).chainFn n₁ = s.chainFn n₁) ∧
    (∀ (n₁ : Nat), (completionMessage f v s).vol n₁ = s.vol n₁) ∧
    (∀ (i₁ : Island), (completionMessage f v s).island i₁ = s.island i₁) ∧
    (∀ (i₁ : Island), (completionMessage f v s).ready i₁ = s.ready i₁) ∧
    (∀ (n₁ : Nat) (n₂ : Nat), (completionMessage f v s).objInt n₁ n₂ = s.objInt n₁ n₂) ∧
    (∀ (n₁ : Nat) (n₂ : Nat), (completionMessage f v s).objNum n₁ n₂ = s.objNum n₁ n₂) ∧
    (∀ (n₁ : Nat) (n₂ : Nat), (completionMessage f v s).objBlob n₁ n₂ = s.objBlob n₁ n₂) ∧
    (completionMessage f v s).timeoutUs = s.timeoutUs ∧
    (completionMessage f v s).leadTides = s.leadTides ∧
    (completionMessage f v s).readsHalted = s.readsHalted ∧
    (∀ (b₁ : Bool), (completionMessage f v s).writesHalted b₁ = s.writesHalted b₁) ∧
    (∀ (g₁ : Fn), ((completionMessage f v s).fn g₁).bme = (s.fn g₁).bme) ∧
    (∀ (g₁ : Fn), ((completionMessage f v s).fn g₁).mse = (s.fn g₁).mse) ∧
    (∀ (g₁ : Fn), ((completionMessage f v s).fn g₁).linkUp = (s.fn g₁).linkUp) ∧
    (∀ (g₁ : Fn), ((completionMessage f v s).fn g₁).d0 = (s.fn g₁).d0) ∧
    (∀ (g₁ : Fn), ((completionMessage f v s).fn g₁).retry = (s.fn g₁).retry) ∧
    (∀ (g₁ : Fn), ((completionMessage f v s).fn g₁).perst = (s.fn g₁).perst) ∧
    (∀ (g₁ : Fn), ((completionMessage f v s).fn g₁).cause = (s.fn g₁).cause) ∧
    (∀ (g₁ : Fn), ((completionMessage f v s).fn g₁).enable = (s.fn g₁).enable) ∧
    (∀ (g₁ : Fn), ((completionMessage f v s).fn g₁).renewed = (s.fn g₁).renewed) ∧
    (∀ (g₁ : Fn), ((completionMessage f v s).fn g₁).bmeDiscards = (s.fn g₁).bmeDiscards) ∧
    (∀ (g₁ : Fn), ((completionMessage f v s).fn g₁).chainSel = (s.fn g₁).chainSel) ∧
    (∀ (g₁ : Fn), ((completionMessage f v s).fn g₁).cmdBusy = (s.fn g₁).cmdBusy) ∧
    (∀ (g₁ : Fn), ((completionMessage f v s).fn g₁).cmdResult = (s.fn g₁).cmdResult) ∧
    (∀ (g₁ : Fn), ((completionMessage f v s).fn g₁).cmdReason = (s.fn g₁).cmdReason) ∧
    (∀ (g₁ : Fn), ((completionMessage f v s).fn g₁).cmdHeld = (s.fn g₁).cmdHeld) ∧
    (∀ (g₁ : Fn), ((completionMessage f v s).fn g₁).msixOn = (s.fn g₁).msixOn) ∧
    (∀ (g₁ : Fn), ((completionMessage f v s).fn g₁).fnMask = (s.fn g₁).fnMask) ∧
    (∀ (g₁ : Fn), ((completionMessage f v s).fn g₁).unmasked = (s.fn g₁).unmasked) ∧
    (∀ (g₁ : Fn), ((completionMessage f v s).fn g₁).shadow = (s.fn g₁).shadow) ∧
    (∀ (g₁ : Fn), ((completionMessage f v s).fn g₁).active = (s.fn g₁).active) ∧
    (∀ (g₁ : Fn), ((completionMessage f v s).fn g₁).latched = (s.fn g₁).latched) ∧
    (∀ (g₁ : Fn), ((completionMessage f v s).fn g₁).commits = (s.fn g₁).commits) ∧
    (∀ (g₁ : Fn), ((completionMessage f v s).fn g₁).lastResult = (s.fn g₁).lastResult) ∧
    (∀ (g₁ : Fn), ((completionMessage f v s).fn g₁).badWindow = (s.fn g₁).badWindow) ∧
    (∀ (g₁ : Fn), ((completionMessage f v s).fn g₁).winDrops = (s.fn g₁).winDrops) ∧
    (∀ (g₁ : Fn), ((completionMessage f v s).fn g₁).bar4Gib = (s.fn g₁).bar4Gib) ∧
    (∀ (g₁ : Fn), ((completionMessage f v s).fn g₁).mbxBusy = (s.fn g₁).mbxBusy) ∧
    (∀ (g₁ : Fn), ((completionMessage f v s).fn g₁).mbxReady = (s.fn g₁).mbxReady) := by
  unfold completionMessage
  simp only []
  split
  · simp
  · split <;> simp [Part.setFn_keeps]

/-- A notification leaves its time in the dictionary's count and frames in the trace. -/
@[simp] theorem notify_frame (r : LogRec) (s : Part) :
    (notify r s).timeUs = s.timeUs ∧
    (notify r s).islands = s.islands ∧
    (notify r s).bridges = s.bridges ∧
    (notify r s).sched = s.sched ∧
    (notify r s).man = s.man ∧
    (notify r s).chains = s.chains ∧
    (notify r s).fn0 = s.fn0 ∧
    (notify r s).fn1 = s.fn1 ∧
    (notify r s).chainSplit = s.chainSplit ∧
    (notify r s).tableGen = s.tableGen ∧
    (notify r s).peerBar = s.peerBar ∧
    (notify r s).subsysId = s.subsysId ∧
    (notify r s).pools = s.pools ∧
    (notify r s).vols = s.vols ∧
    (notify r s).members = s.members ∧
    (notify r s).fabric = s.fabric ∧
    (notify r s).fleet = s.fleet ∧
    (notify r s).toll = s.toll ∧
    (notify r s).pair = s.pair ∧
    (notify r s).tow = s.tow ∧
    (notify r s).dump = s.dump ∧
    (notify r s).cal = s.cal ∧
    (notify r s).fw = s.fw ∧
    (notify r s).log = s.log ∧
    (∀ (n₁ : Nat), (notify r s).pool? n₁ = s.pool? n₁) ∧
    (∀ (n₁ : Nat), (notify r s).charter? n₁ = s.charter? n₁) ∧
    (∀ (n₁ : Nat), (notify r s).volume? n₁ = s.volume? n₁) ∧
    (∀ (n₁ : Nat), (notify r s).poolOfMember n₁ = s.poolOfMember n₁) ∧
    (∀ (n₁ : Nat), (notify r s).member? n₁ = s.member? n₁) ∧
    (∀ (n₁ : Nat), (notify r s).chain n₁ = s.chain n₁) ∧
    (∀ (n₁ : Nat) (h₁ : BitVec 32), (notify r s).cmd? n₁ h₁ = s.cmd? n₁ h₁) ∧
    (∀ (n₁ : Nat), (notify r s).chainFn n₁ = s.chainFn n₁) ∧
    (∀ (g₁ : Fn), (notify r s).fn g₁ = s.fn g₁) ∧
    (∀ (n₁ : Nat), (notify r s).vol n₁ = s.vol n₁) ∧
    (∀ (i₁ : Island), (notify r s).island i₁ = s.island i₁) ∧
    (∀ (i₁ : Island), (notify r s).ready i₁ = s.ready i₁) ∧
    (∀ (n₁ : Nat) (n₂ : Nat), (notify r s).objInt n₁ n₂ = s.objInt n₁ n₂) ∧
    (∀ (n₁ : Nat) (n₂ : Nat), (notify r s).objNum n₁ n₂ = s.objNum n₁ n₂) ∧
    (∀ (n₁ : Nat) (n₂ : Nat), (notify r s).objBlob n₁ n₂ = s.objBlob n₁ n₂) ∧
    (notify r s).timeoutUs = s.timeoutUs ∧
    (notify r s).leadTides = s.leadTides ∧
    (notify r s).readsHalted = s.readsHalted ∧
    (∀ (b₁ : Bool), (notify r s).writesHalted b₁ = s.writesHalted b₁) ∧
    (notify r s).dict.objs = s.dict.objs ∧
    (notify r s).dict.sessions = s.dict.sessions ∧
    (notify r s).dict.nextSess = s.dict.nextSess ∧
    (notify r s).dict.locks = s.dict.locks ∧
    (notify r s).dict.creds = s.dict.creds ∧
    (notify r s).dict.failTimes = s.dict.failTimes ∧
    (notify r s).dict.locked = s.dict.locked ∧
    (notify r s).dict.authFails = s.dict.authFails ∧
    (notify r s).dict.macDrops = s.dict.macDrops ∧
    (notify r s).dict.resp = s.dict.resp ∧
    (notify r s).dict.canPending = s.dict.canPending ∧
    (notify r s).dict.canNode = s.dict.canNode ∧
    (notify r s).dict.canNom = s.dict.canNom ∧
    (notify r s).dict.canData = s.dict.canData := by
  unfold notify
  simp only []
  split
  · split <;> split <;> simp [Part.objInt, Part.objNum, Part.objBlob, Part.timeoutUs, Part.leadTides]
  · simp

/-- The Logbook engine takes an event: its own record, and the notification. -/
@[simp] theorem logAccept_frame (late : Bool) (e : LogEv) (s : Part) :
    (logAccept late e s).timeUs = s.timeUs ∧
    (logAccept late e s).islands = s.islands ∧
    (logAccept late e s).bridges = s.bridges ∧
    (logAccept late e s).sched = s.sched ∧
    (logAccept late e s).man = s.man ∧
    (logAccept late e s).chains = s.chains ∧
    (logAccept late e s).fn0 = s.fn0 ∧
    (logAccept late e s).fn1 = s.fn1 ∧
    (logAccept late e s).chainSplit = s.chainSplit ∧
    (logAccept late e s).tableGen = s.tableGen ∧
    (logAccept late e s).peerBar = s.peerBar ∧
    (logAccept late e s).subsysId = s.subsysId ∧
    (logAccept late e s).pools = s.pools ∧
    (logAccept late e s).vols = s.vols ∧
    (logAccept late e s).members = s.members ∧
    (logAccept late e s).fabric = s.fabric ∧
    (logAccept late e s).fleet = s.fleet ∧
    (logAccept late e s).toll = s.toll ∧
    (logAccept late e s).pair = s.pair ∧
    (logAccept late e s).tow = s.tow ∧
    (logAccept late e s).dump = s.dump ∧
    (logAccept late e s).cal = s.cal ∧
    (logAccept late e s).fw = s.fw ∧
    (∀ (n₁ : Nat), (logAccept late e s).pool? n₁ = s.pool? n₁) ∧
    (∀ (n₁ : Nat), (logAccept late e s).charter? n₁ = s.charter? n₁) ∧
    (∀ (n₁ : Nat), (logAccept late e s).volume? n₁ = s.volume? n₁) ∧
    (∀ (n₁ : Nat), (logAccept late e s).poolOfMember n₁ = s.poolOfMember n₁) ∧
    (∀ (n₁ : Nat), (logAccept late e s).member? n₁ = s.member? n₁) ∧
    (∀ (n₁ : Nat), (logAccept late e s).chain n₁ = s.chain n₁) ∧
    (∀ (n₁ : Nat) (h₁ : BitVec 32), (logAccept late e s).cmd? n₁ h₁ = s.cmd? n₁ h₁) ∧
    (∀ (n₁ : Nat), (logAccept late e s).chainFn n₁ = s.chainFn n₁) ∧
    (∀ (g₁ : Fn), (logAccept late e s).fn g₁ = s.fn g₁) ∧
    (∀ (n₁ : Nat), (logAccept late e s).vol n₁ = s.vol n₁) ∧
    (∀ (i₁ : Island), (logAccept late e s).island i₁ = s.island i₁) ∧
    (∀ (i₁ : Island), (logAccept late e s).ready i₁ = s.ready i₁) ∧
    (∀ (n₁ : Nat) (n₂ : Nat), (logAccept late e s).objInt n₁ n₂ = s.objInt n₁ n₂) ∧
    (∀ (n₁ : Nat) (n₂ : Nat), (logAccept late e s).objNum n₁ n₂ = s.objNum n₁ n₂) ∧
    (∀ (n₁ : Nat) (n₂ : Nat), (logAccept late e s).objBlob n₁ n₂ = s.objBlob n₁ n₂) ∧
    (logAccept late e s).timeoutUs = s.timeoutUs ∧
    (logAccept late e s).leadTides = s.leadTides ∧
    (logAccept late e s).readsHalted = s.readsHalted ∧
    (∀ (b₁ : Bool), (logAccept late e s).writesHalted b₁ = s.writesHalted b₁) ∧
    (logAccept late e s).dict.objs = s.dict.objs ∧
    (logAccept late e s).dict.sessions = s.dict.sessions ∧
    (logAccept late e s).dict.nextSess = s.dict.nextSess ∧
    (logAccept late e s).dict.locks = s.dict.locks ∧
    (logAccept late e s).dict.creds = s.dict.creds ∧
    (logAccept late e s).dict.failTimes = s.dict.failTimes ∧
    (logAccept late e s).dict.locked = s.dict.locked ∧
    (logAccept late e s).dict.authFails = s.dict.authFails ∧
    (logAccept late e s).dict.macDrops = s.dict.macDrops ∧
    (logAccept late e s).dict.resp = s.dict.resp ∧
    (logAccept late e s).dict.canPending = s.dict.canPending ∧
    (logAccept late e s).dict.canNode = s.dict.canNode ∧
    (logAccept late e s).dict.canNom = s.dict.canNom ∧
    (logAccept late e s).dict.canData = s.dict.canData := by
  have h : logAccept late e s = match (s.log.accept (sec (s.objNum 0x5000 4)) late e).2 with
      | some r => notify r (s.modLog (fun _ => (s.log.accept (sec (s.objNum 0x5000 4)) late e).1))
      | none => s.modLog (fun _ => (s.log.accept (sec (s.objNum 0x5000 4)) late e).1) := rfl
  rw [h]
  split <;> simp

@[simp] theorem holdLog_frame (e : LogEv) (s : Part) :
    (holdLog e s).timeUs = s.timeUs ∧
    (holdLog e s).islands = s.islands ∧
    (holdLog e s).bridges = s.bridges ∧
    (holdLog e s).sched = s.sched ∧
    (holdLog e s).man = s.man ∧
    (holdLog e s).chains = s.chains ∧
    (holdLog e s).fn0 = s.fn0 ∧
    (holdLog e s).fn1 = s.fn1 ∧
    (holdLog e s).chainSplit = s.chainSplit ∧
    (holdLog e s).tableGen = s.tableGen ∧
    (holdLog e s).peerBar = s.peerBar ∧
    (holdLog e s).subsysId = s.subsysId ∧
    (holdLog e s).pools = s.pools ∧
    (holdLog e s).vols = s.vols ∧
    (holdLog e s).members = s.members ∧
    (holdLog e s).fabric = s.fabric ∧
    (holdLog e s).fleet = s.fleet ∧
    (holdLog e s).toll = s.toll ∧
    (holdLog e s).pair = s.pair ∧
    (holdLog e s).dump = s.dump ∧
    (holdLog e s).cal = s.cal ∧
    (holdLog e s).dict = s.dict ∧
    (holdLog e s).fw = s.fw ∧
    (holdLog e s).log = s.log ∧
    (holdLog e s).out = s.out ∧
    (∀ (n₁ : Nat), (holdLog e s).pool? n₁ = s.pool? n₁) ∧
    (∀ (n₁ : Nat), (holdLog e s).charter? n₁ = s.charter? n₁) ∧
    (∀ (n₁ : Nat), (holdLog e s).volume? n₁ = s.volume? n₁) ∧
    (∀ (n₁ : Nat), (holdLog e s).poolOfMember n₁ = s.poolOfMember n₁) ∧
    (∀ (n₁ : Nat), (holdLog e s).member? n₁ = s.member? n₁) ∧
    (∀ (n₁ : Nat), (holdLog e s).chain n₁ = s.chain n₁) ∧
    (∀ (n₁ : Nat) (h₁ : BitVec 32), (holdLog e s).cmd? n₁ h₁ = s.cmd? n₁ h₁) ∧
    (∀ (n₁ : Nat), (holdLog e s).chainFn n₁ = s.chainFn n₁) ∧
    (∀ (g₁ : Fn), (holdLog e s).fn g₁ = s.fn g₁) ∧
    (∀ (n₁ : Nat), (holdLog e s).vol n₁ = s.vol n₁) ∧
    (∀ (i₁ : Island), (holdLog e s).island i₁ = s.island i₁) ∧
    (∀ (i₁ : Island), (holdLog e s).ready i₁ = s.ready i₁) ∧
    (∀ (n₁ : Nat) (n₂ : Nat), (holdLog e s).objInt n₁ n₂ = s.objInt n₁ n₂) ∧
    (∀ (n₁ : Nat) (n₂ : Nat), (holdLog e s).objNum n₁ n₂ = s.objNum n₁ n₂) ∧
    (∀ (n₁ : Nat) (n₂ : Nat), (holdLog e s).objBlob n₁ n₂ = s.objBlob n₁ n₂) ∧
    (holdLog e s).timeoutUs = s.timeoutUs ∧
    (holdLog e s).leadTides = s.leadTides ∧
    (holdLog e s).readsHalted = s.readsHalted ∧
    (∀ (b₁ : Bool), (holdLog e s).writesHalted b₁ = s.writesHalted b₁) ∧
    (holdLog e s).tow.power = s.tow.power ∧
    (holdLog e s).tow.sense = s.tow.sense ∧
    (holdLog e s).tow.flags = s.tow.flags ∧
    (holdLog e s).tow.dieC = s.tow.dieC ∧
    (holdLog e s).tow.energyMj = s.tow.energyMj ∧
    (holdLog e s).tow.capMf = s.tow.capMf ∧
    (holdLog e s).tow.esrMohm = s.tow.esrMohm ∧
    (holdLog e s).tow.store = s.tow.store ∧
    (holdLog e s).tow.storeUnder = s.tow.storeUnder ∧
    (holdLog e s).tow.testDue = s.tow.testDue ∧
    (holdLog e s).tow.braceCount = s.tow.braceCount ∧
    (holdLog e s).tow.tripped = s.tow.tripped ∧
    (holdLog e s).tow.wakeCause = s.tow.wakeCause ∧
    (holdLog e s).tow.wakePending = s.tow.wakePending ∧
    (holdLog e s).tow.schedNext = s.tow.schedNext ∧
    (holdLog e s).tow.sleepRefused = s.tow.sleepRefused ∧
    (holdLog e s).tow.sleeping = s.tow.sleeping ∧
    (holdLog e s).tow.coreEn = s.tow.coreEn ∧
    (holdLog e s).tow.chgEn = s.tow.chgEn ∧
    (holdLog e s).tow.storeTest = s.tow.storeTest ∧
    (holdLog e s).tow.dumpActive = s.tow.dumpActive ∧
    (holdLog e s).tow.wakeN = s.tow.wakeN ∧
    (holdLog e s).tow.coldHeld = s.tow.coldHeld ∧
    (holdLog e s).tow.afterDump = s.tow.afterDump ∧
    (holdLog e s).tow.limitsWait = s.tow.limitsWait ∧
    (holdLog e s).tow.tap = s.tow.tap := by
  unfold holdLog
  split <;> simp

/-- An event reported: the Logbook, its notification, or the Towpath's held decisions. -/
@[simp] theorem logEvent_frame (e : LogEv) (s : Part) :
    (logEvent e s).timeUs = s.timeUs ∧
    (logEvent e s).islands = s.islands ∧
    (logEvent e s).bridges = s.bridges ∧
    (logEvent e s).sched = s.sched ∧
    (logEvent e s).man = s.man ∧
    (logEvent e s).chains = s.chains ∧
    (logEvent e s).fn0 = s.fn0 ∧
    (logEvent e s).fn1 = s.fn1 ∧
    (logEvent e s).chainSplit = s.chainSplit ∧
    (logEvent e s).tableGen = s.tableGen ∧
    (logEvent e s).peerBar = s.peerBar ∧
    (logEvent e s).subsysId = s.subsysId ∧
    (logEvent e s).pools = s.pools ∧
    (logEvent e s).vols = s.vols ∧
    (logEvent e s).members = s.members ∧
    (logEvent e s).fabric = s.fabric ∧
    (logEvent e s).fleet = s.fleet ∧
    (logEvent e s).toll = s.toll ∧
    (logEvent e s).pair = s.pair ∧
    (logEvent e s).dump = s.dump ∧
    (logEvent e s).cal = s.cal ∧
    (logEvent e s).fw = s.fw ∧
    (∀ (n₁ : Nat), (logEvent e s).pool? n₁ = s.pool? n₁) ∧
    (∀ (n₁ : Nat), (logEvent e s).charter? n₁ = s.charter? n₁) ∧
    (∀ (n₁ : Nat), (logEvent e s).volume? n₁ = s.volume? n₁) ∧
    (∀ (n₁ : Nat), (logEvent e s).poolOfMember n₁ = s.poolOfMember n₁) ∧
    (∀ (n₁ : Nat), (logEvent e s).member? n₁ = s.member? n₁) ∧
    (∀ (n₁ : Nat), (logEvent e s).chain n₁ = s.chain n₁) ∧
    (∀ (n₁ : Nat) (h₁ : BitVec 32), (logEvent e s).cmd? n₁ h₁ = s.cmd? n₁ h₁) ∧
    (∀ (n₁ : Nat), (logEvent e s).chainFn n₁ = s.chainFn n₁) ∧
    (∀ (g₁ : Fn), (logEvent e s).fn g₁ = s.fn g₁) ∧
    (∀ (n₁ : Nat), (logEvent e s).vol n₁ = s.vol n₁) ∧
    (∀ (i₁ : Island), (logEvent e s).island i₁ = s.island i₁) ∧
    (∀ (i₁ : Island), (logEvent e s).ready i₁ = s.ready i₁) ∧
    (∀ (n₁ : Nat) (n₂ : Nat), (logEvent e s).objInt n₁ n₂ = s.objInt n₁ n₂) ∧
    (∀ (n₁ : Nat) (n₂ : Nat), (logEvent e s).objNum n₁ n₂ = s.objNum n₁ n₂) ∧
    (∀ (n₁ : Nat) (n₂ : Nat), (logEvent e s).objBlob n₁ n₂ = s.objBlob n₁ n₂) ∧
    (logEvent e s).timeoutUs = s.timeoutUs ∧
    (logEvent e s).leadTides = s.leadTides ∧
    (logEvent e s).readsHalted = s.readsHalted ∧
    (∀ (b₁ : Bool), (logEvent e s).writesHalted b₁ = s.writesHalted b₁) ∧
    (logEvent e s).dict.objs = s.dict.objs ∧
    (logEvent e s).dict.sessions = s.dict.sessions ∧
    (logEvent e s).dict.nextSess = s.dict.nextSess ∧
    (logEvent e s).dict.locks = s.dict.locks ∧
    (logEvent e s).dict.creds = s.dict.creds ∧
    (logEvent e s).dict.failTimes = s.dict.failTimes ∧
    (logEvent e s).dict.locked = s.dict.locked ∧
    (logEvent e s).dict.authFails = s.dict.authFails ∧
    (logEvent e s).dict.macDrops = s.dict.macDrops ∧
    (logEvent e s).dict.resp = s.dict.resp ∧
    (logEvent e s).dict.canPending = s.dict.canPending ∧
    (logEvent e s).dict.canNode = s.dict.canNode ∧
    (logEvent e s).dict.canNom = s.dict.canNom ∧
    (logEvent e s).dict.canData = s.dict.canData ∧
    (logEvent e s).tow.power = s.tow.power ∧
    (logEvent e s).tow.sense = s.tow.sense ∧
    (logEvent e s).tow.flags = s.tow.flags ∧
    (logEvent e s).tow.dieC = s.tow.dieC ∧
    (logEvent e s).tow.energyMj = s.tow.energyMj ∧
    (logEvent e s).tow.capMf = s.tow.capMf ∧
    (logEvent e s).tow.esrMohm = s.tow.esrMohm ∧
    (logEvent e s).tow.store = s.tow.store ∧
    (logEvent e s).tow.storeUnder = s.tow.storeUnder ∧
    (logEvent e s).tow.testDue = s.tow.testDue ∧
    (logEvent e s).tow.braceCount = s.tow.braceCount ∧
    (logEvent e s).tow.tripped = s.tow.tripped ∧
    (logEvent e s).tow.wakeCause = s.tow.wakeCause ∧
    (logEvent e s).tow.wakePending = s.tow.wakePending ∧
    (logEvent e s).tow.schedNext = s.tow.schedNext ∧
    (logEvent e s).tow.sleepRefused = s.tow.sleepRefused ∧
    (logEvent e s).tow.sleeping = s.tow.sleeping ∧
    (logEvent e s).tow.coreEn = s.tow.coreEn ∧
    (logEvent e s).tow.chgEn = s.tow.chgEn ∧
    (logEvent e s).tow.storeTest = s.tow.storeTest ∧
    (logEvent e s).tow.dumpActive = s.tow.dumpActive ∧
    (logEvent e s).tow.wakeN = s.tow.wakeN ∧
    (logEvent e s).tow.coldHeld = s.tow.coldHeld ∧
    (logEvent e s).tow.afterDump = s.tow.afterDump ∧
    (logEvent e s).tow.limitsWait = s.tow.limitsWait ∧
    (logEvent e s).tow.tap = s.tow.tap := by
  unfold logEvent
  split
  · simp
  · split <;> simp

/-- A record of the Logbook changes nothing the record is about. -/
@[simp] theorem log_frame (code inst : Nat) (d : Bytes) (s : Part) :
    (log code inst d s).timeUs = s.timeUs ∧
    (log code inst d s).islands = s.islands ∧
    (log code inst d s).bridges = s.bridges ∧
    (log code inst d s).sched = s.sched ∧
    (log code inst d s).man = s.man ∧
    (log code inst d s).chains = s.chains ∧
    (log code inst d s).fn0 = s.fn0 ∧
    (log code inst d s).fn1 = s.fn1 ∧
    (log code inst d s).chainSplit = s.chainSplit ∧
    (log code inst d s).tableGen = s.tableGen ∧
    (log code inst d s).peerBar = s.peerBar ∧
    (log code inst d s).subsysId = s.subsysId ∧
    (log code inst d s).pools = s.pools ∧
    (log code inst d s).vols = s.vols ∧
    (log code inst d s).members = s.members ∧
    (log code inst d s).fabric = s.fabric ∧
    (log code inst d s).fleet = s.fleet ∧
    (log code inst d s).toll = s.toll ∧
    (log code inst d s).pair = s.pair ∧
    (log code inst d s).dump = s.dump ∧
    (log code inst d s).cal = s.cal ∧
    (log code inst d s).fw = s.fw ∧
    (∀ (n₁ : Nat), (log code inst d s).pool? n₁ = s.pool? n₁) ∧
    (∀ (n₁ : Nat), (log code inst d s).charter? n₁ = s.charter? n₁) ∧
    (∀ (n₁ : Nat), (log code inst d s).volume? n₁ = s.volume? n₁) ∧
    (∀ (n₁ : Nat), (log code inst d s).poolOfMember n₁ = s.poolOfMember n₁) ∧
    (∀ (n₁ : Nat), (log code inst d s).member? n₁ = s.member? n₁) ∧
    (∀ (n₁ : Nat), (log code inst d s).chain n₁ = s.chain n₁) ∧
    (∀ (n₁ : Nat) (h₁ : BitVec 32), (log code inst d s).cmd? n₁ h₁ = s.cmd? n₁ h₁) ∧
    (∀ (n₁ : Nat), (log code inst d s).chainFn n₁ = s.chainFn n₁) ∧
    (∀ (g₁ : Fn), (log code inst d s).fn g₁ = s.fn g₁) ∧
    (∀ (n₁ : Nat), (log code inst d s).vol n₁ = s.vol n₁) ∧
    (∀ (i₁ : Island), (log code inst d s).island i₁ = s.island i₁) ∧
    (∀ (i₁ : Island), (log code inst d s).ready i₁ = s.ready i₁) ∧
    (∀ (n₁ : Nat) (n₂ : Nat), (log code inst d s).objInt n₁ n₂ = s.objInt n₁ n₂) ∧
    (∀ (n₁ : Nat) (n₂ : Nat), (log code inst d s).objNum n₁ n₂ = s.objNum n₁ n₂) ∧
    (∀ (n₁ : Nat) (n₂ : Nat), (log code inst d s).objBlob n₁ n₂ = s.objBlob n₁ n₂) ∧
    (log code inst d s).timeoutUs = s.timeoutUs ∧
    (log code inst d s).leadTides = s.leadTides ∧
    (log code inst d s).readsHalted = s.readsHalted ∧
    (∀ (b₁ : Bool), (log code inst d s).writesHalted b₁ = s.writesHalted b₁) ∧
    (log code inst d s).dict.objs = s.dict.objs ∧
    (log code inst d s).dict.sessions = s.dict.sessions ∧
    (log code inst d s).dict.nextSess = s.dict.nextSess ∧
    (log code inst d s).dict.locks = s.dict.locks ∧
    (log code inst d s).dict.creds = s.dict.creds ∧
    (log code inst d s).dict.failTimes = s.dict.failTimes ∧
    (log code inst d s).dict.locked = s.dict.locked ∧
    (log code inst d s).dict.authFails = s.dict.authFails ∧
    (log code inst d s).dict.macDrops = s.dict.macDrops ∧
    (log code inst d s).dict.resp = s.dict.resp ∧
    (log code inst d s).dict.canPending = s.dict.canPending ∧
    (log code inst d s).dict.canNode = s.dict.canNode ∧
    (log code inst d s).dict.canNom = s.dict.canNom ∧
    (log code inst d s).dict.canData = s.dict.canData ∧
    (log code inst d s).tow.power = s.tow.power ∧
    (log code inst d s).tow.sense = s.tow.sense ∧
    (log code inst d s).tow.flags = s.tow.flags ∧
    (log code inst d s).tow.dieC = s.tow.dieC ∧
    (log code inst d s).tow.energyMj = s.tow.energyMj ∧
    (log code inst d s).tow.capMf = s.tow.capMf ∧
    (log code inst d s).tow.esrMohm = s.tow.esrMohm ∧
    (log code inst d s).tow.store = s.tow.store ∧
    (log code inst d s).tow.storeUnder = s.tow.storeUnder ∧
    (log code inst d s).tow.testDue = s.tow.testDue ∧
    (log code inst d s).tow.braceCount = s.tow.braceCount ∧
    (log code inst d s).tow.tripped = s.tow.tripped ∧
    (log code inst d s).tow.wakeCause = s.tow.wakeCause ∧
    (log code inst d s).tow.wakePending = s.tow.wakePending ∧
    (log code inst d s).tow.schedNext = s.tow.schedNext ∧
    (log code inst d s).tow.sleepRefused = s.tow.sleepRefused ∧
    (log code inst d s).tow.sleeping = s.tow.sleeping ∧
    (log code inst d s).tow.coreEn = s.tow.coreEn ∧
    (log code inst d s).tow.chgEn = s.tow.chgEn ∧
    (log code inst d s).tow.storeTest = s.tow.storeTest ∧
    (log code inst d s).tow.dumpActive = s.tow.dumpActive ∧
    (log code inst d s).tow.wakeN = s.tow.wakeN ∧
    (log code inst d s).tow.coldHeld = s.tow.coldHeld ∧
    (log code inst d s).tow.afterDump = s.tow.afterDump ∧
    (log code inst d s).tow.limitsWait = s.tow.limitsWait ∧
    (log code inst d s).tow.tap = s.tow.tap := by
  simp [log]

@[simp] theorem noted_frame (ss rule item : Nat) (d : Bytes) (s : Part) :
    (noted ss rule item d s).timeUs = s.timeUs ∧
    (noted ss rule item d s).islands = s.islands ∧
    (noted ss rule item d s).bridges = s.bridges ∧
    (noted ss rule item d s).sched = s.sched ∧
    (noted ss rule item d s).man = s.man ∧
    (noted ss rule item d s).chains = s.chains ∧
    (noted ss rule item d s).fn0 = s.fn0 ∧
    (noted ss rule item d s).fn1 = s.fn1 ∧
    (noted ss rule item d s).chainSplit = s.chainSplit ∧
    (noted ss rule item d s).tableGen = s.tableGen ∧
    (noted ss rule item d s).peerBar = s.peerBar ∧
    (noted ss rule item d s).subsysId = s.subsysId ∧
    (noted ss rule item d s).pools = s.pools ∧
    (noted ss rule item d s).vols = s.vols ∧
    (noted ss rule item d s).members = s.members ∧
    (noted ss rule item d s).fabric = s.fabric ∧
    (noted ss rule item d s).fleet = s.fleet ∧
    (noted ss rule item d s).toll = s.toll ∧
    (noted ss rule item d s).pair = s.pair ∧
    (noted ss rule item d s).dump = s.dump ∧
    (noted ss rule item d s).cal = s.cal ∧
    (noted ss rule item d s).fw = s.fw ∧
    (∀ (n₁ : Nat), (noted ss rule item d s).pool? n₁ = s.pool? n₁) ∧
    (∀ (n₁ : Nat), (noted ss rule item d s).charter? n₁ = s.charter? n₁) ∧
    (∀ (n₁ : Nat), (noted ss rule item d s).volume? n₁ = s.volume? n₁) ∧
    (∀ (n₁ : Nat), (noted ss rule item d s).poolOfMember n₁ = s.poolOfMember n₁) ∧
    (∀ (n₁ : Nat), (noted ss rule item d s).member? n₁ = s.member? n₁) ∧
    (∀ (n₁ : Nat), (noted ss rule item d s).chain n₁ = s.chain n₁) ∧
    (∀ (n₁ : Nat) (h₁ : BitVec 32), (noted ss rule item d s).cmd? n₁ h₁ = s.cmd? n₁ h₁) ∧
    (∀ (n₁ : Nat), (noted ss rule item d s).chainFn n₁ = s.chainFn n₁) ∧
    (∀ (g₁ : Fn), (noted ss rule item d s).fn g₁ = s.fn g₁) ∧
    (∀ (n₁ : Nat), (noted ss rule item d s).vol n₁ = s.vol n₁) ∧
    (∀ (i₁ : Island), (noted ss rule item d s).island i₁ = s.island i₁) ∧
    (∀ (i₁ : Island), (noted ss rule item d s).ready i₁ = s.ready i₁) ∧
    (∀ (n₁ : Nat) (n₂ : Nat), (noted ss rule item d s).objInt n₁ n₂ = s.objInt n₁ n₂) ∧
    (∀ (n₁ : Nat) (n₂ : Nat), (noted ss rule item d s).objNum n₁ n₂ = s.objNum n₁ n₂) ∧
    (∀ (n₁ : Nat) (n₂ : Nat), (noted ss rule item d s).objBlob n₁ n₂ = s.objBlob n₁ n₂) ∧
    (noted ss rule item d s).timeoutUs = s.timeoutUs ∧
    (noted ss rule item d s).leadTides = s.leadTides ∧
    (noted ss rule item d s).readsHalted = s.readsHalted ∧
    (∀ (b₁ : Bool), (noted ss rule item d s).writesHalted b₁ = s.writesHalted b₁) ∧
    (noted ss rule item d s).dict.objs = s.dict.objs ∧
    (noted ss rule item d s).dict.sessions = s.dict.sessions ∧
    (noted ss rule item d s).dict.nextSess = s.dict.nextSess ∧
    (noted ss rule item d s).dict.locks = s.dict.locks ∧
    (noted ss rule item d s).dict.creds = s.dict.creds ∧
    (noted ss rule item d s).dict.failTimes = s.dict.failTimes ∧
    (noted ss rule item d s).dict.locked = s.dict.locked ∧
    (noted ss rule item d s).dict.authFails = s.dict.authFails ∧
    (noted ss rule item d s).dict.macDrops = s.dict.macDrops ∧
    (noted ss rule item d s).dict.resp = s.dict.resp ∧
    (noted ss rule item d s).dict.canPending = s.dict.canPending ∧
    (noted ss rule item d s).dict.canNode = s.dict.canNode ∧
    (noted ss rule item d s).dict.canNom = s.dict.canNom ∧
    (noted ss rule item d s).dict.canData = s.dict.canData ∧
    (noted ss rule item d s).tow.power = s.tow.power ∧
    (noted ss rule item d s).tow.sense = s.tow.sense ∧
    (noted ss rule item d s).tow.flags = s.tow.flags ∧
    (noted ss rule item d s).tow.dieC = s.tow.dieC ∧
    (noted ss rule item d s).tow.energyMj = s.tow.energyMj ∧
    (noted ss rule item d s).tow.capMf = s.tow.capMf ∧
    (noted ss rule item d s).tow.esrMohm = s.tow.esrMohm ∧
    (noted ss rule item d s).tow.store = s.tow.store ∧
    (noted ss rule item d s).tow.storeUnder = s.tow.storeUnder ∧
    (noted ss rule item d s).tow.testDue = s.tow.testDue ∧
    (noted ss rule item d s).tow.braceCount = s.tow.braceCount ∧
    (noted ss rule item d s).tow.tripped = s.tow.tripped ∧
    (noted ss rule item d s).tow.wakeCause = s.tow.wakeCause ∧
    (noted ss rule item d s).tow.wakePending = s.tow.wakePending ∧
    (noted ss rule item d s).tow.schedNext = s.tow.schedNext ∧
    (noted ss rule item d s).tow.sleepRefused = s.tow.sleepRefused ∧
    (noted ss rule item d s).tow.sleeping = s.tow.sleeping ∧
    (noted ss rule item d s).tow.coreEn = s.tow.coreEn ∧
    (noted ss rule item d s).tow.chgEn = s.tow.chgEn ∧
    (noted ss rule item d s).tow.storeTest = s.tow.storeTest ∧
    (noted ss rule item d s).tow.dumpActive = s.tow.dumpActive ∧
    (noted ss rule item d s).tow.wakeN = s.tow.wakeN ∧
    (noted ss rule item d s).tow.coldHeld = s.tow.coldHeld ∧
    (noted ss rule item d s).tow.afterDump = s.tow.afterDump ∧
    (noted ss rule item d s).tow.limitsWait = s.tow.limitsWait ∧
    (noted ss rule item d s).tow.tap = s.tow.tap := by
  simp [noted]

@[simp] theorem takeDeferred_frame (f : Fn) (v : Nat) (s : Part) :
    ((takeDeferred f v s).2).timeUs = s.timeUs ∧
    ((takeDeferred f v s).2).islands = s.islands ∧
    ((takeDeferred f v s).2).bridges = s.bridges ∧
    ((takeDeferred f v s).2).sched = s.sched ∧
    ((takeDeferred f v s).2).man = s.man ∧
    ((takeDeferred f v s).2).chains = s.chains ∧
    ((takeDeferred f v s).2).fn0 = s.fn0 ∧
    ((takeDeferred f v s).2).fn1 = s.fn1 ∧
    ((takeDeferred f v s).2).chainSplit = s.chainSplit ∧
    ((takeDeferred f v s).2).tableGen = s.tableGen ∧
    ((takeDeferred f v s).2).peerBar = s.peerBar ∧
    ((takeDeferred f v s).2).subsysId = s.subsysId ∧
    ((takeDeferred f v s).2).pools = s.pools ∧
    ((takeDeferred f v s).2).members = s.members ∧
    ((takeDeferred f v s).2).fabric = s.fabric ∧
    ((takeDeferred f v s).2).fleet = s.fleet ∧
    ((takeDeferred f v s).2).toll = s.toll ∧
    ((takeDeferred f v s).2).pair = s.pair ∧
    ((takeDeferred f v s).2).tow = s.tow ∧
    ((takeDeferred f v s).2).dump = s.dump ∧
    ((takeDeferred f v s).2).cal = s.cal ∧
    ((takeDeferred f v s).2).dict = s.dict ∧
    ((takeDeferred f v s).2).fw = s.fw ∧
    ((takeDeferred f v s).2).log = s.log ∧
    ((takeDeferred f v s).2).out = s.out ∧
    (∀ (n₁ : Nat), ((takeDeferred f v s).2).pool? n₁ = s.pool? n₁) ∧
    (∀ (n₁ : Nat), ((takeDeferred f v s).2).charter? n₁ = s.charter? n₁) ∧
    (∀ (n₁ : Nat), ((takeDeferred f v s).2).volume? n₁ = s.volume? n₁) ∧
    (∀ (n₁ : Nat), ((takeDeferred f v s).2).poolOfMember n₁ = s.poolOfMember n₁) ∧
    (∀ (n₁ : Nat), ((takeDeferred f v s).2).member? n₁ = s.member? n₁) ∧
    (∀ (n₁ : Nat), ((takeDeferred f v s).2).chain n₁ = s.chain n₁) ∧
    (∀ (n₁ : Nat) (h₁ : BitVec 32), ((takeDeferred f v s).2).cmd? n₁ h₁ = s.cmd? n₁ h₁) ∧
    (∀ (n₁ : Nat), ((takeDeferred f v s).2).chainFn n₁ = s.chainFn n₁) ∧
    (∀ (g₁ : Fn), ((takeDeferred f v s).2).fn g₁ = s.fn g₁) ∧
    (∀ (i₁ : Island), ((takeDeferred f v s).2).island i₁ = s.island i₁) ∧
    (∀ (i₁ : Island), ((takeDeferred f v s).2).ready i₁ = s.ready i₁) ∧
    (∀ (n₁ : Nat) (n₂ : Nat), ((takeDeferred f v s).2).objInt n₁ n₂ = s.objInt n₁ n₂) ∧
    (∀ (n₁ : Nat) (n₂ : Nat), ((takeDeferred f v s).2).objNum n₁ n₂ = s.objNum n₁ n₂) ∧
    (∀ (n₁ : Nat) (n₂ : Nat), ((takeDeferred f v s).2).objBlob n₁ n₂ = s.objBlob n₁ n₂) ∧
    ((takeDeferred f v s).2).timeoutUs = s.timeoutUs ∧
    ((takeDeferred f v s).2).leadTides = s.leadTides ∧
    ((takeDeferred f v s).2).readsHalted = s.readsHalted ∧
    (∀ (b₁ : Bool), ((takeDeferred f v s).2).writesHalted b₁ = s.writesHalted b₁) := by
  unfold takeDeferred
  split
  · cases f <;> simp
  · simp

@[simp] theorem takeDeferredOf_frame (f : Fn) (l : List Nat) (s : Part) :
    ((takeDeferredOf f l s).2).timeUs = s.timeUs ∧
    ((takeDeferredOf f l s).2).islands = s.islands ∧
    ((takeDeferredOf f l s).2).bridges = s.bridges ∧
    ((takeDeferredOf f l s).2).sched = s.sched ∧
    ((takeDeferredOf f l s).2).man = s.man ∧
    ((takeDeferredOf f l s).2).chains = s.chains ∧
    ((takeDeferredOf f l s).2).fn0 = s.fn0 ∧
    ((takeDeferredOf f l s).2).fn1 = s.fn1 ∧
    ((takeDeferredOf f l s).2).chainSplit = s.chainSplit ∧
    ((takeDeferredOf f l s).2).tableGen = s.tableGen ∧
    ((takeDeferredOf f l s).2).peerBar = s.peerBar ∧
    ((takeDeferredOf f l s).2).subsysId = s.subsysId ∧
    ((takeDeferredOf f l s).2).pools = s.pools ∧
    ((takeDeferredOf f l s).2).members = s.members ∧
    ((takeDeferredOf f l s).2).fabric = s.fabric ∧
    ((takeDeferredOf f l s).2).fleet = s.fleet ∧
    ((takeDeferredOf f l s).2).toll = s.toll ∧
    ((takeDeferredOf f l s).2).pair = s.pair ∧
    ((takeDeferredOf f l s).2).tow = s.tow ∧
    ((takeDeferredOf f l s).2).dump = s.dump ∧
    ((takeDeferredOf f l s).2).cal = s.cal ∧
    ((takeDeferredOf f l s).2).dict = s.dict ∧
    ((takeDeferredOf f l s).2).fw = s.fw ∧
    ((takeDeferredOf f l s).2).log = s.log ∧
    ((takeDeferredOf f l s).2).out = s.out ∧
    (∀ (n₁ : Nat), ((takeDeferredOf f l s).2).pool? n₁ = s.pool? n₁) ∧
    (∀ (n₁ : Nat), ((takeDeferredOf f l s).2).charter? n₁ = s.charter? n₁) ∧
    (∀ (n₁ : Nat), ((takeDeferredOf f l s).2).volume? n₁ = s.volume? n₁) ∧
    (∀ (n₁ : Nat), ((takeDeferredOf f l s).2).poolOfMember n₁ = s.poolOfMember n₁) ∧
    (∀ (n₁ : Nat), ((takeDeferredOf f l s).2).member? n₁ = s.member? n₁) ∧
    (∀ (n₁ : Nat), ((takeDeferredOf f l s).2).chain n₁ = s.chain n₁) ∧
    (∀ (n₁ : Nat) (h₁ : BitVec 32), ((takeDeferredOf f l s).2).cmd? n₁ h₁ = s.cmd? n₁ h₁) ∧
    (∀ (n₁ : Nat), ((takeDeferredOf f l s).2).chainFn n₁ = s.chainFn n₁) ∧
    (∀ (g₁ : Fn), ((takeDeferredOf f l s).2).fn g₁ = s.fn g₁) ∧
    (∀ (i₁ : Island), ((takeDeferredOf f l s).2).island i₁ = s.island i₁) ∧
    (∀ (i₁ : Island), ((takeDeferredOf f l s).2).ready i₁ = s.ready i₁) ∧
    (∀ (n₁ : Nat) (n₂ : Nat), ((takeDeferredOf f l s).2).objInt n₁ n₂ = s.objInt n₁ n₂) ∧
    (∀ (n₁ : Nat) (n₂ : Nat), ((takeDeferredOf f l s).2).objNum n₁ n₂ = s.objNum n₁ n₂) ∧
    (∀ (n₁ : Nat) (n₂ : Nat), ((takeDeferredOf f l s).2).objBlob n₁ n₂ = s.objBlob n₁ n₂) ∧
    ((takeDeferredOf f l s).2).timeoutUs = s.timeoutUs ∧
    ((takeDeferredOf f l s).2).leadTides = s.leadTides ∧
    ((takeDeferredOf f l s).2).readsHalted = s.readsHalted ∧
    (∀ (b₁ : Bool), ((takeDeferredOf f l s).2).writesHalted b₁ = s.writesHalted b₁) := by
  unfold takeDeferredOf
  generalize false = b
  induction l generalizing b s with
  | nil => simp
  | cons v l ih => rw [List.foldl_cons]; simp [ih]

/-- A completion: the chain, the volume's deferred flag, the message and the trace. -/
@[simp] theorem complete_frame (c : Nat) (k : BitVec 32) (status : Nat) (info : BitVec 64) (s : Part) :
    (complete c k status info s).timeUs = s.timeUs ∧
    (complete c k status info s).islands = s.islands ∧
    (complete c k status info s).bridges = s.bridges ∧
    (complete c k status info s).sched = s.sched ∧
    (complete c k status info s).man = s.man ∧
    (complete c k status info s).chainSplit = s.chainSplit ∧
    (complete c k status info s).tableGen = s.tableGen ∧
    (complete c k status info s).peerBar = s.peerBar ∧
    (complete c k status info s).subsysId = s.subsysId ∧
    (complete c k status info s).pools = s.pools ∧
    (complete c k status info s).members = s.members ∧
    (complete c k status info s).fabric = s.fabric ∧
    (complete c k status info s).fleet = s.fleet ∧
    (complete c k status info s).toll = s.toll ∧
    (complete c k status info s).pair = s.pair ∧
    (complete c k status info s).tow = s.tow ∧
    (complete c k status info s).dump = s.dump ∧
    (complete c k status info s).cal = s.cal ∧
    (complete c k status info s).dict = s.dict ∧
    (complete c k status info s).fw = s.fw ∧
    (complete c k status info s).log = s.log ∧
    (∀ (n₁ : Nat), (complete c k status info s).pool? n₁ = s.pool? n₁) ∧
    (∀ (n₁ : Nat), (complete c k status info s).charter? n₁ = s.charter? n₁) ∧
    (∀ (n₁ : Nat), (complete c k status info s).volume? n₁ = s.volume? n₁) ∧
    (∀ (n₁ : Nat), (complete c k status info s).poolOfMember n₁ = s.poolOfMember n₁) ∧
    (∀ (n₁ : Nat), (complete c k status info s).member? n₁ = s.member? n₁) ∧
    (∀ (n₁ : Nat), (complete c k status info s).chainFn n₁ = s.chainFn n₁) ∧
    (∀ (i₁ : Island), (complete c k status info s).island i₁ = s.island i₁) ∧
    (∀ (i₁ : Island), (complete c k status info s).ready i₁ = s.ready i₁) ∧
    (∀ (n₁ : Nat) (n₂ : Nat), (complete c k status info s).objInt n₁ n₂ = s.objInt n₁ n₂) ∧
    (∀ (n₁ : Nat) (n₂ : Nat), (complete c k status info s).objNum n₁ n₂ = s.objNum n₁ n₂) ∧
    (∀ (n₁ : Nat) (n₂ : Nat), (complete c k status info s).objBlob n₁ n₂ = s.objBlob n₁ n₂) ∧
    (complete c k status info s).timeoutUs = s.timeoutUs ∧
    (complete c k status info s).leadTides = s.leadTides ∧
    (complete c k status info s).readsHalted = s.readsHalted ∧
    (∀ (b₁ : Bool), (complete c k status info s).writesHalted b₁ = s.writesHalted b₁) ∧
    (∀ (g₁ : Fn), ((complete c k status info s).fn g₁).bme = (s.fn g₁).bme) ∧
    (∀ (g₁ : Fn), ((complete c k status info s).fn g₁).mse = (s.fn g₁).mse) ∧
    (∀ (g₁ : Fn), ((complete c k status info s).fn g₁).linkUp = (s.fn g₁).linkUp) ∧
    (∀ (g₁ : Fn), ((complete c k status info s).fn g₁).d0 = (s.fn g₁).d0) ∧
    (∀ (g₁ : Fn), ((complete c k status info s).fn g₁).retry = (s.fn g₁).retry) ∧
    (∀ (g₁ : Fn), ((complete c k status info s).fn g₁).perst = (s.fn g₁).perst) ∧
    (∀ (g₁ : Fn), ((complete c k status info s).fn g₁).cause = (s.fn g₁).cause) ∧
    (∀ (g₁ : Fn), ((complete c k status info s).fn g₁).enable = (s.fn g₁).enable) ∧
    (∀ (g₁ : Fn), ((complete c k status info s).fn g₁).renewed = (s.fn g₁).renewed) ∧
    (∀ (g₁ : Fn), ((complete c k status info s).fn g₁).bmeDiscards = (s.fn g₁).bmeDiscards) ∧
    (∀ (g₁ : Fn), ((complete c k status info s).fn g₁).chainSel = (s.fn g₁).chainSel) ∧
    (∀ (g₁ : Fn), ((complete c k status info s).fn g₁).cmdBusy = (s.fn g₁).cmdBusy) ∧
    (∀ (g₁ : Fn), ((complete c k status info s).fn g₁).cmdResult = (s.fn g₁).cmdResult) ∧
    (∀ (g₁ : Fn), ((complete c k status info s).fn g₁).cmdReason = (s.fn g₁).cmdReason) ∧
    (∀ (g₁ : Fn), ((complete c k status info s).fn g₁).cmdHeld = (s.fn g₁).cmdHeld) ∧
    (∀ (g₁ : Fn), ((complete c k status info s).fn g₁).msixOn = (s.fn g₁).msixOn) ∧
    (∀ (g₁ : Fn), ((complete c k status info s).fn g₁).fnMask = (s.fn g₁).fnMask) ∧
    (∀ (g₁ : Fn), ((complete c k status info s).fn g₁).unmasked = (s.fn g₁).unmasked) ∧
    (∀ (g₁ : Fn), ((complete c k status info s).fn g₁).shadow = (s.fn g₁).shadow) ∧
    (∀ (g₁ : Fn), ((complete c k status info s).fn g₁).active = (s.fn g₁).active) ∧
    (∀ (g₁ : Fn), ((complete c k status info s).fn g₁).latched = (s.fn g₁).latched) ∧
    (∀ (g₁ : Fn), ((complete c k status info s).fn g₁).commits = (s.fn g₁).commits) ∧
    (∀ (g₁ : Fn), ((complete c k status info s).fn g₁).lastResult = (s.fn g₁).lastResult) ∧
    (∀ (g₁ : Fn), ((complete c k status info s).fn g₁).badWindow = (s.fn g₁).badWindow) ∧
    (∀ (g₁ : Fn), ((complete c k status info s).fn g₁).winDrops = (s.fn g₁).winDrops) ∧
    (∀ (g₁ : Fn), ((complete c k status info s).fn g₁).bar4Gib = (s.fn g₁).bar4Gib) ∧
    (∀ (g₁ : Fn), ((complete c k status info s).fn g₁).mbxBusy = (s.fn g₁).mbxBusy) ∧
    (∀ (g₁ : Fn), ((complete c k status info s).fn g₁).mbxReady = (s.fn g₁).mbxReady) := by
  unfold complete
  split
  · simp
  · simp only []
    split
    · simp
    · split <;> simp

/-- A halt: the chain, CHAIN_HALT and the Logbook. -/
@[simp] theorem haltChain_frame (c code : Nat) (s : Part) :
    (haltChain c code s).timeUs = s.timeUs ∧
    (haltChain c code s).islands = s.islands ∧
    (haltChain c code s).bridges = s.bridges ∧
    (haltChain c code s).sched = s.sched ∧
    (haltChain c code s).man = s.man ∧
    (haltChain c code s).chainSplit = s.chainSplit ∧
    (haltChain c code s).tableGen = s.tableGen ∧
    (haltChain c code s).peerBar = s.peerBar ∧
    (haltChain c code s).subsysId = s.subsysId ∧
    (haltChain c code s).pools = s.pools ∧
    (haltChain c code s).vols = s.vols ∧
    (haltChain c code s).members = s.members ∧
    (haltChain c code s).fabric = s.fabric ∧
    (haltChain c code s).fleet = s.fleet ∧
    (haltChain c code s).toll = s.toll ∧
    (haltChain c code s).pair = s.pair ∧
    (haltChain c code s).dump = s.dump ∧
    (haltChain c code s).cal = s.cal ∧
    (haltChain c code s).fw = s.fw ∧
    (∀ (n₁ : Nat), (haltChain c code s).pool? n₁ = s.pool? n₁) ∧
    (∀ (n₁ : Nat), (haltChain c code s).charter? n₁ = s.charter? n₁) ∧
    (∀ (n₁ : Nat), (haltChain c code s).volume? n₁ = s.volume? n₁) ∧
    (∀ (n₁ : Nat), (haltChain c code s).poolOfMember n₁ = s.poolOfMember n₁) ∧
    (∀ (n₁ : Nat), (haltChain c code s).member? n₁ = s.member? n₁) ∧
    (∀ (n₁ : Nat), (haltChain c code s).chainFn n₁ = s.chainFn n₁) ∧
    (∀ (n₁ : Nat), (haltChain c code s).vol n₁ = s.vol n₁) ∧
    (∀ (i₁ : Island), (haltChain c code s).island i₁ = s.island i₁) ∧
    (∀ (i₁ : Island), (haltChain c code s).ready i₁ = s.ready i₁) ∧
    (∀ (n₁ : Nat) (n₂ : Nat), (haltChain c code s).objInt n₁ n₂ = s.objInt n₁ n₂) ∧
    (∀ (n₁ : Nat) (n₂ : Nat), (haltChain c code s).objNum n₁ n₂ = s.objNum n₁ n₂) ∧
    (∀ (n₁ : Nat) (n₂ : Nat), (haltChain c code s).objBlob n₁ n₂ = s.objBlob n₁ n₂) ∧
    (haltChain c code s).timeoutUs = s.timeoutUs ∧
    (haltChain c code s).leadTides = s.leadTides ∧
    (haltChain c code s).readsHalted = s.readsHalted ∧
    (∀ (b₁ : Bool), (haltChain c code s).writesHalted b₁ = s.writesHalted b₁) ∧
    (haltChain c code s).dict.objs = s.dict.objs ∧
    (haltChain c code s).dict.sessions = s.dict.sessions ∧
    (haltChain c code s).dict.nextSess = s.dict.nextSess ∧
    (haltChain c code s).dict.locks = s.dict.locks ∧
    (haltChain c code s).dict.creds = s.dict.creds ∧
    (haltChain c code s).dict.failTimes = s.dict.failTimes ∧
    (haltChain c code s).dict.locked = s.dict.locked ∧
    (haltChain c code s).dict.authFails = s.dict.authFails ∧
    (haltChain c code s).dict.macDrops = s.dict.macDrops ∧
    (haltChain c code s).dict.resp = s.dict.resp ∧
    (haltChain c code s).dict.canPending = s.dict.canPending ∧
    (haltChain c code s).dict.canNode = s.dict.canNode ∧
    (haltChain c code s).dict.canNom = s.dict.canNom ∧
    (haltChain c code s).dict.canData = s.dict.canData ∧
    (haltChain c code s).tow.power = s.tow.power ∧
    (haltChain c code s).tow.sense = s.tow.sense ∧
    (haltChain c code s).tow.flags = s.tow.flags ∧
    (haltChain c code s).tow.dieC = s.tow.dieC ∧
    (haltChain c code s).tow.energyMj = s.tow.energyMj ∧
    (haltChain c code s).tow.capMf = s.tow.capMf ∧
    (haltChain c code s).tow.esrMohm = s.tow.esrMohm ∧
    (haltChain c code s).tow.store = s.tow.store ∧
    (haltChain c code s).tow.storeUnder = s.tow.storeUnder ∧
    (haltChain c code s).tow.testDue = s.tow.testDue ∧
    (haltChain c code s).tow.braceCount = s.tow.braceCount ∧
    (haltChain c code s).tow.tripped = s.tow.tripped ∧
    (haltChain c code s).tow.wakeCause = s.tow.wakeCause ∧
    (haltChain c code s).tow.wakePending = s.tow.wakePending ∧
    (haltChain c code s).tow.schedNext = s.tow.schedNext ∧
    (haltChain c code s).tow.sleepRefused = s.tow.sleepRefused ∧
    (haltChain c code s).tow.sleeping = s.tow.sleeping ∧
    (haltChain c code s).tow.coreEn = s.tow.coreEn ∧
    (haltChain c code s).tow.chgEn = s.tow.chgEn ∧
    (haltChain c code s).tow.storeTest = s.tow.storeTest ∧
    (haltChain c code s).tow.dumpActive = s.tow.dumpActive ∧
    (haltChain c code s).tow.wakeN = s.tow.wakeN ∧
    (haltChain c code s).tow.coldHeld = s.tow.coldHeld ∧
    (haltChain c code s).tow.afterDump = s.tow.afterDump ∧
    (haltChain c code s).tow.limitsWait = s.tow.limitsWait ∧
    (haltChain c code s).tow.tap = s.tow.tap ∧
    (∀ (g₁ : Fn), ((haltChain c code s).fn g₁).bme = (s.fn g₁).bme) ∧
    (∀ (g₁ : Fn), ((haltChain c code s).fn g₁).mse = (s.fn g₁).mse) ∧
    (∀ (g₁ : Fn), ((haltChain c code s).fn g₁).linkUp = (s.fn g₁).linkUp) ∧
    (∀ (g₁ : Fn), ((haltChain c code s).fn g₁).d0 = (s.fn g₁).d0) ∧
    (∀ (g₁ : Fn), ((haltChain c code s).fn g₁).retry = (s.fn g₁).retry) ∧
    (∀ (g₁ : Fn), ((haltChain c code s).fn g₁).perst = (s.fn g₁).perst) ∧
    (∀ (g₁ : Fn), ((haltChain c code s).fn g₁).enable = (s.fn g₁).enable) ∧
    (∀ (g₁ : Fn), ((haltChain c code s).fn g₁).bmeDiscards = (s.fn g₁).bmeDiscards) ∧
    (∀ (g₁ : Fn), ((haltChain c code s).fn g₁).chainSel = (s.fn g₁).chainSel) ∧
    (∀ (g₁ : Fn), ((haltChain c code s).fn g₁).cmdBusy = (s.fn g₁).cmdBusy) ∧
    (∀ (g₁ : Fn), ((haltChain c code s).fn g₁).cmdResult = (s.fn g₁).cmdResult) ∧
    (∀ (g₁ : Fn), ((haltChain c code s).fn g₁).cmdReason = (s.fn g₁).cmdReason) ∧
    (∀ (g₁ : Fn), ((haltChain c code s).fn g₁).cmdHeld = (s.fn g₁).cmdHeld) ∧
    (∀ (g₁ : Fn), ((haltChain c code s).fn g₁).msixOn = (s.fn g₁).msixOn) ∧
    (∀ (g₁ : Fn), ((haltChain c code s).fn g₁).fnMask = (s.fn g₁).fnMask) ∧
    (∀ (g₁ : Fn), ((haltChain c code s).fn g₁).unmasked = (s.fn g₁).unmasked) ∧
    (∀ (g₁ : Fn), ((haltChain c code s).fn g₁).modCount = (s.fn g₁).modCount) ∧
    (∀ (g₁ : Fn), ((haltChain c code s).fn g₁).shadow = (s.fn g₁).shadow) ∧
    (∀ (g₁ : Fn), ((haltChain c code s).fn g₁).active = (s.fn g₁).active) ∧
    (∀ (g₁ : Fn), ((haltChain c code s).fn g₁).latched = (s.fn g₁).latched) ∧
    (∀ (g₁ : Fn), ((haltChain c code s).fn g₁).commits = (s.fn g₁).commits) ∧
    (∀ (g₁ : Fn), ((haltChain c code s).fn g₁).lastResult = (s.fn g₁).lastResult) ∧
    (∀ (g₁ : Fn), ((haltChain c code s).fn g₁).badWindow = (s.fn g₁).badWindow) ∧
    (∀ (g₁ : Fn), ((haltChain c code s).fn g₁).winDrops = (s.fn g₁).winDrops) ∧
    (∀ (g₁ : Fn), ((haltChain c code s).fn g₁).bar4Gib = (s.fn g₁).bar4Gib) ∧
    (∀ (g₁ : Fn), ((haltChain c code s).fn g₁).mbxBusy = (s.fn g₁).mbxBusy) ∧
    (∀ (g₁ : Fn), ((haltChain c code s).fn g₁).mbxReady = (s.fn g₁).mbxReady) := by
  simp [haltChain, Part.objInt, Part.objNum, Part.objBlob, Part.timeoutUs, Part.leadTides, Part.chainFn]

@[simp] theorem queueProposal_frame (ch : PairChange) (t : Option Nat) (s : Part) :
    (queueProposal ch t s).timeUs = s.timeUs ∧
    (queueProposal ch t s).islands = s.islands ∧
    (queueProposal ch t s).bridges = s.bridges ∧
    (queueProposal ch t s).sched = s.sched ∧
    (queueProposal ch t s).man = s.man ∧
    (queueProposal ch t s).chains = s.chains ∧
    (queueProposal ch t s).fn0 = s.fn0 ∧
    (queueProposal ch t s).fn1 = s.fn1 ∧
    (queueProposal ch t s).chainSplit = s.chainSplit ∧
    (queueProposal ch t s).tableGen = s.tableGen ∧
    (queueProposal ch t s).peerBar = s.peerBar ∧
    (queueProposal ch t s).subsysId = s.subsysId ∧
    (queueProposal ch t s).pools = s.pools ∧
    (queueProposal ch t s).vols = s.vols ∧
    (queueProposal ch t s).members = s.members ∧
    (queueProposal ch t s).fabric = s.fabric ∧
    (queueProposal ch t s).fleet = s.fleet ∧
    (queueProposal ch t s).toll = s.toll ∧
    (queueProposal ch t s).tow = s.tow ∧
    (queueProposal ch t s).dump = s.dump ∧
    (queueProposal ch t s).cal = s.cal ∧
    (queueProposal ch t s).dict = s.dict ∧
    (queueProposal ch t s).fw = s.fw ∧
    (queueProposal ch t s).log = s.log ∧
    (queueProposal ch t s).out = s.out ∧
    (∀ (n₁ : Nat), (queueProposal ch t s).pool? n₁ = s.pool? n₁) ∧
    (∀ (n₁ : Nat), (queueProposal ch t s).charter? n₁ = s.charter? n₁) ∧
    (∀ (n₁ : Nat), (queueProposal ch t s).volume? n₁ = s.volume? n₁) ∧
    (∀ (n₁ : Nat), (queueProposal ch t s).poolOfMember n₁ = s.poolOfMember n₁) ∧
    (∀ (n₁ : Nat), (queueProposal ch t s).member? n₁ = s.member? n₁) ∧
    (∀ (n₁ : Nat), (queueProposal ch t s).chain n₁ = s.chain n₁) ∧
    (∀ (n₁ : Nat) (h₁ : BitVec 32), (queueProposal ch t s).cmd? n₁ h₁ = s.cmd? n₁ h₁) ∧
    (∀ (n₁ : Nat), (queueProposal ch t s).chainFn n₁ = s.chainFn n₁) ∧
    (∀ (g₁ : Fn), (queueProposal ch t s).fn g₁ = s.fn g₁) ∧
    (∀ (n₁ : Nat), (queueProposal ch t s).vol n₁ = s.vol n₁) ∧
    (∀ (i₁ : Island), (queueProposal ch t s).island i₁ = s.island i₁) ∧
    (∀ (i₁ : Island), (queueProposal ch t s).ready i₁ = s.ready i₁) ∧
    (∀ (n₁ : Nat) (n₂ : Nat), (queueProposal ch t s).objInt n₁ n₂ = s.objInt n₁ n₂) ∧
    (∀ (n₁ : Nat) (n₂ : Nat), (queueProposal ch t s).objNum n₁ n₂ = s.objNum n₁ n₂) ∧
    (∀ (n₁ : Nat) (n₂ : Nat), (queueProposal ch t s).objBlob n₁ n₂ = s.objBlob n₁ n₂) ∧
    (queueProposal ch t s).timeoutUs = s.timeoutUs ∧
    (queueProposal ch t s).leadTides = s.leadTides ∧
    (queueProposal ch t s).readsHalted = s.readsHalted ∧
    (∀ (b₁ : Bool), (queueProposal ch t s).writesHalted b₁ = s.writesHalted b₁) := by
  simp [queueProposal]

@[simp] theorem sendProposal_frame (ch : PairChange) (tide : Nat) (s : Part) :
    (sendProposal ch tide s).timeUs = s.timeUs ∧
    (sendProposal ch tide s).islands = s.islands ∧
    (sendProposal ch tide s).bridges = s.bridges ∧
    (sendProposal ch tide s).sched = s.sched ∧
    (sendProposal ch tide s).man = s.man ∧
    (sendProposal ch tide s).chains = s.chains ∧
    (sendProposal ch tide s).fn0 = s.fn0 ∧
    (sendProposal ch tide s).fn1 = s.fn1 ∧
    (sendProposal ch tide s).chainSplit = s.chainSplit ∧
    (sendProposal ch tide s).tableGen = s.tableGen ∧
    (sendProposal ch tide s).peerBar = s.peerBar ∧
    (sendProposal ch tide s).subsysId = s.subsysId ∧
    (sendProposal ch tide s).vols = s.vols ∧
    (sendProposal ch tide s).members = s.members ∧
    (sendProposal ch tide s).fabric = s.fabric ∧
    (sendProposal ch tide s).fleet = s.fleet ∧
    (sendProposal ch tide s).toll = s.toll ∧
    (sendProposal ch tide s).tow = s.tow ∧
    (sendProposal ch tide s).dump = s.dump ∧
    (sendProposal ch tide s).cal = s.cal ∧
    (sendProposal ch tide s).dict = s.dict ∧
    (sendProposal ch tide s).fw = s.fw ∧
    (sendProposal ch tide s).log = s.log ∧
    (∀ (n₁ : Nat), (sendProposal ch tide s).member? n₁ = s.member? n₁) ∧
    (∀ (n₁ : Nat), (sendProposal ch tide s).chain n₁ = s.chain n₁) ∧
    (∀ (n₁ : Nat) (h₁ : BitVec 32), (sendProposal ch tide s).cmd? n₁ h₁ = s.cmd? n₁ h₁) ∧
    (∀ (n₁ : Nat), (sendProposal ch tide s).chainFn n₁ = s.chainFn n₁) ∧
    (∀ (g₁ : Fn), (sendProposal ch tide s).fn g₁ = s.fn g₁) ∧
    (∀ (n₁ : Nat), (sendProposal ch tide s).vol n₁ = s.vol n₁) ∧
    (∀ (i₁ : Island), (sendProposal ch tide s).island i₁ = s.island i₁) ∧
    (∀ (i₁ : Island), (sendProposal ch tide s).ready i₁ = s.ready i₁) ∧
    (∀ (n₁ : Nat) (n₂ : Nat), (sendProposal ch tide s).objInt n₁ n₂ = s.objInt n₁ n₂) ∧
    (∀ (n₁ : Nat) (n₂ : Nat), (sendProposal ch tide s).objNum n₁ n₂ = s.objNum n₁ n₂) ∧
    (∀ (n₁ : Nat) (n₂ : Nat), (sendProposal ch tide s).objBlob n₁ n₂ = s.objBlob n₁ n₂) ∧
    (sendProposal ch tide s).timeoutUs = s.timeoutUs ∧
    (sendProposal ch tide s).leadTides = s.leadTides ∧
    (sendProposal ch tide s).readsHalted = s.readsHalted ∧
    (∀ (b₁ : Bool), (sendProposal ch tide s).writesHalted b₁ = s.writesHalted b₁) := by
  unfold sendProposal
  cases ch <;> simp [strictMeanwhile]

@[simp] theorem proposeAt_frame (ch : PairChange) (tide : Nat) (s : Part) :
    (proposeAt ch tide s).timeUs = s.timeUs ∧
    (proposeAt ch tide s).islands = s.islands ∧
    (proposeAt ch tide s).bridges = s.bridges ∧
    (proposeAt ch tide s).sched = s.sched ∧
    (proposeAt ch tide s).man = s.man ∧
    (proposeAt ch tide s).chains = s.chains ∧
    (proposeAt ch tide s).fn0 = s.fn0 ∧
    (proposeAt ch tide s).fn1 = s.fn1 ∧
    (proposeAt ch tide s).chainSplit = s.chainSplit ∧
    (proposeAt ch tide s).tableGen = s.tableGen ∧
    (proposeAt ch tide s).peerBar = s.peerBar ∧
    (proposeAt ch tide s).subsysId = s.subsysId ∧
    (proposeAt ch tide s).vols = s.vols ∧
    (proposeAt ch tide s).members = s.members ∧
    (proposeAt ch tide s).fabric = s.fabric ∧
    (proposeAt ch tide s).fleet = s.fleet ∧
    (proposeAt ch tide s).toll = s.toll ∧
    (proposeAt ch tide s).tow = s.tow ∧
    (proposeAt ch tide s).dump = s.dump ∧
    (proposeAt ch tide s).cal = s.cal ∧
    (proposeAt ch tide s).dict = s.dict ∧
    (proposeAt ch tide s).fw = s.fw ∧
    (proposeAt ch tide s).log = s.log ∧
    (∀ (n₁ : Nat), (proposeAt ch tide s).member? n₁ = s.member? n₁) ∧
    (∀ (n₁ : Nat), (proposeAt ch tide s).chain n₁ = s.chain n₁) ∧
    (∀ (n₁ : Nat) (h₁ : BitVec 32), (proposeAt ch tide s).cmd? n₁ h₁ = s.cmd? n₁ h₁) ∧
    (∀ (n₁ : Nat), (proposeAt ch tide s).chainFn n₁ = s.chainFn n₁) ∧
    (∀ (g₁ : Fn), (proposeAt ch tide s).fn g₁ = s.fn g₁) ∧
    (∀ (n₁ : Nat), (proposeAt ch tide s).vol n₁ = s.vol n₁) ∧
    (∀ (i₁ : Island), (proposeAt ch tide s).island i₁ = s.island i₁) ∧
    (∀ (i₁ : Island), (proposeAt ch tide s).ready i₁ = s.ready i₁) ∧
    (∀ (n₁ : Nat) (n₂ : Nat), (proposeAt ch tide s).objInt n₁ n₂ = s.objInt n₁ n₂) ∧
    (∀ (n₁ : Nat) (n₂ : Nat), (proposeAt ch tide s).objNum n₁ n₂ = s.objNum n₁ n₂) ∧
    (∀ (n₁ : Nat) (n₂ : Nat), (proposeAt ch tide s).objBlob n₁ n₂ = s.objBlob n₁ n₂) ∧
    (proposeAt ch tide s).timeoutUs = s.timeoutUs ∧
    (proposeAt ch tide s).leadTides = s.leadTides ∧
    (proposeAt ch tide s).readsHalted = s.readsHalted ∧
    (∀ (b₁ : Bool), (proposeAt ch tide s).writesHalted b₁ = s.writesHalted b₁) := by
  unfold proposeAt
  split <;> simp

@[simp] theorem propose_frame (ch : PairChange) (s : Part) :
    (propose ch s).timeUs = s.timeUs ∧
    (propose ch s).islands = s.islands ∧
    (propose ch s).bridges = s.bridges ∧
    (propose ch s).sched = s.sched ∧
    (propose ch s).man = s.man ∧
    (propose ch s).chains = s.chains ∧
    (propose ch s).fn0 = s.fn0 ∧
    (propose ch s).fn1 = s.fn1 ∧
    (propose ch s).chainSplit = s.chainSplit ∧
    (propose ch s).tableGen = s.tableGen ∧
    (propose ch s).peerBar = s.peerBar ∧
    (propose ch s).subsysId = s.subsysId ∧
    (propose ch s).vols = s.vols ∧
    (propose ch s).members = s.members ∧
    (propose ch s).fabric = s.fabric ∧
    (propose ch s).fleet = s.fleet ∧
    (propose ch s).toll = s.toll ∧
    (propose ch s).tow = s.tow ∧
    (propose ch s).dump = s.dump ∧
    (propose ch s).cal = s.cal ∧
    (propose ch s).dict = s.dict ∧
    (propose ch s).fw = s.fw ∧
    (propose ch s).log = s.log ∧
    (∀ (n₁ : Nat), (propose ch s).member? n₁ = s.member? n₁) ∧
    (∀ (n₁ : Nat), (propose ch s).chain n₁ = s.chain n₁) ∧
    (∀ (n₁ : Nat) (h₁ : BitVec 32), (propose ch s).cmd? n₁ h₁ = s.cmd? n₁ h₁) ∧
    (∀ (n₁ : Nat), (propose ch s).chainFn n₁ = s.chainFn n₁) ∧
    (∀ (g₁ : Fn), (propose ch s).fn g₁ = s.fn g₁) ∧
    (∀ (n₁ : Nat), (propose ch s).vol n₁ = s.vol n₁) ∧
    (∀ (i₁ : Island), (propose ch s).island i₁ = s.island i₁) ∧
    (∀ (i₁ : Island), (propose ch s).ready i₁ = s.ready i₁) ∧
    (∀ (n₁ : Nat) (n₂ : Nat), (propose ch s).objInt n₁ n₂ = s.objInt n₁ n₂) ∧
    (∀ (n₁ : Nat) (n₂ : Nat), (propose ch s).objNum n₁ n₂ = s.objNum n₁ n₂) ∧
    (∀ (n₁ : Nat) (n₂ : Nat), (propose ch s).objBlob n₁ n₂ = s.objBlob n₁ n₂) ∧
    (propose ch s).timeoutUs = s.timeoutUs ∧
    (propose ch s).leadTides = s.leadTides ∧
    (propose ch s).readsHalted = s.readsHalted ∧
    (∀ (b₁ : Bool), (propose ch s).writesHalted b₁ = s.writesHalted b₁) := by
  unfold propose
  split <;> simp

@[simp] theorem proposeNext_frame (s : Part) :
    (proposeNext s).timeUs = s.timeUs ∧
    (proposeNext s).islands = s.islands ∧
    (proposeNext s).bridges = s.bridges ∧
    (proposeNext s).sched = s.sched ∧
    (proposeNext s).man = s.man ∧
    (proposeNext s).chains = s.chains ∧
    (proposeNext s).fn0 = s.fn0 ∧
    (proposeNext s).fn1 = s.fn1 ∧
    (proposeNext s).chainSplit = s.chainSplit ∧
    (proposeNext s).tableGen = s.tableGen ∧
    (proposeNext s).peerBar = s.peerBar ∧
    (proposeNext s).subsysId = s.subsysId ∧
    (proposeNext s).vols = s.vols ∧
    (proposeNext s).members = s.members ∧
    (proposeNext s).fabric = s.fabric ∧
    (proposeNext s).fleet = s.fleet ∧
    (proposeNext s).toll = s.toll ∧
    (proposeNext s).tow = s.tow ∧
    (proposeNext s).dump = s.dump ∧
    (proposeNext s).cal = s.cal ∧
    (proposeNext s).dict = s.dict ∧
    (proposeNext s).fw = s.fw ∧
    (proposeNext s).log = s.log ∧
    (∀ (n₁ : Nat), (proposeNext s).member? n₁ = s.member? n₁) ∧
    (∀ (n₁ : Nat), (proposeNext s).chain n₁ = s.chain n₁) ∧
    (∀ (n₁ : Nat) (h₁ : BitVec 32), (proposeNext s).cmd? n₁ h₁ = s.cmd? n₁ h₁) ∧
    (∀ (n₁ : Nat), (proposeNext s).chainFn n₁ = s.chainFn n₁) ∧
    (∀ (g₁ : Fn), (proposeNext s).fn g₁ = s.fn g₁) ∧
    (∀ (n₁ : Nat), (proposeNext s).vol n₁ = s.vol n₁) ∧
    (∀ (i₁ : Island), (proposeNext s).island i₁ = s.island i₁) ∧
    (∀ (i₁ : Island), (proposeNext s).ready i₁ = s.ready i₁) ∧
    (∀ (n₁ : Nat) (n₂ : Nat), (proposeNext s).objInt n₁ n₂ = s.objInt n₁ n₂) ∧
    (∀ (n₁ : Nat) (n₂ : Nat), (proposeNext s).objNum n₁ n₂ = s.objNum n₁ n₂) ∧
    (∀ (n₁ : Nat) (n₂ : Nat), (proposeNext s).objBlob n₁ n₂ = s.objBlob n₁ n₂) ∧
    (proposeNext s).timeoutUs = s.timeoutUs ∧
    (proposeNext s).leadTides = s.leadTides ∧
    (proposeNext s).readsHalted = s.readsHalted ∧
    (∀ (b₁ : Bool), (proposeNext s).writesHalted b₁ = s.writesHalted b₁) := by
  unfold proposeNext
  split <;> simp

@[simp] theorem active_frame (s : Part) :
    (active s).timeUs = s.timeUs ∧
    (active s).islands = s.islands ∧
    (active s).bridges = s.bridges ∧
    (active s).sched = s.sched ∧
    (active s).man = s.man ∧
    (active s).chains = s.chains ∧
    (active s).fn0 = s.fn0 ∧
    (active s).fn1 = s.fn1 ∧
    (active s).chainSplit = s.chainSplit ∧
    (active s).tableGen = s.tableGen ∧
    (active s).peerBar = s.peerBar ∧
    (active s).subsysId = s.subsysId ∧
    (active s).pools = s.pools ∧
    (active s).vols = s.vols ∧
    (active s).members = s.members ∧
    (active s).fabric = s.fabric ∧
    (active s).fleet = s.fleet ∧
    (active s).toll = s.toll ∧
    (active s).pair = s.pair ∧
    (active s).dump = s.dump ∧
    (active s).cal = s.cal ∧
    (active s).dict = s.dict ∧
    (active s).fw = s.fw ∧
    (active s).log = s.log ∧
    (active s).out = s.out ∧
    (∀ (n₁ : Nat), (active s).pool? n₁ = s.pool? n₁) ∧
    (∀ (n₁ : Nat), (active s).charter? n₁ = s.charter? n₁) ∧
    (∀ (n₁ : Nat), (active s).volume? n₁ = s.volume? n₁) ∧
    (∀ (n₁ : Nat), (active s).poolOfMember n₁ = s.poolOfMember n₁) ∧
    (∀ (n₁ : Nat), (active s).member? n₁ = s.member? n₁) ∧
    (∀ (n₁ : Nat), (active s).chain n₁ = s.chain n₁) ∧
    (∀ (n₁ : Nat) (h₁ : BitVec 32), (active s).cmd? n₁ h₁ = s.cmd? n₁ h₁) ∧
    (∀ (n₁ : Nat), (active s).chainFn n₁ = s.chainFn n₁) ∧
    (∀ (g₁ : Fn), (active s).fn g₁ = s.fn g₁) ∧
    (∀ (n₁ : Nat), (active s).vol n₁ = s.vol n₁) ∧
    (∀ (i₁ : Island), (active s).island i₁ = s.island i₁) ∧
    (∀ (i₁ : Island), (active s).ready i₁ = s.ready i₁) ∧
    (∀ (n₁ : Nat) (n₂ : Nat), (active s).objInt n₁ n₂ = s.objInt n₁ n₂) ∧
    (∀ (n₁ : Nat) (n₂ : Nat), (active s).objNum n₁ n₂ = s.objNum n₁ n₂) ∧
    (∀ (n₁ : Nat) (n₂ : Nat), (active s).objBlob n₁ n₂ = s.objBlob n₁ n₂) ∧
    (active s).timeoutUs = s.timeoutUs ∧
    (active s).leadTides = s.leadTides ∧
    (active s).readsHalted = s.readsHalted ∧
    (∀ (b₁ : Bool), (active s).writesHalted b₁ = s.writesHalted b₁) ∧
    (active s).tow.sense = s.tow.sense ∧
    (active s).tow.flags = s.tow.flags ∧
    (active s).tow.dieC = s.tow.dieC ∧
    (active s).tow.energyMj = s.tow.energyMj ∧
    (active s).tow.capMf = s.tow.capMf ∧
    (active s).tow.esrMohm = s.tow.esrMohm ∧
    (active s).tow.store = s.tow.store ∧
    (active s).tow.storeUnder = s.tow.storeUnder ∧
    (active s).tow.testDue = s.tow.testDue ∧
    (active s).tow.braceCount = s.tow.braceCount ∧
    (active s).tow.tripped = s.tow.tripped ∧
    (active s).tow.wakeCause = s.tow.wakeCause ∧
    (active s).tow.wakePending = s.tow.wakePending ∧
    (active s).tow.schedNext = s.tow.schedNext ∧
    (active s).tow.sleepRefused = s.tow.sleepRefused ∧
    (active s).tow.sleeping = s.tow.sleeping ∧
    (active s).tow.coreEn = s.tow.coreEn ∧
    (active s).tow.chgEn = s.tow.chgEn ∧
    (active s).tow.storeTest = s.tow.storeTest ∧
    (active s).tow.dumpActive = s.tow.dumpActive ∧
    (active s).tow.wakeN = s.tow.wakeN ∧
    (active s).tow.coldHeld = s.tow.coldHeld ∧
    (active s).tow.afterDump = s.tow.afterDump ∧
    (active s).tow.limitsWait = s.tow.limitsWait ∧
    (active s).tow.tap = s.tow.tap ∧
    (active s).tow.heldLog = s.tow.heldLog ∧
    (active s).tow.heldOver = s.tow.heldOver := by
  simp [active]

theorem propose_foldl_keeps {β : Type} (π : Part → β) (h : ∀ (c : PairChange) s, π (propose c s) = π s) (k : PoolSt → PairChange)
    (l : List PoolSt) (s : Part) : π (l.foldl (fun st p => propose (k p) st) s) = π s :=
  foldl_keeps _ π (fun s x => h (k x) s) l s

@[simp] theorem propose_foldl_frame (k : PoolSt → PairChange) (l : List PoolSt) (s : Part) :
    (l.foldl (fun st p => propose (k p) st) s).timeUs = s.timeUs ∧
    (l.foldl (fun st p => propose (k p) st) s).islands = s.islands ∧
    (l.foldl (fun st p => propose (k p) st) s).bridges = s.bridges ∧
    (l.foldl (fun st p => propose (k p) st) s).sched = s.sched ∧
    (l.foldl (fun st p => propose (k p) st) s).man = s.man ∧
    (l.foldl (fun st p => propose (k p) st) s).chains = s.chains ∧
    (l.foldl (fun st p => propose (k p) st) s).fn0 = s.fn0 ∧
    (l.foldl (fun st p => propose (k p) st) s).fn1 = s.fn1 ∧
    (l.foldl (fun st p => propose (k p) st) s).chainSplit = s.chainSplit ∧
    (l.foldl (fun st p => propose (k p) st) s).tableGen = s.tableGen ∧
    (l.foldl (fun st p => propose (k p) st) s).peerBar = s.peerBar ∧
    (l.foldl (fun st p => propose (k p) st) s).subsysId = s.subsysId ∧
    (l.foldl (fun st p => propose (k p) st) s).vols = s.vols ∧
    (l.foldl (fun st p => propose (k p) st) s).members = s.members ∧
    (l.foldl (fun st p => propose (k p) st) s).fabric = s.fabric ∧
    (l.foldl (fun st p => propose (k p) st) s).fleet = s.fleet ∧
    (l.foldl (fun st p => propose (k p) st) s).toll = s.toll ∧
    (l.foldl (fun st p => propose (k p) st) s).tow = s.tow ∧
    (l.foldl (fun st p => propose (k p) st) s).dump = s.dump ∧
    (l.foldl (fun st p => propose (k p) st) s).cal = s.cal ∧
    (l.foldl (fun st p => propose (k p) st) s).dict = s.dict ∧
    (l.foldl (fun st p => propose (k p) st) s).fw = s.fw ∧
    (l.foldl (fun st p => propose (k p) st) s).log = s.log ∧
    (∀ (n₁ : Nat), (l.foldl (fun st p => propose (k p) st) s).member? n₁ = s.member? n₁) ∧
    (∀ (n₁ : Nat), (l.foldl (fun st p => propose (k p) st) s).chain n₁ = s.chain n₁) ∧
    (∀ (n₁ : Nat) (h₁ : BitVec 32), (l.foldl (fun st p => propose (k p) st) s).cmd? n₁ h₁ = s.cmd? n₁ h₁) ∧
    (∀ (n₁ : Nat), (l.foldl (fun st p => propose (k p) st) s).chainFn n₁ = s.chainFn n₁) ∧
    (∀ (g₁ : Fn), (l.foldl (fun st p => propose (k p) st) s).fn g₁ = s.fn g₁) ∧
    (∀ (n₁ : Nat), (l.foldl (fun st p => propose (k p) st) s).vol n₁ = s.vol n₁) ∧
    (∀ (i₁ : Island), (l.foldl (fun st p => propose (k p) st) s).island i₁ = s.island i₁) ∧
    (∀ (i₁ : Island), (l.foldl (fun st p => propose (k p) st) s).ready i₁ = s.ready i₁) ∧
    (∀ (n₁ : Nat) (n₂ : Nat), (l.foldl (fun st p => propose (k p) st) s).objInt n₁ n₂ = s.objInt n₁ n₂) ∧
    (∀ (n₁ : Nat) (n₂ : Nat), (l.foldl (fun st p => propose (k p) st) s).objNum n₁ n₂ = s.objNum n₁ n₂) ∧
    (∀ (n₁ : Nat) (n₂ : Nat), (l.foldl (fun st p => propose (k p) st) s).objBlob n₁ n₂ = s.objBlob n₁ n₂) ∧
    (l.foldl (fun st p => propose (k p) st) s).timeoutUs = s.timeoutUs ∧
    (l.foldl (fun st p => propose (k p) st) s).leadTides = s.leadTides ∧
    (l.foldl (fun st p => propose (k p) st) s).readsHalted = s.readsHalted ∧
    (∀ (b₁ : Bool), (l.foldl (fun st p => propose (k p) st) s).writesHalted b₁ = s.writesHalted b₁) := by
  induction l generalizing s with
  | nil => simp
  | cons x l ih => simp [ih]

@[simp] theorem islandReady_foldl_frame (k : Island → Output) (l : List Island) (s : Part) :
    (l.foldl (fun st w => emit (k w) st) s).timeUs = s.timeUs ∧
    (l.foldl (fun st w => emit (k w) st) s).islands = s.islands ∧
    (l.foldl (fun st w => emit (k w) st) s).bridges = s.bridges ∧
    (l.foldl (fun st w => emit (k w) st) s).sched = s.sched ∧
    (l.foldl (fun st w => emit (k w) st) s).man = s.man ∧
    (l.foldl (fun st w => emit (k w) st) s).chains = s.chains ∧
    (l.foldl (fun st w => emit (k w) st) s).fn0 = s.fn0 ∧
    (l.foldl (fun st w => emit (k w) st) s).fn1 = s.fn1 ∧
    (l.foldl (fun st w => emit (k w) st) s).chainSplit = s.chainSplit ∧
    (l.foldl (fun st w => emit (k w) st) s).tableGen = s.tableGen ∧
    (l.foldl (fun st w => emit (k w) st) s).peerBar = s.peerBar ∧
    (l.foldl (fun st w => emit (k w) st) s).subsysId = s.subsysId ∧
    (l.foldl (fun st w => emit (k w) st) s).pools = s.pools ∧
    (l.foldl (fun st w => emit (k w) st) s).vols = s.vols ∧
    (l.foldl (fun st w => emit (k w) st) s).members = s.members ∧
    (l.foldl (fun st w => emit (k w) st) s).fabric = s.fabric ∧
    (l.foldl (fun st w => emit (k w) st) s).fleet = s.fleet ∧
    (l.foldl (fun st w => emit (k w) st) s).toll = s.toll ∧
    (l.foldl (fun st w => emit (k w) st) s).pair = s.pair ∧
    (l.foldl (fun st w => emit (k w) st) s).tow = s.tow ∧
    (l.foldl (fun st w => emit (k w) st) s).dump = s.dump ∧
    (l.foldl (fun st w => emit (k w) st) s).cal = s.cal ∧
    (l.foldl (fun st w => emit (k w) st) s).dict = s.dict ∧
    (l.foldl (fun st w => emit (k w) st) s).fw = s.fw ∧
    (l.foldl (fun st w => emit (k w) st) s).log = s.log ∧
    (∀ (n₁ : Nat), (l.foldl (fun st w => emit (k w) st) s).pool? n₁ = s.pool? n₁) ∧
    (∀ (n₁ : Nat), (l.foldl (fun st w => emit (k w) st) s).charter? n₁ = s.charter? n₁) ∧
    (∀ (n₁ : Nat), (l.foldl (fun st w => emit (k w) st) s).volume? n₁ = s.volume? n₁) ∧
    (∀ (n₁ : Nat), (l.foldl (fun st w => emit (k w) st) s).poolOfMember n₁ = s.poolOfMember n₁) ∧
    (∀ (n₁ : Nat), (l.foldl (fun st w => emit (k w) st) s).member? n₁ = s.member? n₁) ∧
    (∀ (n₁ : Nat), (l.foldl (fun st w => emit (k w) st) s).chain n₁ = s.chain n₁) ∧
    (∀ (n₁ : Nat) (h₁ : BitVec 32), (l.foldl (fun st w => emit (k w) st) s).cmd? n₁ h₁ = s.cmd? n₁ h₁) ∧
    (∀ (n₁ : Nat), (l.foldl (fun st w => emit (k w) st) s).chainFn n₁ = s.chainFn n₁) ∧
    (∀ (g₁ : Fn), (l.foldl (fun st w => emit (k w) st) s).fn g₁ = s.fn g₁) ∧
    (∀ (n₁ : Nat), (l.foldl (fun st w => emit (k w) st) s).vol n₁ = s.vol n₁) ∧
    (∀ (i₁ : Island), (l.foldl (fun st w => emit (k w) st) s).island i₁ = s.island i₁) ∧
    (∀ (i₁ : Island), (l.foldl (fun st w => emit (k w) st) s).ready i₁ = s.ready i₁) ∧
    (∀ (n₁ : Nat) (n₂ : Nat), (l.foldl (fun st w => emit (k w) st) s).objInt n₁ n₂ = s.objInt n₁ n₂) ∧
    (∀ (n₁ : Nat) (n₂ : Nat), (l.foldl (fun st w => emit (k w) st) s).objNum n₁ n₂ = s.objNum n₁ n₂) ∧
    (∀ (n₁ : Nat) (n₂ : Nat), (l.foldl (fun st w => emit (k w) st) s).objBlob n₁ n₂ = s.objBlob n₁ n₂) ∧
    (l.foldl (fun st w => emit (k w) st) s).timeoutUs = s.timeoutUs ∧
    (l.foldl (fun st w => emit (k w) st) s).leadTides = s.leadTides ∧
    (l.foldl (fun st w => emit (k w) st) s).readsHalted = s.readsHalted ∧
    (∀ (b₁ : Bool), (l.foldl (fun st w => emit (k w) st) s).writesHalted b₁ = s.writesHalted b₁) := by
  induction l generalizing s with
  | nil => simp
  | cons x l ih => simp [ih]

/-- A fault of the part: its status, the record, and the hand-over of paired pools. -/
@[simp] theorem faultyBy_frame (cause sub : Nat) (s : Part) :
    (faultyBy cause sub s).timeUs = s.timeUs ∧
    (faultyBy cause sub s).islands = s.islands ∧
    (faultyBy cause sub s).bridges = s.bridges ∧
    (faultyBy cause sub s).man = s.man ∧
    (faultyBy cause sub s).chains = s.chains ∧
    (faultyBy cause sub s).chainSplit = s.chainSplit ∧
    (faultyBy cause sub s).tableGen = s.tableGen ∧
    (faultyBy cause sub s).peerBar = s.peerBar ∧
    (faultyBy cause sub s).subsysId = s.subsysId ∧
    (faultyBy cause sub s).vols = s.vols ∧
    (faultyBy cause sub s).members = s.members ∧
    (faultyBy cause sub s).fabric = s.fabric ∧
    (faultyBy cause sub s).fleet = s.fleet ∧
    (faultyBy cause sub s).toll = s.toll ∧
    (faultyBy cause sub s).dump = s.dump ∧
    (faultyBy cause sub s).cal = s.cal ∧
    (faultyBy cause sub s).fw = s.fw ∧
    (∀ (n₁ : Nat), (faultyBy cause sub s).member? n₁ = s.member? n₁) ∧
    (∀ (n₁ : Nat), (faultyBy cause sub s).chain n₁ = s.chain n₁) ∧
    (∀ (n₁ : Nat) (h₁ : BitVec 32), (faultyBy cause sub s).cmd? n₁ h₁ = s.cmd? n₁ h₁) ∧
    (∀ (n₁ : Nat), (faultyBy cause sub s).chainFn n₁ = s.chainFn n₁) ∧
    (∀ (n₁ : Nat), (faultyBy cause sub s).vol n₁ = s.vol n₁) ∧
    (∀ (i₁ : Island), (faultyBy cause sub s).island i₁ = s.island i₁) ∧
    (∀ (i₁ : Island), (faultyBy cause sub s).ready i₁ = s.ready i₁) ∧
    (∀ (n₁ : Nat) (n₂ : Nat), (faultyBy cause sub s).objInt n₁ n₂ = s.objInt n₁ n₂) ∧
    (∀ (n₁ : Nat) (n₂ : Nat), (faultyBy cause sub s).objNum n₁ n₂ = s.objNum n₁ n₂) ∧
    (∀ (n₁ : Nat) (n₂ : Nat), (faultyBy cause sub s).objBlob n₁ n₂ = s.objBlob n₁ n₂) ∧
    (faultyBy cause sub s).timeoutUs = s.timeoutUs ∧
    (faultyBy cause sub s).leadTides = s.leadTides ∧
    (faultyBy cause sub s).dict.objs = s.dict.objs ∧
    (faultyBy cause sub s).dict.sessions = s.dict.sessions ∧
    (faultyBy cause sub s).dict.nextSess = s.dict.nextSess ∧
    (faultyBy cause sub s).dict.locks = s.dict.locks ∧
    (faultyBy cause sub s).dict.creds = s.dict.creds ∧
    (faultyBy cause sub s).dict.failTimes = s.dict.failTimes ∧
    (faultyBy cause sub s).dict.locked = s.dict.locked ∧
    (faultyBy cause sub s).dict.authFails = s.dict.authFails ∧
    (faultyBy cause sub s).dict.macDrops = s.dict.macDrops ∧
    (faultyBy cause sub s).dict.resp = s.dict.resp ∧
    (faultyBy cause sub s).dict.canPending = s.dict.canPending ∧
    (faultyBy cause sub s).dict.canNode = s.dict.canNode ∧
    (faultyBy cause sub s).dict.canNom = s.dict.canNom ∧
    (faultyBy cause sub s).dict.canData = s.dict.canData ∧
    (faultyBy cause sub s).tow.power = s.tow.power ∧
    (faultyBy cause sub s).tow.sense = s.tow.sense ∧
    (faultyBy cause sub s).tow.flags = s.tow.flags ∧
    (faultyBy cause sub s).tow.dieC = s.tow.dieC ∧
    (faultyBy cause sub s).tow.energyMj = s.tow.energyMj ∧
    (faultyBy cause sub s).tow.capMf = s.tow.capMf ∧
    (faultyBy cause sub s).tow.esrMohm = s.tow.esrMohm ∧
    (faultyBy cause sub s).tow.store = s.tow.store ∧
    (faultyBy cause sub s).tow.storeUnder = s.tow.storeUnder ∧
    (faultyBy cause sub s).tow.testDue = s.tow.testDue ∧
    (faultyBy cause sub s).tow.braceCount = s.tow.braceCount ∧
    (faultyBy cause sub s).tow.tripped = s.tow.tripped ∧
    (faultyBy cause sub s).tow.wakeCause = s.tow.wakeCause ∧
    (faultyBy cause sub s).tow.wakePending = s.tow.wakePending ∧
    (faultyBy cause sub s).tow.schedNext = s.tow.schedNext ∧
    (faultyBy cause sub s).tow.sleepRefused = s.tow.sleepRefused ∧
    (faultyBy cause sub s).tow.sleeping = s.tow.sleeping ∧
    (faultyBy cause sub s).tow.coreEn = s.tow.coreEn ∧
    (faultyBy cause sub s).tow.chgEn = s.tow.chgEn ∧
    (faultyBy cause sub s).tow.storeTest = s.tow.storeTest ∧
    (faultyBy cause sub s).tow.dumpActive = s.tow.dumpActive ∧
    (faultyBy cause sub s).tow.wakeN = s.tow.wakeN ∧
    (faultyBy cause sub s).tow.coldHeld = s.tow.coldHeld ∧
    (faultyBy cause sub s).tow.afterDump = s.tow.afterDump ∧
    (faultyBy cause sub s).tow.limitsWait = s.tow.limitsWait ∧
    (faultyBy cause sub s).tow.tap = s.tow.tap := by
  unfold faultyBy
  split
  · split <;> simp
  · simp only []
    split
    · simp [Part.objInt, Part.objNum, Part.objBlob, Part.timeoutUs, Part.leadTides]
    · generalize List.filter _ _ = l
      simp [propose_foldl_frame, Part.objInt, Part.objNum, Part.objBlob, Part.timeoutUs, Part.leadTides]

/-- An island ordered up: its record alone. -/
@[simp] theorem orderUp_frame (j : Island) (s : Part) :
    (orderUp j s).timeUs = s.timeUs ∧
    (orderUp j s).bridges = s.bridges ∧
    (orderUp j s).sched = s.sched ∧
    (orderUp j s).man = s.man ∧
    (orderUp j s).chains = s.chains ∧
    (orderUp j s).fn0 = s.fn0 ∧
    (orderUp j s).fn1 = s.fn1 ∧
    (orderUp j s).chainSplit = s.chainSplit ∧
    (orderUp j s).tableGen = s.tableGen ∧
    (orderUp j s).peerBar = s.peerBar ∧
    (orderUp j s).subsysId = s.subsysId ∧
    (orderUp j s).pools = s.pools ∧
    (orderUp j s).vols = s.vols ∧
    (orderUp j s).members = s.members ∧
    (orderUp j s).fabric = s.fabric ∧
    (orderUp j s).fleet = s.fleet ∧
    (orderUp j s).toll = s.toll ∧
    (orderUp j s).pair = s.pair ∧
    (orderUp j s).tow = s.tow ∧
    (orderUp j s).dump = s.dump ∧
    (orderUp j s).cal = s.cal ∧
    (orderUp j s).dict = s.dict ∧
    (orderUp j s).fw = s.fw ∧
    (orderUp j s).log = s.log ∧
    (orderUp j s).out = s.out ∧
    (∀ (n₁ : Nat), (orderUp j s).pool? n₁ = s.pool? n₁) ∧
    (∀ (n₁ : Nat), (orderUp j s).charter? n₁ = s.charter? n₁) ∧
    (∀ (n₁ : Nat), (orderUp j s).volume? n₁ = s.volume? n₁) ∧
    (∀ (n₁ : Nat), (orderUp j s).poolOfMember n₁ = s.poolOfMember n₁) ∧
    (∀ (n₁ : Nat), (orderUp j s).member? n₁ = s.member? n₁) ∧
    (∀ (n₁ : Nat), (orderUp j s).chain n₁ = s.chain n₁) ∧
    (∀ (n₁ : Nat) (h₁ : BitVec 32), (orderUp j s).cmd? n₁ h₁ = s.cmd? n₁ h₁) ∧
    (∀ (n₁ : Nat), (orderUp j s).chainFn n₁ = s.chainFn n₁) ∧
    (∀ (g₁ : Fn), (orderUp j s).fn g₁ = s.fn g₁) ∧
    (∀ (n₁ : Nat), (orderUp j s).vol n₁ = s.vol n₁) ∧
    (∀ (n₁ : Nat) (n₂ : Nat), (orderUp j s).objInt n₁ n₂ = s.objInt n₁ n₂) ∧
    (∀ (n₁ : Nat) (n₂ : Nat), (orderUp j s).objNum n₁ n₂ = s.objNum n₁ n₂) ∧
    (∀ (n₁ : Nat) (n₂ : Nat), (orderUp j s).objBlob n₁ n₂ = s.objBlob n₁ n₂) ∧
    (orderUp j s).timeoutUs = s.timeoutUs ∧
    (orderUp j s).leadTides = s.leadTides ∧
    (orderUp j s).readsHalted = s.readsHalted ∧
    (∀ (b₁ : Bool), (orderUp j s).writesHalted b₁ = s.writesHalted b₁) := by
  unfold orderUp
  split <;> simp

/-- An island that rises: its record and the notices. -/
@[simp] theorem islandUp_frame (j : Island) (s : Part) :
    (islandUp j s).timeUs = s.timeUs ∧
    (islandUp j s).bridges = s.bridges ∧
    (islandUp j s).sched = s.sched ∧
    (islandUp j s).man = s.man ∧
    (islandUp j s).chains = s.chains ∧
    (islandUp j s).fn0 = s.fn0 ∧
    (islandUp j s).fn1 = s.fn1 ∧
    (islandUp j s).chainSplit = s.chainSplit ∧
    (islandUp j s).tableGen = s.tableGen ∧
    (islandUp j s).peerBar = s.peerBar ∧
    (islandUp j s).subsysId = s.subsysId ∧
    (islandUp j s).pools = s.pools ∧
    (islandUp j s).vols = s.vols ∧
    (islandUp j s).members = s.members ∧
    (islandUp j s).fabric = s.fabric ∧
    (islandUp j s).fleet = s.fleet ∧
    (islandUp j s).toll = s.toll ∧
    (islandUp j s).pair = s.pair ∧
    (islandUp j s).tow = s.tow ∧
    (islandUp j s).dump = s.dump ∧
    (islandUp j s).cal = s.cal ∧
    (islandUp j s).dict = s.dict ∧
    (islandUp j s).fw = s.fw ∧
    (islandUp j s).log = s.log ∧
    (∀ (n₁ : Nat), (islandUp j s).pool? n₁ = s.pool? n₁) ∧
    (∀ (n₁ : Nat), (islandUp j s).charter? n₁ = s.charter? n₁) ∧
    (∀ (n₁ : Nat), (islandUp j s).volume? n₁ = s.volume? n₁) ∧
    (∀ (n₁ : Nat), (islandUp j s).poolOfMember n₁ = s.poolOfMember n₁) ∧
    (∀ (n₁ : Nat), (islandUp j s).member? n₁ = s.member? n₁) ∧
    (∀ (n₁ : Nat), (islandUp j s).chain n₁ = s.chain n₁) ∧
    (∀ (n₁ : Nat) (h₁ : BitVec 32), (islandUp j s).cmd? n₁ h₁ = s.cmd? n₁ h₁) ∧
    (∀ (n₁ : Nat), (islandUp j s).chainFn n₁ = s.chainFn n₁) ∧
    (∀ (g₁ : Fn), (islandUp j s).fn g₁ = s.fn g₁) ∧
    (∀ (n₁ : Nat), (islandUp j s).vol n₁ = s.vol n₁) ∧
    (∀ (n₁ : Nat) (n₂ : Nat), (islandUp j s).objInt n₁ n₂ = s.objInt n₁ n₂) ∧
    (∀ (n₁ : Nat) (n₂ : Nat), (islandUp j s).objNum n₁ n₂ = s.objNum n₁ n₂) ∧
    (∀ (n₁ : Nat) (n₂ : Nat), (islandUp j s).objBlob n₁ n₂ = s.objBlob n₁ n₂) ∧
    (islandUp j s).timeoutUs = s.timeoutUs ∧
    (islandUp j s).leadTides = s.leadTides ∧
    (islandUp j s).readsHalted = s.readsHalted ∧
    (∀ (b₁ : Bool), (islandUp j s).writesHalted b₁ = s.writesHalted b₁) := by
  simp [islandUp]

@[simp] theorem islandDown_frame (j : Island) (s : Part) :
    (islandDown j s).timeUs = s.timeUs ∧
    (islandDown j s).bridges = s.bridges ∧
    (islandDown j s).sched = s.sched ∧
    (islandDown j s).man = s.man ∧
    (islandDown j s).chains = s.chains ∧
    (islandDown j s).fn0 = s.fn0 ∧
    (islandDown j s).fn1 = s.fn1 ∧
    (islandDown j s).chainSplit = s.chainSplit ∧
    (islandDown j s).tableGen = s.tableGen ∧
    (islandDown j s).peerBar = s.peerBar ∧
    (islandDown j s).subsysId = s.subsysId ∧
    (islandDown j s).pools = s.pools ∧
    (islandDown j s).vols = s.vols ∧
    (islandDown j s).members = s.members ∧
    (islandDown j s).fabric = s.fabric ∧
    (islandDown j s).fleet = s.fleet ∧
    (islandDown j s).toll = s.toll ∧
    (islandDown j s).pair = s.pair ∧
    (islandDown j s).tow = s.tow ∧
    (islandDown j s).dump = s.dump ∧
    (islandDown j s).cal = s.cal ∧
    (islandDown j s).dict = s.dict ∧
    (islandDown j s).fw = s.fw ∧
    (islandDown j s).log = s.log ∧
    (islandDown j s).out = s.out ∧
    (∀ (n₁ : Nat), (islandDown j s).pool? n₁ = s.pool? n₁) ∧
    (∀ (n₁ : Nat), (islandDown j s).charter? n₁ = s.charter? n₁) ∧
    (∀ (n₁ : Nat), (islandDown j s).volume? n₁ = s.volume? n₁) ∧
    (∀ (n₁ : Nat), (islandDown j s).poolOfMember n₁ = s.poolOfMember n₁) ∧
    (∀ (n₁ : Nat), (islandDown j s).member? n₁ = s.member? n₁) ∧
    (∀ (n₁ : Nat), (islandDown j s).chain n₁ = s.chain n₁) ∧
    (∀ (n₁ : Nat) (h₁ : BitVec 32), (islandDown j s).cmd? n₁ h₁ = s.cmd? n₁ h₁) ∧
    (∀ (n₁ : Nat), (islandDown j s).chainFn n₁ = s.chainFn n₁) ∧
    (∀ (g₁ : Fn), (islandDown j s).fn g₁ = s.fn g₁) ∧
    (∀ (n₁ : Nat), (islandDown j s).vol n₁ = s.vol n₁) ∧
    (∀ (n₁ : Nat) (n₂ : Nat), (islandDown j s).objInt n₁ n₂ = s.objInt n₁ n₂) ∧
    (∀ (n₁ : Nat) (n₂ : Nat), (islandDown j s).objNum n₁ n₂ = s.objNum n₁ n₂) ∧
    (∀ (n₁ : Nat) (n₂ : Nat), (islandDown j s).objBlob n₁ n₂ = s.objBlob n₁ n₂) ∧
    (islandDown j s).timeoutUs = s.timeoutUs ∧
    (islandDown j s).leadTides = s.leadTides ∧
    (islandDown j s).readsHalted = s.readsHalted ∧
    (∀ (b₁ : Bool), (islandDown j s).writesHalted b₁ = s.writesHalted b₁) := by
  simp [islandDown]

end Sys2Proof.Machine
end

