-- ==== Sys2Proof/Laws/Dict.lean ====
section
/-! SUPPORT. The dictionary's shared operations: what an answer, a lock and a kept value change, and when a request passes. -/

namespace Sys2Proof.Machine

theorem deliver_sessions (t : Transport) (n : Nat) (b : Bytes) (s : Part) : (deliver t n b s).dict = s.dict := by
  cases t <;> simp [deliver, Part.modFn]

/-- A response leaves by the trace or a mailbox. -/
@[simp] theorem deliver_frame (t : Transport) (n : Nat) (b : Bytes) (s : Part) :
    (deliver t n b s).timeUs = s.timeUs ∧
    (deliver t n b s).islands = s.islands ∧
    (deliver t n b s).bridges = s.bridges ∧
    (deliver t n b s).sched = s.sched ∧
    (deliver t n b s).man = s.man ∧
    (deliver t n b s).chains = s.chains ∧
    (deliver t n b s).chainSplit = s.chainSplit ∧
    (deliver t n b s).tableGen = s.tableGen ∧
    (deliver t n b s).peerBar = s.peerBar ∧
    (deliver t n b s).subsysId = s.subsysId ∧
    (deliver t n b s).pools = s.pools ∧
    (deliver t n b s).vols = s.vols ∧
    (deliver t n b s).members = s.members ∧
    (deliver t n b s).fabric = s.fabric ∧
    (deliver t n b s).fleet = s.fleet ∧
    (deliver t n b s).toll = s.toll ∧
    (deliver t n b s).pair = s.pair ∧
    (deliver t n b s).tow = s.tow ∧
    (deliver t n b s).dump = s.dump ∧
    (deliver t n b s).cal = s.cal ∧
    (deliver t n b s).dict = s.dict ∧
    (deliver t n b s).fw = s.fw ∧
    (deliver t n b s).log = s.log ∧
    (∀ (n₁ : Nat), (deliver t n b s).pool? n₁ = s.pool? n₁) ∧
    (∀ (n₁ : Nat), (deliver t n b s).charter? n₁ = s.charter? n₁) ∧
    (∀ (n₁ : Nat), (deliver t n b s).volume? n₁ = s.volume? n₁) ∧
    (∀ (n₁ : Nat), (deliver t n b s).poolOfMember n₁ = s.poolOfMember n₁) ∧
    (∀ (n₁ : Nat), (deliver t n b s).member? n₁ = s.member? n₁) ∧
    (∀ (n₁ : Nat), (deliver t n b s).chain n₁ = s.chain n₁) ∧
    (∀ (n₁ : Nat) (h₁ : BitVec 32), (deliver t n b s).cmd? n₁ h₁ = s.cmd? n₁ h₁) ∧
    (∀ (n₁ : Nat), (deliver t n b s).chainFn n₁ = s.chainFn n₁) ∧
    (∀ (n₁ : Nat), (deliver t n b s).vol n₁ = s.vol n₁) ∧
    (∀ (i₁ : Island), (deliver t n b s).island i₁ = s.island i₁) ∧
    (∀ (i₁ : Island), (deliver t n b s).ready i₁ = s.ready i₁) ∧
    (∀ (n₁ : Nat) (n₂ : Nat), (deliver t n b s).objInt n₁ n₂ = s.objInt n₁ n₂) ∧
    (∀ (n₁ : Nat) (n₂ : Nat), (deliver t n b s).objNum n₁ n₂ = s.objNum n₁ n₂) ∧
    (∀ (n₁ : Nat) (n₂ : Nat), (deliver t n b s).objBlob n₁ n₂ = s.objBlob n₁ n₂) ∧
    (deliver t n b s).timeoutUs = s.timeoutUs ∧
    (deliver t n b s).leadTides = s.leadTides ∧
    (deliver t n b s).readsHalted = s.readsHalted ∧
    (∀ (b₁ : Bool), (deliver t n b s).writesHalted b₁ = s.writesHalted b₁) ∧
    (∀ (g₁ : Fn), ((deliver t n b s).fn g₁).bme = (s.fn g₁).bme) ∧
    (∀ (g₁ : Fn), ((deliver t n b s).fn g₁).mse = (s.fn g₁).mse) ∧
    (∀ (g₁ : Fn), ((deliver t n b s).fn g₁).linkUp = (s.fn g₁).linkUp) ∧
    (∀ (g₁ : Fn), ((deliver t n b s).fn g₁).d0 = (s.fn g₁).d0) ∧
    (∀ (g₁ : Fn), ((deliver t n b s).fn g₁).retry = (s.fn g₁).retry) ∧
    (∀ (g₁ : Fn), ((deliver t n b s).fn g₁).perst = (s.fn g₁).perst) ∧
    (∀ (g₁ : Fn), ((deliver t n b s).fn g₁).enable = (s.fn g₁).enable) ∧
    (∀ (g₁ : Fn), ((deliver t n b s).fn g₁).bmeDiscards = (s.fn g₁).bmeDiscards) ∧
    (∀ (g₁ : Fn), ((deliver t n b s).fn g₁).chainSel = (s.fn g₁).chainSel) ∧
    (∀ (g₁ : Fn), ((deliver t n b s).fn g₁).cmdBusy = (s.fn g₁).cmdBusy) ∧
    (∀ (g₁ : Fn), ((deliver t n b s).fn g₁).cmdResult = (s.fn g₁).cmdResult) ∧
    (∀ (g₁ : Fn), ((deliver t n b s).fn g₁).cmdReason = (s.fn g₁).cmdReason) ∧
    (∀ (g₁ : Fn), ((deliver t n b s).fn g₁).cmdHeld = (s.fn g₁).cmdHeld) ∧
    (∀ (g₁ : Fn), ((deliver t n b s).fn g₁).msixOn = (s.fn g₁).msixOn) ∧
    (∀ (g₁ : Fn), ((deliver t n b s).fn g₁).fnMask = (s.fn g₁).fnMask) ∧
    (∀ (g₁ : Fn), ((deliver t n b s).fn g₁).unmasked = (s.fn g₁).unmasked) ∧
    (∀ (g₁ : Fn), ((deliver t n b s).fn g₁).modCount = (s.fn g₁).modCount) ∧
    (∀ (g₁ : Fn), ((deliver t n b s).fn g₁).shadow = (s.fn g₁).shadow) ∧
    (∀ (g₁ : Fn), ((deliver t n b s).fn g₁).active = (s.fn g₁).active) ∧
    (∀ (g₁ : Fn), ((deliver t n b s).fn g₁).latched = (s.fn g₁).latched) ∧
    (∀ (g₁ : Fn), ((deliver t n b s).fn g₁).commits = (s.fn g₁).commits) ∧
    (∀ (g₁ : Fn), ((deliver t n b s).fn g₁).lastResult = (s.fn g₁).lastResult) ∧
    (∀ (g₁ : Fn), ((deliver t n b s).fn g₁).badWindow = (s.fn g₁).badWindow) ∧
    (∀ (g₁ : Fn), ((deliver t n b s).fn g₁).winDrops = (s.fn g₁).winDrops) ∧
    (∀ (g₁ : Fn), ((deliver t n b s).fn g₁).bar4Gib = (s.fn g₁).bar4Gib) := by
  cases t <;> simp [deliver, Part.modFn, Part.setFn_keeps]

@[simp] theorem endSession_frame (id : Nat) (s : Part) :
    (endSession id s).timeUs = s.timeUs ∧
    (endSession id s).islands = s.islands ∧
    (endSession id s).bridges = s.bridges ∧
    (endSession id s).sched = s.sched ∧
    (endSession id s).man = s.man ∧
    (endSession id s).chains = s.chains ∧
    (endSession id s).fn0 = s.fn0 ∧
    (endSession id s).fn1 = s.fn1 ∧
    (endSession id s).chainSplit = s.chainSplit ∧
    (endSession id s).tableGen = s.tableGen ∧
    (endSession id s).peerBar = s.peerBar ∧
    (endSession id s).subsysId = s.subsysId ∧
    (endSession id s).pools = s.pools ∧
    (endSession id s).vols = s.vols ∧
    (endSession id s).members = s.members ∧
    (endSession id s).fabric = s.fabric ∧
    (endSession id s).fleet = s.fleet ∧
    (endSession id s).toll = s.toll ∧
    (endSession id s).pair = s.pair ∧
    (endSession id s).tow = s.tow ∧
    (endSession id s).dump = s.dump ∧
    (endSession id s).cal = s.cal ∧
    (endSession id s).fw = s.fw ∧
    (endSession id s).log = s.log ∧
    (endSession id s).out = s.out ∧
    (∀ (n₁ : Nat), (endSession id s).pool? n₁ = s.pool? n₁) ∧
    (∀ (n₁ : Nat), (endSession id s).charter? n₁ = s.charter? n₁) ∧
    (∀ (n₁ : Nat), (endSession id s).volume? n₁ = s.volume? n₁) ∧
    (∀ (n₁ : Nat), (endSession id s).poolOfMember n₁ = s.poolOfMember n₁) ∧
    (∀ (n₁ : Nat), (endSession id s).member? n₁ = s.member? n₁) ∧
    (∀ (n₁ : Nat), (endSession id s).chain n₁ = s.chain n₁) ∧
    (∀ (n₁ : Nat) (h₁ : BitVec 32), (endSession id s).cmd? n₁ h₁ = s.cmd? n₁ h₁) ∧
    (∀ (n₁ : Nat), (endSession id s).chainFn n₁ = s.chainFn n₁) ∧
    (∀ (g₁ : Fn), (endSession id s).fn g₁ = s.fn g₁) ∧
    (∀ (n₁ : Nat), (endSession id s).vol n₁ = s.vol n₁) ∧
    (∀ (i₁ : Island), (endSession id s).island i₁ = s.island i₁) ∧
    (∀ (i₁ : Island), (endSession id s).ready i₁ = s.ready i₁) ∧
    (∀ (n₁ : Nat) (n₂ : Nat), (endSession id s).objInt n₁ n₂ = s.objInt n₁ n₂) ∧
    (∀ (n₁ : Nat) (n₂ : Nat), (endSession id s).objNum n₁ n₂ = s.objNum n₁ n₂) ∧
    (∀ (n₁ : Nat) (n₂ : Nat), (endSession id s).objBlob n₁ n₂ = s.objBlob n₁ n₂) ∧
    (endSession id s).timeoutUs = s.timeoutUs ∧
    (endSession id s).leadTides = s.leadTides ∧
    (endSession id s).readsHalted = s.readsHalted ∧
    (∀ (b₁ : Bool), (endSession id s).writesHalted b₁ = s.writesHalted b₁) ∧
    (endSession id s).dict.objs = s.dict.objs ∧
    (endSession id s).dict.nextSess = s.dict.nextSess ∧
    (endSession id s).dict.creds = s.dict.creds ∧
    (endSession id s).dict.failTimes = s.dict.failTimes ∧
    (endSession id s).dict.locked = s.dict.locked ∧
    (endSession id s).dict.authFails = s.dict.authFails ∧
    (endSession id s).dict.macDrops = s.dict.macDrops ∧
    (endSession id s).dict.resp = s.dict.resp ∧
    (endSession id s).dict.canPending = s.dict.canPending ∧
    (endSession id s).dict.canNode = s.dict.canNode ∧
    (endSession id s).dict.canNom = s.dict.canNom ∧
    (endSession id s).dict.canData = s.dict.canData ∧
    (endSession id s).dict.notified = s.dict.notified := by
  simp [endSession, Part.objInt, Part.objNum, Part.objBlob, Part.timeoutUs, Part.leadTides]

/-- An answer: the response, the session's bookkeeping, and the way it leaves. -/
@[simp] theorem respondValue_frame (q : Req) (st detail : Nat) (data : Bytes) (total : Nat) (s : Part) :
    (respondValue q st detail data total s).dict.resp = some { status := st, detail := detail, total := total, data := if st = stOk ∨ st = stPending then data else leBytes 4 detail } ∧
    (respondValue q st detail data total s).timeUs = s.timeUs ∧
    (respondValue q st detail data total s).islands = s.islands ∧
    (respondValue q st detail data total s).bridges = s.bridges ∧
    (respondValue q st detail data total s).sched = s.sched ∧
    (respondValue q st detail data total s).man = s.man ∧
    (respondValue q st detail data total s).chains = s.chains ∧
    (respondValue q st detail data total s).chainSplit = s.chainSplit ∧
    (respondValue q st detail data total s).tableGen = s.tableGen ∧
    (respondValue q st detail data total s).peerBar = s.peerBar ∧
    (respondValue q st detail data total s).subsysId = s.subsysId ∧
    (respondValue q st detail data total s).pools = s.pools ∧
    (respondValue q st detail data total s).vols = s.vols ∧
    (respondValue q st detail data total s).members = s.members ∧
    (respondValue q st detail data total s).fabric = s.fabric ∧
    (respondValue q st detail data total s).fleet = s.fleet ∧
    (respondValue q st detail data total s).toll = s.toll ∧
    (respondValue q st detail data total s).pair = s.pair ∧
    (respondValue q st detail data total s).tow = s.tow ∧
    (respondValue q st detail data total s).dump = s.dump ∧
    (respondValue q st detail data total s).cal = s.cal ∧
    (respondValue q st detail data total s).fw = s.fw ∧
    (respondValue q st detail data total s).log = s.log ∧
    (∀ (n₁ : Nat), (respondValue q st detail data total s).pool? n₁ = s.pool? n₁) ∧
    (∀ (n₁ : Nat), (respondValue q st detail data total s).charter? n₁ = s.charter? n₁) ∧
    (∀ (n₁ : Nat), (respondValue q st detail data total s).volume? n₁ = s.volume? n₁) ∧
    (∀ (n₁ : Nat), (respondValue q st detail data total s).poolOfMember n₁ = s.poolOfMember n₁) ∧
    (∀ (n₁ : Nat), (respondValue q st detail data total s).member? n₁ = s.member? n₁) ∧
    (∀ (n₁ : Nat), (respondValue q st detail data total s).chain n₁ = s.chain n₁) ∧
    (∀ (n₁ : Nat) (h₁ : BitVec 32), (respondValue q st detail data total s).cmd? n₁ h₁ = s.cmd? n₁ h₁) ∧
    (∀ (n₁ : Nat), (respondValue q st detail data total s).chainFn n₁ = s.chainFn n₁) ∧
    (∀ (n₁ : Nat), (respondValue q st detail data total s).vol n₁ = s.vol n₁) ∧
    (∀ (i₁ : Island), (respondValue q st detail data total s).island i₁ = s.island i₁) ∧
    (∀ (i₁ : Island), (respondValue q st detail data total s).ready i₁ = s.ready i₁) ∧
    (∀ (n₁ : Nat) (n₂ : Nat), (respondValue q st detail data total s).objInt n₁ n₂ = s.objInt n₁ n₂) ∧
    (∀ (n₁ : Nat) (n₂ : Nat), (respondValue q st detail data total s).objNum n₁ n₂ = s.objNum n₁ n₂) ∧
    (∀ (n₁ : Nat) (n₂ : Nat), (respondValue q st detail data total s).objBlob n₁ n₂ = s.objBlob n₁ n₂) ∧
    (respondValue q st detail data total s).timeoutUs = s.timeoutUs ∧
    (respondValue q st detail data total s).leadTides = s.leadTides ∧
    (respondValue q st detail data total s).readsHalted = s.readsHalted ∧
    (∀ (b₁ : Bool), (respondValue q st detail data total s).writesHalted b₁ = s.writesHalted b₁) ∧
    (respondValue q st detail data total s).dict.objs = s.dict.objs ∧
    (respondValue q st detail data total s).dict.nextSess = s.dict.nextSess ∧
    (respondValue q st detail data total s).dict.creds = s.dict.creds ∧
    (respondValue q st detail data total s).dict.failTimes = s.dict.failTimes ∧
    (respondValue q st detail data total s).dict.locked = s.dict.locked ∧
    (respondValue q st detail data total s).dict.authFails = s.dict.authFails ∧
    (respondValue q st detail data total s).dict.macDrops = s.dict.macDrops ∧
    (respondValue q st detail data total s).dict.canPending = s.dict.canPending ∧
    (respondValue q st detail data total s).dict.canNode = s.dict.canNode ∧
    (respondValue q st detail data total s).dict.canNom = s.dict.canNom ∧
    (respondValue q st detail data total s).dict.canData = s.dict.canData ∧
    (respondValue q st detail data total s).dict.notified = s.dict.notified ∧
    (∀ (g₁ : Fn), ((respondValue q st detail data total s).fn g₁).bme = (s.fn g₁).bme) ∧
    (∀ (g₁ : Fn), ((respondValue q st detail data total s).fn g₁).mse = (s.fn g₁).mse) ∧
    (∀ (g₁ : Fn), ((respondValue q st detail data total s).fn g₁).linkUp = (s.fn g₁).linkUp) ∧
    (∀ (g₁ : Fn), ((respondValue q st detail data total s).fn g₁).d0 = (s.fn g₁).d0) ∧
    (∀ (g₁ : Fn), ((respondValue q st detail data total s).fn g₁).retry = (s.fn g₁).retry) ∧
    (∀ (g₁ : Fn), ((respondValue q st detail data total s).fn g₁).perst = (s.fn g₁).perst) ∧
    (∀ (g₁ : Fn), ((respondValue q st detail data total s).fn g₁).enable = (s.fn g₁).enable) ∧
    (∀ (g₁ : Fn), ((respondValue q st detail data total s).fn g₁).bmeDiscards = (s.fn g₁).bmeDiscards) ∧
    (∀ (g₁ : Fn), ((respondValue q st detail data total s).fn g₁).chainSel = (s.fn g₁).chainSel) ∧
    (∀ (g₁ : Fn), ((respondValue q st detail data total s).fn g₁).cmdBusy = (s.fn g₁).cmdBusy) ∧
    (∀ (g₁ : Fn), ((respondValue q st detail data total s).fn g₁).cmdResult = (s.fn g₁).cmdResult) ∧
    (∀ (g₁ : Fn), ((respondValue q st detail data total s).fn g₁).cmdReason = (s.fn g₁).cmdReason) ∧
    (∀ (g₁ : Fn), ((respondValue q st detail data total s).fn g₁).cmdHeld = (s.fn g₁).cmdHeld) ∧
    (∀ (g₁ : Fn), ((respondValue q st detail data total s).fn g₁).msixOn = (s.fn g₁).msixOn) ∧
    (∀ (g₁ : Fn), ((respondValue q st detail data total s).fn g₁).fnMask = (s.fn g₁).fnMask) ∧
    (∀ (g₁ : Fn), ((respondValue q st detail data total s).fn g₁).unmasked = (s.fn g₁).unmasked) ∧
    (∀ (g₁ : Fn), ((respondValue q st detail data total s).fn g₁).modCount = (s.fn g₁).modCount) ∧
    (∀ (g₁ : Fn), ((respondValue q st detail data total s).fn g₁).shadow = (s.fn g₁).shadow) ∧
    (∀ (g₁ : Fn), ((respondValue q st detail data total s).fn g₁).active = (s.fn g₁).active) ∧
    (∀ (g₁ : Fn), ((respondValue q st detail data total s).fn g₁).latched = (s.fn g₁).latched) ∧
    (∀ (g₁ : Fn), ((respondValue q st detail data total s).fn g₁).commits = (s.fn g₁).commits) ∧
    (∀ (g₁ : Fn), ((respondValue q st detail data total s).fn g₁).lastResult = (s.fn g₁).lastResult) ∧
    (∀ (g₁ : Fn), ((respondValue q st detail data total s).fn g₁).badWindow = (s.fn g₁).badWindow) ∧
    (∀ (g₁ : Fn), ((respondValue q st detail data total s).fn g₁).winDrops = (s.fn g₁).winDrops) ∧
    (∀ (g₁ : Fn), ((respondValue q st detail data total s).fn g₁).bar4Gib = (s.fn g₁).bar4Gib) := by
  unfold respondValue
  simp only []
  split
  · split
    · split <;> simp [Part.objInt, Part.objNum, Part.objBlob, Part.timeoutUs, Part.leadTides]
    · simp [Part.objInt, Part.objNum, Part.objBlob, Part.timeoutUs, Part.leadTides]
  · simp [Part.objInt, Part.objNum, Part.objBlob, Part.timeoutUs, Part.leadTides]

@[simp] theorem respond_frame (q : Req) (st detail : Nat) (data : Bytes) (s : Part) :
    (respond q st detail data s).dict.resp.map (·.status) = some st ∧
    (respond q st detail data s).timeUs = s.timeUs ∧
    (respond q st detail data s).islands = s.islands ∧
    (respond q st detail data s).bridges = s.bridges ∧
    (respond q st detail data s).sched = s.sched ∧
    (respond q st detail data s).man = s.man ∧
    (respond q st detail data s).chains = s.chains ∧
    (respond q st detail data s).chainSplit = s.chainSplit ∧
    (respond q st detail data s).tableGen = s.tableGen ∧
    (respond q st detail data s).peerBar = s.peerBar ∧
    (respond q st detail data s).subsysId = s.subsysId ∧
    (respond q st detail data s).pools = s.pools ∧
    (respond q st detail data s).vols = s.vols ∧
    (respond q st detail data s).members = s.members ∧
    (respond q st detail data s).fabric = s.fabric ∧
    (respond q st detail data s).fleet = s.fleet ∧
    (respond q st detail data s).toll = s.toll ∧
    (respond q st detail data s).pair = s.pair ∧
    (respond q st detail data s).tow = s.tow ∧
    (respond q st detail data s).dump = s.dump ∧
    (respond q st detail data s).cal = s.cal ∧
    (respond q st detail data s).fw = s.fw ∧
    (respond q st detail data s).log = s.log ∧
    (∀ (n₁ : Nat), (respond q st detail data s).pool? n₁ = s.pool? n₁) ∧
    (∀ (n₁ : Nat), (respond q st detail data s).charter? n₁ = s.charter? n₁) ∧
    (∀ (n₁ : Nat), (respond q st detail data s).volume? n₁ = s.volume? n₁) ∧
    (∀ (n₁ : Nat), (respond q st detail data s).poolOfMember n₁ = s.poolOfMember n₁) ∧
    (∀ (n₁ : Nat), (respond q st detail data s).member? n₁ = s.member? n₁) ∧
    (∀ (n₁ : Nat), (respond q st detail data s).chain n₁ = s.chain n₁) ∧
    (∀ (n₁ : Nat) (h₁ : BitVec 32), (respond q st detail data s).cmd? n₁ h₁ = s.cmd? n₁ h₁) ∧
    (∀ (n₁ : Nat), (respond q st detail data s).chainFn n₁ = s.chainFn n₁) ∧
    (∀ (n₁ : Nat), (respond q st detail data s).vol n₁ = s.vol n₁) ∧
    (∀ (i₁ : Island), (respond q st detail data s).island i₁ = s.island i₁) ∧
    (∀ (i₁ : Island), (respond q st detail data s).ready i₁ = s.ready i₁) ∧
    (∀ (n₁ : Nat) (n₂ : Nat), (respond q st detail data s).objInt n₁ n₂ = s.objInt n₁ n₂) ∧
    (∀ (n₁ : Nat) (n₂ : Nat), (respond q st detail data s).objNum n₁ n₂ = s.objNum n₁ n₂) ∧
    (∀ (n₁ : Nat) (n₂ : Nat), (respond q st detail data s).objBlob n₁ n₂ = s.objBlob n₁ n₂) ∧
    (respond q st detail data s).timeoutUs = s.timeoutUs ∧
    (respond q st detail data s).leadTides = s.leadTides ∧
    (respond q st detail data s).readsHalted = s.readsHalted ∧
    (∀ (b₁ : Bool), (respond q st detail data s).writesHalted b₁ = s.writesHalted b₁) ∧
    (respond q st detail data s).dict.objs = s.dict.objs ∧
    (respond q st detail data s).dict.nextSess = s.dict.nextSess ∧
    (respond q st detail data s).dict.creds = s.dict.creds ∧
    (respond q st detail data s).dict.failTimes = s.dict.failTimes ∧
    (respond q st detail data s).dict.locked = s.dict.locked ∧
    (respond q st detail data s).dict.authFails = s.dict.authFails ∧
    (respond q st detail data s).dict.macDrops = s.dict.macDrops ∧
    (respond q st detail data s).dict.canPending = s.dict.canPending ∧
    (respond q st detail data s).dict.canNode = s.dict.canNode ∧
    (respond q st detail data s).dict.canNom = s.dict.canNom ∧
    (respond q st detail data s).dict.canData = s.dict.canData ∧
    (respond q st detail data s).dict.notified = s.dict.notified ∧
    (∀ (g₁ : Fn), ((respond q st detail data s).fn g₁).bme = (s.fn g₁).bme) ∧
    (∀ (g₁ : Fn), ((respond q st detail data s).fn g₁).mse = (s.fn g₁).mse) ∧
    (∀ (g₁ : Fn), ((respond q st detail data s).fn g₁).linkUp = (s.fn g₁).linkUp) ∧
    (∀ (g₁ : Fn), ((respond q st detail data s).fn g₁).d0 = (s.fn g₁).d0) ∧
    (∀ (g₁ : Fn), ((respond q st detail data s).fn g₁).retry = (s.fn g₁).retry) ∧
    (∀ (g₁ : Fn), ((respond q st detail data s).fn g₁).perst = (s.fn g₁).perst) ∧
    (∀ (g₁ : Fn), ((respond q st detail data s).fn g₁).enable = (s.fn g₁).enable) ∧
    (∀ (g₁ : Fn), ((respond q st detail data s).fn g₁).bmeDiscards = (s.fn g₁).bmeDiscards) ∧
    (∀ (g₁ : Fn), ((respond q st detail data s).fn g₁).chainSel = (s.fn g₁).chainSel) ∧
    (∀ (g₁ : Fn), ((respond q st detail data s).fn g₁).cmdBusy = (s.fn g₁).cmdBusy) ∧
    (∀ (g₁ : Fn), ((respond q st detail data s).fn g₁).cmdResult = (s.fn g₁).cmdResult) ∧
    (∀ (g₁ : Fn), ((respond q st detail data s).fn g₁).cmdReason = (s.fn g₁).cmdReason) ∧
    (∀ (g₁ : Fn), ((respond q st detail data s).fn g₁).cmdHeld = (s.fn g₁).cmdHeld) ∧
    (∀ (g₁ : Fn), ((respond q st detail data s).fn g₁).msixOn = (s.fn g₁).msixOn) ∧
    (∀ (g₁ : Fn), ((respond q st detail data s).fn g₁).fnMask = (s.fn g₁).fnMask) ∧
    (∀ (g₁ : Fn), ((respond q st detail data s).fn g₁).unmasked = (s.fn g₁).unmasked) ∧
    (∀ (g₁ : Fn), ((respond q st detail data s).fn g₁).modCount = (s.fn g₁).modCount) ∧
    (∀ (g₁ : Fn), ((respond q st detail data s).fn g₁).shadow = (s.fn g₁).shadow) ∧
    (∀ (g₁ : Fn), ((respond q st detail data s).fn g₁).active = (s.fn g₁).active) ∧
    (∀ (g₁ : Fn), ((respond q st detail data s).fn g₁).latched = (s.fn g₁).latched) ∧
    (∀ (g₁ : Fn), ((respond q st detail data s).fn g₁).commits = (s.fn g₁).commits) ∧
    (∀ (g₁ : Fn), ((respond q st detail data s).fn g₁).lastResult = (s.fn g₁).lastResult) ∧
    (∀ (g₁ : Fn), ((respond q st detail data s).fn g₁).badWindow = (s.fn g₁).badWindow) ∧
    (∀ (g₁ : Fn), ((respond q st detail data s).fn g₁).winDrops = (s.fn g₁).winDrops) ∧
    (∀ (g₁ : Fn), ((respond q st detail data s).fn g₁).bar4Gib = (s.fn g₁).bar4Gib) := by
  simp [respond]

@[simp] theorem ok_frame (q : Req) (s : Part) :
    (ok q s).dict.resp.map (·.status) = some stOk ∧
    (ok q s).timeUs = s.timeUs ∧
    (ok q s).islands = s.islands ∧
    (ok q s).bridges = s.bridges ∧
    (ok q s).sched = s.sched ∧
    (ok q s).man = s.man ∧
    (ok q s).chains = s.chains ∧
    (ok q s).chainSplit = s.chainSplit ∧
    (ok q s).tableGen = s.tableGen ∧
    (ok q s).peerBar = s.peerBar ∧
    (ok q s).subsysId = s.subsysId ∧
    (ok q s).pools = s.pools ∧
    (ok q s).vols = s.vols ∧
    (ok q s).members = s.members ∧
    (ok q s).fabric = s.fabric ∧
    (ok q s).fleet = s.fleet ∧
    (ok q s).toll = s.toll ∧
    (ok q s).pair = s.pair ∧
    (ok q s).tow = s.tow ∧
    (ok q s).dump = s.dump ∧
    (ok q s).cal = s.cal ∧
    (ok q s).fw = s.fw ∧
    (ok q s).log = s.log ∧
    (∀ (n₁ : Nat), (ok q s).pool? n₁ = s.pool? n₁) ∧
    (∀ (n₁ : Nat), (ok q s).charter? n₁ = s.charter? n₁) ∧
    (∀ (n₁ : Nat), (ok q s).volume? n₁ = s.volume? n₁) ∧
    (∀ (n₁ : Nat), (ok q s).poolOfMember n₁ = s.poolOfMember n₁) ∧
    (∀ (n₁ : Nat), (ok q s).member? n₁ = s.member? n₁) ∧
    (∀ (n₁ : Nat), (ok q s).chain n₁ = s.chain n₁) ∧
    (∀ (n₁ : Nat) (h₁ : BitVec 32), (ok q s).cmd? n₁ h₁ = s.cmd? n₁ h₁) ∧
    (∀ (n₁ : Nat), (ok q s).chainFn n₁ = s.chainFn n₁) ∧
    (∀ (n₁ : Nat), (ok q s).vol n₁ = s.vol n₁) ∧
    (∀ (i₁ : Island), (ok q s).island i₁ = s.island i₁) ∧
    (∀ (i₁ : Island), (ok q s).ready i₁ = s.ready i₁) ∧
    (∀ (n₁ : Nat) (n₂ : Nat), (ok q s).objInt n₁ n₂ = s.objInt n₁ n₂) ∧
    (∀ (n₁ : Nat) (n₂ : Nat), (ok q s).objNum n₁ n₂ = s.objNum n₁ n₂) ∧
    (∀ (n₁ : Nat) (n₂ : Nat), (ok q s).objBlob n₁ n₂ = s.objBlob n₁ n₂) ∧
    (ok q s).timeoutUs = s.timeoutUs ∧
    (ok q s).leadTides = s.leadTides ∧
    (ok q s).readsHalted = s.readsHalted ∧
    (∀ (b₁ : Bool), (ok q s).writesHalted b₁ = s.writesHalted b₁) ∧
    (ok q s).dict.objs = s.dict.objs ∧
    (ok q s).dict.nextSess = s.dict.nextSess ∧
    (ok q s).dict.creds = s.dict.creds ∧
    (ok q s).dict.failTimes = s.dict.failTimes ∧
    (ok q s).dict.locked = s.dict.locked ∧
    (ok q s).dict.authFails = s.dict.authFails ∧
    (ok q s).dict.macDrops = s.dict.macDrops ∧
    (ok q s).dict.canPending = s.dict.canPending ∧
    (ok q s).dict.canNode = s.dict.canNode ∧
    (ok q s).dict.canNom = s.dict.canNom ∧
    (ok q s).dict.canData = s.dict.canData ∧
    (ok q s).dict.notified = s.dict.notified ∧
    (∀ (g₁ : Fn), ((ok q s).fn g₁).bme = (s.fn g₁).bme) ∧
    (∀ (g₁ : Fn), ((ok q s).fn g₁).mse = (s.fn g₁).mse) ∧
    (∀ (g₁ : Fn), ((ok q s).fn g₁).linkUp = (s.fn g₁).linkUp) ∧
    (∀ (g₁ : Fn), ((ok q s).fn g₁).d0 = (s.fn g₁).d0) ∧
    (∀ (g₁ : Fn), ((ok q s).fn g₁).retry = (s.fn g₁).retry) ∧
    (∀ (g₁ : Fn), ((ok q s).fn g₁).perst = (s.fn g₁).perst) ∧
    (∀ (g₁ : Fn), ((ok q s).fn g₁).enable = (s.fn g₁).enable) ∧
    (∀ (g₁ : Fn), ((ok q s).fn g₁).bmeDiscards = (s.fn g₁).bmeDiscards) ∧
    (∀ (g₁ : Fn), ((ok q s).fn g₁).chainSel = (s.fn g₁).chainSel) ∧
    (∀ (g₁ : Fn), ((ok q s).fn g₁).cmdBusy = (s.fn g₁).cmdBusy) ∧
    (∀ (g₁ : Fn), ((ok q s).fn g₁).cmdResult = (s.fn g₁).cmdResult) ∧
    (∀ (g₁ : Fn), ((ok q s).fn g₁).cmdReason = (s.fn g₁).cmdReason) ∧
    (∀ (g₁ : Fn), ((ok q s).fn g₁).cmdHeld = (s.fn g₁).cmdHeld) ∧
    (∀ (g₁ : Fn), ((ok q s).fn g₁).msixOn = (s.fn g₁).msixOn) ∧
    (∀ (g₁ : Fn), ((ok q s).fn g₁).fnMask = (s.fn g₁).fnMask) ∧
    (∀ (g₁ : Fn), ((ok q s).fn g₁).unmasked = (s.fn g₁).unmasked) ∧
    (∀ (g₁ : Fn), ((ok q s).fn g₁).modCount = (s.fn g₁).modCount) ∧
    (∀ (g₁ : Fn), ((ok q s).fn g₁).shadow = (s.fn g₁).shadow) ∧
    (∀ (g₁ : Fn), ((ok q s).fn g₁).active = (s.fn g₁).active) ∧
    (∀ (g₁ : Fn), ((ok q s).fn g₁).latched = (s.fn g₁).latched) ∧
    (∀ (g₁ : Fn), ((ok q s).fn g₁).commits = (s.fn g₁).commits) ∧
    (∀ (g₁ : Fn), ((ok q s).fn g₁).lastResult = (s.fn g₁).lastResult) ∧
    (∀ (g₁ : Fn), ((ok q s).fn g₁).badWindow = (s.fn g₁).badWindow) ∧
    (∀ (g₁ : Fn), ((ok q s).fn g₁).winDrops = (s.fn g₁).winDrops) ∧
    (∀ (g₁ : Fn), ((ok q s).fn g₁).bar4Gib = (s.fn g₁).bar4Gib) := by
  simp [ok]

@[simp] theorem refuse_frame (q : Req) (st detail : Nat) (s : Part) :
    (refuse q st detail s).dict.resp.map (·.status) = some st ∧
    (refuse q st detail s).timeUs = s.timeUs ∧
    (refuse q st detail s).islands = s.islands ∧
    (refuse q st detail s).bridges = s.bridges ∧
    (refuse q st detail s).sched = s.sched ∧
    (refuse q st detail s).man = s.man ∧
    (refuse q st detail s).chains = s.chains ∧
    (refuse q st detail s).chainSplit = s.chainSplit ∧
    (refuse q st detail s).tableGen = s.tableGen ∧
    (refuse q st detail s).peerBar = s.peerBar ∧
    (refuse q st detail s).subsysId = s.subsysId ∧
    (refuse q st detail s).pools = s.pools ∧
    (refuse q st detail s).vols = s.vols ∧
    (refuse q st detail s).members = s.members ∧
    (refuse q st detail s).fabric = s.fabric ∧
    (refuse q st detail s).fleet = s.fleet ∧
    (refuse q st detail s).toll = s.toll ∧
    (refuse q st detail s).pair = s.pair ∧
    (refuse q st detail s).tow = s.tow ∧
    (refuse q st detail s).dump = s.dump ∧
    (refuse q st detail s).cal = s.cal ∧
    (refuse q st detail s).fw = s.fw ∧
    (refuse q st detail s).log = s.log ∧
    (∀ (n₁ : Nat), (refuse q st detail s).pool? n₁ = s.pool? n₁) ∧
    (∀ (n₁ : Nat), (refuse q st detail s).charter? n₁ = s.charter? n₁) ∧
    (∀ (n₁ : Nat), (refuse q st detail s).volume? n₁ = s.volume? n₁) ∧
    (∀ (n₁ : Nat), (refuse q st detail s).poolOfMember n₁ = s.poolOfMember n₁) ∧
    (∀ (n₁ : Nat), (refuse q st detail s).member? n₁ = s.member? n₁) ∧
    (∀ (n₁ : Nat), (refuse q st detail s).chain n₁ = s.chain n₁) ∧
    (∀ (n₁ : Nat) (h₁ : BitVec 32), (refuse q st detail s).cmd? n₁ h₁ = s.cmd? n₁ h₁) ∧
    (∀ (n₁ : Nat), (refuse q st detail s).chainFn n₁ = s.chainFn n₁) ∧
    (∀ (n₁ : Nat), (refuse q st detail s).vol n₁ = s.vol n₁) ∧
    (∀ (i₁ : Island), (refuse q st detail s).island i₁ = s.island i₁) ∧
    (∀ (i₁ : Island), (refuse q st detail s).ready i₁ = s.ready i₁) ∧
    (∀ (n₁ : Nat) (n₂ : Nat), (refuse q st detail s).objInt n₁ n₂ = s.objInt n₁ n₂) ∧
    (∀ (n₁ : Nat) (n₂ : Nat), (refuse q st detail s).objNum n₁ n₂ = s.objNum n₁ n₂) ∧
    (∀ (n₁ : Nat) (n₂ : Nat), (refuse q st detail s).objBlob n₁ n₂ = s.objBlob n₁ n₂) ∧
    (refuse q st detail s).timeoutUs = s.timeoutUs ∧
    (refuse q st detail s).leadTides = s.leadTides ∧
    (refuse q st detail s).readsHalted = s.readsHalted ∧
    (∀ (b₁ : Bool), (refuse q st detail s).writesHalted b₁ = s.writesHalted b₁) ∧
    (refuse q st detail s).dict.objs = s.dict.objs ∧
    (refuse q st detail s).dict.nextSess = s.dict.nextSess ∧
    (refuse q st detail s).dict.creds = s.dict.creds ∧
    (refuse q st detail s).dict.failTimes = s.dict.failTimes ∧
    (refuse q st detail s).dict.locked = s.dict.locked ∧
    (refuse q st detail s).dict.authFails = s.dict.authFails ∧
    (refuse q st detail s).dict.macDrops = s.dict.macDrops ∧
    (refuse q st detail s).dict.canPending = s.dict.canPending ∧
    (refuse q st detail s).dict.canNode = s.dict.canNode ∧
    (refuse q st detail s).dict.canNom = s.dict.canNom ∧
    (refuse q st detail s).dict.canData = s.dict.canData ∧
    (refuse q st detail s).dict.notified = s.dict.notified ∧
    (∀ (g₁ : Fn), ((refuse q st detail s).fn g₁).bme = (s.fn g₁).bme) ∧
    (∀ (g₁ : Fn), ((refuse q st detail s).fn g₁).mse = (s.fn g₁).mse) ∧
    (∀ (g₁ : Fn), ((refuse q st detail s).fn g₁).linkUp = (s.fn g₁).linkUp) ∧
    (∀ (g₁ : Fn), ((refuse q st detail s).fn g₁).d0 = (s.fn g₁).d0) ∧
    (∀ (g₁ : Fn), ((refuse q st detail s).fn g₁).retry = (s.fn g₁).retry) ∧
    (∀ (g₁ : Fn), ((refuse q st detail s).fn g₁).perst = (s.fn g₁).perst) ∧
    (∀ (g₁ : Fn), ((refuse q st detail s).fn g₁).enable = (s.fn g₁).enable) ∧
    (∀ (g₁ : Fn), ((refuse q st detail s).fn g₁).bmeDiscards = (s.fn g₁).bmeDiscards) ∧
    (∀ (g₁ : Fn), ((refuse q st detail s).fn g₁).chainSel = (s.fn g₁).chainSel) ∧
    (∀ (g₁ : Fn), ((refuse q st detail s).fn g₁).cmdBusy = (s.fn g₁).cmdBusy) ∧
    (∀ (g₁ : Fn), ((refuse q st detail s).fn g₁).cmdResult = (s.fn g₁).cmdResult) ∧
    (∀ (g₁ : Fn), ((refuse q st detail s).fn g₁).cmdReason = (s.fn g₁).cmdReason) ∧
    (∀ (g₁ : Fn), ((refuse q st detail s).fn g₁).cmdHeld = (s.fn g₁).cmdHeld) ∧
    (∀ (g₁ : Fn), ((refuse q st detail s).fn g₁).msixOn = (s.fn g₁).msixOn) ∧
    (∀ (g₁ : Fn), ((refuse q st detail s).fn g₁).fnMask = (s.fn g₁).fnMask) ∧
    (∀ (g₁ : Fn), ((refuse q st detail s).fn g₁).unmasked = (s.fn g₁).unmasked) ∧
    (∀ (g₁ : Fn), ((refuse q st detail s).fn g₁).modCount = (s.fn g₁).modCount) ∧
    (∀ (g₁ : Fn), ((refuse q st detail s).fn g₁).shadow = (s.fn g₁).shadow) ∧
    (∀ (g₁ : Fn), ((refuse q st detail s).fn g₁).active = (s.fn g₁).active) ∧
    (∀ (g₁ : Fn), ((refuse q st detail s).fn g₁).latched = (s.fn g₁).latched) ∧
    (∀ (g₁ : Fn), ((refuse q st detail s).fn g₁).commits = (s.fn g₁).commits) ∧
    (∀ (g₁ : Fn), ((refuse q st detail s).fn g₁).lastResult = (s.fn g₁).lastResult) ∧
    (∀ (g₁ : Fn), ((refuse q st detail s).fn g₁).badWindow = (s.fn g₁).badWindow) ∧
    (∀ (g₁ : Fn), ((refuse q st detail s).fn g₁).winDrops = (s.fn g₁).winDrops) ∧
    (∀ (g₁ : Fn), ((refuse q st detail s).fn g₁).bar4Gib = (s.fn g₁).bar4Gib) := by
  simp [refuse]

@[simp] theorem refuseRule_frame (q : Req) (rule item : Nat) (s : Part) :
    (refuseRule q rule item s).dict.resp.map (·.status) = some stRule ∧
    (refuseRule q rule item s).timeUs = s.timeUs ∧
    (refuseRule q rule item s).islands = s.islands ∧
    (refuseRule q rule item s).bridges = s.bridges ∧
    (refuseRule q rule item s).sched = s.sched ∧
    (refuseRule q rule item s).man = s.man ∧
    (refuseRule q rule item s).chains = s.chains ∧
    (refuseRule q rule item s).chainSplit = s.chainSplit ∧
    (refuseRule q rule item s).tableGen = s.tableGen ∧
    (refuseRule q rule item s).peerBar = s.peerBar ∧
    (refuseRule q rule item s).subsysId = s.subsysId ∧
    (refuseRule q rule item s).pools = s.pools ∧
    (refuseRule q rule item s).vols = s.vols ∧
    (refuseRule q rule item s).members = s.members ∧
    (refuseRule q rule item s).fabric = s.fabric ∧
    (refuseRule q rule item s).fleet = s.fleet ∧
    (refuseRule q rule item s).toll = s.toll ∧
    (refuseRule q rule item s).pair = s.pair ∧
    (refuseRule q rule item s).tow = s.tow ∧
    (refuseRule q rule item s).dump = s.dump ∧
    (refuseRule q rule item s).cal = s.cal ∧
    (refuseRule q rule item s).fw = s.fw ∧
    (refuseRule q rule item s).log = s.log ∧
    (∀ (n₁ : Nat), (refuseRule q rule item s).pool? n₁ = s.pool? n₁) ∧
    (∀ (n₁ : Nat), (refuseRule q rule item s).charter? n₁ = s.charter? n₁) ∧
    (∀ (n₁ : Nat), (refuseRule q rule item s).volume? n₁ = s.volume? n₁) ∧
    (∀ (n₁ : Nat), (refuseRule q rule item s).poolOfMember n₁ = s.poolOfMember n₁) ∧
    (∀ (n₁ : Nat), (refuseRule q rule item s).member? n₁ = s.member? n₁) ∧
    (∀ (n₁ : Nat), (refuseRule q rule item s).chain n₁ = s.chain n₁) ∧
    (∀ (n₁ : Nat) (h₁ : BitVec 32), (refuseRule q rule item s).cmd? n₁ h₁ = s.cmd? n₁ h₁) ∧
    (∀ (n₁ : Nat), (refuseRule q rule item s).chainFn n₁ = s.chainFn n₁) ∧
    (∀ (n₁ : Nat), (refuseRule q rule item s).vol n₁ = s.vol n₁) ∧
    (∀ (i₁ : Island), (refuseRule q rule item s).island i₁ = s.island i₁) ∧
    (∀ (i₁ : Island), (refuseRule q rule item s).ready i₁ = s.ready i₁) ∧
    (∀ (n₁ : Nat) (n₂ : Nat), (refuseRule q rule item s).objInt n₁ n₂ = s.objInt n₁ n₂) ∧
    (∀ (n₁ : Nat) (n₂ : Nat), (refuseRule q rule item s).objNum n₁ n₂ = s.objNum n₁ n₂) ∧
    (∀ (n₁ : Nat) (n₂ : Nat), (refuseRule q rule item s).objBlob n₁ n₂ = s.objBlob n₁ n₂) ∧
    (refuseRule q rule item s).timeoutUs = s.timeoutUs ∧
    (refuseRule q rule item s).leadTides = s.leadTides ∧
    (refuseRule q rule item s).readsHalted = s.readsHalted ∧
    (∀ (b₁ : Bool), (refuseRule q rule item s).writesHalted b₁ = s.writesHalted b₁) ∧
    (refuseRule q rule item s).dict.objs = s.dict.objs ∧
    (refuseRule q rule item s).dict.nextSess = s.dict.nextSess ∧
    (refuseRule q rule item s).dict.creds = s.dict.creds ∧
    (refuseRule q rule item s).dict.failTimes = s.dict.failTimes ∧
    (refuseRule q rule item s).dict.locked = s.dict.locked ∧
    (refuseRule q rule item s).dict.authFails = s.dict.authFails ∧
    (refuseRule q rule item s).dict.macDrops = s.dict.macDrops ∧
    (refuseRule q rule item s).dict.canPending = s.dict.canPending ∧
    (refuseRule q rule item s).dict.canNode = s.dict.canNode ∧
    (refuseRule q rule item s).dict.canNom = s.dict.canNom ∧
    (refuseRule q rule item s).dict.canData = s.dict.canData ∧
    (refuseRule q rule item s).dict.notified = s.dict.notified ∧
    (∀ (g₁ : Fn), ((refuseRule q rule item s).fn g₁).bme = (s.fn g₁).bme) ∧
    (∀ (g₁ : Fn), ((refuseRule q rule item s).fn g₁).mse = (s.fn g₁).mse) ∧
    (∀ (g₁ : Fn), ((refuseRule q rule item s).fn g₁).linkUp = (s.fn g₁).linkUp) ∧
    (∀ (g₁ : Fn), ((refuseRule q rule item s).fn g₁).d0 = (s.fn g₁).d0) ∧
    (∀ (g₁ : Fn), ((refuseRule q rule item s).fn g₁).retry = (s.fn g₁).retry) ∧
    (∀ (g₁ : Fn), ((refuseRule q rule item s).fn g₁).perst = (s.fn g₁).perst) ∧
    (∀ (g₁ : Fn), ((refuseRule q rule item s).fn g₁).enable = (s.fn g₁).enable) ∧
    (∀ (g₁ : Fn), ((refuseRule q rule item s).fn g₁).bmeDiscards = (s.fn g₁).bmeDiscards) ∧
    (∀ (g₁ : Fn), ((refuseRule q rule item s).fn g₁).chainSel = (s.fn g₁).chainSel) ∧
    (∀ (g₁ : Fn), ((refuseRule q rule item s).fn g₁).cmdBusy = (s.fn g₁).cmdBusy) ∧
    (∀ (g₁ : Fn), ((refuseRule q rule item s).fn g₁).cmdResult = (s.fn g₁).cmdResult) ∧
    (∀ (g₁ : Fn), ((refuseRule q rule item s).fn g₁).cmdReason = (s.fn g₁).cmdReason) ∧
    (∀ (g₁ : Fn), ((refuseRule q rule item s).fn g₁).cmdHeld = (s.fn g₁).cmdHeld) ∧
    (∀ (g₁ : Fn), ((refuseRule q rule item s).fn g₁).msixOn = (s.fn g₁).msixOn) ∧
    (∀ (g₁ : Fn), ((refuseRule q rule item s).fn g₁).fnMask = (s.fn g₁).fnMask) ∧
    (∀ (g₁ : Fn), ((refuseRule q rule item s).fn g₁).unmasked = (s.fn g₁).unmasked) ∧
    (∀ (g₁ : Fn), ((refuseRule q rule item s).fn g₁).modCount = (s.fn g₁).modCount) ∧
    (∀ (g₁ : Fn), ((refuseRule q rule item s).fn g₁).shadow = (s.fn g₁).shadow) ∧
    (∀ (g₁ : Fn), ((refuseRule q rule item s).fn g₁).active = (s.fn g₁).active) ∧
    (∀ (g₁ : Fn), ((refuseRule q rule item s).fn g₁).latched = (s.fn g₁).latched) ∧
    (∀ (g₁ : Fn), ((refuseRule q rule item s).fn g₁).commits = (s.fn g₁).commits) ∧
    (∀ (g₁ : Fn), ((refuseRule q rule item s).fn g₁).lastResult = (s.fn g₁).lastResult) ∧
    (∀ (g₁ : Fn), ((refuseRule q rule item s).fn g₁).badWindow = (s.fn g₁).badWindow) ∧
    (∀ (g₁ : Fn), ((refuseRule q rule item s).fn g₁).winDrops = (s.fn g₁).winDrops) ∧
    (∀ (g₁ : Fn), ((refuseRule q rule item s).fn g₁).bar4Gib = (s.fn g₁).bar4Gib) := by
  simp [refuseRule]

@[simp] theorem refuseState_frame (q : Req) (rule item : Nat) (s : Part) :
    (refuseState q rule item s).dict.resp.map (·.status) = some stState ∧
    (refuseState q rule item s).timeUs = s.timeUs ∧
    (refuseState q rule item s).islands = s.islands ∧
    (refuseState q rule item s).bridges = s.bridges ∧
    (refuseState q rule item s).sched = s.sched ∧
    (refuseState q rule item s).man = s.man ∧
    (refuseState q rule item s).chains = s.chains ∧
    (refuseState q rule item s).chainSplit = s.chainSplit ∧
    (refuseState q rule item s).tableGen = s.tableGen ∧
    (refuseState q rule item s).peerBar = s.peerBar ∧
    (refuseState q rule item s).subsysId = s.subsysId ∧
    (refuseState q rule item s).pools = s.pools ∧
    (refuseState q rule item s).vols = s.vols ∧
    (refuseState q rule item s).members = s.members ∧
    (refuseState q rule item s).fabric = s.fabric ∧
    (refuseState q rule item s).fleet = s.fleet ∧
    (refuseState q rule item s).toll = s.toll ∧
    (refuseState q rule item s).pair = s.pair ∧
    (refuseState q rule item s).tow = s.tow ∧
    (refuseState q rule item s).dump = s.dump ∧
    (refuseState q rule item s).cal = s.cal ∧
    (refuseState q rule item s).fw = s.fw ∧
    (refuseState q rule item s).log = s.log ∧
    (∀ (n₁ : Nat), (refuseState q rule item s).pool? n₁ = s.pool? n₁) ∧
    (∀ (n₁ : Nat), (refuseState q rule item s).charter? n₁ = s.charter? n₁) ∧
    (∀ (n₁ : Nat), (refuseState q rule item s).volume? n₁ = s.volume? n₁) ∧
    (∀ (n₁ : Nat), (refuseState q rule item s).poolOfMember n₁ = s.poolOfMember n₁) ∧
    (∀ (n₁ : Nat), (refuseState q rule item s).member? n₁ = s.member? n₁) ∧
    (∀ (n₁ : Nat), (refuseState q rule item s).chain n₁ = s.chain n₁) ∧
    (∀ (n₁ : Nat) (h₁ : BitVec 32), (refuseState q rule item s).cmd? n₁ h₁ = s.cmd? n₁ h₁) ∧
    (∀ (n₁ : Nat), (refuseState q rule item s).chainFn n₁ = s.chainFn n₁) ∧
    (∀ (n₁ : Nat), (refuseState q rule item s).vol n₁ = s.vol n₁) ∧
    (∀ (i₁ : Island), (refuseState q rule item s).island i₁ = s.island i₁) ∧
    (∀ (i₁ : Island), (refuseState q rule item s).ready i₁ = s.ready i₁) ∧
    (∀ (n₁ : Nat) (n₂ : Nat), (refuseState q rule item s).objInt n₁ n₂ = s.objInt n₁ n₂) ∧
    (∀ (n₁ : Nat) (n₂ : Nat), (refuseState q rule item s).objNum n₁ n₂ = s.objNum n₁ n₂) ∧
    (∀ (n₁ : Nat) (n₂ : Nat), (refuseState q rule item s).objBlob n₁ n₂ = s.objBlob n₁ n₂) ∧
    (refuseState q rule item s).timeoutUs = s.timeoutUs ∧
    (refuseState q rule item s).leadTides = s.leadTides ∧
    (refuseState q rule item s).readsHalted = s.readsHalted ∧
    (∀ (b₁ : Bool), (refuseState q rule item s).writesHalted b₁ = s.writesHalted b₁) ∧
    (refuseState q rule item s).dict.objs = s.dict.objs ∧
    (refuseState q rule item s).dict.nextSess = s.dict.nextSess ∧
    (refuseState q rule item s).dict.creds = s.dict.creds ∧
    (refuseState q rule item s).dict.failTimes = s.dict.failTimes ∧
    (refuseState q rule item s).dict.locked = s.dict.locked ∧
    (refuseState q rule item s).dict.authFails = s.dict.authFails ∧
    (refuseState q rule item s).dict.macDrops = s.dict.macDrops ∧
    (refuseState q rule item s).dict.canPending = s.dict.canPending ∧
    (refuseState q rule item s).dict.canNode = s.dict.canNode ∧
    (refuseState q rule item s).dict.canNom = s.dict.canNom ∧
    (refuseState q rule item s).dict.canData = s.dict.canData ∧
    (refuseState q rule item s).dict.notified = s.dict.notified ∧
    (∀ (g₁ : Fn), ((refuseState q rule item s).fn g₁).bme = (s.fn g₁).bme) ∧
    (∀ (g₁ : Fn), ((refuseState q rule item s).fn g₁).mse = (s.fn g₁).mse) ∧
    (∀ (g₁ : Fn), ((refuseState q rule item s).fn g₁).linkUp = (s.fn g₁).linkUp) ∧
    (∀ (g₁ : Fn), ((refuseState q rule item s).fn g₁).d0 = (s.fn g₁).d0) ∧
    (∀ (g₁ : Fn), ((refuseState q rule item s).fn g₁).retry = (s.fn g₁).retry) ∧
    (∀ (g₁ : Fn), ((refuseState q rule item s).fn g₁).perst = (s.fn g₁).perst) ∧
    (∀ (g₁ : Fn), ((refuseState q rule item s).fn g₁).enable = (s.fn g₁).enable) ∧
    (∀ (g₁ : Fn), ((refuseState q rule item s).fn g₁).bmeDiscards = (s.fn g₁).bmeDiscards) ∧
    (∀ (g₁ : Fn), ((refuseState q rule item s).fn g₁).chainSel = (s.fn g₁).chainSel) ∧
    (∀ (g₁ : Fn), ((refuseState q rule item s).fn g₁).cmdBusy = (s.fn g₁).cmdBusy) ∧
    (∀ (g₁ : Fn), ((refuseState q rule item s).fn g₁).cmdResult = (s.fn g₁).cmdResult) ∧
    (∀ (g₁ : Fn), ((refuseState q rule item s).fn g₁).cmdReason = (s.fn g₁).cmdReason) ∧
    (∀ (g₁ : Fn), ((refuseState q rule item s).fn g₁).cmdHeld = (s.fn g₁).cmdHeld) ∧
    (∀ (g₁ : Fn), ((refuseState q rule item s).fn g₁).msixOn = (s.fn g₁).msixOn) ∧
    (∀ (g₁ : Fn), ((refuseState q rule item s).fn g₁).fnMask = (s.fn g₁).fnMask) ∧
    (∀ (g₁ : Fn), ((refuseState q rule item s).fn g₁).unmasked = (s.fn g₁).unmasked) ∧
    (∀ (g₁ : Fn), ((refuseState q rule item s).fn g₁).modCount = (s.fn g₁).modCount) ∧
    (∀ (g₁ : Fn), ((refuseState q rule item s).fn g₁).shadow = (s.fn g₁).shadow) ∧
    (∀ (g₁ : Fn), ((refuseState q rule item s).fn g₁).active = (s.fn g₁).active) ∧
    (∀ (g₁ : Fn), ((refuseState q rule item s).fn g₁).latched = (s.fn g₁).latched) ∧
    (∀ (g₁ : Fn), ((refuseState q rule item s).fn g₁).commits = (s.fn g₁).commits) ∧
    (∀ (g₁ : Fn), ((refuseState q rule item s).fn g₁).lastResult = (s.fn g₁).lastResult) ∧
    (∀ (g₁ : Fn), ((refuseState q rule item s).fn g₁).badWindow = (s.fn g₁).badWindow) ∧
    (∀ (g₁ : Fn), ((refuseState q rule item s).fn g₁).winDrops = (s.fn g₁).winDrops) ∧
    (∀ (g₁ : Fn), ((refuseState q rule item s).fn g₁).bar4Gib = (s.fn g₁).bar4Gib) := by
  simp [refuseState]

@[simp] theorem okCommit_frame (q : Req) (sc : Nat × Nat) (s : Part) :
    (okCommit q sc s).dict.resp.map (·.status) = some stOk ∧
    (okCommit q sc s).timeUs = s.timeUs ∧
    (okCommit q sc s).islands = s.islands ∧
    (okCommit q sc s).bridges = s.bridges ∧
    (okCommit q sc s).sched = s.sched ∧
    (okCommit q sc s).man = s.man ∧
    (okCommit q sc s).chains = s.chains ∧
    (okCommit q sc s).chainSplit = s.chainSplit ∧
    (okCommit q sc s).tableGen = s.tableGen ∧
    (okCommit q sc s).peerBar = s.peerBar ∧
    (okCommit q sc s).subsysId = s.subsysId ∧
    (okCommit q sc s).pools = s.pools ∧
    (okCommit q sc s).vols = s.vols ∧
    (okCommit q sc s).members = s.members ∧
    (okCommit q sc s).fabric = s.fabric ∧
    (okCommit q sc s).fleet = s.fleet ∧
    (okCommit q sc s).toll = s.toll ∧
    (okCommit q sc s).pair = s.pair ∧
    (okCommit q sc s).tow = s.tow ∧
    (okCommit q sc s).dump = s.dump ∧
    (okCommit q sc s).cal = s.cal ∧
    (okCommit q sc s).fw = s.fw ∧
    (okCommit q sc s).log = s.log ∧
    (∀ (n₁ : Nat), (okCommit q sc s).pool? n₁ = s.pool? n₁) ∧
    (∀ (n₁ : Nat), (okCommit q sc s).charter? n₁ = s.charter? n₁) ∧
    (∀ (n₁ : Nat), (okCommit q sc s).volume? n₁ = s.volume? n₁) ∧
    (∀ (n₁ : Nat), (okCommit q sc s).poolOfMember n₁ = s.poolOfMember n₁) ∧
    (∀ (n₁ : Nat), (okCommit q sc s).member? n₁ = s.member? n₁) ∧
    (∀ (n₁ : Nat), (okCommit q sc s).chain n₁ = s.chain n₁) ∧
    (∀ (n₁ : Nat) (h₁ : BitVec 32), (okCommit q sc s).cmd? n₁ h₁ = s.cmd? n₁ h₁) ∧
    (∀ (n₁ : Nat), (okCommit q sc s).chainFn n₁ = s.chainFn n₁) ∧
    (∀ (n₁ : Nat), (okCommit q sc s).vol n₁ = s.vol n₁) ∧
    (∀ (i₁ : Island), (okCommit q sc s).island i₁ = s.island i₁) ∧
    (∀ (i₁ : Island), (okCommit q sc s).ready i₁ = s.ready i₁) ∧
    (∀ (n₁ : Nat) (n₂ : Nat), (okCommit q sc s).objInt n₁ n₂ = s.objInt n₁ n₂) ∧
    (∀ (n₁ : Nat) (n₂ : Nat), (okCommit q sc s).objNum n₁ n₂ = s.objNum n₁ n₂) ∧
    (∀ (n₁ : Nat) (n₂ : Nat), (okCommit q sc s).objBlob n₁ n₂ = s.objBlob n₁ n₂) ∧
    (okCommit q sc s).timeoutUs = s.timeoutUs ∧
    (okCommit q sc s).leadTides = s.leadTides ∧
    (okCommit q sc s).readsHalted = s.readsHalted ∧
    (∀ (b₁ : Bool), (okCommit q sc s).writesHalted b₁ = s.writesHalted b₁) ∧
    (okCommit q sc s).dict.objs = s.dict.objs ∧
    (okCommit q sc s).dict.nextSess = s.dict.nextSess ∧
    (okCommit q sc s).dict.creds = s.dict.creds ∧
    (okCommit q sc s).dict.failTimes = s.dict.failTimes ∧
    (okCommit q sc s).dict.locked = s.dict.locked ∧
    (okCommit q sc s).dict.authFails = s.dict.authFails ∧
    (okCommit q sc s).dict.macDrops = s.dict.macDrops ∧
    (okCommit q sc s).dict.canPending = s.dict.canPending ∧
    (okCommit q sc s).dict.canNode = s.dict.canNode ∧
    (okCommit q sc s).dict.canNom = s.dict.canNom ∧
    (okCommit q sc s).dict.canData = s.dict.canData ∧
    (okCommit q sc s).dict.notified = s.dict.notified ∧
    (∀ (g₁ : Fn), ((okCommit q sc s).fn g₁).bme = (s.fn g₁).bme) ∧
    (∀ (g₁ : Fn), ((okCommit q sc s).fn g₁).mse = (s.fn g₁).mse) ∧
    (∀ (g₁ : Fn), ((okCommit q sc s).fn g₁).linkUp = (s.fn g₁).linkUp) ∧
    (∀ (g₁ : Fn), ((okCommit q sc s).fn g₁).d0 = (s.fn g₁).d0) ∧
    (∀ (g₁ : Fn), ((okCommit q sc s).fn g₁).retry = (s.fn g₁).retry) ∧
    (∀ (g₁ : Fn), ((okCommit q sc s).fn g₁).perst = (s.fn g₁).perst) ∧
    (∀ (g₁ : Fn), ((okCommit q sc s).fn g₁).enable = (s.fn g₁).enable) ∧
    (∀ (g₁ : Fn), ((okCommit q sc s).fn g₁).bmeDiscards = (s.fn g₁).bmeDiscards) ∧
    (∀ (g₁ : Fn), ((okCommit q sc s).fn g₁).chainSel = (s.fn g₁).chainSel) ∧
    (∀ (g₁ : Fn), ((okCommit q sc s).fn g₁).cmdBusy = (s.fn g₁).cmdBusy) ∧
    (∀ (g₁ : Fn), ((okCommit q sc s).fn g₁).cmdResult = (s.fn g₁).cmdResult) ∧
    (∀ (g₁ : Fn), ((okCommit q sc s).fn g₁).cmdReason = (s.fn g₁).cmdReason) ∧
    (∀ (g₁ : Fn), ((okCommit q sc s).fn g₁).cmdHeld = (s.fn g₁).cmdHeld) ∧
    (∀ (g₁ : Fn), ((okCommit q sc s).fn g₁).msixOn = (s.fn g₁).msixOn) ∧
    (∀ (g₁ : Fn), ((okCommit q sc s).fn g₁).fnMask = (s.fn g₁).fnMask) ∧
    (∀ (g₁ : Fn), ((okCommit q sc s).fn g₁).unmasked = (s.fn g₁).unmasked) ∧
    (∀ (g₁ : Fn), ((okCommit q sc s).fn g₁).modCount = (s.fn g₁).modCount) ∧
    (∀ (g₁ : Fn), ((okCommit q sc s).fn g₁).shadow = (s.fn g₁).shadow) ∧
    (∀ (g₁ : Fn), ((okCommit q sc s).fn g₁).active = (s.fn g₁).active) ∧
    (∀ (g₁ : Fn), ((okCommit q sc s).fn g₁).latched = (s.fn g₁).latched) ∧
    (∀ (g₁ : Fn), ((okCommit q sc s).fn g₁).commits = (s.fn g₁).commits) ∧
    (∀ (g₁ : Fn), ((okCommit q sc s).fn g₁).lastResult = (s.fn g₁).lastResult) ∧
    (∀ (g₁ : Fn), ((okCommit q sc s).fn g₁).badWindow = (s.fn g₁).badWindow) ∧
    (∀ (g₁ : Fn), ((okCommit q sc s).fn g₁).winDrops = (s.fn g₁).winDrops) ∧
    (∀ (g₁ : Fn), ((okCommit q sc s).fn g₁).bar4Gib = (s.fn g₁).bar4Gib) := by
  simp [okCommit, Part.releaseLock, Part.objInt, Part.objNum, Part.objBlob, Part.timeoutUs, Part.leadTides]

@[simp] theorem releaseLock_frame (sc : Nat × Nat) (s : Part) :
    (s.releaseLock sc).timeUs = s.timeUs ∧
    (s.releaseLock sc).islands = s.islands ∧
    (s.releaseLock sc).bridges = s.bridges ∧
    (s.releaseLock sc).sched = s.sched ∧
    (s.releaseLock sc).man = s.man ∧
    (s.releaseLock sc).chains = s.chains ∧
    (s.releaseLock sc).fn0 = s.fn0 ∧
    (s.releaseLock sc).fn1 = s.fn1 ∧
    (s.releaseLock sc).chainSplit = s.chainSplit ∧
    (s.releaseLock sc).tableGen = s.tableGen ∧
    (s.releaseLock sc).peerBar = s.peerBar ∧
    (s.releaseLock sc).subsysId = s.subsysId ∧
    (s.releaseLock sc).pools = s.pools ∧
    (s.releaseLock sc).vols = s.vols ∧
    (s.releaseLock sc).members = s.members ∧
    (s.releaseLock sc).fabric = s.fabric ∧
    (s.releaseLock sc).fleet = s.fleet ∧
    (s.releaseLock sc).toll = s.toll ∧
    (s.releaseLock sc).pair = s.pair ∧
    (s.releaseLock sc).tow = s.tow ∧
    (s.releaseLock sc).dump = s.dump ∧
    (s.releaseLock sc).cal = s.cal ∧
    (s.releaseLock sc).fw = s.fw ∧
    (s.releaseLock sc).log = s.log ∧
    (s.releaseLock sc).out = s.out ∧
    (∀ (n₁ : Nat), (s.releaseLock sc).pool? n₁ = s.pool? n₁) ∧
    (∀ (n₁ : Nat), (s.releaseLock sc).charter? n₁ = s.charter? n₁) ∧
    (∀ (n₁ : Nat), (s.releaseLock sc).volume? n₁ = s.volume? n₁) ∧
    (∀ (n₁ : Nat), (s.releaseLock sc).poolOfMember n₁ = s.poolOfMember n₁) ∧
    (∀ (n₁ : Nat), (s.releaseLock sc).member? n₁ = s.member? n₁) ∧
    (∀ (n₁ : Nat), (s.releaseLock sc).chain n₁ = s.chain n₁) ∧
    (∀ (n₁ : Nat) (h₁ : BitVec 32), (s.releaseLock sc).cmd? n₁ h₁ = s.cmd? n₁ h₁) ∧
    (∀ (n₁ : Nat), (s.releaseLock sc).chainFn n₁ = s.chainFn n₁) ∧
    (∀ (g₁ : Fn), (s.releaseLock sc).fn g₁ = s.fn g₁) ∧
    (∀ (n₁ : Nat), (s.releaseLock sc).vol n₁ = s.vol n₁) ∧
    (∀ (i₁ : Island), (s.releaseLock sc).island i₁ = s.island i₁) ∧
    (∀ (i₁ : Island), (s.releaseLock sc).ready i₁ = s.ready i₁) ∧
    (∀ (n₁ : Nat) (n₂ : Nat), (s.releaseLock sc).objInt n₁ n₂ = s.objInt n₁ n₂) ∧
    (∀ (n₁ : Nat) (n₂ : Nat), (s.releaseLock sc).objNum n₁ n₂ = s.objNum n₁ n₂) ∧
    (∀ (n₁ : Nat) (n₂ : Nat), (s.releaseLock sc).objBlob n₁ n₂ = s.objBlob n₁ n₂) ∧
    (s.releaseLock sc).timeoutUs = s.timeoutUs ∧
    (s.releaseLock sc).leadTides = s.leadTides ∧
    (s.releaseLock sc).readsHalted = s.readsHalted ∧
    (∀ (b₁ : Bool), (s.releaseLock sc).writesHalted b₁ = s.writesHalted b₁) ∧
    (s.releaseLock sc).dict.objs = s.dict.objs ∧
    (s.releaseLock sc).dict.sessions = s.dict.sessions ∧
    (s.releaseLock sc).dict.nextSess = s.dict.nextSess ∧
    (s.releaseLock sc).dict.creds = s.dict.creds ∧
    (s.releaseLock sc).dict.failTimes = s.dict.failTimes ∧
    (s.releaseLock sc).dict.locked = s.dict.locked ∧
    (s.releaseLock sc).dict.authFails = s.dict.authFails ∧
    (s.releaseLock sc).dict.macDrops = s.dict.macDrops ∧
    (s.releaseLock sc).dict.resp = s.dict.resp ∧
    (s.releaseLock sc).dict.canPending = s.dict.canPending ∧
    (s.releaseLock sc).dict.canNode = s.dict.canNode ∧
    (s.releaseLock sc).dict.canNom = s.dict.canNom ∧
    (s.releaseLock sc).dict.canData = s.dict.canData ∧
    (s.releaseLock sc).dict.notified = s.dict.notified := by
  simp [Part.releaseLock, Part.objInt, Part.objNum, Part.objBlob, Part.timeoutUs, Part.leadTides]

@[simp] theorem takeLock_frame (sc : Nat × Nat) (n : Nat) (s : Part) :
    (s.takeLock sc n).timeUs = s.timeUs ∧
    (s.takeLock sc n).islands = s.islands ∧
    (s.takeLock sc n).bridges = s.bridges ∧
    (s.takeLock sc n).sched = s.sched ∧
    (s.takeLock sc n).man = s.man ∧
    (s.takeLock sc n).chains = s.chains ∧
    (s.takeLock sc n).fn0 = s.fn0 ∧
    (s.takeLock sc n).fn1 = s.fn1 ∧
    (s.takeLock sc n).chainSplit = s.chainSplit ∧
    (s.takeLock sc n).tableGen = s.tableGen ∧
    (s.takeLock sc n).peerBar = s.peerBar ∧
    (s.takeLock sc n).subsysId = s.subsysId ∧
    (s.takeLock sc n).pools = s.pools ∧
    (s.takeLock sc n).vols = s.vols ∧
    (s.takeLock sc n).members = s.members ∧
    (s.takeLock sc n).fabric = s.fabric ∧
    (s.takeLock sc n).fleet = s.fleet ∧
    (s.takeLock sc n).toll = s.toll ∧
    (s.takeLock sc n).pair = s.pair ∧
    (s.takeLock sc n).tow = s.tow ∧
    (s.takeLock sc n).dump = s.dump ∧
    (s.takeLock sc n).cal = s.cal ∧
    (s.takeLock sc n).fw = s.fw ∧
    (s.takeLock sc n).log = s.log ∧
    (s.takeLock sc n).out = s.out ∧
    (∀ (n₁ : Nat), (s.takeLock sc n).pool? n₁ = s.pool? n₁) ∧
    (∀ (n₁ : Nat), (s.takeLock sc n).charter? n₁ = s.charter? n₁) ∧
    (∀ (n₁ : Nat), (s.takeLock sc n).volume? n₁ = s.volume? n₁) ∧
    (∀ (n₁ : Nat), (s.takeLock sc n).poolOfMember n₁ = s.poolOfMember n₁) ∧
    (∀ (n₁ : Nat), (s.takeLock sc n).member? n₁ = s.member? n₁) ∧
    (∀ (n₁ : Nat), (s.takeLock sc n).chain n₁ = s.chain n₁) ∧
    (∀ (n₁ : Nat) (h₁ : BitVec 32), (s.takeLock sc n).cmd? n₁ h₁ = s.cmd? n₁ h₁) ∧
    (∀ (n₁ : Nat), (s.takeLock sc n).chainFn n₁ = s.chainFn n₁) ∧
    (∀ (g₁ : Fn), (s.takeLock sc n).fn g₁ = s.fn g₁) ∧
    (∀ (n₁ : Nat), (s.takeLock sc n).vol n₁ = s.vol n₁) ∧
    (∀ (i₁ : Island), (s.takeLock sc n).island i₁ = s.island i₁) ∧
    (∀ (i₁ : Island), (s.takeLock sc n).ready i₁ = s.ready i₁) ∧
    (∀ (n₁ : Nat) (n₂ : Nat), (s.takeLock sc n).objInt n₁ n₂ = s.objInt n₁ n₂) ∧
    (∀ (n₁ : Nat) (n₂ : Nat), (s.takeLock sc n).objNum n₁ n₂ = s.objNum n₁ n₂) ∧
    (∀ (n₁ : Nat) (n₂ : Nat), (s.takeLock sc n).objBlob n₁ n₂ = s.objBlob n₁ n₂) ∧
    (s.takeLock sc n).timeoutUs = s.timeoutUs ∧
    (s.takeLock sc n).leadTides = s.leadTides ∧
    (s.takeLock sc n).readsHalted = s.readsHalted ∧
    (∀ (b₁ : Bool), (s.takeLock sc n).writesHalted b₁ = s.writesHalted b₁) ∧
    (s.takeLock sc n).dict.objs = s.dict.objs ∧
    (s.takeLock sc n).dict.sessions = s.dict.sessions ∧
    (s.takeLock sc n).dict.nextSess = s.dict.nextSess ∧
    (s.takeLock sc n).dict.creds = s.dict.creds ∧
    (s.takeLock sc n).dict.failTimes = s.dict.failTimes ∧
    (s.takeLock sc n).dict.locked = s.dict.locked ∧
    (s.takeLock sc n).dict.authFails = s.dict.authFails ∧
    (s.takeLock sc n).dict.macDrops = s.dict.macDrops ∧
    (s.takeLock sc n).dict.resp = s.dict.resp ∧
    (s.takeLock sc n).dict.canPending = s.dict.canPending ∧
    (s.takeLock sc n).dict.canNode = s.dict.canNode ∧
    (s.takeLock sc n).dict.canNom = s.dict.canNom ∧
    (s.takeLock sc n).dict.canData = s.dict.canData ∧
    (s.takeLock sc n).dict.notified = s.dict.notified := by
  unfold Part.takeLock
  split <;> simp [Part.objInt, Part.objNum, Part.objBlob, Part.timeoutUs, Part.leadTides]

@[simp] theorem setObjNum_dict (k₁ k₂ n : Nat) (s : Part) :
    (s.setObjNum k₁ k₂ n).timeUs = s.timeUs ∧
    (s.setObjNum k₁ k₂ n).islands = s.islands ∧
    (s.setObjNum k₁ k₂ n).bridges = s.bridges ∧
    (s.setObjNum k₁ k₂ n).sched = s.sched ∧
    (s.setObjNum k₁ k₂ n).man = s.man ∧
    (s.setObjNum k₁ k₂ n).chains = s.chains ∧
    (s.setObjNum k₁ k₂ n).fn0 = s.fn0 ∧
    (s.setObjNum k₁ k₂ n).fn1 = s.fn1 ∧
    (s.setObjNum k₁ k₂ n).chainSplit = s.chainSplit ∧
    (s.setObjNum k₁ k₂ n).tableGen = s.tableGen ∧
    (s.setObjNum k₁ k₂ n).peerBar = s.peerBar ∧
    (s.setObjNum k₁ k₂ n).subsysId = s.subsysId ∧
    (s.setObjNum k₁ k₂ n).pools = s.pools ∧
    (s.setObjNum k₁ k₂ n).vols = s.vols ∧
    (s.setObjNum k₁ k₂ n).members = s.members ∧
    (s.setObjNum k₁ k₂ n).fabric = s.fabric ∧
    (s.setObjNum k₁ k₂ n).fleet = s.fleet ∧
    (s.setObjNum k₁ k₂ n).toll = s.toll ∧
    (s.setObjNum k₁ k₂ n).pair = s.pair ∧
    (s.setObjNum k₁ k₂ n).tow = s.tow ∧
    (s.setObjNum k₁ k₂ n).dump = s.dump ∧
    (s.setObjNum k₁ k₂ n).cal = s.cal ∧
    (s.setObjNum k₁ k₂ n).fw = s.fw ∧
    (s.setObjNum k₁ k₂ n).log = s.log ∧
    (s.setObjNum k₁ k₂ n).out = s.out ∧
    (∀ (n₁ : Nat), (s.setObjNum k₁ k₂ n).pool? n₁ = s.pool? n₁) ∧
    (∀ (n₁ : Nat), (s.setObjNum k₁ k₂ n).charter? n₁ = s.charter? n₁) ∧
    (∀ (n₁ : Nat), (s.setObjNum k₁ k₂ n).volume? n₁ = s.volume? n₁) ∧
    (∀ (n₁ : Nat), (s.setObjNum k₁ k₂ n).poolOfMember n₁ = s.poolOfMember n₁) ∧
    (∀ (n₁ : Nat), (s.setObjNum k₁ k₂ n).member? n₁ = s.member? n₁) ∧
    (∀ (n₁ : Nat), (s.setObjNum k₁ k₂ n).chain n₁ = s.chain n₁) ∧
    (∀ (n₁ : Nat) (h₁ : BitVec 32), (s.setObjNum k₁ k₂ n).cmd? n₁ h₁ = s.cmd? n₁ h₁) ∧
    (∀ (n₁ : Nat), (s.setObjNum k₁ k₂ n).chainFn n₁ = s.chainFn n₁) ∧
    (∀ (g₁ : Fn), (s.setObjNum k₁ k₂ n).fn g₁ = s.fn g₁) ∧
    (∀ (n₁ : Nat), (s.setObjNum k₁ k₂ n).vol n₁ = s.vol n₁) ∧
    (∀ (i₁ : Island), (s.setObjNum k₁ k₂ n).island i₁ = s.island i₁) ∧
    (∀ (i₁ : Island), (s.setObjNum k₁ k₂ n).ready i₁ = s.ready i₁) ∧
    (s.setObjNum k₁ k₂ n).readsHalted = s.readsHalted ∧
    (∀ (b₁ : Bool), (s.setObjNum k₁ k₂ n).writesHalted b₁ = s.writesHalted b₁) ∧
    (s.setObjNum k₁ k₂ n).dict.sessions = s.dict.sessions ∧
    (s.setObjNum k₁ k₂ n).dict.nextSess = s.dict.nextSess ∧
    (s.setObjNum k₁ k₂ n).dict.locks = s.dict.locks ∧
    (s.setObjNum k₁ k₂ n).dict.creds = s.dict.creds ∧
    (s.setObjNum k₁ k₂ n).dict.failTimes = s.dict.failTimes ∧
    (s.setObjNum k₁ k₂ n).dict.locked = s.dict.locked ∧
    (s.setObjNum k₁ k₂ n).dict.authFails = s.dict.authFails ∧
    (s.setObjNum k₁ k₂ n).dict.macDrops = s.dict.macDrops ∧
    (s.setObjNum k₁ k₂ n).dict.resp = s.dict.resp ∧
    (s.setObjNum k₁ k₂ n).dict.canPending = s.dict.canPending ∧
    (s.setObjNum k₁ k₂ n).dict.canNode = s.dict.canNode ∧
    (s.setObjNum k₁ k₂ n).dict.canNom = s.dict.canNom ∧
    (s.setObjNum k₁ k₂ n).dict.canData = s.dict.canData ∧
    (s.setObjNum k₁ k₂ n).dict.notified = s.dict.notified := by
  simp [Part.setObjNum]

@[simp] theorem setObjBlob_dict (k₁ k₂ : Nat) (v : Bytes) (s : Part) :
    (s.setObjBlob k₁ k₂ v).timeUs = s.timeUs ∧
    (s.setObjBlob k₁ k₂ v).islands = s.islands ∧
    (s.setObjBlob k₁ k₂ v).bridges = s.bridges ∧
    (s.setObjBlob k₁ k₂ v).sched = s.sched ∧
    (s.setObjBlob k₁ k₂ v).man = s.man ∧
    (s.setObjBlob k₁ k₂ v).chains = s.chains ∧
    (s.setObjBlob k₁ k₂ v).fn0 = s.fn0 ∧
    (s.setObjBlob k₁ k₂ v).fn1 = s.fn1 ∧
    (s.setObjBlob k₁ k₂ v).chainSplit = s.chainSplit ∧
    (s.setObjBlob k₁ k₂ v).tableGen = s.tableGen ∧
    (s.setObjBlob k₁ k₂ v).peerBar = s.peerBar ∧
    (s.setObjBlob k₁ k₂ v).subsysId = s.subsysId ∧
    (s.setObjBlob k₁ k₂ v).pools = s.pools ∧
    (s.setObjBlob k₁ k₂ v).vols = s.vols ∧
    (s.setObjBlob k₁ k₂ v).members = s.members ∧
    (s.setObjBlob k₁ k₂ v).fabric = s.fabric ∧
    (s.setObjBlob k₁ k₂ v).fleet = s.fleet ∧
    (s.setObjBlob k₁ k₂ v).toll = s.toll ∧
    (s.setObjBlob k₁ k₂ v).pair = s.pair ∧
    (s.setObjBlob k₁ k₂ v).tow = s.tow ∧
    (s.setObjBlob k₁ k₂ v).dump = s.dump ∧
    (s.setObjBlob k₁ k₂ v).cal = s.cal ∧
    (s.setObjBlob k₁ k₂ v).fw = s.fw ∧
    (s.setObjBlob k₁ k₂ v).log = s.log ∧
    (s.setObjBlob k₁ k₂ v).out = s.out ∧
    (∀ (n₁ : Nat), (s.setObjBlob k₁ k₂ v).pool? n₁ = s.pool? n₁) ∧
    (∀ (n₁ : Nat), (s.setObjBlob k₁ k₂ v).charter? n₁ = s.charter? n₁) ∧
    (∀ (n₁ : Nat), (s.setObjBlob k₁ k₂ v).volume? n₁ = s.volume? n₁) ∧
    (∀ (n₁ : Nat), (s.setObjBlob k₁ k₂ v).poolOfMember n₁ = s.poolOfMember n₁) ∧
    (∀ (n₁ : Nat), (s.setObjBlob k₁ k₂ v).member? n₁ = s.member? n₁) ∧
    (∀ (n₁ : Nat), (s.setObjBlob k₁ k₂ v).chain n₁ = s.chain n₁) ∧
    (∀ (n₁ : Nat) (h₁ : BitVec 32), (s.setObjBlob k₁ k₂ v).cmd? n₁ h₁ = s.cmd? n₁ h₁) ∧
    (∀ (n₁ : Nat), (s.setObjBlob k₁ k₂ v).chainFn n₁ = s.chainFn n₁) ∧
    (∀ (g₁ : Fn), (s.setObjBlob k₁ k₂ v).fn g₁ = s.fn g₁) ∧
    (∀ (n₁ : Nat), (s.setObjBlob k₁ k₂ v).vol n₁ = s.vol n₁) ∧
    (∀ (i₁ : Island), (s.setObjBlob k₁ k₂ v).island i₁ = s.island i₁) ∧
    (∀ (i₁ : Island), (s.setObjBlob k₁ k₂ v).ready i₁ = s.ready i₁) ∧
    (s.setObjBlob k₁ k₂ v).readsHalted = s.readsHalted ∧
    (∀ (b₁ : Bool), (s.setObjBlob k₁ k₂ v).writesHalted b₁ = s.writesHalted b₁) ∧
    (s.setObjBlob k₁ k₂ v).dict.sessions = s.dict.sessions ∧
    (s.setObjBlob k₁ k₂ v).dict.nextSess = s.dict.nextSess ∧
    (s.setObjBlob k₁ k₂ v).dict.locks = s.dict.locks ∧
    (s.setObjBlob k₁ k₂ v).dict.creds = s.dict.creds ∧
    (s.setObjBlob k₁ k₂ v).dict.failTimes = s.dict.failTimes ∧
    (s.setObjBlob k₁ k₂ v).dict.locked = s.dict.locked ∧
    (s.setObjBlob k₁ k₂ v).dict.authFails = s.dict.authFails ∧
    (s.setObjBlob k₁ k₂ v).dict.macDrops = s.dict.macDrops ∧
    (s.setObjBlob k₁ k₂ v).dict.resp = s.dict.resp ∧
    (s.setObjBlob k₁ k₂ v).dict.canPending = s.dict.canPending ∧
    (s.setObjBlob k₁ k₂ v).dict.canNode = s.dict.canNode ∧
    (s.setObjBlob k₁ k₂ v).dict.canNom = s.dict.canNom ∧
    (s.setObjBlob k₁ k₂ v).dict.canData = s.dict.canData ∧
    (s.setObjBlob k₁ k₂ v).dict.notified = s.dict.notified := by
  simp [Part.setObjBlob]

/-- The value an action row keeps: one dictionary object. -/
@[simp] theorem keepWritten_frame (index sub v : Nat) (s : Part) :
    (keepWritten index sub v s).timeUs = s.timeUs ∧
    (keepWritten index sub v s).islands = s.islands ∧
    (keepWritten index sub v s).bridges = s.bridges ∧
    (keepWritten index sub v s).sched = s.sched ∧
    (keepWritten index sub v s).man = s.man ∧
    (keepWritten index sub v s).chains = s.chains ∧
    (keepWritten index sub v s).fn0 = s.fn0 ∧
    (keepWritten index sub v s).fn1 = s.fn1 ∧
    (keepWritten index sub v s).chainSplit = s.chainSplit ∧
    (keepWritten index sub v s).tableGen = s.tableGen ∧
    (keepWritten index sub v s).peerBar = s.peerBar ∧
    (keepWritten index sub v s).subsysId = s.subsysId ∧
    (keepWritten index sub v s).pools = s.pools ∧
    (keepWritten index sub v s).vols = s.vols ∧
    (keepWritten index sub v s).members = s.members ∧
    (keepWritten index sub v s).fabric = s.fabric ∧
    (keepWritten index sub v s).fleet = s.fleet ∧
    (keepWritten index sub v s).toll = s.toll ∧
    (keepWritten index sub v s).pair = s.pair ∧
    (keepWritten index sub v s).tow = s.tow ∧
    (keepWritten index sub v s).dump = s.dump ∧
    (keepWritten index sub v s).cal = s.cal ∧
    (keepWritten index sub v s).fw = s.fw ∧
    (keepWritten index sub v s).log = s.log ∧
    (keepWritten index sub v s).out = s.out ∧
    (∀ (n₁ : Nat), (keepWritten index sub v s).pool? n₁ = s.pool? n₁) ∧
    (∀ (n₁ : Nat), (keepWritten index sub v s).charter? n₁ = s.charter? n₁) ∧
    (∀ (n₁ : Nat), (keepWritten index sub v s).volume? n₁ = s.volume? n₁) ∧
    (∀ (n₁ : Nat), (keepWritten index sub v s).poolOfMember n₁ = s.poolOfMember n₁) ∧
    (∀ (n₁ : Nat), (keepWritten index sub v s).member? n₁ = s.member? n₁) ∧
    (∀ (n₁ : Nat), (keepWritten index sub v s).chain n₁ = s.chain n₁) ∧
    (∀ (n₁ : Nat) (h₁ : BitVec 32), (keepWritten index sub v s).cmd? n₁ h₁ = s.cmd? n₁ h₁) ∧
    (∀ (n₁ : Nat), (keepWritten index sub v s).chainFn n₁ = s.chainFn n₁) ∧
    (∀ (g₁ : Fn), (keepWritten index sub v s).fn g₁ = s.fn g₁) ∧
    (∀ (n₁ : Nat), (keepWritten index sub v s).vol n₁ = s.vol n₁) ∧
    (∀ (i₁ : Island), (keepWritten index sub v s).island i₁ = s.island i₁) ∧
    (∀ (i₁ : Island), (keepWritten index sub v s).ready i₁ = s.ready i₁) ∧
    (keepWritten index sub v s).readsHalted = s.readsHalted ∧
    (∀ (b₁ : Bool), (keepWritten index sub v s).writesHalted b₁ = s.writesHalted b₁) ∧
    (keepWritten index sub v s).dict.sessions = s.dict.sessions ∧
    (keepWritten index sub v s).dict.nextSess = s.dict.nextSess ∧
    (keepWritten index sub v s).dict.locks = s.dict.locks ∧
    (keepWritten index sub v s).dict.creds = s.dict.creds ∧
    (keepWritten index sub v s).dict.failTimes = s.dict.failTimes ∧
    (keepWritten index sub v s).dict.locked = s.dict.locked ∧
    (keepWritten index sub v s).dict.authFails = s.dict.authFails ∧
    (keepWritten index sub v s).dict.macDrops = s.dict.macDrops ∧
    (keepWritten index sub v s).dict.resp = s.dict.resp ∧
    (keepWritten index sub v s).dict.canPending = s.dict.canPending ∧
    (keepWritten index sub v s).dict.canNode = s.dict.canNode ∧
    (keepWritten index sub v s).dict.canNom = s.dict.canNom ∧
    (keepWritten index sub v s).dict.canData = s.dict.canData ∧
    (keepWritten index sub v s).dict.notified = s.dict.notified := by
  unfold keepWritten
  split <;> simp

@[simp] theorem keepWrittenBlob_frame (index sub : Nat) (v : Bytes) (s : Part) :
    (keepWrittenBlob index sub v s).timeUs = s.timeUs ∧
    (keepWrittenBlob index sub v s).islands = s.islands ∧
    (keepWrittenBlob index sub v s).bridges = s.bridges ∧
    (keepWrittenBlob index sub v s).sched = s.sched ∧
    (keepWrittenBlob index sub v s).man = s.man ∧
    (keepWrittenBlob index sub v s).chains = s.chains ∧
    (keepWrittenBlob index sub v s).fn0 = s.fn0 ∧
    (keepWrittenBlob index sub v s).fn1 = s.fn1 ∧
    (keepWrittenBlob index sub v s).chainSplit = s.chainSplit ∧
    (keepWrittenBlob index sub v s).tableGen = s.tableGen ∧
    (keepWrittenBlob index sub v s).peerBar = s.peerBar ∧
    (keepWrittenBlob index sub v s).subsysId = s.subsysId ∧
    (keepWrittenBlob index sub v s).pools = s.pools ∧
    (keepWrittenBlob index sub v s).vols = s.vols ∧
    (keepWrittenBlob index sub v s).members = s.members ∧
    (keepWrittenBlob index sub v s).fabric = s.fabric ∧
    (keepWrittenBlob index sub v s).fleet = s.fleet ∧
    (keepWrittenBlob index sub v s).toll = s.toll ∧
    (keepWrittenBlob index sub v s).pair = s.pair ∧
    (keepWrittenBlob index sub v s).tow = s.tow ∧
    (keepWrittenBlob index sub v s).dump = s.dump ∧
    (keepWrittenBlob index sub v s).cal = s.cal ∧
    (keepWrittenBlob index sub v s).fw = s.fw ∧
    (keepWrittenBlob index sub v s).log = s.log ∧
    (keepWrittenBlob index sub v s).out = s.out ∧
    (∀ (n₁ : Nat), (keepWrittenBlob index sub v s).pool? n₁ = s.pool? n₁) ∧
    (∀ (n₁ : Nat), (keepWrittenBlob index sub v s).charter? n₁ = s.charter? n₁) ∧
    (∀ (n₁ : Nat), (keepWrittenBlob index sub v s).volume? n₁ = s.volume? n₁) ∧
    (∀ (n₁ : Nat), (keepWrittenBlob index sub v s).poolOfMember n₁ = s.poolOfMember n₁) ∧
    (∀ (n₁ : Nat), (keepWrittenBlob index sub v s).member? n₁ = s.member? n₁) ∧
    (∀ (n₁ : Nat), (keepWrittenBlob index sub v s).chain n₁ = s.chain n₁) ∧
    (∀ (n₁ : Nat) (h₁ : BitVec 32), (keepWrittenBlob index sub v s).cmd? n₁ h₁ = s.cmd? n₁ h₁) ∧
    (∀ (n₁ : Nat), (keepWrittenBlob index sub v s).chainFn n₁ = s.chainFn n₁) ∧
    (∀ (g₁ : Fn), (keepWrittenBlob index sub v s).fn g₁ = s.fn g₁) ∧
    (∀ (n₁ : Nat), (keepWrittenBlob index sub v s).vol n₁ = s.vol n₁) ∧
    (∀ (i₁ : Island), (keepWrittenBlob index sub v s).island i₁ = s.island i₁) ∧
    (∀ (i₁ : Island), (keepWrittenBlob index sub v s).ready i₁ = s.ready i₁) ∧
    (keepWrittenBlob index sub v s).readsHalted = s.readsHalted ∧
    (∀ (b₁ : Bool), (keepWrittenBlob index sub v s).writesHalted b₁ = s.writesHalted b₁) ∧
    (keepWrittenBlob index sub v s).dict.sessions = s.dict.sessions ∧
    (keepWrittenBlob index sub v s).dict.nextSess = s.dict.nextSess ∧
    (keepWrittenBlob index sub v s).dict.locks = s.dict.locks ∧
    (keepWrittenBlob index sub v s).dict.creds = s.dict.creds ∧
    (keepWrittenBlob index sub v s).dict.failTimes = s.dict.failTimes ∧
    (keepWrittenBlob index sub v s).dict.locked = s.dict.locked ∧
    (keepWrittenBlob index sub v s).dict.authFails = s.dict.authFails ∧
    (keepWrittenBlob index sub v s).dict.macDrops = s.dict.macDrops ∧
    (keepWrittenBlob index sub v s).dict.resp = s.dict.resp ∧
    (keepWrittenBlob index sub v s).dict.canPending = s.dict.canPending ∧
    (keepWrittenBlob index sub v s).dict.canNode = s.dict.canNode ∧
    (keepWrittenBlob index sub v s).dict.canNom = s.dict.canNom ∧
    (keepWrittenBlob index sub v s).dict.canData = s.dict.canData ∧
    (keepWrittenBlob index sub v s).dict.notified = s.dict.notified := by
  unfold keepWrittenBlob
  split <;> simp

/-- A pair-wide change asked for: proposed, and answered now or when the twin accepts. -/
@[simp] theorem askPair_frame (q : Req) (ch : PairChange) (s : Part) :
    (askPair q ch s).timeUs = s.timeUs ∧
    (askPair q ch s).islands = s.islands ∧
    (askPair q ch s).bridges = s.bridges ∧
    (askPair q ch s).sched = s.sched ∧
    (askPair q ch s).man = s.man ∧
    (askPair q ch s).chains = s.chains ∧
    (askPair q ch s).chainSplit = s.chainSplit ∧
    (askPair q ch s).tableGen = s.tableGen ∧
    (askPair q ch s).peerBar = s.peerBar ∧
    (askPair q ch s).subsysId = s.subsysId ∧
    (askPair q ch s).vols = s.vols ∧
    (askPair q ch s).members = s.members ∧
    (askPair q ch s).fabric = s.fabric ∧
    (askPair q ch s).fleet = s.fleet ∧
    (askPair q ch s).toll = s.toll ∧
    (askPair q ch s).tow = s.tow ∧
    (askPair q ch s).dump = s.dump ∧
    (askPair q ch s).cal = s.cal ∧
    (askPair q ch s).fw = s.fw ∧
    (askPair q ch s).log = s.log ∧
    (∀ (n₁ : Nat), (askPair q ch s).member? n₁ = s.member? n₁) ∧
    (∀ (n₁ : Nat), (askPair q ch s).chain n₁ = s.chain n₁) ∧
    (∀ (n₁ : Nat) (h₁ : BitVec 32), (askPair q ch s).cmd? n₁ h₁ = s.cmd? n₁ h₁) ∧
    (∀ (n₁ : Nat), (askPair q ch s).chainFn n₁ = s.chainFn n₁) ∧
    (∀ (n₁ : Nat), (askPair q ch s).vol n₁ = s.vol n₁) ∧
    (∀ (i₁ : Island), (askPair q ch s).island i₁ = s.island i₁) ∧
    (∀ (i₁ : Island), (askPair q ch s).ready i₁ = s.ready i₁) ∧
    (∀ (n₁ : Nat) (n₂ : Nat), (askPair q ch s).objInt n₁ n₂ = s.objInt n₁ n₂) ∧
    (∀ (n₁ : Nat) (n₂ : Nat), (askPair q ch s).objNum n₁ n₂ = s.objNum n₁ n₂) ∧
    (∀ (n₁ : Nat) (n₂ : Nat), (askPair q ch s).objBlob n₁ n₂ = s.objBlob n₁ n₂) ∧
    (askPair q ch s).timeoutUs = s.timeoutUs ∧
    (askPair q ch s).leadTides = s.leadTides ∧
    (askPair q ch s).readsHalted = s.readsHalted ∧
    (∀ (b₁ : Bool), (askPair q ch s).writesHalted b₁ = s.writesHalted b₁) ∧
    (askPair q ch s).dict.objs = s.dict.objs ∧
    (askPair q ch s).dict.nextSess = s.dict.nextSess ∧
    (askPair q ch s).dict.creds = s.dict.creds ∧
    (askPair q ch s).dict.failTimes = s.dict.failTimes ∧
    (askPair q ch s).dict.locked = s.dict.locked ∧
    (askPair q ch s).dict.authFails = s.dict.authFails ∧
    (askPair q ch s).dict.macDrops = s.dict.macDrops ∧
    (askPair q ch s).dict.canPending = s.dict.canPending ∧
    (askPair q ch s).dict.canNode = s.dict.canNode ∧
    (askPair q ch s).dict.canNom = s.dict.canNom ∧
    (askPair q ch s).dict.canData = s.dict.canData ∧
    (askPair q ch s).dict.notified = s.dict.notified ∧
    (∀ (g₁ : Fn), ((askPair q ch s).fn g₁).bme = (s.fn g₁).bme) ∧
    (∀ (g₁ : Fn), ((askPair q ch s).fn g₁).mse = (s.fn g₁).mse) ∧
    (∀ (g₁ : Fn), ((askPair q ch s).fn g₁).linkUp = (s.fn g₁).linkUp) ∧
    (∀ (g₁ : Fn), ((askPair q ch s).fn g₁).d0 = (s.fn g₁).d0) ∧
    (∀ (g₁ : Fn), ((askPair q ch s).fn g₁).retry = (s.fn g₁).retry) ∧
    (∀ (g₁ : Fn), ((askPair q ch s).fn g₁).perst = (s.fn g₁).perst) ∧
    (∀ (g₁ : Fn), ((askPair q ch s).fn g₁).enable = (s.fn g₁).enable) ∧
    (∀ (g₁ : Fn), ((askPair q ch s).fn g₁).bmeDiscards = (s.fn g₁).bmeDiscards) ∧
    (∀ (g₁ : Fn), ((askPair q ch s).fn g₁).chainSel = (s.fn g₁).chainSel) ∧
    (∀ (g₁ : Fn), ((askPair q ch s).fn g₁).cmdBusy = (s.fn g₁).cmdBusy) ∧
    (∀ (g₁ : Fn), ((askPair q ch s).fn g₁).cmdResult = (s.fn g₁).cmdResult) ∧
    (∀ (g₁ : Fn), ((askPair q ch s).fn g₁).cmdReason = (s.fn g₁).cmdReason) ∧
    (∀ (g₁ : Fn), ((askPair q ch s).fn g₁).cmdHeld = (s.fn g₁).cmdHeld) ∧
    (∀ (g₁ : Fn), ((askPair q ch s).fn g₁).msixOn = (s.fn g₁).msixOn) ∧
    (∀ (g₁ : Fn), ((askPair q ch s).fn g₁).fnMask = (s.fn g₁).fnMask) ∧
    (∀ (g₁ : Fn), ((askPair q ch s).fn g₁).unmasked = (s.fn g₁).unmasked) ∧
    (∀ (g₁ : Fn), ((askPair q ch s).fn g₁).modCount = (s.fn g₁).modCount) ∧
    (∀ (g₁ : Fn), ((askPair q ch s).fn g₁).shadow = (s.fn g₁).shadow) ∧
    (∀ (g₁ : Fn), ((askPair q ch s).fn g₁).active = (s.fn g₁).active) ∧
    (∀ (g₁ : Fn), ((askPair q ch s).fn g₁).latched = (s.fn g₁).latched) ∧
    (∀ (g₁ : Fn), ((askPair q ch s).fn g₁).commits = (s.fn g₁).commits) ∧
    (∀ (g₁ : Fn), ((askPair q ch s).fn g₁).lastResult = (s.fn g₁).lastResult) ∧
    (∀ (g₁ : Fn), ((askPair q ch s).fn g₁).badWindow = (s.fn g₁).badWindow) ∧
    (∀ (g₁ : Fn), ((askPair q ch s).fn g₁).winDrops = (s.fn g₁).winDrops) ∧
    (∀ (g₁ : Fn), ((askPair q ch s).fn g₁).bar4Gib = (s.fn g₁).bar4Gib) := by
  unfold askPair
  split <;> simp [Part.objInt, Part.objNum, Part.objBlob, Part.timeoutUs, Part.leadTides]

theorem checked_of (q : Req) (need : Nat) (scope : Option (Nat × Nat)) (k : Part → Part) (s : Part) (x : SessSt)
    (hx : s.openSess? q = some x) (hr : need ≤ x.role)
    (hl : ∀ sc, scope = some sc → ∀ h, s.lockHolder sc = some h → h = q.session) : checked q need scope k s = k s := by
  unfold checked
  rw [hx]
  simp only [Nat.not_lt.mpr hr, if_false]
  cases scope with
  | none => rfl
  | some sc =>
    simp only []
    cases h : s.lockHolder sc with
    | none => rfl
    | some y => simp [hl sc rfl y h]

theorem checked_none (q : Req) (need : Nat) (scope : Option (Nat × Nat)) (k : Part → Part) (s : Part)
    (hx : s.openSess? q = none) : checked q need scope k s = refuse q stSession 0 s := by
  unfold checked
  rw [hx]

theorem checked_low (q : Req) (need : Nat) (scope : Option (Nat × Nat)) (k : Part → Part) (s : Part) (x : SessSt)
    (hx : s.openSess? q = some x) (hr : x.role < need) : checked q need scope k s = refuse q stPrivilege 0 s := by
  unfold checked
  rw [hx]
  simp [hr]

/-- A refused request leaves the kept value alone. -/
theorem keepWritten_refused (index sub v : Nat) (q : Req) (st detail : Nat) (s : Part) (h : st ≠ stOk) (h' : st ≠ stPending) :
    keepWritten index sub v (refuse q st detail s) = refuse q st detail s := by
  have := (respondValue_frame q st detail [] 0 s).1
  simp [keepWritten, refuse, respond, h, h']

end Sys2Proof.Machine
end

