-- ==== Sys2Proof/Laws/PeerMem.lean ====
section
/-! SUPPORT. The peer buffer area: every operation keeps the canonical form, and a byte reads as it was last stored. -/

namespace Sys2Proof.Machine

/-- The canonical form as two facts over the whole list. -/
theorem Memory.wf_iff (m : List Host.Cell) :
    Memory.wf m = true ↔ (∀ c ∈ m, c.2 ≠ 0) ∧ m.Pairwise (fun c d => c.1 < d.1) := by
  induction m with
  | nil => simp [Memory.wf]
  | cons c r ih =>
    cases r with
    | nil => simp [Memory.wf]
    | cons d r =>
      simp only [Memory.wf, Bool.and_eq_true, decide_eq_true_eq, ih, bne_iff_ne, ne_eq, List.pairwise_cons,
        List.mem_cons, forall_eq_or_imp]
      constructor
      · rintro ⟨⟨h1, h2⟩, ⟨h3, h4⟩, h5, h6⟩
        exact ⟨⟨h1, h3, h4⟩, ⟨h2, fun a ha => Nat.lt_trans h2 (h5 a ha)⟩, h5, h6⟩
      · rintro ⟨⟨h1, h3, h4⟩, ⟨h2, -⟩, h5, h6⟩
        exact ⟨⟨h1, h2⟩, ⟨h3, h4⟩, h5, h6⟩

theorem Memory.wf_nil : Memory.wf [] = true := rfl

theorem Memory.erase_wf (m : List Host.Cell) (a : Nat) (h : Memory.wf m = true) :
    Memory.wf (Memory.erase m a) = true := by
  rw [Memory.wf_iff] at *
  exact ⟨fun c hc => h.1 c (List.mem_of_mem_filter hc), h.2.filter _⟩

theorem Memory.write_wf (m : List Host.Cell) (a : Nat) (b : Byte) (h : Memory.wf m = true) :
    Memory.wf (Memory.write m a b) = true := by
  unfold Memory.write
  split
  · exact Memory.erase_wf m a h
  · next hb =>
    rw [Memory.wf_iff] at *
    refine ⟨?_, ?_⟩
    · intro c hc
      simp only [List.mem_append, List.mem_cons, List.mem_filter] at hc
      rcases hc with hc | rfl | hc
      · exact h.1 c hc.1
      · exact hb
      · exact h.1 c hc.1
    · rw [List.pairwise_append, List.pairwise_cons]
      refine ⟨h.2.filter _, ⟨?_, h.2.filter _⟩, ?_⟩
      · intro d hd; simpa using (List.mem_filter.mp hd).2
      · intro c hc d hd
        have h1 : c.1 < a := by simpa using (List.mem_filter.mp hc).2
        simp only [List.mem_cons, List.mem_filter] at hd
        rcases hd with rfl | hd
        · exact h1
        · have h2 : a < d.1 := by simpa using hd.2
          omega

theorem Memory.writeAll_wf (cells m : List Host.Cell) (h : Memory.wf m = true) :
    Memory.wf (Memory.writeAll m cells) = true := by
  unfold Memory.writeAll
  induction cells generalizing m with
  | nil => exact h
  | cons c r ih => exact ih _ (Memory.write_wf m c.1 c.2 h)

theorem Memory.writeBytes_wf (m : List Host.Cell) (a : Nat) (bs : Bytes) (h : Memory.wf m = true) :
    Memory.wf (Memory.writeBytes m a bs) = true := Memory.writeAll_wf _ _ h

theorem Memory.read_filter (m : List Host.Cell) (a : Nat) (p : Host.Cell → Bool) (hp : ∀ c, c.1 = a → p c = true) :
    Memory.read (m.filter p) a = Memory.read m a := by
  unfold Memory.read
  congr 2
  induction m with
  | nil => rfl
  | cons c r ih =>
    by_cases h : c.1 = a
    · simp [hp c h, h]
    · by_cases hc : p c <;> simp [hc, h, ih]

theorem Memory.read_absent (m : List Host.Cell) (a : Nat) (h : ∀ c ∈ m, c.1 ≠ a) : Memory.read m a = 0 := by
  unfold Memory.read
  rw [List.find?_eq_none.mpr (by simpa using h)]
  rfl

/-- A byte reads as it was stored. -/
@[simp] theorem Memory.read_write (m : List Host.Cell) (a : Nat) (b : Byte) :
    Memory.read (Memory.write m a b) a = b := by
  unfold Memory.write
  split
  · next hb =>
    rw [hb]
    exact Memory.read_absent _ a (fun c hc => by simpa using (List.mem_filter.mp hc).2)
  · unfold Memory.read
    rw [List.find?_append, List.find?_eq_none.mpr]
    · simp
    · intro c hc
      have : c.1 < a := by simpa using (List.mem_filter.mp hc).2
      simp; omega

/-- A store leaves every other byte alone. -/
theorem Memory.read_write_ne (m : List Host.Cell) {a x : Nat} (b : Byte) (h : x ≠ a) :
    Memory.read (Memory.write m a b) x = Memory.read m x := by
  unfold Memory.write
  split
  · exact Memory.read_filter m x _ (fun c hc => by simp [hc, h])
  · unfold Memory.read
    rw [List.find?_append]
    rcases Nat.lt_or_gt_of_ne h with hl | hg
    · have h1 := Memory.read_filter m x (fun c => decide (c.1 < a)) (fun c hc => by simp [hc, hl])
      have h2 : (m.filter (fun c => decide (a < c.1))).find? (fun c => c.1 == x) = none := by
        rw [List.find?_eq_none]
        intro c hc
        have : a < c.1 := by simpa using (List.mem_filter.mp hc).2
        simp; omega
      rw [List.find?_cons_of_neg (by simp; omega), h2, Option.or_none]
      exact h1
    · have h1 := Memory.read_filter m x (fun c => decide (a < c.1)) (fun c hc => by simp [hc, hg])
      have h2 : (m.filter (fun c => decide (c.1 < a))).find? (fun c => c.1 == x) = none := by
        rw [List.find?_eq_none]
        intro c hc
        have : c.1 < a := by simpa using (List.mem_filter.mp hc).2
        simp; omega
      rw [h2, Option.none_or, List.find?_cons_of_neg (by simp; omega)]
      exact h1

end Sys2Proof.Machine
end

