-- ==== Sys2Proof/Machine/Registers.lean ====
section
/-! DEFINITION. What a function's registers read as (10: R235–R246, R257; 11: R286, R287; 15: R364): views of the state. No
row of the opcode table reads a register but EVENT_CAUSE_READ, so no step uses them; reads change nothing. -/

namespace Sys2Proof.Machine

def leWord (b : Bytes) (off : Nat) : Nat := ofLe ((b.drop off).take 4)

/-! ### Device registers (Tables 10.8, 10.9) -/

def devIdent (f : Fn) : Nat := 0x7144 + f.num * 2 ^ 16 + 1 * 2 ^ 32

def devStatus (s : Part) : Nat :=
  b2n s.sched.ready + 2 * b2n s.sched.frozen + 4 * b2n s.sched.resetting + 8 * b2n s.sched.faulty

def readDevice (s : Part) (f : Fn) (off : Nat) : Nat :=
  let x := s.fn f
  match off with
  | 0x000 => devIdent f % 2 ^ 32
  | 0x004 => devIdent f / 2 ^ 32
  | 0x008 => devStatus s
  | 0x010 => x.cause.toNat
  | 0x014 => x.enable.toNat
  | 0x018 => s.timeUs % 2 ^ 32
  | 0x01C => s.timeUs / 2 ^ 32 % 2 ^ 32
  | 0x020 => x.bmeDiscards % 2 ^ 32
  | 0x024 => x.romDrops % 2 ^ 32
  | _ => 0

/-! ### Peer windows (Tables 10.12, 10.13) -/

def Window.bytes (w : Window) : Bytes :=
  leBytes 8 w.base ++ leBytes 8 w.size ++ leBytes 8 w.target ++ leBytes 8 (b2n w.readEn + 2 * b2n w.writeEn)

/-- The word at `off` of a table of eight windows. -/
def windowWord (ws : List Window) (off : Nat) : Nat := leWord (((ws[off / 32]?).map Window.bytes).getD []) (off % 32)

/-- A shadow reads back the value written; an active copy reads what Landing decodes (R257). -/
def readWindows (s : Part) (f : Fn) (off : Nat) : Nat :=
  let x := s.fn f
  if off < 0x1100 then windowWord x.shadow (off - 0x1000)
  else if 0x1200 ≤ off ∧ off < 0x1300 then windowWord x.active (off - 0x1200)
  else
    match off with
    | 0x1108 => x.commits % 2 ^ 32
    | 0x110C => b2n x.latched.isSome + 2 * x.lastResult + 8 * x.badWindow
    | 0x1110 => x.winDrops % 2 ^ 32
    | _ => 0

/-! ### Chains (Tables 11.4 to 11.6) -/

/-- Chain configuration: a selector outside the function's chains makes every register but itself read zero (R286). -/
def readChainReg (s : Part) (f : Fn) (off : Nat) : Nat :=
  let x := s.fn f
  if off = 0x3000 then x.chainSel
  else
    match s.selected f with
    | none => 0
    | some n =>
      let c := s.chain n
      match off with
      | 0x3008 => c.regBase.toNat % 2 ^ 32
      | 0x300C => c.regBase.toNat / 2 ^ 32
      | 0x3010 => c.regCfg.toNat
      | 0x3014 => c.regSeq.toNat
      | 0x301C => b2n x.cmdBusy + 2 * x.cmdResult + 8 * x.cmdReason
      | 0x3020 => c.fetchSeq.toNat
      | 0x3024 => c.dbSeq.toNat
      | 0x3028 => c.dseq.toNat
      | 0x302C => c.inflight
      | 0x3030 => c.parkSeq.toNat
      | 0x3034 => c.ignDb % 2 ^ 32
      | 0x3038 => c.foreignDb % 2 ^ 32
      | 0x303C => c.refetches % 2 ^ 32
      | 0x3040 => (c.txs.filter (fun t => !t.ended)).length
      | _ => 0

/-- Chain status entry (Table 11.6): zero for a chain the function does not own. -/
def chainStatus (s : Part) (f : Fn) (n : Nat) : BitVec 64 :=
  if s.chainFn n = f then
    let c := s.chain n
    BitVec.ofNat 64 (c.dseq.toNat + c.st.code * 2 ^ 32 + b2n c.final * 2 ^ 35 + c.halt * 2 ^ 36 + min 255 c.ignDb * 2 ^ 44 +
      min 255 c.foreignDb * 2 ^ 52)
  else 0

/-! ### Mailbox (Table 15.6) -/

def mbxStatus (x : FnSt) : Nat :=
  b2n x.mbxBusy + 2 * b2n x.mbxReady + 4 * b2n x.mbxDropped + (if x.mbxReady then x.mbxRsp.length else 0) * 2 ^ 16

def readMbx (x : FnSt) (off : Nat) : Nat :=
  if off = 4 then mbxStatus x
  else if 0x100 ≤ off ∧ off < 0x2000 then
    ofLe ((List.range 4).map (fun i => (alGet (off - 0x100 + i) x.mbxReq).getD 0))
  else if 0x2000 ≤ off then leWord x.mbxRsp (off - 0x2000)
  else 0

/-! ### MSI-X (R246, Table 10.10) -/

/-- Table entry: address and data as written, the mask bit in the vector control word. -/
def readMsix (x : FnSt) (off : Nat) : Nat :=
  let e := off / 16
  let v := ((alGet e x.msixTable).getD 0).toNat
  if off % 16 = 12 then b2n (!x.unmasked.contains e) else v / 2 ^ (8 * (off % 16)) % 2 ^ 32

def readPba (x : FnSt) (off : Nat) : Nat :=
  ((List.range 32).map (fun i => b2n (x.pba.contains (8 * off + i)) * 2 ^ i)).foldl (· + ·) 0

/-! ### Landing table (Tables 10.5 to 10.7) -/

/-- An entry: TYPE, LOCATION, OFFSET, SIZE, COUNT, STRIDE, REQUIRED. -/
def tableEntry (ty loc off size count stride required : Nat) : Bytes :=
  layout 32 [(0, 16, ty), (16, 8, 1), (24, 8, loc), (32, 64, off), (96, 64, size), (160, 32, count), (192, 32, stride), (224, 1, required)]

def landingEntries (s : Part) : List Bytes :=
  [tableEntry 1 0 0 0x1000 1 0 1, tableEntry 2 0 0x1000 0x1000 8 32 0, tableEntry 3 0 0x3000 0x1000 1 0 1,
   tableEntry 4 0 0x4000 0x4000 1 0 0, tableEntry 5 0 0x10000 0x8000 2048 16 1, tableEntry 6 0 0x18000 0x100 1 0 1,
   tableEntry 7 0 0x19000 0x2000 2048 4 0, tableEntry 8 0 0x40000 0x80000 65536 8 1, tableEntry 9 2 0 0x80000 65536 8 1,
   tableEntry 0xA 4 0 (s.peerBar * 2 ^ 30) 1 0 0, tableEntry 0xB 0 0xF0000 0x10000 1 0 0] ++
  (if Config.uefiImageLen = 0 then [] else [tableEntry 0xC 8 0x10000 Config.uefiImageLen 1 0 0]) ++
  [tableEntry 0xD 0 0xC0000 0x30000 1 0 0]

/-- Chains a function owns (R234). -/
def chainCount (s : Part) : Fn → Nat
  | .f0 => s.chainSplit
  | .f1 => 65536 - s.chainSplit

/-- Landing table header (Table 10.5). -/
def landingHeader (s : Part) (f : Fn) : Bytes :=
  let n := (landingEntries s).length
  layout 64 [bytesAt 0 8 (ascii "PLYLANDT"), (64, 16, 1), (96, 16, 64), (112, 16, 32), (128, 16, n), (144, 8, f.num),
    (160, 32, 64 + 32 * n + 4), (192, 16, 1), (208, 16, 2048), (224, 32, s.fw.version), bytesAt 256 16 deviceUuid,
    (384, 32, s.chainFirst f), (416, 32, chainCount s f), (448, 32, s.tableGen)]

/-- The Landing table (R240). -/
def landingTable (s : Part) (f : Fn) : Bytes := withCrc (landingHeader s f ++ (landingEntries s).flatten)

/-- PCI Data Structure (PCI Firmware Specification) at 0x20 of the image: code type 0xFF, 128 units of 512 bytes, the
last-image indicator where no UEFI image follows. PRESUMED but for the fields R238 gives: log entry 17. -/
def pciData : Bytes :=
  ascii "PCIR" ++ leBytes 2 0x1FB7 ++ leBytes 2 0x7144 ++ leBytes 2 0 ++ leBytes 2 0x1C ++ [3] ++ leBytes 3 0x010400 ++ leBytes 2 128 ++
    leBytes 2 0 ++ [0xFF, if Config.uefiImageLen = 0 then 0x80 else 0] ++ leBytes 2 0 ++ leBytes 2 0 ++ leBytes 2 0

/-- The Landing table image (R238): bytes 0 to 0xFFFF of the ROM window and of the mirror; zero after the table. -/
def landingImage (s : Part) (f : Fn) : Bytes :=
  [0x55, 0xAA] ++ List.replicate 22 0 ++ leBytes 2 0x20 ++ List.replicate 6 0 ++ padTo 28 pciData ++ List.replicate 4 0 ++
    landingTable s f

/-! ### Every register of BAR0 (Table 10.4) -/

/-- A debug register reads zero while locked; unlocked its content is free (R245). -/
def readDebug (s : Part) (f : Fn) (off : Nat) : Nat :=
  if s.objNum 0x2000 2 = 1 then Config.debugRegister f.num off % 2 ^ 32 else 0

/-- The 32-bit word at an aligned offset of BAR0; Rsvd ranges read zero (R237). -/
def readBar0 (s : Part) (f : Fn) (off : Nat) : Nat :=
  if off < 0x1000 then readDevice s f off
  else if off < 0x2000 then readWindows s f off
  else if off < 0x3000 then 0
  else if off < 0x4000 then readChainReg s f off
  else if off < 0x8000 then readMbx (s.fn f) (off - 0x4000)
  else if off < 0x10000 then 0
  else if off < 0x18000 then readMsix (s.fn f) (off - 0x10000)
  else if off < 0x19000 then (if off < 0x18100 then readPba (s.fn f) (off - 0x18000) else 0)
  else if off < 0x1B000 then ((alGet ((off - 0x19000) / 4) (s.fn f).moder).getD 1).toNat
  else if off < 0x40000 then 0
  else if off < 0xC0000 then
    (chainStatus s f ((off - 0x40000) / 8)).toNat / 2 ^ (8 * (off % 8)) % 2 ^ 32
  else if off < 0xF0000 then readDebug s f off
  else if off < 0x100000 then leWord (landingImage s f) (off - 0xF0000)
  else 0

/-- Ids of the extended capabilities in R236's order (the standard's numbers, log entry 17). -/
def extCapIds : List Nat := [0x0001, 0x0003, 0x0019, 0x0025, 0x0026, 0x002A, 0x0031, 0x0027, 0x0015]

/-- Header of extended capability `n`: id, version 1, the next one. They lie 0x80 apart from 0x100 (log entry 17). -/
def extCapHeader (n : Nat) : Nat :=
  match extCapIds[n]? with
  | some i => i + 2 ^ 16 + (if n + 1 < extCapIds.length then 0x100 + 0x80 * (n + 1) else 0) * 2 ^ 20
  | none => 0

/-- Configuration identity (Table 10.2), the capability lists (R236), each with its headers, and MSI-X's places in BAR0: the word
at an aligned offset. What the standard's own capability fields hold beyond these is left out (log entry 17). -/
def readConfig (s : Part) (f : Fn) (off : Nat) : Nat :=
  let x := s.fn f
  match off with
  | 0x00 => 0x1FB7 + 0x7144 * 2 ^ 16
  | 0x04 => 2 * b2n x.mse + 4 * b2n x.bme + 0x10 * 2 ^ 16
  | 0x40 => 0x01 + 0x50 * 2 ^ 8
  | 0x44 => if x.d0 then 0 else 3
  | 0x50 => 0x11 + 0x60 * 2 ^ 8 + (2047 + 0x4000 * b2n x.fnMask + 0x8000 * b2n x.msixOn) * 2 ^ 16
  | 0x54 => 0x10000
  | 0x58 => 0x18000
  | 0x60 => 0x10 + 2 * 2 ^ 16
  | 0x68 => 0x10 * b2n x.relaxedEn + 0x800 * b2n x.noSnoopEn
  | 0x08 => 0x10 + 0x010400 * 2 ^ 8
  | 0x2C => s.subsysId
  | 0x34 => 0x40
  | _ => if 0x100 ≤ off ∧ (off - 0x100) % 0x80 = 0 then extCapHeader ((off - 0x100) / 0x80) else 0

end Sys2Proof.Machine
end

