-- ==== Sys2Proof/WellFormed.lean ====
section
/-! DEFINITION. Which commands are well formed: the widths and lengths the spec gives the operands of an event. The
meanings are total and do not assume it; the checks say what a sender can put on a pin, a bus or a frame. -/

namespace Sys2Proof

def u16Wf (n : Nat) : Bool := decide (n < 2 ^ 16)
def u32Wf (n : Nat) : Bool := decide (n < 2 ^ 32)
def u64Wf (n : Nat) : Bool := decide (n < 2 ^ 64)
def wordWf (n : Nat) : Bool := decide (n < 2 ^ 64)
/-- Subsystems of Table 1.1. -/
def subsystemWf (n : Nat) : Bool := decide (1 ≤ n) && decide (n ≤ 20)
/-- A UUID or a KEK identity is 16 bytes. -/
def uuidWf (b : Bytes) : Bool := decide (b.length = 16)
/-- Link widths (R182, R233). -/
def widthWf (n : Nat) : Bool := [1, 2, 4, 8, 16].contains n
/-- Write sizes a TLP can carry to a register (R237). -/
def sizeWf (n : Nat) : Bool := [1, 2, 4, 8].contains n
def gibWf (n : Nat) : Bool := decide (1 ≤ n) && decide (n ≤ 256)

/-- Cells at strictly rising addresses. -/
def risingCells : List (Nat × Byte) → Bool
  | [] => true
  | [(a, _)] => u64Wf a
  | (a, _) :: (b, y) :: r => decide (a < b) && risingCells ((b, y) :: r)

def Req.wf (q : Req) : Bool := u16Wf q.session && decide (q.node < 128)

/-- Field widths of Table 15.3; a frame carries LEN data bytes and an 8-byte MAC (R357). -/
def Frame.wf (f : Frame) : Bool :=
  decide (f.rsvd < 32) && decide (f.status < 256) &&
  u16Wf f.seq && u16Wf f.session && u16Wf f.index && decide (f.sub < 256) && decide (f.len ≤ 4096) &&
    u16Wf f.offset && u16Wf f.total && decide (f.data.length = f.len) && decide (f.mac.length = 8)

def HostRead.wf : HostRead → Bool
  | .ok c => risingCells c
  | .failed => true

def LaneFaults.wf (l : LaneFaults) : Bool :=
  l.mismatch.all (fun u => decide (u < 64)) && l.hostPi.all (fun x => decide (x.1 < 2 ^ 48) && decide (x.2.1 < 64))

def SealFrame.wf (f : SealFrame) : Bool := decide (f.tide < 2 ^ 48)

/-- A stored block has at most 4,096 data and 64 metadata bytes, trailing zeros left out (R125). -/
def Block.wf (b : Block) : Bool :=
  decide (b.data.length ≤ 4096) && decide (b.md.length ≤ 64) && decide (trimZeros b.data = b.data) &&
    decide (trimZeros b.md = b.md)

def MirrorBlock.wf (b : MirrorBlock) : Bool := b.block.wf && decide (b.vol < 4096)

def DiscoveryReport.wf (r : DiscoveryReport) : Bool := r.found.all (fun k => decide (k < 16384))

def Label.wf (l : Label) : Bool := uuidWf l.poolUuid && decide (l.memberId < 16384) && u16Wf l.ordinal

def LabelRead.wf : LabelRead → Bool
  | .good l => l.wf
  | _ => true

def MemberInfo.wf (i : MemberInfo) : Bool := uuidWf i.identity && u64Wf i.capacity && i.label.wf &&
  i.content.all (fun m => (m.charterA.toList ++ m.charterB.toList).all (fun c => uuidWf c.uuid))

def PeerTlp.wf : PeerTlp → Bool
  | .read _ len => decide (len ≤ 4096)
  | .write _ d => decide (d.length ≤ 4096)

def PeerIdent.wf (p : PeerIdent) : Bool := uuidWf p.uuid && decide (p.tide < 2 ^ 48) && uuidWf p.pairUuid

def PairChange.wf : PairChange → Bool
  | .tideUs v => u32Wf v
  | .recovery _ v => u32Wf v
  | .charter _ g => u64Wf g
  | .handover _ _ => true

/-- ADC codes are 16 bits after the filter (R316). -/
def SenseCodes.wf (c : SenseCodes) : Bool :=
  [c.in0, c.in1, c.in2, c.in3, c.in4, c.in5, c.in6, c.in7].all u16Wf

def BootEnv.wf (b : BootEnv) : Bool := decide (b.channels ≤ 12) && b.dumpLinks.all (fun x => decide (x < 4))

def LogEv.wf (e : LogEv) : Bool :=
  u16Wf e.code && decide (1 ≤ e.subsystem) && decide (e.subsystem ≤ 20) && decide (e.sev < 5) &&
    decide (e.detail.length ≤ 24)

def ringsWf (r : Rings) : Bool := r.all (fun e => decide (e.1 < 65536) && decide (e.2.length ≤ 65536))

def badReadsWf (b : BadReads) : Bool := b.all (fun e => decide (e.1 < 16384))

def CalRefs.wf (r : CalRefs) : Bool := u32Wf r.edges

def Outside.wf (o : Outside) : Bool := ringsWf o.rings && o.found.wf && o.refs.wf

/-- The well-formed commands. -/
def Instr.wf : Instr → Bool
  | .bridgeRequest _ _ word _ => wordWf word
  | .bridgeFault _ _ x => subsystemWf x.subsystem
  | .islandPowerDown _ => true
  | .islandWake _ => true
  | .islandReady _ => true
  | .poolCommit q _ => q.wf
  | .poolDelete q _ => q.wf
  | .poolInitComplete _ => true
  | .memberRelease q _ => q.wf
  | .charterChange _ => true
  | .charterCopyWritten _ _ _ => true
  | .charterRestoreRetry _ => true
  | .poolImport q _ uuid => q.wf && uuidWf uuid
  | .poolImportForce q _ => q.wf
  | .volCreate q _ => q.wf
  | .volGrow q _ => q.wf
  | .volDelete q _ => q.wf
  | .syndromeRetry _ _ _ => true
  | .energyEstimateRefresh codes => codes.wf
  | .twinCeilingReport _ => true
  | .writeAdmit _ _ => true
  | .writeLanded _ _ host lf => host.wf && lf.wf
  | .tideBoundary => true
  | .tideSealComplete _ => true
  | .tideConfirmation _ => true
  | .sealFrameReceived f => f.wf
  | .shadowBlock _ b => b.wf
  | .destageStart _ _ bad _ => badReadsWf bad
  | .stripCommit _ _ _ => true
  | .destageRetry _ _ x => badReadsWf x.bad
  | .txOpenTimeout _ _ => true
  | .flushComplete _ _ => true
  | .devWarmReset q _ rings => q.wf && ringsWf rings
  | .warmResetN rings => ringsWf rings
  | .warmResetComplete => true
  | .fwTakeover _ rings => ringsWf rings
  | .checkpointBuild _ => true
  | .checkpointValid _ _ => true
  | .extensionWrite _ => true
  | .extensionValid _ _ => true
  | .poison _ _ => true
  | .poolStallRelease q _ stripe => q.wf && u64Wf stripe
  | .manifestDigest _ _ => true
  | .scrubStripe _ bad => badReadsWf bad
  | .poolDivResolve q _ _ => q.wf
  | .volDeferredAck q _ n => q.wf && u32Wf n
  | .rebuildAbsentHold _ => true
  | .rebuildTask _ bad => badReadsWf bad
  | .stripeRebuilt _ _ _ => true
  | .poolGroupAbandon q _ group => q.wf && u64Wf group
  | .memberReplaces q _ ordinal => q.wf && u16Wf ordinal
  | .autoReplace _ => true
  | .copyback _ _ bad => badReadsWf bad
  | .crossStart q _ => q.wf
  | .crossStep _ x => badReadsWf x.bad
  | .crossStepCommit _ => true
  | .rekeyStripe _ x => badReadsWf x.bad
  | .crossCursorCommit _ => true
  | .crossAbort q _ => q.wf
  | .crossComplete _ => true
  | .fleetCommit q => q.wf
  | .fleetConfirm _ _ => true
  | .fleetPartial => true
  | .fleetRetry q => q.wf
  | .fleetRevert q => q.wf
  | .laneProbeRetry _ _ => true
  | .linkUp _ _ width x => widthWf width && decide (x.tier < 8) && u64Wf x.attached
  | .linkDown _ => true
  | .linkRetrain _ _ => true
  | .discoveryEvent r => r.wf
  | .discoverNow q r => q.wf && r.wf
  | .memberPresent i => i.wf
  | .enclNumber q new => q.wf && u16Wf new
  | .memberReformat q _ fmt => q.wf && u16Wf fmt
  | .memberCmdIssue _ => true
  | .memberCmdComplete _ _ _ => true
  | .memberCmdTimeout _ _ => true
  | .escalationStepTimeout _ => true
  | .hedgeTimeout _ _ => true
  | .drainForNonQueued _ => true
  | .ncqError _ _ => true
  | .memberDeferred _ _ => true
  | .depthRise _ => true
  | .linkHoldExpire _ => true
  | .suspectClear _ => true
  | .memberForceFailed q _ => q.wf
  | .memberClearSuspect q _ => q.wf
  | .memberReinstate q _ => q.wf
  | .memberWceConfirm _ _ => true
  | .spinupGroup => true
  | .spinupAllowExpire _ => true
  | .kekImport q payload => q.wf && decide (payload.length = 56)
  | .kekUnlock q id => q.wf && uuidWf id
  | .kekAutoload q _ _ => q.wf
  | .kekErase q id => q.wf && uuidWf id
  | .tollgateZeroise q _ => q.wf
  | .poolKekRotate q _ id => q.wf && uuidWf id
  | .slotLoad _ => true
  | .slotReload q _ => q.wf
  | .slotCheckFail _ => true
  | .glitchTrip _ => true
  | .selftestNow q _ => q.wf
  | .drbgReseed _ => true
  | .shareRerandomise _ => true
  | .bmeClear _ => true
  | .bmeSet _ => true
  | .flr _ => true
  | .flrComplete _ => true
  | .portReset _ => true
  | .eventCauseWrite _ _ => true
  | .eventCauseRead _ => true
  | .moderationTimeout _ _ => true
  | .winCommit _ _ => true
  | .winSwap _ => true
  | .bar4Tlp _ t => t.wf
  | .romWrite _ => true
  | .bar4Resize _ gib => gibWf gib
  | .hostPortError _ _ => true
  | .registerWrite _ _ _ size _ => sizeWf size
  | .doorbell _ _ size _ => sizeWf size
  | .fetchGrant _ _ => true
  | .descriptorFetch _ slots => decide (slots.length ≤ 64)
  | .unknownOpcode _ _ => true
  | .read _ _ bad lf => badReadsWf bad && lf.wf
  | .write _ _ => true
  | .flush _ _ => true
  | .unmap _ _ => true
  | .verify _ _ bad lf => badReadsWf bad && lf.wf
  | .copy _ _ bad lf => badReadsWf bad && lf.wf
  | .txBegin _ _ => true
  | .txCommit _ _ => true
  | .txAbort _ _ => true
  | .enable _ => true
  | .pause _ => true
  | .drain _ => true
  | .drainComplete _ => true
  | .resume _ => true
  | .reset _ => true
  | .unknownChainCmd _ _ => true
  | .pairPartnerUuid q uuid => q.wf && uuidWf uuid
  | .pairForm peer => peer.wf
  | .syncConfirmed _ => true
  | .hawserRetrain width => widthWf width
  | .path1Lost => true
  | .path2Lost => true
  | .path1Return _ => true
  | .releaseTimeout => true
  | .releaseReceived => true
  | .selfFence => true
  | .reclaimDelay _ => true
  | .contest _ => true
  | .preemptResult _ _ _ => true
  | .contestGiveUp _ => true
  | .memberFenceTimeout _ _ => true
  | .switchoverGapEnd _ => true
  | .pairBootWait _ => true
  | .failback _ => true
  | .faultyHandoverTimeout => true
  | .poolHandover q _ => q.wf
  | .handoverConfirmed _ => true
  | .pairChangeProposal ch _ => ch.wf
  | .pairChangeLapse => true
  | .standbyProbe _ _ _ => true
  | .brace _ => true
  | .braceRelease _ => true
  | .dumpTriggerLow _ => true
  | .comparatorTrip => true
  | .dumpTargetLost _ => true
  | .dumpComplete _ => true
  | .restoreBoot b => b.wf
  | .thermalThrottle _ => true
  | .thermalRelease _ => true
  | .thermalTrip _ => true
  | .thermalRecovery _ b => b.wf
  | .storeTest => true
  | .storeTestNow q => q.wf
  | .storeTestEnd _ _ => true
  | .storeOutOfTemp _ => true
  | .storeTempRecover _ => true
  | .warnMv q v => q.wf && u16Wf v
  | .dumpMv q v => q.wf && u16Wf v
  | .dumpAdopt q _ => q.wf
  | .idleEntry => true
  | .sleepRequest q => q.wf
  | .sleepRequestForced q => q.wf
  | .wakeHost _ _ => true
  | .wakeCan node _ => u16Wf node
  | .wakeScheduled _ => true
  | .wakePresence _ => true
  | .wakeThreshold _ _ => true
  | .wakeStore _ => true
  | .wakeLimitsMet _ => true
  | .calStart q what refs => q.wf && u16Wf what && refs.wf
  | .calRunsComplete _ => true
  | .calSlewStep => true
  | .calFactory q => q.wf
  | .sessionOpen _ _ f => f.wf
  | .auth _ _ f => f.wf
  | .sessionClose _ _ f => f.wf
  | .claim _ f => f.wf
  | .keepalive _ _ f => f.wf
  | .dictRead _ _ f => f.wf
  | .dictWrite _ _ f o => f.wf && o.wf
  | .sessionIdle _ => true
  | .transportLockExpire _ => true
  | .credWrite q _ wrap => q.wf && decide (wrap.length = 40)
  | .credReset q _ => q.wf
  | .stageRelease q _ => q.wf
  | .stageBreak q _ => q.wf
  | .mbxSubmit _ len o => u16Wf len && o.wf
  | .mbxRelease _ _ => true
  | .twinRelay _ _ op f => decide (op < 256) && f.wf
  | .canConfigApply => true
  | .debugUnlock q _ => q.wf
  | .fwStageBegin q len => q.wf && u32Wf len
  | .fwStageData q data => q.wf && decide (data.length ≤ 65535)
  | .fwStageVerify => true
  | .fwActivate q _ => q.wf
  | .logEvent e => e.wf
  | .logRecordWrite => true
  | .logDropped => true
  | .logExport => true
  | .logExportNow q => q.wf
  | .powerOn b => b.wf
  | .coldResetN _ b => b.wf
  | .railsGoodFall b => b.wf
  | .tapInstruction _ => true
  | .path2Return _ => true
  | .sleepAnnouncement _ => true
  | .pairChangeAccepted => true
  | .dumpLinkDown _ => true
  | .dumpTargetWarning _ => true
  | .protChannelUnhealthy _ => true
  | .returnToArchiveSleep => true
  | .msixVectorUnmask _ _ => true
  | .hostLinkUp _ width _ _ => widthWf width

end Sys2Proof
end

