-- ==== Sys2Proof/Tests/Slice0.lean ====
section
/-! SUPPORT. Tests: ill-formed commands are refused, and every statement with premises has a state and operands that meet
them. Expected results come from the rules named. -/

section
open Sys2Proof Sys2Proof.Machine

/-! ### Well-formedness: one ill-formed command for each check -/

def tstReq : Req := { transport := .mbx0, node := 0, session := 1 }
def tstFrame : Frame :=
  { rsvd := 0, status := 0, seq := 0, session := 1, index := 0x1000, sub := 0, len := 0, offset := 0, total := 0, last := true, twin := false, data := [],
    mac := List.replicate 8 0 }
def tstLanes : LaneFaults := { mismatch := [], hostPi := [] }
def tstWake : WakeEnv := { inputMv := 12000, dieC := 40 }
def tstBoot : BootEnv :=
  { strapFactory := false, strapBootAlt := false, slot0Good := true, slot1Good := true, dir0 := some (1, 0, false), dir1 := none,
    channels := 12, wake := tstWake, dumpLinks := [0, 1, 2, 3] }
def tstCodes : SenseCodes := { in0 := 0, in1 := 0, in2 := 0, in3 := 0, in4 := 0, in5 := 0, in6 := 0, in7 := 0 }
def tstInfo : MemberInfo :=
  { identity := List.replicate 16 1, protocol := .sas, path := 0, capacity := 1000000, format := 4096, enclFound := 0, slot := 0,
    rotating := true, reservations := true, holder := none, label := .absent, content := none, zeroing := none,
    ownDepth := 1024, queuedSet := false, reformats := true, selfSpins := false }
def tstLabel : Label :=
  { format := 1, inPool := false, poolUuid := [], memberId := 0, ordinal := 0, capacity := 0, charterGen := 0, charterB := 0,
    identity := [], written := 0 }
def tstMirror : MirrorBlock := MirrorBlock.mk 0 0 0 0 0 0 0 ⟨[], []⟩ none
def tstFound : DiscoveryReport := { found := [], beyond := 0, enclosures := [] }
def tstRefs : CalRefs := { edges := 10000000, spacingUs := 0, vrefUv := 1250000 }
def tstOut : Outside := { rings := [], found := tstFound, refs := tstRefs, selfTest := 0, partnerActivating := false }
def tstEv : LogEv := { code := 0x0101, subsystem := 1, inst := 0, sev := 1, detail := [], time := 0 }

theorem test_wf_requests :
    (Instr.poolCommit { tstReq with session := 65536 } 0).wf = false ∧
    (Instr.poolCommit { tstReq with node := 128 } 0).wf = false ∧
    (Instr.poolCommit tstReq 0).wf = true ∧
    (Instr.poolDelete { tstReq with node := 128 } 0).wf = false ∧
    (Instr.memberRelease { tstReq with node := 128 } 0).wf = false ∧
    (Instr.volCreate { tstReq with node := 128 } 0).wf = false ∧
    (Instr.volGrow { tstReq with node := 128 } 0).wf = false ∧
    (Instr.volDelete { tstReq with node := 128 } 0).wf = false ∧
    (Instr.poolImportForce { tstReq with node := 128 } 0).wf = false ∧
    (Instr.poolDivResolve { tstReq with node := 128 } 0 0).wf = false ∧
    (Instr.crossStart { tstReq with node := 128 } 0).wf = false ∧
    (Instr.crossAbort { tstReq with node := 128 } 0).wf = false ∧
    (Instr.fleetCommit { tstReq with node := 128 }).wf = false ∧
    (Instr.fleetRetry { tstReq with node := 128 }).wf = false ∧
    (Instr.fleetRevert { tstReq with node := 128 }).wf = false ∧
    (Instr.memberForceFailed { tstReq with node := 128 } 0).wf = false ∧
    (Instr.memberClearSuspect { tstReq with node := 128 } 0).wf = false ∧
    (Instr.memberReinstate { tstReq with node := 128 } 0).wf = false ∧
    (Instr.kekAutoload { tstReq with node := 128 } 0 true).wf = false ∧
    (Instr.tollgateZeroise { tstReq with node := 128 } 0).wf = false ∧
    (Instr.slotReload { tstReq with node := 128 } 0).wf = false ∧
    (Instr.selftestNow { tstReq with node := 128 } 0).wf = false := by decide

theorem test_wf_requests_later :
    (Instr.poolHandover { tstReq with node := 128 } 0).wf = false ∧
    (Instr.storeTestNow { tstReq with node := 128 }).wf = false ∧
    (Instr.dumpAdopt { tstReq with node := 128 } 0).wf = false ∧
    (Instr.sleepRequest { tstReq with node := 128 }).wf = false ∧
    (Instr.sleepRequestForced { tstReq with node := 128 }).wf = false ∧
    (Instr.calFactory { tstReq with node := 128 }).wf = false ∧
    (Instr.credReset { tstReq with node := 128 } 0).wf = false ∧
    (Instr.stageRelease { tstReq with node := 128 } 0).wf = false ∧
    (Instr.stageBreak { tstReq with node := 128 } 0).wf = false ∧
    (Instr.debugUnlock { tstReq with node := 128 } 0).wf = false ∧
    (Instr.fwActivate { tstReq with node := 128 } false).wf = false ∧
    (Instr.logExportNow { tstReq with node := 128 }).wf = false := by decide

theorem test_wf_bridges_and_pools :
    (Instr.bridgeRequest .h .t (2 ^ 64) false).wf = false ∧
    (Instr.bridgeFault .h .t ⟨0, none⟩).wf = false ∧ (Instr.bridgeFault .h .t ⟨21, none⟩).wf = false ∧
    (Instr.poolImport tstReq 0 [1]).wf = false ∧
    (Instr.poolStallRelease tstReq 0 (2 ^ 64)).wf = false ∧
    (Instr.volDeferredAck tstReq 0 (2 ^ 32)).wf = false ∧
    (Instr.poolGroupAbandon tstReq 0 (2 ^ 64)).wf = false ∧
    (Instr.memberReplaces tstReq 0 65536).wf = false := by decide

theorem test_wf_write_path :
    (Instr.energyEstimateRefresh { tstCodes with in3 := 65536 }).wf = false ∧
    (Instr.writeLanded 0 0 (.ok [(5, 1), (4, 1)]) tstLanes).wf = false ∧
    (Instr.writeLanded 0 0 (.ok [(2 ^ 64, 1)]) tstLanes).wf = false ∧
    (Instr.writeLanded 0 0 .failed { tstLanes with mismatch := [64] }).wf = false ∧
    (Instr.writeLanded 0 0 .failed { tstLanes with hostPi := [(2 ^ 48, 0, true)] }).wf = false ∧
    (Instr.writeLanded 0 0 .failed { tstLanes with hostPi := [(0, 64, true)] }).wf = false ∧
    (Instr.sealFrameReceived { keepalive := false, fromLeader := true, tide := 2 ^ 48, blocks := [], news := [] }).wf = false ∧
    (Instr.shadowBlock 0 { tstMirror with vol := 4096, block := ⟨[], []⟩ }).wf = false ∧
    (Instr.shadowBlock 0 { tstMirror with vol := 0, block := ⟨[1, 0], []⟩ }).wf = false ∧
    (Instr.shadowBlock 0 { tstMirror with vol := 0, block := ⟨[], [0]⟩ }).wf = false ∧
    (Instr.shadowBlock 0 { tstMirror with vol := 0, block := ⟨[], List.replicate 65 1⟩ }).wf = false ∧
    (Instr.destageStart 0 0 [(16384, 0)] 0).wf = false ∧ (Instr.destageRetry 0 0 ⟨[(16384, 0)], 0⟩).wf = false := by decide

theorem test_wf_rings_and_reads :
    (Instr.warmResetN [(65536, [])]).wf = false ∧ (Instr.devWarmReset tstReq 0 [(65536, [])]).wf = false ∧
    (Instr.fwTakeover true [(65536, [])]).wf = false ∧
    (Instr.scrubStripe 0 [(16384, 0)]).wf = false ∧ (Instr.rebuildTask 0 [(16384, 0)]).wf = false ∧
    (Instr.copyback 0 0 [(16384, 0)]).wf = false ∧ (Instr.crossStep 0 ⟨[(16384, 0)], 0⟩).wf = false ∧
    (Instr.rekeyStripe 0 ⟨[(16384, 0)], 0⟩).wf = false ∧
    (Instr.read 0 0 [(16384, 0)] tstLanes).wf = false ∧ (Instr.read 0 0 [] { tstLanes with mismatch := [64] }).wf = false ∧
    (Instr.verify 0 0 [(16384, 0)] tstLanes).wf = false ∧ (Instr.copy 0 0 [(16384, 0)] tstLanes).wf = false ∧
    (Instr.descriptorFetch 0 (List.replicate 65 0)).wf = false := by decide

theorem test_wf_links_and_members :
    (Instr.linkUp (.lane 0) .sas 3 ⟨1, 0⟩).wf = false ∧ (Instr.linkUp (.lane 0) .sas 4 ⟨8, 0⟩).wf = false ∧
    (Instr.discoveryEvent { tstFound with found := [16384] }).wf = false ∧
    (Instr.discoverNow tstReq { tstFound with found := [16384] }).wf = false ∧
    (Instr.memberPresent { tstInfo with identity := [] }).wf = false ∧
    (Instr.memberPresent { tstInfo with capacity := 2 ^ 64 }).wf = false ∧
    (Instr.memberPresent { tstInfo with label := .good tstLabel }).wf = false ∧
    (Instr.enclNumber tstReq 65536).wf = false ∧ (Instr.memberReformat tstReq 0 65536).wf = false := by decide

theorem test_wf_keys_and_landing :
    (Instr.kekImport tstReq [1]).wf = false ∧ (Instr.kekUnlock tstReq [1]).wf = false ∧ (Instr.kekErase tstReq [1]).wf = false ∧
    (Instr.poolKekRotate tstReq 0 [1]).wf = false ∧
    (Instr.bar4Tlp .f0 (.read 0 4097)).wf = false ∧ (Instr.bar4Resize .f0 0).wf = false ∧ (Instr.bar4Resize .f0 257).wf = false ∧
    (Instr.registerWrite .f0 0 0 3 0).wf = false ∧ (Instr.doorbell .f0 0 3 0).wf = false ∧
    (Instr.hostLinkUp .f0 5 5 false).wf = false := by decide

theorem test_wf_pair_and_power :
    (Instr.pairPartnerUuid tstReq [1]).wf = false ∧
    (Instr.pairForm { uuid := [], revision := 0, charterFormat := 1, fwVersion := 0, tide := 0, width := 16,
                      pairUuid := List.replicate 16 0 }).wf = false ∧
    (Instr.pairForm { uuid := List.replicate 16 0, revision := 0, charterFormat := 1, fwVersion := 0, tide := 2 ^ 48, width := 16,
                      pairUuid := List.replicate 16 0 }).wf = false ∧
    (Instr.hawserRetrain 3).wf = false ∧ (Instr.pairChangeProposal (.tideUs (2 ^ 32)) 0).wf = false ∧
    (Instr.pairChangeProposal (.recovery 0 (2 ^ 32)) 0).wf = false ∧ (Instr.pairChangeProposal (.charter 0 (2 ^ 64)) 0).wf = false ∧
    (Instr.restoreBoot { tstBoot with channels := 13 }).wf = false ∧ (Instr.thermalRecovery 40 { tstBoot with dumpLinks := [4] }).wf = false ∧
    (Instr.powerOn { tstBoot with channels := 13 }).wf = false ∧ (Instr.coldResetN true { tstBoot with channels := 13 }).wf = false ∧
    (Instr.railsGoodFall { tstBoot with channels := 13 }).wf = false ∧
    (Instr.warnMv tstReq 65536).wf = false ∧ (Instr.dumpMv tstReq 65536).wf = false ∧ (Instr.wakeCan 65536 tstWake).wf = false := by
  decide

theorem test_wf_dictionary :
    (Instr.sessionOpen .mbx0 0 { tstFrame with seq := 65536 }).wf = false ∧ (Instr.auth .mbx0 0 { tstFrame with session := 65536 }).wf = false ∧
    (Instr.sessionClose .mbx0 0 { tstFrame with index := 65536 }).wf = false ∧ (Instr.claim .mbx0 { tstFrame with sub := 256 }).wf = false ∧
    (Instr.keepalive .mbx0 0 { tstFrame with len := 4097 }).wf = false ∧ (Instr.keepalive .mbx0 0 { tstFrame with rsvd := 32 }).wf = false ∧
    (Instr.keepalive .mbx0 0 { tstFrame with status := 256 }).wf = false ∧ (Instr.dictRead .mbx0 0 { tstFrame with offset := 65536 }).wf = false ∧
    (Instr.dictRead .mbx0 0 { tstFrame with total := 65536 }).wf = false ∧
    (Instr.dictWrite .mbx0 0 { tstFrame with data := [1] } tstOut).wf = false ∧
    (Instr.dictWrite .mbx0 0 { tstFrame with mac := [] } tstOut).wf = false ∧
    (Instr.dictWrite .mbx0 0 tstFrame { tstOut with refs := { tstRefs with edges := 2 ^ 32 } }).wf = false ∧
    (Instr.credWrite tstReq 0 []).wf = false ∧ (Instr.mbxSubmit .f0 65536 tstOut).wf = false ∧
    (Instr.twinRelay .mbx0 0 256 tstFrame).wf = false ∧ (Instr.fwStageBegin tstReq (2 ^ 32)).wf = false ∧
    (Instr.calStart tstReq 65536 tstRefs).wf = false ∧ (Instr.calStart tstReq 1 { tstRefs with edges := 2 ^ 32 }).wf = false ∧
    (Instr.logEvent { tstEv with code := 65536 }).wf = false ∧ (Instr.logEvent { tstEv with subsystem := 0 }).wf = false ∧
    (Instr.logEvent { tstEv with subsystem := 21 }).wf = false ∧ (Instr.logEvent { tstEv with sev := 5 }).wf = false ∧
    (Instr.logEvent { tstEv with detail := List.replicate 25 0 }).wf = false := by decide

/-! ### Memory and reset -/

theorem test_reset_peer_area_wf : Memory.wf State.reset.peerMem = true := by decide
theorem test_peer_area_write_of_zero_unlists : Memory.write (Memory.write [] 7 5) 7 0 = [] := by decide
theorem test_peer_area_ill_formed : Memory.wf [(4, 1), (3, 1)] = false ∧ Memory.wf [(4, 0)] = false := by decide
theorem test_no_row_has_bits (n w : Nat) : decodeTableWord n w = none := rfl

/-! ### Premises that can be met: a small part for each statement -/

def tstSess : SessSt :=
  { id := 1, transport := .mbx0, node := 0, role := 2, isOpen := true, noAuth := true, kMac := [], kKt := [], ctx := [], nextSeq := 1,
    devSeq := 1, lastResp := none, inHand := none, pageSel := 0, enclSel := 0, lostFrom := [], partBlob := none, snapshot := none }

/-- The part after reset with an open Custodian session, changed by `f`. -/
def tst (f : Part → Part) : State := State.reset.onPart (fun s => f (s.modDict (fun d => { d with sessions := [tstSess] })))

theorem tst_allowed {s : Part} {need : Nat} {sc : Option (Nat × Nat)}
    (h : ((s.openSess? tstReq).any (fun x => decide (need ≤ x.role)) && s.dict.locks.isEmpty) = true) : Allowed s tstReq need sc := by
  cases hx : s.openSess? tstReq <;> simp_all [Allowed, Part.lockHolder, alGet]

def tstShape : Shape :=
  { codeType := 1, k := 1, m := 1, g := 0, stripLog2 := 12, blockFmt := 4, enclLimit := 2, rackLimit := 2, spare := 0, seed := 0,
    dataStart := 16384, usable := 4, stripeCount := 4 }
def tstEntry (k st : Nat) : CMember :=
  { id := k, ordinal := k, state := st, protocol := .sas, encl := 0, rack := 0, identity := List.replicate 16 1 }
def tstVol : CVol := { id := 0, hostPi := 0, keyGen := 0, size := 1, base := 0, wrapped := [] }
def tstCharter : Charter :=
  { uuid := List.replicate 16 2, gen := 1, poolId := 0, shape := tstShape, recovery := 0, initDone := true, paired := false, created := 0,
    changed := 0, changeTide := 0, kekId := [], pairUuid := [], prefOwner := [], members := [tstEntry 0 2, tstEntry 1 2], vols := [],
    cross := none }
/-- An operational pool of two mirrored members. -/
def tstPool : PoolSt := PoolSt.begin_ tstCharter 3
def tstMember (k st : Nat) : MemberSt := { MemberSt.fresh k { tstInfo with path := k } 0 with state := st }
def tstMembers : List MemberSt := [tstMember 0 2, tstMember 1 2]
def tstHeld (st : EntryState) : MEntry := MEntry.fresh 0 0 0 st 1 0
def tstOf (p : PoolSt) (f : Part → Part) : State := tst (fun s => f { s with pools := [p], members := tstMembers })
/-- A pool with one volume, and a running chain of function 0 with one command. -/
def tstVolPool : PoolSt := { tstPool with charter := { tstCharter with vols := [tstVol] }, writeState := 0 }
def tstCmd (d : BitVec 512) (ph : CmdPhase) : Cmd :=
  { hseq := 1, desc := d, phase := ph, gen := 0, tide := 0, through := false, covers := [], vector := 0, noSnoop := false }
def tstSlot : SlotSt := { id := 0, state := 2, keyGen := 0, material := List.replicate 64 3, loadedAt := 0, authFails := 0, rerandoms := 0 }
def tstChain (d : BitVec 512) (ph : CmdPhase) (s : Part) : Part :=
  { s with chains := [{ ChainSt.reset 0 with st := .running, cmds := [tstCmd d ph] }], toll := { s.toll with slots := [tstSlot] } }
/-- WRITE, FLUSH … of one block of the pool's volume as the only command of chain 0. -/
def tstD (op : Nat) : BitVec 512 := BitVec.ofNat 512 (op * 2 ^ 16 + 2 ^ 32 + 2 ^ 192)
def tstOpen (op : Nat) (ph : CmdPhase) (f : Part → Part) : State := tstOf tstVolPool (fun s => f (tstChain (tstD op) ph s))
def tstSet (l : List ((Nat × Nat) × DVal)) (s : Part) : Part := s.modDict (fun d => { d with objs := l })
/-- The part runs: powered, no dump. -/
def tstAwake (s : Part) : Part := (s.modTow (fun t => { t with power := 0, coreEn := true })).modDump (fun d => { d with state := 0 })

def tstTwin (f : Part → Part) : State := tst (fun s => f (s.modPair (fun x => { x with state := 2, path1Lost := false, path2Lost := false })))
def tstSeal : SealFrame := { keepalive := false, fromLeader := true, tide := 2, blocks := [], news := [] }
/-- A pool of a pair, owned by this unit or by the twin. -/
def tstPaired (owner state : Nat) : PoolSt :=
  { tstPool with charter := { tstCharter with paired := true }, pair := { PoolPairSt.empty with owner := owner, state := state } }

def tstHeldBlk : Held :=
  { pool := 0, stripe := 0, strip := 0, bo := 0, vol := 0, lba := 0, gen := 65536, tide := 1, block := Block.zero, tx := none, through := false,
    chain := 0, hseq := 1, weak := false }
def tstDest (e : MEntry) : State := tstOf tstVolPool (fun s => s.modMan (fun m => { m with entries := [e], held := [tstHeldBlk], marks := [] }))

def tstFn (f : FnSt → FnSt) : State := tst (fun s => s.modFn .f0 f)

/-- Chain 0 of function 0 in state `st`, its ring of 16 slots, nothing fetched yet. -/
def tstRing (st : ChainState) (db : BitVec 32) (f : ChainSt → ChainSt) : ChainSt :=
  f { ChainSt.reset 0 with st := st, sizeLog2 := 4, fetchSeq := 0, dseq := 0, dbSeq := db, regCfg := 0x1F000004 }
def tstRun (c : ChainSt) : State := tst (fun s => (s.modFn .f0 (fun x => { x with bme := true })) |> fun s => { s with chains := [c] })

def tstHome : PoolSt := { tstPool with ckpt := { CkptSt.empty with seq := 1, homes := [0, 1], ready := [3] } }

def tstTx : TxSt := { tag := 1, pool := 0, extents := 0, blocks := 0, failed := false, timedOut := false, noProtect := false, commitTide := none }

/-- A transaction command of tag 1. -/
def tstDt (op : Nat) : BitVec 512 := BitVec.ofNat 512 (op * 2 ^ 16 + 2 ^ 32 + 2 ^ 216)
def tstTxn (op : Nat) (f : Part → Part) : State := tstOf tstVolPool (fun s => f (tstChain (tstDt op) .accepted s))

theorem test_meets_steps :
    (∃ s : State, s.pending = [Instr.idleEntry]) ∧ State.reset.pending = [] ∧ Memory.wf State.reset.peerMem = true ∧
    (∃ t, step { State.reset with pending := [Instr.fleetPartial] } = .next t) ∧ accessesBar .fleetPartial = false ∧
    reachesPeer .fleetPartial = false ∧ canBoot .fleetPartial = false :=
  ⟨⟨{ State.reset with pending := [Instr.idleEntry] }, rfl⟩, rfl, rfl, ⟨_, rfl⟩, rfl, rfl, rfl⟩

theorem test_meets_RelocationFollowsMemberStates :
    tstCharter.members[1]? = some (tstEntry 1 2) ∧ tstCharter.braid.relocated 1 = false := by decide

theorem test_meets_BridgeWordsAreAnswered :
    State.reset.part.ready .h = false ∧ State.reset.part.ready .s = true ∧
    (∀ x ∈ (State.reset.part.bridge .h .s).recent, x + 1000000 ≤ State.reset.part.timeUs) := by decide

theorem test_meets_IslandsGoDownAndUp :
    (State.reset.part.island .h).powered = false ∧ (State.reset.part.island .h).waking = false ∧
    mayPowerDown .d (tst (fun s => s.modIsland .d (fun x => { x with powered := true }))).part = true ∧
    ((tst (fun s => s.modIsland .d (fun x => { x with waking := true }))).part.island .d).waking = true := by decide

theorem test_meets_CharterChangesAreBuilt :
    (tstOf { tstPool with queue := [.initDone] } id).part.pool? 0 = some { tstPool with queue := [.initDone] } ∧
    tstPool.owned = true ∧ tstPool.life = 3 ∧ tstPool.change = none ∧ tstPool.coming = none ∧
    { tstPool with life := 2, charter := { tstCharter with initDone := false } }.latest.initDone = false := by decide

def tstChange : ChangeBuild :=
  { charter := { tstCharter with gen := 2 }, delta := none, holders := [0], failed := [], restoring := false, announceTide := none, creation := false }

theorem test_meets_CharterCopiesCommit :
    (tstOf { tstPool with change := some tstChange } id).part.pool? 0 = some { tstPool with change := some tstChange } ∧
    1 ∈ tstChange.charter.listed ∧ 1 ∉ tstChange.holders ∧ announced State.reset.part 0 tstChange.announceTide = true ∧
    tstChange.charter.listed.length < 2 * (tstChange.holders.length + 1) ∧ tstChange.charter.paired = false ∧
    2 * (tstChange.charter.listed.length - 1) ≤ tstChange.charter.listed.length ∧
    2 * tstChange.holders.length ≤ tstChange.charter.listed.length := by decide

theorem test_meets_PoolsBeginAndEnd :
    Allowed (tstOf tstPool id).part tstReq roleCustodian (some (scopePool 0)) ∧ (tst id).part.pool? 0 = none ∧
    createRefusal (tst id).part 0 (bitmapIds ((tst id).part.objBlob (poolIdx 0 0x10) 7)) ≠ none ∧
    (tstOf tstPool id).part.pool? 0 = some tstPool ∧ tstPool.latest.vols = [] ∧ tstPool.owned = true ∧
    (tst (fun s => { s with members := tstMembers })).part.memberNamed 0 = false ∧
    (tst (fun s => { s with members := tstMembers })).part.member? 0 = some (tstMember 0 2) := by
  and_intros <;> first | rfl | decide | exact tst_allowed (by decide)

def tstStaged : Part → Part := tstSet [((0xA000, 7), .num 0), ((0xA000, 8), .num 1)]

theorem test_meets_VolumesChangeThroughTheCharter :
    Allowed (tstOf tstVolPool id).part tstReq roleCustodian (some (scopeVol 0)) ∧
    (tstOf tstVolPool id).part.volHome 0 = some tstVolPool ∧ tstVolPool.latest.vols.find? (fun x => x.id == 0) = some tstVol ∧
    tstVolPool.latest.cross = none ∧ tstVolPool.owned = true ∧
    (tstOf tstPool tstStaged).part.pool? ((tstOf tstPool tstStaged).part.objNum 0xA000 7) = some tstPool ∧
    (tstOf tstPool tstStaged).part.objNum 0xA000 8 ≠ 0 ∧ (tstOf tstPool id).part.volHome 0 = none ∧
    freeBase tstPool.latest 1 = some 0 := by
  and_intros <;> first | rfl | decide | exact tst_allowed (by decide) | decide +kernel

def tstLabelled (k : Nat) : MemberSt :=
  { tstMember k 1 with
    charterA := some tstCharter
    label := .good { tstLabel with inPool := true, poolUuid := List.replicate 16 2, memberId := k } }

theorem test_meets_PoolsAreImported :
    Allowed (tst id).part tstReq roleCustodian (some (scopePool 0)) ∧ (tst id).part.poolLife 0 = 0 ∧
    (tstOf tstPool id).part.poolLife 0 ≠ 0 ∧ ownedElsewhere (tst id).part (List.replicate 16 2) = false ∧
    adoptable (tst id).part (List.replicate 16 2) = none ∧
    adoptable (tst (fun s => { s with members := [tstLabelled 0, tstLabelled 1] })).part (List.replicate 16 2) = some tstCharter ∧
    newest ([(tstCharter, 2)].map (·.1)) = some tstCharter := by
  and_intros <;> first | rfl | decide | exact tst_allowed (by decide)

theorem test_meets_CeilingsFollowTheEstimate :
    State.reset.part.pair.state = 0 ∧ (tst (fun s => s.modPair (fun x => { x with state := 2 }))).part.pair.state ≠ 0 ∧
    (∀ x ∈ State.reset.part.sched.estimates, State.reset.part.timeUs < x.1 + 1000000) := by decide

/-- A WRITE of one block in the pool's volume, admitted or waiting. -/
def tstWrite (ph : CmdPhase) : State := tstOpen 2 ph id

theorem test_meets_WritesAreAdmitted :
    takeable (tstWrite .waiting).part 0 1 .waiting = some (tstCmd (tstD 2) .waiting) ∧
    (tstWrite .waiting).part.volume? (dVol (tstD 2)) = some (tstVolPool, tstVol) ∧ (tstWrite .waiting).part.spots (tstD 2) ≠ [] ∧
    writeHeld (tstWrite .waiting).part tstVolPool (txOf 0 (tstD 2)) ((tstWrite .waiting).part.spots (tstD 2)) = false ∧
    writeRefused (tstWrite .waiting).part tstVolPool ((tstWrite .waiting).part.spots (tstD 2)) = false := by
  decide +kernel

theorem test_meets_TidesCloseAreSealedAndConfirmed :
    State.reset.part.ready .t = false ∧ (tst (fun s => s.modIsland .t (fun x => { x with ready := true }))).part.ready .t = true ∧
    State.reset.part.dump.state ≠ 3 ∧ (tst (fun s => s.modPair (fun x => { x with path1Lost := false }))).part.pair.path1Lost = false := by
  decide

theorem test_meets_TheTwinsFramesArrive :
    (tstTwin id).part.pair.state ≠ 0 ∧ (tstTwin id).part.pair.path1Lost = false ∧ (tstTwin id).part.pair.sealsWaiting = [] ∧
    sealHeld (tstTwin id).part tstSeal = true ∧ (tstTwin (fun s => { s with pools := [tstPaired 1 2] })).part.pool? 0 = some (tstPaired 1 2) ∧
    (tstPaired 1 2).pair.owner = 1 := by
  and_intros <;> first | rfl | decide

theorem test_meets_WrittenDataLands :
    landable (tstWrite .admitted).part 0 1 = some (tstCmd (tstD 2) .admitted) ∧
    (tstWrite .admitted).part.volume? (dVol (tstD 2)) = some (tstVolPool, tstVol) ∧
    ((tstWrite .admitted).part.materialFor tstVolPool false 0 0).isSome = true ∧ dPiMode (tstD 2) = 0 ∧
    isTx (tstD 2) = false ∧ dPeer (tstD 2) = false ∧ dOpcode (tstD 2) = 2 ∧
    (∀ y ∈ ((tstWrite .admitted).part.chain 0).cmds, y.phase = .admitted → dOpcode y.desc ≠ 0x11) ∧
    (tstWrite .abandoned).part.cmd? 0 1 = some (tstCmd (tstD 2) .abandoned) := by
  decide +kernel

theorem test_meets_TransactionsTimeOutAndFlushesEnd :
    (tstOpen 3 .admitted (fun s => s.modChain 0 (fun c => { c with txs := [tstTx] }))).part.tx? 0 1 = some tstTx ∧ tstTx.ended = false ∧
    ((tstOpen 3 .admitted id).part.cmd? 0 1).any (fun x => x.phase == .admitted && dOpcode x.desc == 3) = true ∧
    flushPending (tstOpen 3 .admitted id).part 0 0 = false ∧ (tstOpen 3 .admitted id).part.dump.state ≠ 3 := by
  decide +kernel

theorem test_meets_StripesAreDestaged :
    (tstDest (tstHeld .held)).part.entry? 0 0 = some (tstHeld .held) ∧ (tstHeld .held).stuck = false ∧
    mayDestage (tstDest (tstHeld .held)).part tstVolPool 0 (tstHeld .held) = true ∧
    (let e := { tstHeld .writing with left := [0], built := false, mask := [0], synd := 0 }
     (tstDest e).part.entry? 0 0 = some e ∧ 0 ∈ e.left ∧ e.left.filter (· != 0) = []) ∧
    (tstDest { tstHeld .writing with left := [0, 1] }).part.tow.sleeping = false ∧ [0, 1].filter (· != 0) ≠ [] ∧
    (tstDest (tstHeld .held)).part.pipes ≠ [] := by
  and_intros <;> first | rfl | decide

theorem test_meets_WarmResetsStart :
    resetIgnored (tst tstAwake).part = false ∧ (tst id).part.fw.activating = false ∧
    Allowed (tst id).part tstReq roleOperator none := by
  and_intros <;> first | rfl | decide | exact tst_allowed (by decide)

theorem test_meets_WarmResetsEnd :
    (tst (fun s => s.modSched (fun x => { x with resetting := true, memberStop := true }))).part.sched.resetting = true ∧
    sealsOutstanding (tst (fun s => s.modSched (fun x => { x with resetting := true }))).part = false ∧
    destageAwaited (tst (fun s => s.modSched (fun x => { x with resetting := true }))).part = false := by decide

def tstBuild : CkptBuild :=
  { image := { seq := 2, tide := 0, destagedTide := 0, charterGen := 1, homes := [0, 1], outOfSchedule := false, writeThrough := false,
               noManifest := false, intent := [], lostCount := 0, written := 0, poolUuid := [] }
    lostImage := { seq := 2, poolUuid := [], overflow := false, entries := [] }
    reported := [0]
    lost := []
    announceTide := none }

theorem test_meets_CheckpointsAndExtensionsTakeForce :
    (tstOf tstHome id).part.pool? 0 = some tstHome ∧ tstHome.owned = true ∧ tstHome.ckpt.build = none ∧ tstHome.ckpt.due.contains 4 = false ∧
    tstHome.growthHeld = false ∧ tstHome.ckpt.ready ≠ [] ∧ tstHome.ckpt.extBuild = none ∧ tstHome.ckpt.extSeq < 4096 ∧
    (rangesOf (sortNats (tstHome.ckpt.intent ++ extensionStripes tstHome.ckpt.ready).eraseDups)).length ≤ maxRanges ∧
    tstPool.growthHeld = true ∧ announced State.reset.part 0 tstBuild.announceTide = true ∧
    2 ≤ (tstBuild.reported ++ reporting tstBuild.alive [1]).eraseDups.length ∧
    (tstBuild.reported ++ reporting tstBuild.alive [0]).eraseDups.length < 2 := by
  decide +kernel

theorem test_meets_StalledStripesAndDigests :
    (tstDest { tstHeld .stalled with stalledAt := some 0 }).part.entry? 0 0 = some { tstHeld .stalled with stalledAt := some 0 } ∧
    { tstPool with charter := { tstCharter with recovery := 1 } }.progress = true ∧ tstVolPool.progress = false ∧ tstVolPool.owned = true ∧
    Allowed (tstDest (tstHeld .stalled)).part tstReq roleCustodian none ∧ (tstPaired 0 2).pair.state = 2 ∧
    (tstTwin id).part.pair.path1Lost = false := by
  and_intros <;> first | rfl | decide | exact tst_allowed (by decide)

theorem test_meets_ScrubAndResolution :
    scrubAwake (tstOf tstPool tstAwake).part tstPool = true ∧ tstPool.againDue (tstOf tstPool tstAwake).part = none ∧
    atMargin (tstOf tstPool tstAwake).part tstPool 0 = false ∧ (tstOf tstPool tstAwake).part.objNum (poolIdx 0 0x14) 1 ≠ 0 ∧
    (let p := { tstPool with int := { PoolInt.empty with again := [1] } }
     p.againDue (tstOf p tstAwake).part = some 1) ∧
    (tstOf tstPool tstAwake).part.entry? 0 tstPool.int.scrubCursor = none := by
  decide +kernel

theorem test_meets_resolutions :
    Allowed (tstOf tstVolPool id).part tstReq roleOperator none ∧
    resolveWrites (tstOf tstVolPool id).part tstVolPool { vol := 0, lba := 0, stripe := 0, strip := 0, bo := 0 } 0 ≠ [] ∧
    (tstVolPool.charter.geoOf 0).mirror = true ∧ (tstVolPool.charter.geoOf 0).w = 2 := by
  refine ⟨tst_allowed (by decide), ?_⟩
  decide +kernel

/-- Two mirrored ordinals and a spare lane; ordinal 0 is in state `st`. -/
def tstSpare (st : Nat) : PoolSt :=
  { tstPool with charter := { tstCharter with
      shape := { tstShape with spare := 1 }, members := [tstEntry 0 st, tstEntry 1 2, tstEntry 2 2] } }
def tstSpareOf (st : Nat) : State :=
  tst (fun s => tstAwake { s with pools := [tstSpare st], members := [tstMember 0 st, tstMember 1 2, tstMember 2 2] })

theorem test_meets_RebuildRestoresStrips :
    (tstSpareOf 4).part.pool? 0 = some (tstSpare 4) ∧ (firstTask (tstSpareOf 4).part (tstSpare 4)).isSome = true ∧
    (tstSpareOf 4).part.sched.frozen = false ∧ (tstSpareOf 4).part.dump.state ≠ 3 ∧
    (tstSpareOf 0).part.member? 0 = some (tstMember 0 0) ∧ (tstSpareOf 0).part.poolOfMember 0 = some (0, 0) ∧
    ((tstSpare 2).charter.memberAt 0).map (·.state) ≠ some 0 := by
  decide +kernel

theorem test_meets_abandonments :
    Allowed (tst (fun s => { s with pools := [tstPool], members := [tstMember 0 4, tstMember 1 4] })).part tstReq roleCustodian none ∧
    beyondStripes (tst (fun s => { s with pools := [tstPool], members := [tstMember 0 4, tstMember 1 4] })).part tstPool 0 ≠ [] ∧
    beyondStripes (tstOf tstPool id).part tstPool 0 = [] := by
  refine ⟨tst_allowed (by decide), ?_⟩
  decide +kernel

def tstNew : MemberSt := { tstMember 3 1 with info := { tstInfo with path := 3, format := 4, capacity := 1000000 } }
def tstVacant : State :=
  tst (fun s => { s with timeUs := 60000000, pools := [tstSpare 4], members := [tstMember 0 4, tstMember 1 2, tstMember 2 2, tstNew] })

theorem test_meets_MembersAreReplaced :
    tstVacant.part.member? 3 = some tstNew ∧ replaceRefusal tstVacant.part (tstSpare 4).latest 0 tstNew = none ∧
    replaceRefusal tstVacant.part (tstSpare 4).latest 1 tstNew = some 164 ∧
    (vacancies tstVacant.part (tstSpare 4).latest tstNew.info.enclFound).find?
      (fun o => (replaceRefusal tstVacant.part (tstSpare 4).latest o tstNew).isNone) = some 0 ∧
    tstNew.presentAt + 60000000 ≤ tstVacant.part.timeUs := by
  decide +kernel

theorem test_meets_assignments :
    Allowed tstVacant.part tstReq roleCustodian none ∧ replaceTarget tstVacant.part 0 tstNew = some (tstSpare 4) := by
  refine ⟨tst_allowed (by decide), ?_⟩
  decide +kernel

/-- Ordinal 0 has returned and all its strips are in the lane: copy-back may run. -/
def tstBack : PoolSt := { tstSpare 1 with reb := { PoolReb.empty with rebuilt := [(0, 0), (0, 1), (0, 2), (0, 3)] } }
def tstBackOf : State :=
  tst (fun s => tstAwake { s with pools := [tstBack], members := [tstMember 0 1, tstMember 1 2, tstMember 2 2] })

theorem test_meets_copyback :
    tstBackOf.part.returned tstBack.charter.geo 0 = true ∧ tstBackOf.part.takes 0 = true ∧ poolTasks tstBackOf.part tstBack = [] ∧
    (∀ w ∈ tstBack.shapes.filterMap (fun h => (h.entries.idxOf? 0).map (fun oh => (h, oh))), ∀ x ∈ w.1.groupStripes 0,
      homeBlocked tstBackOf.part tstBack w.2 w.1 x = false) := by
  decide +kernel

/-- A mirror of two that crosses to members 2 and 3, at the volume's start; `kinds` 0 to 15 change the shape. -/
def tstBlk (kinds fmt : Nat) : CrossBlk :=
  { kinds := kinds, stage := 0, startGen := 1, shape := { tstShape with dataStart := 16388, blockFmt := fmt }, srcCount := 2, curVolume := 0, cursor := 0,
    cursorTide := 0, started := 0, volumes := [0], newKey := if kinds = 16 then [1] else [], target := [2, 3] }
def tstCrossed (kinds fmt : Nat) : PoolSt :=
  { tstPool with charter := { tstCharter with
      shape := { tstShape with blockFmt := fmt }
      members := [tstEntry 0 2, tstEntry 1 2, tstEntry 2 7, tstEntry 3 7], vols := [tstVol], cross := some (tstBlk kinds fmt) } }
def tstCrossOf (p : PoolSt) : State :=
  tst (fun s => tstAwake { s with
    pools := [p], members := [tstMember 0 2, tstMember 1 2, tstMember 2 7, tstMember 3 7]
    toll := { s.toll with slots := [tstSlot], rekey := [tstSlot] } })

theorem test_meets_CrossingsStartAndEnd :
    Allowed (tstOf tstVolPool id).part tstReq roleCustodian (some (scopePool 0)) ∧ tstPool.life = 3 ∧ tstPool.owned = true ∧
    (tstOf tstPool id).part.pool? 0 = some tstPool ∧ tstPool.latest.cross = none ∧
    (tstCrossed 1 4).charter.vols.find? (fun v => v.id == 0) = some tstVol ∧ crossChanging (tstCrossed 1 4) = false ∧
    (tstCrossed 1 4).owned = true ∧ rekeyFloor (tstCrossOf (tstCrossed 1 4)).part (tstCrossed 1 4) (tstBlk 1 4) tstVol < tstVol.size := by
  and_intros <;> first | rfl | decide | exact tst_allowed (by decide)

/-- What is staged asks for new keys alone: no item of R168's list stops it. -/
theorem test_meets_staged_rekey :
    crossRefusal (tstOf tstPool (fun s => { s with toll := { s.toll with keks := [{ entry := 0, id := [], key := [], autoload := false, loaded := true }] } })).part
      { tstPool with charter := { tstCharter with shape := { tstShape with blockFmt := 1 } } }
      { tstCharter with shape := { tstShape with blockFmt := 1 } } 16 { tstShape with blockFmt := 1 } [0, 1] [] = none := by
  decide +kernel

theorem test_meets_CrossingsMoveStripeByStripe :
    (tstCrossOf (tstCrossed 1 4)).part.pool? 0 = some (tstCrossed 1 4) ∧ stepRange (tstCrossed 1 4) (tstBlk 1 4) 1 = (0, 1) ∧
    crossAwake (tstCrossOf (tstCrossed 1 4)).part (tstCrossed 1 4) = true ∧ (tstBlk 1 4).isShape = true ∧ (tstBlk 1 4).shape.blockFmt = 4 ∧
    (tstCrossed 1 4).cross.stepLeft = [] ∧ urgentRebuild (tstCrossOf (tstCrossed 1 4)).part (tstCrossed 1 4) = false ∧
    stripesFor (tstCrossed 1 4) false tstVol 0 1 = [0] ∧ beyondAt (tstCrossOf (tstCrossed 1 4)).part (tstCrossed 1 4) 0 = false ∧
    (∀ y ∈ 0 :: stripesFor (tstCrossed 1 4) true tstVol 0 1, waitsAt (tstCrossOf (tstCrossed 1 4)).part (tstCrossed 1 4) y = false ∧
      (tstCrossOf (tstCrossed 1 4)).part.entry? 0 y = none) := by
  decide +kernel

theorem test_meets_a_rekey :
    (tstCrossOf (tstCrossed 16 1)).part.pool? 0 = some (tstCrossed 16 1) ∧ (tstCrossed 16 1).charter.cross.any (fun x => !x.isShape) = true ∧
    ((tstCrossOf (tstCrossed 16 1)).part.mainMaterial 0).isSome = true ∧ ((tstCrossOf (tstCrossed 16 1)).part.rekeyMaterial 0).isSome = true ∧
    urgentRebuild (tstCrossOf (tstCrossed 16 1)).part (tstCrossed 16 1) = false ∧
    waitsAt (tstCrossOf (tstCrossed 16 1)).part (tstCrossed 16 1) 0 = false := by
  decide +kernel

def tstFleet (state : Nat) : State :=
  tstOf tstPool (fun s => { s with
    fleet := { s.fleet with committed := [(0xFFFF, 2, 8)], kind := 2, value := 8, scope := 0xFFFF, state := state, left := [0] }
    members := [{ tstMember 0 2 with fleet := [(2, 1)] }] })

theorem test_meets_FleetChangesRun :
    Allowed (tstFleet 3).part tstReq roleOperator (some scopeFleet) ∧ fleetValueGood 2 8 = true ∧ fleetValueGood 2 0 = false ∧
    fleetValueFor (tstFleet 1).part 0 2 = some 8 ∧ readBackGood 2 8 8 = true ∧ readBackGood 2 8 7 = false ∧
    (tstFleet 1).part.member? 0 = some { tstMember 0 2 with fleet := [(2, 1)] } ∧ (tstFleet 1).part.fleet.left ≠ [] := by
  and_intros <;> first | rfl | decide | exact tst_allowed (by decide)

theorem test_meets_LinksTrainAndRetrain :
    ((tst id).part.lane 0).state = 0 ∧ (∀ y ∈ linkLanes 0 1 .sas, modeAllows 0 .sas = true ∧ y = 0) ∧ widthGood (tst id).part 0 1 .sas = true ∧
    widthGood (tst id).part 0 2 .sas = false ∧ ((tst id).part.dump.targets.any (fun y => y.idx == 0)) = true ∧
    ((tst (fun s => s.modFab (fun f => { f with lanes := [{ LaneSt.reset 0 with state := 2, rate := 4 }] }))).part.lane 0).state = 2 := by
  decide +kernel

/-- A part whose binding table gives id `k` to another identity, and a member whose label bears an id in a pool of the part. -/
def tstBound (k : Nat) : State := tstOf tstPool (fun s => s.modFab (fun f => { f with bindings := [([9], k)] }))
def tstPooled : MemberInfo :=
  { tstInfo with label := .good { tstLabel with inPool := true, poolUuid := tstPool.charter.uuid, memberId := 5 } }

theorem test_meets_DevicesAreDiscovered :
    memberIdFor (tst id).part tstInfo = some 0 ∧ (tst id).part.member? 0 = none ∧ (tst id).part.poolOfMember 0 = none ∧
    boundElsewhere (tst id).part 0 tstInfo = false ∧
    memberIdFor (tstBound 5).part tstPooled = some 5 ∧ (tstBound 5).part.member? 5 = none ∧ boundElsewhere (tstBound 5).part 5 tstPooled = true ∧
    (∃ k, freeId (tstBound 5).part = some k ∧ (tstBound 5).part.poolOfMember k = none) ∧
    (∀ m ∈ (tst id).part.members, m.info.path = tstInfo.path → m.info.identity = tstInfo.identity) ∧
    enclDeclared (tst (fun s => s.modFab (fun f => { f with encls := [(0, 7)] }))).part 0 = false ∧
    (tstOf tstPool id).part.memberNamed 0 = true ∧ (tst (fun s => { s with members := [tstMember 0 1] })).part.memberNamed 0 = false ∧
    unlabelled (tstMember 0 1) = true ∧ (tstMember 0 1).linkUp = true ∧ formatOf .sas 4 = true ∧
    (tstMember 0 1).info.reformats = true := by
  refine ⟨by decide +kernel, by decide +kernel, by decide +kernel, by decide +kernel, by decide +kernel, by decide +kernel,
    by decide +kernel, ⟨_, rfl, by decide +kernel⟩, ?_⟩
  decide +kernel

def tstMc : MCmd :=
  { id := 0, op := .writeStrip 0 0 0, cls := 5, nonQueued := false, fua := false, mba := 0, count := 1, lane := 0, retried := false, timedOut := false }
def tstQueue (m : MemberSt) : State := tstDest (tstHeld .writing) |>.onPart (fun s => tstAwake { s with members := [m, tstMember 1 2] })

theorem test_meets_MemberCommandsRun :
    (let m := { tstMember 0 2 with waiting := [tstMc] }
     nextCmd (tstQueue m).part m = some tstMc ∧ mayIssue (tstQueue m).part m = true ∧ m.outstanding.length < m.depth ∧
       memberContextFree (tstQueue m).part m = true) ∧
    (let m := { tstMember 0 2 with outstanding := [tstMc] }
     (tstQueue m).part.member? 0 = some m ∧ m.outstanding.find? (fun x => x.id == 0) = some tstMc ∧ tstMc.op.isWrite = true ∧
       (tstQueue m).part.tow.sleeping = false ∧ (tstQueue m).part.entry? 0 0 = some (tstHeld .writing) ∧
       ((tstQueue m).part.pool? 0).isSome = true) ∧
    (let m := { tstMember 0 2 with waiting := [{ tstMc with nonQueued := true }], draining := true }
     mayIssue (tstQueue m).part m = true ∧ m.waiting.find? (·.nonQueued) = some { tstMc with nonQueued := true }) := by
  decide +kernel

theorem test_meets_SlowMembersAreWorkedAround :
    (let m := { tstMember 0 3 with outstanding := [{ tstMc with op := .readStrip 0 0 0 0 1 }] }
     let s := (tstOpen 1 .waiting (fun s => { s with members := [m, tstMember 1 2] })).part
     s.member? 0 = some m ∧ slowMember s 0 = true ∧ s.objNum 0x2107 7 ≠ 0 ∧ canReconstruct s 0 0 0 = true ∧
       s.cmd? 0 1 = some (tstCmd (tstD 1) .waiting) ∧ dOpcode (tstD 1) = 1) ∧
    { tstMember 0 2 with escStep := 2 }.escStep = 2 ∧ (tstMember 0 2).recentWrites = [] ∧ (tstMember 0 2).state = 2 ∧
    (findStrip (tstOf tstPool id).part 0 16384).isSome = true ∧ findStrip (tstOf tstPool id).part 0 0 = none ∧
    linkWaits (tstOf tstPool id).part tstPool tstPool.charter.geo 0 = false := by
  decide +kernel

theorem test_meets_MemberStatesFollowTheirCauses :
    (tstOf tstPool id).part.member? 0 = some (tstMember 0 2) ∧ (tstMember 0 2).linkUp = true ∧
    Allowed (tstOf tstPool id).part tstReq roleOperator none ∧ (tstOf tstPool id).part.poolOfMember 0 = some (0, 0) ∧
    (tstOf tstPool id).part.pool? 0 = some tstPool ∧ (tstPool.charter.memberAt 0).any (fun e => !relocState e.state) = true ∧
    { tstMember 0 3 with suspectEnd := some 0 }.state = 3 ∧ (tstMember 0 2).info.rotating = true ∧ (tstMember 0 2).spun = 2 := by
  and_intros <;> first | rfl | decide | exact tst_allowed (by decide)

def tstKek (id : Bytes) : KekSt := { entry := 0, id := id, key := List.replicate 32 5, autoload := false, loaded := true }
def tstKeys (slot : Nat) : State :=
  tstOf tstVolPool (fun s => { s with toll := { s.toll with keks := [tstKek []], slots := [{ tstSlot with state := slot }] } })

theorem test_meets_KeysAreStoredAndErased :
    Allowed (tst id).part tstReq roleCustodian none ∧ (tst id).part.transportKey 1 = none ∧
    (tst (fun s => s.modDict (fun d => { d with sessions := [{ tstSess with noAuth := false }] }))).part.transportKey 1 = some [] ∧
    (tst id).part.toll.canUnwrap = true ∧ (tst id).part.toll.rootBad = false ∧ (tst id).part.freeKek = some 0 ∧
    (tst id).part.kek? [1] = none ∧ (tstKeys 1).part.kek? [] = some (tstKek []) ∧ kekNamed (tst id).part [1] = false ∧
    kekNamed (tstKeys 1).part [] = true := by
  and_intros <;> first | rfl | decide | exact tst_allowed (by decide)

theorem test_meets_SlotsAndSelfTests :
    (tstKeys 1).part.slotState 0 = 1 ∧ (tstKeys 2).part.slotState 0 = 2 ∧ (∀ x ∈ (tstKeys 1).part.toll.slots, x.state = 1 → 0 ≤ x.id) ∧ (tstKeys 1).part.volume? 0 = some (tstVolPool, tstVol) ∧
    (tstKeys 1).part.kekLoaded? [] = some (List.replicate 32 5) ∧ (tstKeys 1).part.toll.canUnwrap = true ∧
    Allowed (tstKeys 1).part tstReq roleCustodian none ∧ (tstKeys 1).part.pool? 0 = some tstVolPool ∧ tstVolPool.latest.cross = none ∧
    (∀ x, (tstKeys 1).part.toll.lastGlitch = some x → x + sec 1 ≤ (tstKeys 1).part.timeUs) ∧
    rewraps (List.replicate 32 5) (List.replicate 32 5) tstPool.charter.vols = some [] := by
  and_intros <;> first | rfl | decide | exact tst_allowed (by decide)

theorem test_meets_FunctionsLoseTheBusAndReset :
    (tstOpen 2 .admitted id).part.liveChains .f0 = [0] ∧ ((tstOpen 2 .admitted id).part.chain 0).st ≠ .halted ∧
    ((tstFn (fun x => { x with msixOn := true, fnMask := false })).part.fn .f0).msixOn = true ∧
    ((tstFn (fun x => { x with linkUp := true })).part.fn .f0).linkUp = true ∧ ((tst id).part.fn .f0).linkUp = false := by
  decide +kernel

theorem test_meets_EventsAreSignalled :
    (1 : BitVec 32) &&& ((tstFn (fun x => { x with renewed := 1, enable := 1 })).part.fn .f0).renewed = 1 ∧
    alGet 3 ((tstFn (fun x => { x with modCount := [(3, 1)] })).part.fn .f0).modCount ≠ none ∧
    alGet 3 ((tst id).part.fn .f0).modCount = none ∧
    (unmaskFn .msixEnable ((tstFn (fun x => { x with bme := true, msixOn := true })).part.fn .f0)).bme = true := by
  decide +kernel

def tstWin : Window := { base := 0, size := 2097152, target := 0, readEn := true, writeEn := true }

theorem test_meets_PeerWindowsServe :
    badWindow 1 8 [tstWin] = none ∧ badWindow 1 8 [{ tstWin with size := 7 }] = some 0 ∧
    servingWindow { FnSt.reset 0 with active := [tstWin] } 8 0 4 false = some tstWin ∧
    servingWindow { FnSt.reset 0 with active := [tstWin] } 8 2097150 4 true = none ∧ 0 + 4 ≤ (FnSt.reset 0).bar4Gib * gib ∧
    (FnSt.reset 0).latched = none ∧ ((tst id).part.fn .f0).mse = false := by
  decide +kernel

theorem test_meets_PortErrorsAndRegisterWrites :
    (tst id).part.selected .f0 = some 0 ∧ ((tst id).part.fn .f0).shadow[7]?.isSome = true ∧
    ((tst (fun s => { s with chains := [{ ChainSt.reset 0 with fetchDb := some 1 }] })).part.chain 0).fetchDb ≠ none := by
  decide +kernel

theorem test_meets_DoorbellsAndFetches :
    ahead 0 (1 : BitVec 32) = false ∧ fetchStopped (tstRun (tstRing .running 1 id)).part = false ∧
    (tstRing .running 1 id).tooFar 1 = false ∧ (tstRing .running 1 id).tooFar 17 = true ∧
    competes (tstRun (tstRing .running 1 id)).part .f0 (tstRing .running 1 id) = true ∧
    maxReads - readsOut (tstRun (tstRing .running 1 id)).part .f0 ≠ 0 ∧
    (let d : BitVec 512 := BitVec.ofNat 512 (1 + 2 ^ 32)
     dOwn d = true ∧ dHseq d = 0 + 1 ∧ dEoc d = false) ∧
    (readSlots [0] (tstRing .running 1 (fun c => { c with fetchDb := some 1, fetchN := 1 }))).2 = .park false := by
  decide +kernel

theorem test_meets_ChainCommandsTakeEffect :
    ((tst id).part.fn .f0).cmdBusy = false ∧ (tst id).part.selected .f0 = some 0 ∧
    (tstFn (fun x => { x with chainSel := 65536 })).part.selected .f0 = none ∧ (tst id).part.sched.frozen = false ∧
    (tst id).part.sched.resetting = false ∧ ((tst id).part.chain 0).st = .disabled ∧ ((tst id).part.chain 0).inflight = 0 ∧
    (tstRing .disabled 0 id).regBase.toNat % 4096 = 0 ∧ 4 ≤ (tstRing .disabled 0 id).regSize ∧ (tstRing .disabled 0 id).regSize ≤ 16 ∧
    (tstRing .paused 1 id).tooFar (tstRing .paused 1 id).dbSeq = false ∧ (tstRing .paused 17 id).tooFar (tstRing .paused 17 id).dbSeq = true := by
  decide +kernel

theorem test_meets_HostCommandsAreTaken :
    (∀ op ∈ [1, 2, 3, 5, 0x7F], takeable (tstOpen op .accepted id).part 0 1 .accepted = some (tstCmd (tstD op) .accepted) ∧
      dOpcode (tstD op) = op) ∧
    commandCheck (tstOpen 1 .accepted id).part (tstD 1) = .run ∧ commandCheck (tstOpen 2 .accepted id).part (tstD 2) = .run ∧
    commandCheck (tstOpen 0x7F .accepted id).part (tstD 0x7F) = .stop 0x10 0 ∧ isTx (tstD 2) = false ∧
    (tstOpen 1 .accepted id).part.volume? 0 = some (tstVolPool, tstVol) ∧ poolServes tstVolPool = true ∧
    readHeld (tstOpen 1 .accepted id).part tstVolPool tstVol (deviceLbas (tstD 1)) = false ∧
    (readWaits 0 (tstCmd (tstD 1 ||| 1#512 <<< 188) .accepted) (tstOpen 1 .accepted id).part).isNone = true ∧
    (tstOpen 1 .accepted id).part.toll.faulty = false := by
  decide +kernel

theorem test_meets_TransactionsBeginCommitAndAbort :
    (∀ op ∈ [0x10, 0x11, 0x12], takeable (tstTxn op id).part 0 1 .accepted = some (tstCmd (tstDt op) .accepted) ∧
      commandCheck (tstTxn op id).part (tstDt op) = .run ∧ dOpcode (tstDt op) = op ∧ dTag (tstDt op) = 1) ∧
    (tstTxn 0x10 id).part.tx? 0 1 = none ∧ (tstTxn 0x10 id).part.openTxs < maxTxs ∧ tstVolPool.writeState = 0 ∧
    (tstTxn 0x11 (fun s => s.modChain 0 (fun c => { c with txs := [tstTx] }))).part.tx? 0 1 = some tstTx ∧
    (((tstTxn 0x11 id).part.chain 0).before 1) = [] := by
  decide +kernel

theorem test_meets_PairsFormAndLosePaths :
    Allowed (tst id).part tstReq roleCustodian none ∧ (tst id).part.pairedPools = [] ∧ (tst id).part.pair.state < 2 ∧
    (tst (tstSet [((0x2500, 1), .blob (List.replicate 16 9))])).part.objBlob 0x2500 1 = List.replicate 16 9 ∧
    (tstTwin (fun s => { s with pools := [tstPaired 0 1] })).part.pool? 0 = some (tstPaired 0 1) ∧ (tstPaired 0 1).isPaired = true ∧
    (tstTwin id).part.pair.path2Lost = false ∧ (tstTwin (fun s => s.modPair (fun x => { x with path1Lost := true }))).part.pair.path1Lost = true ∧
    (tstTwin (fun s => { s with pools := [tstPaired 0 2] })).part.ownPaired ≠ [] ∧
    (tstTwin (fun s => s.modPair (fun x => { x with faultyAt := some 0 }))).part.pair.faultyAt ≠ none := by
  and_intros <;> first | rfl | decide | exact tst_allowed (by decide)

def tstDead (p : PoolSt) : State :=
  tstTwin (fun s => { s.modPair (fun x => { x with path1Lost := true, path2Lost := true, declared := some 4 }) with pools := [p], members := tstMembers })
def tstContest : PoolSt :=
  { tstPaired 1 2 with pair := { (tstPaired 1 2).pair with
      contest := some { declTide := 4, won := [0], lost := [] }, fenceLeft := [1], gap := true } }

theorem test_meets_ContestsDecideTheOwner :
    (let p := { tstPaired 1 2 with pair := { (tstPaired 1 2).pair with coverage := 2 } }
     mayContest (tstDead p).part p = true ∧ (tstDead p).part.pool? 0 = some p) ∧
    mayContest (tstDead (tstPaired 0 4)).part (tstPaired 0 4) = true ∧
    (tstDead tstContest).part.pool? 0 = some tstContest ∧ tstContest.pair.contest.any (fun y => y.won.length == 1) = true ∧
    (tstDead tstContest).part.member? 1 = some (tstMember 1 2) ∧ 1 ∈ tstContest.pair.fenceLeft ∧ (tst id).part.pool? 0 = none := by
  decide +kernel

def tstDue : PoolSt :=
  { tstPaired 0 2 with
    charter := { tstCharter with paired := true, prefOwner := [] }
    pair := { (tstPaired 0 2).pair with failbackAt := some 0, lagZero := 10000 } }
def tstHands (owner next : Nat) : PoolSt :=
  { tstPaired owner 2 with pair := { (tstPaired owner 2).pair with ownerNext := next, handoverTide := 1 } }

theorem test_meets_PoolsAreHandedOverByAgreedChanges :
    failbackDue (tstTwin (fun s => { s with pools := [tstDue] })).part tstDue = true ∧
    Allowed (tstTwin (fun s => { s with pools := [tstPaired 0 2] })).part tstReq roleOperator none ∧ (tstPaired 0 2).pair.ownerNext = 2 ∧
    (tstTwin (fun s => { s with pools := [tstHands 0 1] })).part.pool? 0 = some (tstHands 0 1) ∧
    (tstHands 0 1).pair.handoverTide ≤ (tstTwin (fun s => s.modSched (fun x => { x with tideNow := 1 }))).part.sched.tideNow ∧
    clashing (tstTwin id).part (.tideUs 500) = false ∧ holdsFor (tstTwin id).part (fromTwin (.tideUs 500)) = true ∧
    (tstTwin (fun s => s.modPair (fun x => { x with proposal := some (.tideUs 500, 4, false, 0) }))).part.pair.proposal =
      some (.tideUs 500, 4, false, 0) ∧
    0 ∈ (tstTwin (fun s => { s with pools := [tstPaired 1 2] })).part.standbyMembers := by
  and_intros <;> first | rfl | decide | exact tst_allowed (by decide)

theorem test_meets_BracesAndDumpsFollowTheInput :
    (tst tstAwake).part.working = true ∧ 9000 < (tst tstAwake).part.warnMv ∧ (tst tstAwake).part.sched.brace = false ∧
    (tst (fun s => tstAwake (s.modSched (fun x => { x with brace := true, admitState := 0 })))).part.sched.brace = true ∧
    (tstDest (tstHeld .held)).part.working = false ∧ mayDump ((tstDest (tstHeld .held)).onPart tstAwake).part = true ∧
    mayDump (tst tstAwake).part = false ∧ Allowed (tst tstAwake).part tstReq roleCustodian none ∧
    (tst tstAwake).part.dumpMv + 400 ≤ 13000 ∧ 9800 + 400 ≤ (tst tstAwake).part.warnMv ∧ 3 ∉ (tst id).part.sched.badChannels ∧
    ((tst id).part.dump.targets.find? (fun z => z.idx == 3)).isSome = true := by
  and_intros <;> first | rfl | decide | exact tst_allowed (by decide)

def tstCharged (s : Part) : Part := tstAwake (s.modTow (fun t => { t with sense := 13000 :: List.replicate 7 0, store := 0 }))

theorem test_meets_HeatAndTheStoreAreWatched :
    testAllowed (tst tstCharged).part = true ∧ testAllowed (tst id).part = false ∧ (tst id).part.sched.throttled = false ∧
    (tst tstAwake).part.working = true ∧ Allowed (tst id).part tstReq roleCustodian none ∧ (tst id).part.tow.store ≠ 4 ∧
    (tst (fun s => s.modTow (fun t => { t with store := 2 }))).part.tow.store = 2 := by
  and_intros <;> first | rfl | decide | exact tst_allowed (by decide)

def tstAsleep (s : Part) : Part := tstSet [((0x2700, 4), .num 0x3F), ((0x1100, 4), .num 1)] (s.modTow (fun t => { t with power := 5 }))

theorem test_meets_ThePartSleepsAndWakes :
    nothingToDo (tst tstAwake).part = true ∧ (tst tstAwake).part.tow.power = 0 ∧ sleepRefusal false (tst tstAwake).part = 0 ∧
    sleepRefusal false (tst (fun s => tstAwake (s.modFn .f0 (fun x => { x with linkUp := true, d0 := true })))).part = 1 ∧ Allowed (tst tstAwake).part tstReq roleOperator none ∧
    (tst tstAwake).part.man.held = [] ∧ toHandOver (tst tstAwake).part = [] ∧
    (tst tstAsleep).part.tow.power = 5 ∧ ((tst tstAsleep).part.objNum 0x2700 4).testBit 5 = true ∧ (tst tstAsleep).part.objNum 0x1100 4 ≠ 0 ∧
    wakeLimits (tst tstAsleep).part tstWake = true ∧ wakeLimits (tst tstAsleep).part { tstWake with dieC := 100 } = false := by
  and_intros <;> first | rfl | decide | exact tst_allowed (by decide)

theorem test_meets_ThePartBoots :
    wakeLimits (tst id).part tstBoot.wake = true ∧ wakeLimits (tst id).part { tstWake with inputMv := 0 } = false ∧
    (tst tstAwake).part.tow.coreEn = true ∧ restoreDue tstBoot (tst (fun s => s.modTow (fun t => { t with afterDump := true }))).part = true ∧
    recoveryDue 80 (tst (fun s => s.modTow (fun t => { t with tripped := true }))).part = true ∧ coldAllowed (tst id).part = true ∧
    coldAllowed (tstDest (tstHeld .held)).part = false ∧
    (tst (fun s => s.modTow (fun t => { t with limitsWait := some (2, true, tstBoot) }))).part.tow.limitsWait = some (2, true, tstBoot) := by
  decide +kernel

theorem test_meets_CalibrationsRun :
    Allowed (tst tstAwake).part tstReq roleOperator none ∧ calRefusal 2 tstRefs (tst tstAwake).part = 0 ∧
    calRefusal 2 tstRefs (tst id).part = 2 ∧ Allowed (tst id).part tstReq roleCustodian none ∧
    calOutcome CalSt.reset { run1 := ⟨0, 0, 0, 0⟩, run2 := ⟨0, 0, 0, 0⟩, stable := false } ≠ 1 := by
  and_intros <;> first | rfl | decide | exact tst_allowed (by decide)

def tstAwakeG (s : Part) : Part := s.modIsland .g (fun x => { x with ready := true })

theorem test_meets_EventsAreLoggedAndExported :
    (tst id).part.ready .g = false ∧ (tst tstAwakeG).part.ready .g = true ∧ (tst tstAwakeG).part.log.repeated tstEv = none ∧
    (tst tstAwakeG).part.log.queue.length + 2 ≤ logQueueMax ∧ (tst tstAwakeG).part.log.perm.length < permSlots ∧
    exportHomes (tst id).part = [] ∧ exportHomes (tstOf tstHome id).part = [0, 1] ∧ Allowed (tst id).part tstReq roleOperator none := by
  and_intros <;> first | rfl | decide | exact tst_allowed (by decide)

/-- A frame of session 1 with SEQ 1 and no data. -/
def tstFr (op : Nat) : Frame := if op = 1 then { tstFrame with session := 0, data := List.replicate 17 0, len := 17 } else { tstFrame with seq := 1 }

theorem test_meets_SessionsOpenAndClose :
    (∀ op ∈ [1, 2, 3, 5, 0x10, 0x11], wellFormedFrame .mbx0 op (tstFr op) = true ∧ (tstFr op).twin = false) ∧
    wellFormedFrame .mbx0 5 { tstFr 5 with mac := [] } = false ∧ (tst id).part.sess? (tstFr 5).session = some tstSess ∧
    tstSess.boundTo .mbx0 0 = true ∧ macGood tstSess 5 (tstFr 5) = true ∧ macGood tstSess 5 { tstFr 5 with mac := List.replicate 8 1 } = false ∧
    (tstFr 5).seq = tstSess.nextSeq ∧ openRefusal .mbx0 (tstFr 1) (tst id).part = none ∧
    (tst id).part.sess? (freshSession (tst id).part) = none ∧ isMailbox .mbx0 = true ∧ cred (tst id).part 2 = none := by
  decide +kernel

theorem test_meets_CredentialsLocksAndImagesAreKept :
    Allowed (tst id).part tstReq roleCustodian (some scopeFw) ∧ scopeGood (scopeOf 0) = true ∧ scopeGood (scopeOf 0xFF000000#32) = false ∧
    isMailbox tstReq.transport = true ∧ (tst (fun s => s.modDict (fun d => { d with canPending := true }))).part.dict.canPending = true ∧
    (tst id).part.fw.activating = false ∧ activateRefused false (tst (fun s => tstAwake (s.modFw (fun x => { x with state := 3 })))).part = 0 ∧
    activateRefused false (tst id).part = 1 ∧
    (List.replicate 96 (0 : Byte)).length = stageRoom { FwSt.reset with state := 1, len := 4096, next := 4000 } := by
  and_intros <;> first | rfl | decide | exact tst_allowed (by decide)

theorem test_meets_ObjectsAreReadAndWritten :
    objRow? 0x1000 1 ≠ none ∧ objRow? 0x0FFF 1 = none ∧ highestSub 0x0FFF = none ∧
    (writable tstSess 0x2700 9).toOption.isSome = true ∧ ((tst id).part.fn .f0).mbxBusy = false ∧ ((tst id).part.fn .f0).mbxReady = false ∧
    tstSess.isOpen = true ∧ tstSess.partBlob = none ∧ tstSess.snapshot = none := by
  decide +kernel

/-! ### Balls: the examples of R387, R389, R390 and R391 -/

theorem test_rows : rowName 43 = ['B', 'E'] ∧ rowName 61 = ['C', 'D'] ∧ rowName 1 = ['A'] := by decide

theorem test_lane_37 :
    memberBall 37 { tx := true, n := false } = (1, 35) ∧ memberBall 37 { tx := true, n := true } = (1, 36) ∧
    memberBall 37 { tx := false, n := false } = (5, 35) ∧ memberBall 37 { tx := false, n := true } = (5, 36) ∧
    rowName 5 = ['E'] := by decide

theorem test_slots :
    hostBall 1 5 { tx := true, n := false } = (10, 38) ∧ rowName 10 = ['K'] ∧
    hawserBall 15 { tx := false, n := false } = (53, 26) ∧ rowName 53 = ['B', 'T'] ∧
    ballAt 23 58 = .ddr 7 (.dq true 3) ∧ rowName 23 = ['A', 'D'] := by decide

theorem test_meets_BallsStandWhereTheMapSays :
    ballAt 1 35 = .member 37 { tx := true, n := false } ∧ ballAt 10 38 = .host 1 5 { tx := true, n := false } ∧
    ballAt 53 26 = .hawser 15 { tx := false, n := false } ∧ ballAt 43 32 = .dump 0 0 { tx := true, n := false } ∧
    ballAt 61 60 = .supply .vddaSd ∧ ballAt 61 59 = .member 134 { tx := true, n := true } ∧
    State.reset.part.tow.coreEn = false := by decide

end
end

section
/-! SUPPORT. What an error of a host port and a write of a register come to (10: R9, R237, R245, R252, R254, R257, R262; 11: R280,
R286): the facts about the shared operations first, then the statement of `PortErrorsAndRegisterWrites`. -/

namespace Sys2Proof.Machine

/-! ### Commands that act on the part alone -/

theorem runs_onPart {c : Instr} {s : State} {g : Part → Part} {P : Part → Prop} (h : exec c s = .next (s.onPart g))
    (hP : P (g s.part)) : Runs c s P := ⟨_, h, hP⟩

theorem Part.modFn_only (s : Part) (f : Fn) (g : FnSt → FnSt) :
    s.modFn f g = { s with fn0 := (s.modFn f g).fn0, fn1 := (s.modFn f g).fn1 } := by
  cases f <;> rfl

theorem Part.modFn_fn_ne (s : Part) {f h : Fn} (g : FnSt → FnSt) (hne : h ≠ f) : (s.modFn f g).fn h = s.fn h :=
  Part.setFn_fn_ne s _ hne

/-! ### The trace only grows -/

theorem notify_out_prefix (r : LogRec) (s : Part) : s.out <+: (notify r s).out := by
  unfold notify
  simp only []
  split
  · split <;> split <;> simp [emit]
  · exact List.prefix_rfl

theorem logAccept_out_prefix (late : Bool) (e : LogEv) (s : Part) : s.out <+: (logAccept late e s).out := by
  unfold logAccept
  simp only []
  split
  · refine List.IsPrefix.trans ?_ (notify_out_prefix _ _)
    exact List.prefix_rfl
  · exact List.prefix_rfl

theorem log_out_prefix (code inst : Nat) (d : Bytes) (s : Part) : s.out <+: (log code inst d s).out := by
  unfold log logEvent
  split
  · exact logAccept_out_prefix _ _ s
  · split
    · unfold holdLog
      split <;> simp
    · exact List.prefix_rfl

theorem emit_mem_out (o : Output) (s : Part) : o ∈ (emit o s).out := by simp [emit]

/-! ### What a loss of Bus Master Enable and a reset of a function reach (R252, R254) -/

/-- `t` differs from `s` at most in what a reset of a function reaches. -/
def WithinReset (s t : Part) : Prop :=
  t = { s with man := t.man, chains := t.chains, fn0 := t.fn0, fn1 := t.fn1, tow := t.tow, dict := t.dict, log := t.log,
               out := t.out }

theorem WithinReset.trans {s t u : Part} (h : WithinReset s t) (h' : WithinReset t u) : WithinReset s u :=
  calc u = _ := h'
    _ = _ := by rw [h]

/-- A step of the loss: it stays within a reset, takes nothing back that was sent, and leaves a function what an FLR
leaves it. -/
structure LossStep (s t : Part) : Prop where
  within : WithinReset s t
  sent : s.out <+: t.out
  kept : ∀ g first bar, flrFn first bar (t.fn g) = flrFn first bar (s.fn g)

theorem LossStep.refl (s : Part) : LossStep s s := ⟨rfl, List.prefix_rfl, fun _ _ _ => rfl⟩

theorem LossStep.trans {s t u : Part} (h : LossStep s t) (h' : LossStep t u) : LossStep s u :=
  ⟨h.within.trans h'.within, h.sent.trans h'.sent, fun g first bar => (h'.kept g first bar).trans (h.kept g first bar)⟩

theorem LossStep.foldl {α : Type} {op : Part → α → Part} (h : ∀ s x, LossStep s (op s x)) (l : List α) :
    ∀ s, LossStep s (l.foldl op s) := by
  induction l with
  | nil => exact LossStep.refl
  | cons x l ih => exact fun s => (h s x).trans (ih _)

theorem LossStep.modMan (s : Part) (g : ManifestSt → ManifestSt) : LossStep s (s.modMan g) :=
  ⟨rfl, List.prefix_rfl, fun _ _ _ => rfl⟩

theorem LossStep.modDict (s : Part) (g : DictSt → DictSt) : LossStep s (s.modDict g) :=
  ⟨rfl, List.prefix_rfl, fun _ _ _ => rfl⟩

theorem LossStep.setChains (s : Part) (l : List ChainSt) : LossStep s { s with chains := l } :=
  ⟨rfl, List.prefix_rfl, fun _ _ _ => rfl⟩

theorem LossStep.emit (o : Output) (s : Part) : LossStep s (emit o s) :=
  ⟨rfl, List.prefix_append _ _, fun _ _ _ => rfl⟩

/-- A change of a function that an FLR would undo. -/
theorem LossStep.setFn (s : Part) (f : Fn) (x : FnSt) (h : ∀ first bar, flrFn first bar x = flrFn first bar (s.fn f)) :
    LossStep s (s.setFn f x) :=
  ⟨by cases f <;> rfl, by simp, fun g first bar => Part.setFn_keeps (flrFn first bar) s f g x (h first bar)⟩

theorem sendVector_lossStep (f : Fn) (v : Nat) (s : Part) : LossStep s (sendVector f v s) := by
  unfold sendVector
  simp only []
  split
  · exact LossStep.emit _ s
  · split
    · exact LossStep.refl s
    · exact LossStep.setFn s f _ (by intros; rfl)

theorem raiseEvent_lossStep (bit : Nat) (f : Fn) (s : Part) : LossStep s (raiseEvent bit f s) := by
  have hcause := LossStep.setFn s f { s.fn f with cause := (s.fn f).cause ||| BitVec.twoPow 32 bit } fun _ _ => rfl
  unfold raiseEvent
  simp only []
  split
  · exact LossStep.setFn s f _ (by intros; rfl)
  · split
    · exact hcause.trans (sendVector_lossStep f 0 _)
    · exact hcause

theorem log_lossStep (code inst : Nat) (d : Bytes) (s : Part) : LossStep s (log code inst d s) :=
  ⟨by unfold WithinReset; apply Part.ext_fields <;> simp, log_out_prefix code inst d s, fun g first bar => by simp⟩

theorem haltChain_lossStep (c code : Nat) (s : Part) : LossStep s (haltChain c code s) := by
  unfold haltChain
  exact ((LossStep.setChains s _).trans (raiseEvent_lossStep 2 _ _)).trans (log_lossStep _ _ _ _)

theorem settleEntry_lossStep (p stripe : Nat) (s : Part) : LossStep s (settleEntry p stripe s) := by
  unfold settleEntry
  split
  · exact LossStep.refl s
  · simp only []
    split
    · exact LossStep.modMan s _
    · exact LossStep.modMan s _

theorem tellTwin_lossStep (p : Nat) (n : TwinNews) (s : Part) : LossStep s (tellTwin p n s) := by
  unfold tellTwin
  split
  · split
    · exact LossStep.modMan s _
    · exact LossStep.refl s
  · exact LossStep.refl s

theorem releaseTxBlocks_lossStep (c tag : Nat) (s : Part) : LossStep s (releaseTxBlocks c tag s) := by
  unfold releaseTxBlocks settleEntries
  exact ((LossStep.foldl (fun st p => tellTwin_lossStep p _ st) _ s).trans (LossStep.modMan _ _)).trans
    (LossStep.foldl (fun st (x : Nat × Nat) => settleEntry_lossStep x.1 x.2 st) _ _)

theorem releaseCmd_lossStep (c : Nat) (x : Cmd) {end_ : Part → Part} (h : ∀ s, LossStep s (end_ s)) (s : Part) :
    LossStep s (releaseCmd c x end_ s) := by
  have hend : ∀ g, LossStep s (end_ (s.modMan g)) := fun g => (LossStep.modMan s g).trans (h _)
  unfold releaseCmd
  simp only []
  split
  · exact hend _
  · refine (hend _).trans (LossStep.foldl (fun st y => ?_) _ _)
    split
    · split
      · exact LossStep.modMan st _
      · exact settleEntry_lossStep y.1 y.2 st
    · exact LossStep.refl st

theorem abandonTxs_lossStep (c : Nat) (s : Part) : LossStep s (abandonTxs c s) :=
  LossStep.foldl (fun st (t : TxSt) => (releaseTxBlocks_lossStep c t.tag st).trans (LossStep.setChains _ _)) _ s

theorem settleLost_lossStep (c : Nat) (s : Part) : LossStep s (settleLost c s) := by
  have hcmd : ∀ st x, LossStep st (abandonCmd c x st) := fun st x =>
    releaseCmd_lossStep c x (fun u => LossStep.setChains u _) st
  exact ((abandonTxs_lossStep c s).trans (LossStep.foldl hcmd _ _)).trans (LossStep.setChains _ _)

theorem loseChain_lossStep (c : Nat) (s : Part) : LossStep s (loseChain c s) := by
  unfold loseChain
  simp only []
  split
  · exact settleLost_lossStep c s
  · exact (settleLost_lossStep c s).trans (haltChain_lossStep c 0x80 _)

theorem loseBme_lossStep (f : Fn) (s : Part) : LossStep s (loseBme f s) :=
  (LossStep.setFn s f _ (by intros; rfl)).trans (LossStep.foldl (fun st c => loseChain_lossStep c st) _ _)

theorem endSessionsWhere_lossStep (p : SessSt → Bool) (s : Part) : LossStep s (endSessionsWhere p s) :=
  LossStep.foldl (fun st _ => LossStep.modDict st _) _ s

theorem endSessionsWhere_fn (p : SessSt → Bool) (s : Part) (f : Fn) : (endSessionsWhere p s).fn f = s.fn f :=
  foldl_keeps (fun st (x : SessSt) => endSession x.id st) (fun t => t.fn f) (fun _ _ => rfl) _ s

theorem functionReset_lossStep (f : Fn) (s : Part) : LossStep s (functionReset f s) :=
  ((loseBme_lossStep f s).trans (LossStep.setFn _ f _ (by intros; rfl))).trans
    ((LossStep.setChains _ _).trans (endSessionsWhere_lossStep _ _))

/-- R254: what an FLR leaves in its function. -/
theorem functionReset_fn (f : Fn) (s : Part) :
    (functionReset f s).fn f = flrFn (s.chainFirst f) s.peerBar (s.fn f) := by
  have hloss := loseBme_lossStep f s
  have hbar : (loseBme f s).peerBar = s.peerBar := by rw [hloss.within]
  have hfirst : (loseBme f s).chainFirst f = s.chainFirst f := by rw [hloss.within]; cases f <;> rfl
  have hset : (functionReset f s).fn f = flrFn ((loseBme f s).chainFirst f) (loseBme f s).peerBar ((loseBme f s).fn f) :=
    (endSessionsWhere_fn _ _ f).trans (Part.setFn_fn (loseBme f s) f _)
  rw [hset, hbar, hfirst, hloss.kept]

/-! ### The reset of a port (R255, R262) -/

theorem changeLink_fn (f : Fn) (g : FnSt → FnSt) (s : Part) : (changeLink f g s).fn f = g (s.fn f) := by
  unfold changeLink
  simp only []
  split <;> simp

theorem changeLink_within (f : Fn) (g : FnSt → FnSt) (s : Part) : WithinReset s (changeLink f g s) := by
  have hfn : WithinReset s (s.modFn f g) := by cases f <;> rfl
  unfold changeLink
  simp only []
  split
  · exact hfn
  · exact hfn.trans (log_lossStep _ _ _ _).within

theorem changeLink_out_prefix (f : Fn) (g : FnSt → FnSt) (s : Part) : s.out <+: (changeLink f g s).out := by
  unfold changeLink
  simp only []
  split
  · simp [Part.modFn]
  · exact List.IsPrefix.trans (by simp [Part.modFn]) (log_out_prefix _ _ _ _)

theorem portResetEff_fn (f : Fn) (s : Part) :
    (portResetEff f s).fn f =
      { flrFn (s.chainFirst f) s.peerBar (s.fn f) with linkUp := false, width := 0, rate := 0, flit := false } := by
  rw [portResetEff, changeLink_fn, functionReset_fn]

theorem portResetEff_within (f : Fn) (s : Part) : WithinReset s (portResetEff f s) :=
  (functionReset_lossStep f s).within.trans (changeLink_within f _ _)

theorem portResetEff_out_prefix (f : Fn) (s : Part) : s.out <+: (portResetEff f s).out :=
  (functionReset_lossStep f s).sent.trans (changeLink_out_prefix f _ _)

/-! ### The completion of a command (R252, R280) -/

theorem completionMessage_out_prefix (f : Fn) (v : Nat) (s : Part) : s.out <+: (completionMessage f v s).out := by
  unfold completionMessage
  simp only []
  split
  · exact (sendVector_lossStep f v s).sent
  · split
    · exact List.IsPrefix.trans (by simp) (sendVector_lossStep f v _).sent
    · simp

theorem ChainSt.advance_cmds_suffix (c : ChainSt) : c.advance.cmds <:+ c.cmds := by
  unfold ChainSt.advance
  simp only []
  split
  · exact List.drop_suffix _ _
  · exact List.suffix_rfl

@[simp] theorem ChainSt.advance_keeps (c : ChainSt) :
    c.advance.id = c.id ∧ c.advance.halt = c.halt ∧ c.advance.st = c.st ∧ c.advance.txs = c.txs := by
  unfold ChainSt.advance
  simp only []
  split <;> simp

/-- A chain once its command `h` has ended. -/
def ChainSt.ended (h : BitVec 32) (c : ChainSt) : ChainSt :=
  ChainSt.advance { c with cmds := updBy (fun y => y.hseq == h) (fun y => { y with phase := .done }) c.cmds }

/-- Where a command ends: its chain, and the completion written back unless Bus Master Enable is clear or was lost. -/
theorem complete_spec {c : Nat} {h : BitVec 32} {s : Part} {x : Cmd} (status : Nat) (info : BitVec 64)
    (hx : s.cmd? c h = some x) (hphase : x.phase ≠ .done) (hdump : s.dump.state ≠ 3) :
    (complete c h status info s).chain c = (s.chain c).ended h ∧
    ((s.fn (s.chainFn c)).bme = true → (s.chain c).halt ≠ 0x80 →
      ∃ dfl dseq, .writeBack (s.chainFn c) c h status dfl dseq info ∈ (complete c h status info s).out) := by
  have hchain : ((s.modCmd c h (fun y => { y with phase := .done })).modChain c ChainSt.advance).chain c = (s.chain c).ended h := by
    rw [Part.modChain_chain _ _ _ (by simp), Part.modCmd, Part.modChain_chain _ _ _ (by simp)]
    rfl
  have hhalt : ((s.chain c).ended h).halt = (s.chain c).halt := by simp [ChainSt.ended]
  unfold complete
  rw [hx]
  simp only [hphase, hdump, decide_false, Bool.or_self, Bool.false_eq_true, if_false, hchain, hhalt]
  split
  · refine ⟨by simp [hchain], fun _ _ => ⟨_, _, (completionMessage_out_prefix _ _ _).subset (emit_mem_out _ _)⟩⟩
  · next hquiet =>
    refine ⟨hchain, fun hbme hlive => absurd ?_ hquiet⟩
    simp [hbme, hlive]

/-- A command still listed after the end of `h` is `h` itself, done, or was listed before. -/
theorem ChainSt.mem_ended_cmds {c : ChainSt} {h : BitVec 32} {z : Cmd} (hz : z ∈ (c.ended h).cmds) :
    (z.hseq = h ∧ z.phase = .done) ∨ (z.hseq ≠ h ∧ z ∈ c.cmds) := by
  have hz' : z ∈ c.cmds.map _ := (ChainSt.advance_cmds_suffix _).subset hz
  obtain ⟨y, hy, rfl⟩ := List.mem_map.mp hz'
  by_cases hh : y.hseq = h
  · exact .inl (by simp [hh])
  · exact .inr (by simp [hh, hy])

theorem complete_completed {c : Nat} {h : BitVec 32} {s : Part} {x : Cmd} (status : Nat) (info : BitVec 64)
    (hx : s.cmd? c h = some x) (hphase : x.phase ≠ .done) (hdump : s.dump.state ≠ 3) :
    Completed c h status info s (complete c h status info s) := by
  obtain ⟨hchain, hback⟩ := complete_spec status info hx hphase hdump
  refine ⟨fun z hz => ?_, hback⟩
  rw [Part.cmd?, hchain] at hz
  have hseq : z.hseq = h := by simpa using List.find?_some hz
  rcases ChainSt.mem_ended_cmds (List.mem_of_find?_eq_some hz) with ⟨-, hdone⟩ | ⟨hne, -⟩
  · exact hdone
  · exact absurd hseq hne

/-- A command that has ended stays so while its chain lists the same commands and nothing sent is taken back. -/
theorem Completed.later {c : Nat} {h : BitVec 32} {status : Nat} {info : BitVec 64} {s t u : Part}
    (hend : Completed c h status info s t) (hcmds : (u.chain c).cmds = (t.chain c).cmds) (hout : t.out <+: u.out) :
    Completed c h status info s u := by
  obtain ⟨hlisted, hback⟩ := hend
  refine ⟨fun z hz => hlisted z (by rw [Part.cmd?, ← hcmds]; exact hz), fun hbme hhalt => ?_⟩
  obtain ⟨dfl, dseq, hmem⟩ := hback hbme hhalt
  exact ⟨dfl, dseq, hout.subset hmem⟩

/-! ### A data read that fails (R9, R132, R262) -/

theorem landable_eq_some {s : Part} {c : Nat} {h : BitVec 32} {x : Cmd} (hl : landable s c h = some x) :
    s.cmd? c h = some x ∧ x.hseq = h ∧ x.phase = .admitted ∧ s.dump.state ≠ 3 := by
  unfold landable at hl
  split at hl
  · next y hy =>
    split at hl
    · next hguard =>
      obtain rfl := Option.some.inj hl
      simp only [Bool.and_eq_true, decide_eq_true_eq, bne_iff_ne, ne_eq] at hguard
      obtain ⟨⟨⟨hphase, -⟩, hdump⟩, -⟩ := hguard
      exact ⟨hy, by simpa using List.find?_some hy, hphase, hdump⟩
    · exact absurd hl (by simp)
  · exact absurd hl (by simp)

/-- `t` differs from `s` at most in the Manifest, where the blocks held stay. -/
def KeepsHeld (s t : Part) : Prop := t = { s with man := t.man } ∧ t.man.held = s.man.held

theorem KeepsHeld.refl (s : Part) : KeepsHeld s s := ⟨rfl, rfl⟩

theorem KeepsHeld.trans {s t u : Part} (h : KeepsHeld s t) (h' : KeepsHeld t u) : KeepsHeld s u :=
  ⟨calc u = _ := h'.1
        _ = _ := by rw [h.1],
   h'.2.trans h.2⟩

theorem KeepsHeld.foldl {α : Type} {op : Part → α → Part} (h : ∀ s x, KeepsHeld s (op s x)) (l : List α) :
    ∀ s, KeepsHeld s (l.foldl op s) := by
  induction l with
  | nil => exact KeepsHeld.refl
  | cons x l ih => exact fun s => (h s x).trans (ih _)

theorem dropEntry_keepsHeld (p stripe : Nat) (s : Part) : KeepsHeld s (dropEntry p stripe s) := ⟨rfl, rfl⟩

/-- A write that is dropped ends as a failed command does, and only its stripes' entries may go. -/
theorem dropWrite_keepsHeld (c : Nat) (x : Cmd) (status : Nat) (info : BitVec 64) (s : Part) :
    KeepsHeld (endFailed c x status info s) (dropWrite c x status info s) := by
  unfold dropWrite
  refine KeepsHeld.foldl (fun st y => ?_) _ _
  split
  · split
    · exact dropEntry_keepsHeld _ _ st
    · exact KeepsHeld.refl st
  · exact KeepsHeld.refl st

/-- `t` differs from `s` at most in what the end of a command reaches: its chain, the deferred flags, its function's message
and the trace. -/
def WithinCompletion (s t : Part) : Prop :=
  t = { s with chains := t.chains, fn0 := t.fn0, fn1 := t.fn1, vols := t.vols, out := t.out }

theorem WithinCompletion.trans {s t u : Part} (h : WithinCompletion s t) (h' : WithinCompletion t u) : WithinCompletion s u :=
  calc u = _ := h'
    _ = _ := by rw [h]

theorem complete_within (c : Nat) (h : BitVec 32) (status : Nat) (info : BitVec 64) (s : Part) :
    WithinCompletion s (complete c h status info s) := by
  unfold WithinCompletion
  apply Part.ext_fields <;> simp

theorem failTx_within (c : Nat) (d : Desc) (s : Part) : WithinCompletion s (failTx c d s) := by
  unfold failTx
  split <;> rfl

theorem endFailed_within (c : Nat) (x : Cmd) (status : Nat) (info : BitVec 64) (s : Part) :
    WithinCompletion s (endFailed c x status info s) :=
  (failTx_within c x.desc s).trans (complete_within c x.hseq status info _)

@[simp] theorem failTx_keeps (c : Nat) (d : Desc) (s : Part) :
    ((failTx c d s).chain c).cmds = (s.chain c).cmds ∧ ((failTx c d s).chain c).halt = (s.chain c).halt ∧
    (failTx c d s).chainFn c = s.chainFn c ∧ (∀ f, (failTx c d s).fn f = s.fn f) ∧ (failTx c d s).dump = s.dump := by
  unfold failTx
  split <;> simp [Part.modTx]

theorem endFailed_completed {c : Nat} {s : Part} {x : Cmd} (status : Nat) (info : BitVec 64)
    (hx : s.cmd? c x.hseq = some x) (hphase : x.phase ≠ .done) (hdump : s.dump.state ≠ 3) :
    Completed c x.hseq status info s (endFailed c x status info s) ∧
    ∀ z ∈ ((endFailed c x status info s).chain c).cmds, z.phase = .done ∨ z ∈ (s.chain c).cmds := by
  have hxTx : (failTx c x.desc s).cmd? c x.hseq = some x := by simpa [Part.cmd?] using hx
  have hlive : (failTx c x.desc s).dump.state ≠ 3 := by simpa using hdump
  obtain ⟨hlisted, hback⟩ := complete_completed status info hxTx hphase hlive
  simp only [failTx_keeps] at hback
  refine ⟨⟨hlisted, hback⟩, fun z hz => ?_⟩
  rw [endFailed, (complete_spec status info hxTx hphase hlive).1] at hz
  rcases ChainSt.mem_ended_cmds hz with ⟨-, hend⟩ | ⟨-, hbefore⟩
  · exact .inl hend
  · exact .inr (by simpa using hbefore)

theorem placeCommits_none {c : Nat} {s : Part} (h : ∀ z ∈ (s.chain c).cmds, z.phase = .admitted → dOpcode z.desc ≠ 0x11) :
    placeCommits c s = s := by
  have hnil : (s.chain c).cmds.filter (fun x => x.phase == .admitted && dOpcode x.desc == 0x11) = [] := by
    simpa [List.filter_eq_nil_iff] using h
  rw [placeCommits, hnil]
  rfl

/-- A failed data read of an admitted write, on a chain no TX_COMMIT of which waits to be placed. -/
theorem dataReadError_spec {c : Nat} {h : BitVec 32} {s : Part} {x : Cmd} (hl : landable s c h = some x)
    (hop : dOpcode x.desc = 2) (hcommit : ∀ z ∈ (s.chain c).cmds, z.phase = .admitted → dOpcode z.desc ≠ 0x11) :
    Completed c h 0x22 0 s (dataReadError c h s) ∧ (dataReadError c h s).man.held = s.man.held ∧
    dataReadError c h s =
      { s with man := (dataReadError c h s).man, chains := (dataReadError c h s).chains, fn0 := (dataReadError c h s).fn0
               fn1 := (dataReadError c h s).fn1, vols := (dataReadError c h s).vols, out := (dataReadError c h s).out } := by
  obtain ⟨hx, rfl, hphase, hdump⟩ := landable_eq_some hl
  obtain ⟨hend, hlisted⟩ := endFailed_completed 0x22 0 hx (by simp [hphase]) hdump
  have honly := endFailed_within c x 0x22 0 s
  obtain ⟨hdrop, hheld⟩ := dropWrite_keepsHeld c x 0x22 0 s
  have hcmds : ((dropWrite c x 0x22 0 s).chain c).cmds = ((endFailed c x 0x22 0 s).chain c).cmds := by rw [hdrop]; rfl
  have hplace : placeCommits c (dropWrite c x 0x22 0 s) = dropWrite c x 0x22 0 s := by
    refine placeCommits_none fun z hz hadm => ?_
    rcases hlisted z (hcmds ▸ hz) with hdone | hbefore
    · simp [hdone] at hadm
    · exact hcommit z hbefore hadm
  have heq : dataReadError c x.hseq s = dropWrite c x 0x22 0 s := by
    simp only [dataReadError, hl, hop, if_true, hplace]
  rw [heq]
  refine ⟨hend.later hcmds (by rw [hdrop]), hheld.trans (by rw [honly]), ?_⟩
  calc dropWrite c x 0x22 0 s = _ := hdrop
    _ = _ := by rw [honly, hdrop]

/-! ### Register fields (R9) -/

theorem overlay_succ (old w at_ off size value : Nat) :
    overlay old (w + 1) at_ off size value = overlay old w at_ off size value +
      (if off ≤ at_ + w ∧ at_ + w < off + size then (value / 256 ^ (at_ + w - off)) % 256
       else (old / 256 ^ w) % 256) * 256 ^ w := by
  simp only [overlay, List.range_succ, List.foldl_append, List.foldl_cons, List.foldl_nil]

theorem mod_pow_succ_digit (n w : Nat) : n % 256 ^ (w + 1) = n % 256 ^ w + n / 256 ^ w % 256 * 256 ^ w := by
  rw [Nat.mod_pow_succ, Nat.mul_comm]

/-- A register no byte of which is written keeps its value. -/
theorem overlay_untouched (old : Nat) {w at_ off size : Nat} (value : Nat) (h : at_ + w ≤ off ∨ off + size ≤ at_) :
    overlay old w at_ off size value = old % 256 ^ w := by
  induction w with
  | zero => simp [overlay, Nat.mod_one]
  | succ w ih => rw [overlay_succ, if_neg (by omega), ih (by omega), mod_pow_succ_digit]

/-- A register written whole takes the value written. -/
theorem overlay_whole (old : Nat) {w size : Nat} (off value : Nat) (h : w ≤ size) :
    overlay old w off off size value = value % 256 ^ w := by
  induction w with
  | zero => simp [overlay, Nat.mod_one]
  | succ w ih => rw [overlay_succ, if_pos (by omega), ih (by omega), Nat.add_sub_cancel_left, mod_pow_succ_digit]

theorem touches_eq_false {w at_ off size : Nat} (h : at_ + w ≤ off ∨ off + size ≤ at_) : touches w at_ off size = false := by
  simp only [touches, Bool.and_eq_false_iff, decide_eq_false_iff_not]
  omega

theorem touches_eq_true {w at_ off size : Nat} (h : off < at_ + w) (h' : at_ < off + size) : touches w at_ off size = true := by
  simp [touches, h, h']

/-! ### Registers of BAR0 written whole (Tables 10.8, 10.10, 10.12, 11.4) -/

theorem writeBar0_enable (f : Fn) (value : Nat) (s : Part) :
    writeBar0 f 0x14 4 value s = s.modFn f (fun x => { x with enable := BitVec.ofNat 32 (value % 2 ^ 32) &&& 0x1F }) := by
  simp [writeBar0, touches, overlay_whole, eventBits]

/-- CHAIN_SEL written whole selects a chain and configures none. -/
theorem writeBar0_chainSel (f : Fn) (value : Nat) (s : Part) :
    writeBar0 f 0x3000 4 value s = s.modFn f (fun x => { x with chainSel := value % 2 ^ 32 }) := by
  have hsel : touches 4 0x3000 0x3000 4 = true := by decide
  have hcfg : touches 16 0x3008 0x3000 4 = false := by decide
  have hwhole : ∀ old, overlay old 4 0x3000 0x3000 4 value = value % 2 ^ 32 := fun old => overlay_whole old _ _ (Nat.le_refl 4)
  simp only [writeBar0, Nat.reduceLT, Nat.reduceLeDiff, and_self, if_true, if_false, writeChainReg, hsel, hcfg, hwhole,
    Bool.false_eq_true]
  split <;> rfl

/-- RING_BASE written whole leaves the other configuration of the selected chain. -/
theorem writeBar0_ringBase {f : Fn} {c : Nat} {s : Part} (hsel : s.selected f = some c) (value : Nat) :
    writeBar0 f 0x3008 8 value s = s.modChain c (fun x => { x with regBase := BitVec.ofNat 64 value }) := by
  have hselReg : touches 4 0x3000 0x3008 8 = false := by decide
  have hcfg : touches 16 0x3008 0x3008 8 = true := by decide
  have hbase : ∀ old, overlay old 8 0x3008 0x3008 8 value = value % 2 ^ 64 := fun old => overlay_whole old _ _ (Nat.le_refl 8)
  have hrest : ∀ old at_, 0x3010 ≤ at_ → overlay old 4 at_ 0x3008 8 value = old % 2 ^ 32 := fun old at_ h =>
    overlay_untouched old value (.inr h)
  have hreg : ∀ n : Nat, BitVec.ofNat 64 (n % 2 ^ 64) = BitVec.ofNat 64 n := fun n => BitVec.eq_of_toNat_eq (by simp)
  have hkeep : ∀ r : BitVec 32, BitVec.ofNat 32 (r.toNat % 2 ^ 32) = r := fun r => by
    rw [Nat.mod_eq_of_lt r.isLt, BitVec.ofNat_toNat, BitVec.setWidth_eq]
  simp only [writeBar0, Nat.reduceLT, Nat.reduceLeDiff, and_self, if_true, if_false, writeChainReg, hselReg, hcfg, hsel,
    Bool.false_eq_true, hbase, hreg, hrest _ 0x3010 (by decide), hrest _ 0x3014 (by decide), hkeep]

theorem writeModeration_entry {e : Nat} (he : e < 2048) (value : Nat) (x : FnSt) :
    writeModeration (0x19000 + 4 * e) 4 value x = { x with moder := alSet e (BitVec.ofNat 32 (value % 2 ^ 18)) x.moder } := by
  have hentry : (0x19000 + 4 * e - 0x19000) / 4 = e := by omega
  have h0 : touches 4 (0x19000 + 4 * e) (0x19000 + 4 * e) 4 = true := touches_eq_true (by omega) (by omega)
  have h1 : touches 4 (0x19000 + 4 * (e + 1)) (0x19000 + 4 * e) 4 = false := touches_eq_false (by omega)
  have h2 : touches 4 (0x19000 + 4 * (e + 2)) (0x19000 + 4 * e) 4 = false := touches_eq_false (by omega)
  have hmod : value % 256 ^ 4 % 2 ^ 18 = value % 2 ^ 18 := Nat.mod_mod_of_dvd value ⟨2 ^ 14, rfl⟩
  simp only [writeModeration, hentry, List.filter_cons, List.filter_nil, he, h0, h1, h2, decide_true, Bool.and_self,
    Bool.and_false, if_true, Bool.false_eq_true, if_false, List.foldl_cons, List.foldl_nil, writeModerationEntry,
    overlay_whole _ _ _ (Nat.le_refl 4), hmod]

theorem writeBar0_moderation (f : Fn) {e : Nat} (he : e < 2048) (value : Nat) (s : Part) :
    writeBar0 f (0x19000 + 4 * e) 4 value s =
      s.modFn f (fun x => { x with moder := alSet e (BitVec.ofNat 32 (value % 2 ^ 18)) x.moder }) := by
  rw [writeBar0, if_neg (by omega), if_neg (by omega), if_neg (by omega), if_neg (by omega), if_neg (by omega),
    if_pos (by omega), funext (writeModeration_entry he value)]

/-- The base of a window is its first register; the other fields keep their values. -/
theorem writeWindow_base (n : Nat) {w : Window} (hs : w.size < 2 ^ 64) (ht : w.target < 2 ^ 64) (value : BitVec 64) :
    writeWindow n (0x1000 + 32 * n) 8 value.toNat w = { w with base := value.toNat } := by
  have hv : value.toNat < 256 ^ 8 := value.isLt
  have hbase := (overlay_whole w.base (0x1000 + 32 * n) value.toNat (Nat.le_refl 8)).trans (Nat.mod_eq_of_lt hv)
  have hrest : ∀ old k, old < 2 ^ 64 → 8 ≤ k →
      overlay old 8 (0x1000 + 32 * n + k) (0x1000 + 32 * n) 8 value.toNat = old := fun old k ho hk =>
    (overlay_untouched old value.toNat (.inr (by omega))).trans (Nat.mod_eq_of_lt ho)
  have hsmall : ∀ r e : Bool, (if r then 1 else 0) + (if e then 2 else 0) < 2 ^ 64 := by decide
  have hbits : ∀ r e : Bool, ((if r then 1 else 0) + (if e then 2 else 0)).testBit 0 = r ∧
      ((if r then 1 else 0) + (if e then 2 else 0)).testBit 1 = e := by decide
  simp only [writeWindow, hbase, hrest _ 8 hs (by decide), hrest _ 16 ht (by decide), hrest _ 24 (hsmall _ _) (by decide), hbits]

theorem writeBar0_window (f : Fn) {n : Nat} (hn : n < 8) (value : Nat) (s : Part) :
    writeBar0 f (0x1000 + 32 * n) 8 value s = s.modFn f (fun x =>
      { x with shadow := x.shadow.mapIdx (fun m w => if m = n then writeWindow n (0x1000 + 32 * n) 8 value w else w) }) := by
  have htouch : ∀ m, touches 32 (0x1000 + 32 * m) (0x1000 + 32 * n) 8 = decide (m = n) := fun m => by
    by_cases hm : m = n
    · rw [touches_eq_true (by omega) (by omega), decide_eq_true hm]
    · rw [touches_eq_false (by omega), decide_eq_false hm]
  have hone : ∀ (m : Nat) (w : Window),
      (if touches 32 (0x1000 + 32 * m) (0x1000 + 32 * n) 8 then writeWindow m (0x1000 + 32 * n) 8 value w else w) =
        if m = n then writeWindow n (0x1000 + 32 * n) 8 value w else w := fun m w => by
    rw [htouch]
    by_cases hm : m = n <;> simp [hm]
  rw [writeBar0, if_neg (by omega), if_pos (by omega)]
  simp only [hone]

theorem writeBar0_mailbox (f : Fn) {a : Nat} (ha : a < 0x1F00) (value : Nat) (s : Part) :
    writeBar0 f (0x4100 + a) 1 value s = s.modFn f (fun x => { x with mbxReq := alSet a (BitVec.ofNat 8 value) x.mbxReq }) := by
  have hbyte : 0x4100 + a + 0 - 0x4000 = 0x100 + a := by omega
  have hreq : ∀ x : FnSt, writeMbxReq (0x4100 + a) 1 value x = { x with mbxReq := alSet a (BitVec.ofNat 8 value) x.mbxReq } := by
    intro x
    simp only [writeMbxReq, List.range_one, List.foldl_cons, List.foldl_nil, hbyte, Nat.pow_zero, Nat.div_one,
      Nat.add_sub_cancel_left]
    rw [if_pos (by omega)]
  rw [writeBar0, if_neg (by omega), if_neg (by omega), if_neg (by omega), if_pos (by omega), funext hreq]

/-! ### Configuration space (log entry 17) -/

theorem foldl_emit {α : Type} (o : α → Output) (l : List α) (s : Part) :
    l.foldl (fun st v => emit (o v) st) s = { s with out := s.out ++ l.map o } := by
  induction l generalizing s with
  | nil => simp
  | cons v l ih => rw [List.foldl_cons, ih]; simp [emit]

/-- Pending messages that leave are no longer pending; nothing else of the function changes. -/
theorem sendPending_keeps (f : Fn) (s : Part) :
    (∃ l, (sendPending f s).fn f = { s.fn f with pba := l }) ∧ (∀ g, g ≠ f → (sendPending f s).fn g = s.fn g) ∧
    sendPending f s = { s with fn0 := (sendPending f s).fn0, fn1 := (sendPending f s).fn1, out := (sendPending f s).out } := by
  unfold sendPending
  simp only []
  split
  · rw [foldl_emit]
    exact ⟨⟨_, Part.setFn_fn s f _⟩, fun g hg => Part.setFn_fn_ne s _ hg, by cases f <;> rfl⟩
  · exact ⟨⟨_, rfl⟩, fun _ _ => rfl, rfl⟩

/-- The Command register written whole: Memory Space Enable follows its bit 1, the other registers keep their values. -/
theorem writeConfig_command (f : Fn) (value : BitVec 64) (s : Part) :
    ∃ y, writeConfig f 0x04 2 value.toNat s = sendPending f (s.setFn f y) ∧ y.mse = value.getLsbD 1 ∧ y.d0 = (s.fn f).d0 ∧
      y.msixOn = (s.fn f).msixOn := by
  have hmse : ∀ old, (overlay old 2 0x04 0x04 2 value.toNat).testBit 1 = value.getLsbD 1 := fun old => by
    rw [overlay_whole old _ _ (Nat.le_refl 2), show 256 ^ 2 = 2 ^ 16 from rfl, Nat.testBit_mod_two_pow]
    rfl
  have hd0 : ∀ d : Bool, (overlay (if d then 0 else 3) 1 0x44 0x04 2 value.toNat % 4 == 0) = d := fun d => by
    rw [overlay_untouched _ _ (.inr (by decide))]
    cases d <;> rfl
  have hmsix : ∀ a b : Bool,
      (overlay ((if a then 0x8000 else 0) + (if b then 0x4000 else 0)) 2 0x52 0x04 2 value.toNat).testBit 15 = a := fun a b => by
    rw [overlay_untouched _ _ (.inr (by decide))]
    cases a <;> cases b <;> decide
  exact ⟨_, rfl, hmse _, hd0 _, hmsix _ _⟩

/-! ### The statement -/

theorem runs_hostPortError {f : Fn} {e : PortError} {s : State} {P : Part → Prop} (h : P (hostPortErrorEff f e s.part)) :
    Runs (.hostPortError f e) s P := runs_onPart rfl h

theorem exec_registerWrite (f : Fn) (bar off size : Nat) (value : BitVec 64) (s : State) :
    exec (.registerWrite f bar off size value) s = execRegisterWrite f bar off size value s := rfl

theorem runs_writeBar0 {f : Fn} {off size : Nat} {value : BitVec 64} {s : State} {P : Part → Prop}
    (hbar : off + size ≤ 0x100000) (hsize : size ≤ 8) (h : P (writeBar0 f off size value.toNat s.part)) :
    Runs (.registerWrite f 0 off size value) s P :=
  runs_onPart (if_pos ⟨rfl, hbar⟩) (by rw [Nat.min_eq_left hsize]; exact h)

/-- A write that sets fields of one function changes that function alone. -/
theorem runs_writeBar0_modFn {f : Fn} {off size : Nat} {value : BitVec 64} {s : State} (hbar : off + size ≤ 0x100000)
    (hsize : size ≤ 8) {g : FnSt → FnSt} (h : writeBar0 f off size value.toNat s.part = s.part.modFn f g) :
    Runs (.registerWrite f 0 off size value) s (fun t => t.fn f = g (s.part.fn f) ∧ (∀ h, h ≠ f → t.fn h = s.part.fn h) ∧
      t = { s.part with fn0 := t.fn0, fn1 := t.fn1 }) :=
  runs_writeBar0 hbar hsize (by
    rw [h]
    exact ⟨Part.modFn_fn _ _ _, fun _ hne => Part.modFn_fn_ne _ _ hne, Part.modFn_only _ _ _⟩)

/-- Table 10.14, the rows that are reported and change nothing else. -/
theorem hostPortError_reports (f : Fn) (s : State) (e : PortError) (o : Output)
    (he : (e = .correctable ∧ o = Output.aer f 0) ∨ (e = .correctedInternal ∧ o = Output.aer f 0) ∨
      (e = .poisonedRequest true ∧ o = Output.aer f 1) ∨ (e = .internal ∧ o = Output.aer f 2) ∨
      (e = .outsideWindow false ∧ o = Output.unsupported f false)) :
    Runs (.hostPortError f e) s (fun t => t = { s.part with out := s.part.out ++ [o] }) := by
  rcases he with ⟨rfl, rfl⟩ | ⟨rfl, rfl⟩ | ⟨rfl, rfl⟩ | ⟨rfl, rfl⟩ | ⟨rfl, rfl⟩ <;> exact runs_hostPortError rfl

theorem hostPortError_poisonedRead (f : Fn) (s : State) :
    Runs (.hostPortError f (.poisonedRequest false)) s
      (fun t => t = { s.part with out := s.part.out ++ [.aer f 1, .unsupported f false] }) :=
  runs_hostPortError (by simp [hostPortErrorEff, emit])

theorem hostPortError_postedOutsideWindow (f : Fn) (s : State) :
    Runs (.hostPortError f (.outsideWindow true)) s (fun t => (t.fn f).winDrops = (s.part.fn f).winDrops + 1 ∧
      t = { s.part with fn0 := t.fn0, fn1 := t.fn1, out := t.out }) := by
  refine runs_hostPortError ⟨by simp [hostPortErrorEff, dropPosted], ?_⟩
  apply Part.ext_fields <;> simp [hostPortErrorEff, dropPosted, Part.modFn]

theorem hostPortError_fatal (f : Fn) (s : State) :
    Runs (.hostPortError f .fatal) s (fun t => .aer f 2 ∈ t.out ∧
      t.fn f = { flrFn (s.part.chainFirst f) s.part.peerBar (s.part.fn f) with
                 linkUp := false, width := 0, rate := 0, flit := false } ∧
      WithinReset s.part t) :=
  have hemit := LossStep.emit (.aer f 2) s.part
  runs_hostPortError ⟨(portResetEff_out_prefix f _).subset (emit_mem_out _ _), portResetEff_fn f (emit (.aer f 2) s.part),
    hemit.within.trans (portResetEff_within f _)⟩

theorem haltChain_only (c code : Nat) (s : Part) :
    haltChain c code s =
      { s with chains := (haltChain c code s).chains, fn0 := (haltChain c code s).fn0, fn1 := (haltChain c code s).fn1
               tow := (haltChain c code s).tow, dict := (haltChain c code s).dict, log := (haltChain c code s).log
               out := (haltChain c code s).out } := by
  apply Part.ext_fields <;> simp

/-- R289: a chain that halts has no fetch out and carries the code. -/
theorem haltChain_chain (c code : Nat) (s : Part) :
    (haltChain c code s).chain c =
      { s.chain c with st := .halted, halt := code, refetchDue := false, fetchDb := none } := by
  simp [haltChain]

theorem descFetchError_eq {c : Nat} {s : Part} (hfetch : (s.chain c).fetchDb ≠ none) :
    descFetchError c s = haltChain c 0x81 s := if_pos (Option.isSome_iff_ne_none.mpr hfetch)

theorem descFetchError_spec {c : Nat} {s : Part} (hfetch : (s.chain c).fetchDb ≠ none) :
    ((descFetchError c s).chain c).st = .halted ∧ ((descFetchError c s).chain c).halt = 0x81 ∧
    ((descFetchError c s).chain c).fetchDb = none ∧
    descFetchError c s =
      { s with chains := (descFetchError c s).chains, fn0 := (descFetchError c s).fn0, fn1 := (descFetchError c s).fn1
               tow := (descFetchError c s).tow, dict := (descFetchError c s).dict, log := (descFetchError c s).log
               out := (descFetchError c s).out } := by
  rw [descFetchError_eq hfetch, haltChain_chain]
  exact ⟨rfl, rfl, rfl, haltChain_only c 0x81 s⟩

theorem hostPortError_descFetch (f : Fn) (adv : Bool) (c : ChainId) (s : State)
    (hfetch : (s.part.chain c.val).fetchDb ≠ none) :
    Runs (.hostPortError f (.descFetch adv c)) s (fun t => (t.chain c.val).st = .halted ∧ (t.chain c.val).halt = 0x81 ∧
      (t.chain c.val).fetchDb = none ∧
      t = { s.part with chains := t.chains, fn0 := t.fn0, fn1 := t.fn1, tow := t.tow, dict := t.dict, log := t.log
                        out := t.out }) := by
  refine runs_hostPortError ?_
  cases adv
  · exact descFetchError_spec hfetch
  · exact descFetchError_spec (s := emit (.aer f 1) s.part) hfetch

theorem hostPortError_dataRead (f : Fn) (adv : Bool) (c : ChainId) (h : BitVec 32) (s : State) (y : Cmd)
    (hl : landable s.part c.val h = some y) (hop : dOpcode y.desc = 2)
    (hcommit : ∀ z ∈ (s.part.chain c.val).cmds, z.phase = .admitted → dOpcode z.desc ≠ 0x11) :
    Runs (.hostPortError f (.dataRead adv c h)) s (fun t => Completed c.val h 0x22 0 s.part t ∧
      t.man.held = s.part.man.held ∧
      t = { s.part with man := t.man, chains := t.chains, fn0 := t.fn0, fn1 := t.fn1, vols := t.vols, out := t.out }) := by
  refine runs_hostPortError ?_
  cases adv
  · exact dataReadError_spec hl hop hcommit
  · exact dataReadError_spec (s := emit (.aer f 1) s.part) hl hop hcommit

theorem registerWrite_windowBase (f : Fn) (value : BitVec 64) (s : State) {n : Nat} {win : Window} (hn : n < 8)
    (hwin : (s.part.fn f).shadow[n]? = some win) (hsize : win.size < 2 ^ 64) (htarget : win.target < 2 ^ 64) :
    Runs (.registerWrite f 0 (0x1000 + 32 * n) 8 value) s (fun t =>
      (t.fn f).shadow[n]? = some { win with base := value.toNat } ∧
      (∀ m : Nat, m ≠ n → (t.fn f).shadow[m]? = (s.part.fn f).shadow[m]?) ∧
      t.fn f = { s.part.fn f with shadow := (t.fn f).shadow } ∧
      (∀ g, g ≠ f → t.fn g = s.part.fn g) ∧ t = { s.part with fn0 := t.fn0, fn1 := t.fn1 }) := by
  obtain ⟨t, hrun, hfn, hother, honly⟩ := runs_writeBar0_modFn (by omega) (Nat.le_refl 8)
    (writeBar0_window f hn value.toNat s.part)
  refine ⟨t, hrun, ?_, fun m hm => ?_, by rw [hfn], hother, honly⟩
  · rw [hfn]
    simp [hwin, writeWindow_base n hsize htarget]
  · rw [hfn]
    simp [hm]

theorem registerWrite_ringBase (f : Fn) (c : Nat) (value : BitVec 64) (s : State) (hsel : s.part.selected f = some c) :
    Runs (.registerWrite f 0 0x3008 8 value) s (fun t =>
      t.chain c = { s.part.chain c with regBase := value } ∧ (∀ d, d ≠ c → t.chain d = s.part.chain d) ∧
      t = { s.part with chains := t.chains }) := by
  refine runs_writeBar0 (by decide) (Nat.le_refl 8) ?_
  rw [writeBar0_ringBase hsel, BitVec.ofNat_toNat, BitVec.setWidth_eq]
  exact ⟨Part.modChain_chain _ _ _ (by simp), fun d hd => Part.modChain_chain_ne _ _ (by simp) hd, rfl⟩

theorem registerWrite_retry (f : Fn) (value : BitVec 64) (s : State) (hretry : (s.part.fn f).retry = true) (off size : Nat)
    (hoff : off + size ≤ 0x1000) : Stays (.registerWrite f configBar off size value) s := by
  simp [Stays, exec_registerWrite, execRegisterWrite, configBar, hretry, hoff]

theorem registerWrite_command (f : Fn) (value : BitVec 64) (s : State) (hretry : (s.part.fn f).retry = false) :
    Runs (.registerWrite f configBar 0x04 2 value) s (fun t => (t.fn f).mse = value.getLsbD 1 ∧
      (t.fn f).d0 = (s.part.fn f).d0 ∧ (t.fn f).msixOn = (s.part.fn f).msixOn ∧ (∀ g, g ≠ f → t.fn g = s.part.fn g) ∧
      t = { s.part with fn0 := t.fn0, fn1 := t.fn1, out := t.out }) := by
  refine runs_onPart (g := writeConfig f 0x04 2 value.toNat) (by simp [exec_registerWrite, execRegisterWrite, configBar, hretry]) ?_
  obtain ⟨y, heq, hmse, hd0, hmsix⟩ := writeConfig_command f value s.part
  obtain ⟨⟨l, hfn⟩, hother, honly⟩ := sendPending_keeps f (s.part.setFn f y)
  rw [Part.setFn_fn] at hfn
  rw [heq]
  refine ⟨by rw [hfn]; exact hmse, by rw [hfn]; exact hd0, by rw [hfn]; exact hmsix,
    fun g hg => (hother g hg).trans (Part.setFn_fn_ne _ _ hg), honly.trans ?_⟩
  cases f <;> rfl

theorem registerWrite_bar2 (f : Fn) (value : BitVec 64) (s : State) (off size : Nat) (hoff : off + size ≤ 0x100000) :
    Stays (.registerWrite f 2 off size value) s := by
  simp [Stays, exec_registerWrite, execRegisterWrite, hoff]

theorem registerWrite_outsideBar (f : Fn) (value : BitVec 64) (s : State) (bar off size : Nat) (hbar : bar = 0 ∨ bar = 2)
    (hoff : 0x100000 < off + size) : exec (.registerWrite f bar off size value) s = .fault (.outsideBar bar off) := by
  have hout : ¬ off + size ≤ 0x100000 := by omega
  rcases hbar with rfl | rfl <;> simp [exec_registerWrite, execRegisterWrite, configBar, hout]

/-- Settles O42: it holds, assembled from a lemma for each row of Table 10.14 and for each register. -/
theorem portErrorsAndRegisterWrites : Obligations.PortErrorsAndRegisterWrites := by
  unfold Obligations.PortErrorsAndRegisterWrites
  rintro f c h value s _ rfl
  refine ⟨hostPortError_reports f s, hostPortError_poisonedRead f s, hostPortError_postedOutsideWindow f s,
    hostPortError_fatal f s,
    fun adv => ⟨hostPortError_descFetch f adv c s, hostPortError_dataRead f adv c h s⟩, ?_,
    fun _ _ hn hwin hsize htarget => registerWrite_windowBase f value s hn hwin hsize htarget,
    registerWrite_ringBase f c.val value s,
    fun a ha => ?_, registerWrite_retry f value s, registerWrite_command f value s, registerWrite_bar2 f value s,
    registerWrite_outsideBar f value s⟩
  · rintro off _ (⟨rfl, rfl⟩ | ⟨rfl, rfl⟩ | ⟨e, he, rfl, rfl⟩)
    · exact runs_writeBar0_modFn (by decide) (by decide) (writeBar0_enable f _ _)
    · exact runs_writeBar0_modFn (by decide) (by decide) (writeBar0_chainSel f _ _)
    · exact runs_writeBar0_modFn (by omega) (by decide) (writeBar0_moderation f he _ _)
  · exact runs_writeBar0_modFn (by omega) (by decide) (writeBar0_mailbox f ha _ _)

end Sys2Proof.Machine
end

section
/-! SUPPORT. Bridge words (01: R12, R14, R18): the record of a bridge, a word answered by a sleeping island, a corrected word, and
what a bridge fault fails; then the statement of `BridgeWordsAreAnswered`. -/

namespace Sys2Proof.Machine

/-! ### The record of a bridge -/

theorem BridgeSt.joins_comm (b : BridgeSt) (i j : Island) : b.joins i j = b.joins j i := by
  simp only [BridgeSt.joins]
  exact decide_eq_decide.mpr Or.comm

/-- The bridge of two islands joins them, whichever way it is recorded. -/
theorem Part.bridge_joins (s : Part) (i j : Island) : (s.bridge i j).joins i j = true := by
  unfold Part.bridge
  cases h : s.bridges.find? (fun b => b.joins i j) with
  | none => simp [BridgeSt.joins]
  | some b => simpa using List.find?_some h

theorem BridgeSt.joins_ends {b x : BridgeSt} {i j : Island} (h : b.joins i j = true) : x.joins b.src b.dst = x.joins i j := by
  rcases (decide_eq_true_iff.mp h) with ⟨rfl, rfl⟩ | ⟨rfl, rfl⟩
  · rfl
  · exact x.joins_comm _ _

theorem Part.setBridge_bridge (s : Part) {b : BridgeSt} {i j : Island} (h : b.joins i j = true) :
    (s.setBridge b).bridge i j = b := by
  have hgone : (s.bridges.filter (fun x => !x.joins b.src b.dst)).find? (fun x => x.joins i j) = none := by
    simp [List.find?_eq_none, BridgeSt.joins_ends h]
  simp [Part.setBridge, Part.bridge, List.find?_append, hgone, h]

/-- A new record of a bridge is read back from either side. -/
theorem bridge_of_setBridge {s t : Part} {b : BridgeSt} {i j : Island} (h : b.joins i j = true)
    (ht : t.bridges = (s.setBridge b).bridges) : t.bridge i j = b ∧ t.bridge j i = b := by
  have hread : ∀ i' j', t.bridge i' j' = (s.setBridge b).bridge i' j' := fun _ _ => by rw [Part.bridge, Part.bridge, ht]
  rw [hread, hread]
  exact ⟨s.setBridge_bridge h, s.setBridge_bridge (b.joins_comm i j ▸ h)⟩

/-! ### A word to an island that is not ready (R14) -/

theorem answerAsleep_only (src dst : Island) (s : Part) :
    answerAsleep src dst s =
      { s with islands := (answerAsleep src dst s).islands, out := s.out ++ [.bridgeAnswer src .islandAsleep] } := rfl

theorem answerAsleep_remembers (src dst : Island) (s : Part) : src ∈ ((answerAsleep src dst s).island dst).refused := by
  simp only [answerAsleep, emit_fields, Part.modIsland_island, implies_true]
  split
  · next h => simpa using h
  · simp

theorem answerAsleep_island_ne (src : Island) {dst j : Island} (s : Part) (h : j ≠ dst) :
    (answerAsleep src dst s).island j = s.island j := by
  simp [answerAsleep, h]

theorem answerAsleep_island (src dst : Island) (s : Part) :
    (answerAsleep src dst s).island dst =
      { s.island dst with refused := ((answerAsleep src dst s).island dst).refused } := by
  simp [answerAsleep]

/-! ### A corrected word (R18) -/

/-- `t` differs from `s` at most in what a bridge error reaches while no request fails by it. -/
def WithinBridge (s t : Part) : Prop :=
  t = { s with bridges := t.bridges, log := t.log, dict := t.dict, tow := t.tow, out := t.out }

theorem WithinBridge.trans {s t u : Part} (h : WithinBridge s t) (h' : WithinBridge t u) : WithinBridge s u :=
  calc u = _ := h'
    _ = _ := by rw [h]

theorem WithinBridge.emit (o : Output) (s : Part) : WithinBridge s (emit o s) := rfl

theorem log_withinBridge (code inst : Nat) (d : Bytes) (s : Part) : WithinBridge s (log code inst d s) := by
  unfold WithinBridge
  apply Part.ext_fields <;> simp

theorem reportCorrected_withinBridge (src dst : Island) (s : Part) : WithinBridge s (reportCorrected src dst s) := by
  unfold reportCorrected
  split <;> rfl

@[simp] theorem reportCorrected_bridges (src dst : Island) (s : Part) : (reportCorrected src dst s).bridges = s.bridges := by
  unfold reportCorrected
  split <;> rfl

theorem correctWord_withinBridge (src dst : Island) (s : Part) : WithinBridge s (correctWord src dst s) :=
  WithinBridge.trans (t := s.setBridge _) rfl ((log_withinBridge _ _ _ _).trans (reportCorrected_withinBridge _ _ _))

theorem correctWord_bridges (src dst : Island) (s : Part) :
    (correctWord src dst s).bridges =
      (s.setBridge { s.bridge src dst with corrected := (s.bridge src dst).corrected + 1 }).bridges := by
  simp [correctWord]

/-- On a bridge of Landing's island both ports report a corrected error (R262). -/
theorem correctWord_reports {src dst : Island} (s : Part) (h : src = .h ∨ dst = .h) :
    .aer .f0 0 ∈ (correctWord src dst s).out ∧ .aer .f1 0 ∈ (correctWord src dst s).out := by
  simp [correctWord, reportCorrected, h]

/-! ### A host command that a lost word fails (R18) -/

theorem settleEntry_keepsHeld (p stripe : Nat) (s : Part) : KeepsHeld s (settleEntry p stripe s) := by
  unfold settleEntry
  split
  · exact KeepsHeld.refl s
  · simp only []
    split <;> exact ⟨rfl, rfl⟩

/-- Once the blocks of a command are released, what follows its end touches the Manifest's entries alone. -/
theorem releaseCmd_keepsHeld (c : Nat) (x : Cmd) (end_ : Part → Part) (s : Part) :
    ∃ g, KeepsHeld (end_ (s.modMan g)) (releaseCmd c x end_ s) := by
  unfold releaseCmd
  simp only []
  split
  · exact ⟨_, KeepsHeld.refl _⟩
  · refine ⟨_, KeepsHeld.foldl (fun st y => ?_) _ _⟩
    split
    · split
      · exact dropEntry_keepsHeld _ _ st
      · exact settleEntry_keepsHeld _ _ st
    · exact KeepsHeld.refl st

theorem complete_out_prefix (c : Nat) (h : BitVec 32) (status : Nat) (info : BitVec 64) (s : Part) :
    s.out <+: (complete c h status info s).out := by
  unfold complete
  split
  · exact List.prefix_rfl
  · split
    · exact List.prefix_rfl
    · simp only []
      split
      · refine List.IsPrefix.trans ?_ (completionMessage_out_prefix _ _ _)
        simp
      · simp

theorem endFailed_out_prefix (c : Nat) (x : Cmd) (status : Nat) (info : BitVec 64) (s : Part) :
    s.out <+: (endFailed c x status info s).out := by
  refine List.IsPrefix.trans ?_ (complete_out_prefix _ _ _ _ _)
  unfold failTx
  split
  · simp [Part.modTx]
  · exact List.prefix_rfl

/-- `t` is as `s` in the bridges and the scheduler's record, and nothing that was sent is taken back. -/
structure KeepsBridges (s t : Part) : Prop where
  bridges : t.bridges = s.bridges
  sched : t.sched = s.sched
  sent : s.out <+: t.out

theorem KeepsBridges.refl (s : Part) : KeepsBridges s s := ⟨rfl, rfl, List.prefix_rfl⟩

theorem KeepsBridges.trans {s t u : Part} (h : KeepsBridges s t) (h' : KeepsBridges t u) : KeepsBridges s u :=
  ⟨h'.bridges.trans h.bridges, h'.sched.trans h.sched, h.sent.trans h'.sent⟩

theorem KeepsBridges.emit (o : Output) (s : Part) : KeepsBridges s (emit o s) := ⟨rfl, rfl, List.prefix_append _ _⟩

theorem KeepsBridges.log (code inst : Nat) (d : Bytes) (s : Part) : KeepsBridges s (log code inst d s) :=
  ⟨by simp, by simp, log_out_prefix _ _ _ _⟩

theorem KeepsHeld.keepsBridges {s t : Part} (h : KeepsHeld s t) : KeepsBridges s t := by
  obtain ⟨honly, -⟩ := h
  exact ⟨by rw [honly], by rw [honly], by rw [honly]⟩

theorem endFailed_keepsBridges (c : Nat) (x : Cmd) (status : Nat) (info : BitVec 64) (s : Part) :
    KeepsBridges s (endFailed c x status info s) := by
  have honly := endFailed_within c x status info s
  exact ⟨by rw [honly], by rw [honly], endFailed_out_prefix c x status info s⟩

theorem failOperation_keepsBridges (sub c : Nat) (h : BitVec 32) (s : Part) : KeepsBridges s (failOperation sub c h s) := by
  unfold failOperation
  split
  · next x _ =>
    split
    · exact KeepsBridges.refl s
    · obtain ⟨g, hkeeps⟩ := releaseCmd_keepsHeld c x (endFailed c x (internalError sub) 0) s
      exact KeepsBridges.trans (t := s.modMan g) ⟨rfl, rfl, List.prefix_rfl⟩
        ((endFailed_keepsBridges _ _ _ _ _).trans hkeeps.keepsBridges)
  · exact KeepsBridges.refl s

/-- The command a lost word belonged to ends with the internal error of the subsystem. -/
theorem failOperation_completed {sub c : Nat} {h : BitVec 32} {s : Part} {x : Cmd} (hx : s.cmd? c h = some x)
    (hdone : x.phase ≠ .done) (hgone : x.phase ≠ .abandoned) (hdump : s.dump.state ≠ 3) :
    Completed c h (internalError sub) 0 s (failOperation sub c h s) := by
  obtain rfl : x.hseq = h := by simpa using List.find?_some hx
  obtain ⟨g, honly, -⟩ := releaseCmd_keepsHeld c x (endFailed c x (internalError sub) 0) s
  have heq : failOperation sub c x.hseq s = releaseCmd c x (endFailed c x (internalError sub) 0) s := by
    simp [failOperation, hx, hdone, hgone]
  have hend : Completed c x.hseq (internalError sub) 0 s (endFailed c x (internalError sub) 0 (s.modMan g)) :=
    (endFailed_completed (s := s.modMan g) (internalError sub) 0 (by simpa using hx) hdone hdump).1
  rw [heq]
  exact hend.later (by rw [honly]; rfl) (by rw [honly])

/-! ### The reports of a bridge fault (R18, R262) -/

theorem reportUncorrected_only (src : Island) (c : Option ChainId) (s : Part) :
    ∃ l, reportUncorrected src c s = { s with out := s.out ++ l } := by
  unfold reportUncorrected
  split
  · exact ⟨[], by simp⟩
  · split
    · exact ⟨[_], rfl⟩
    · exact ⟨[.aer .f0 2, .aer .f1 2], by simp [emit]⟩

theorem reportUncorrected_keepsBridges (src : Island) (c : Option ChainId) (s : Part) :
    KeepsBridges s (reportUncorrected src c s) := by
  obtain ⟨l, honly⟩ := reportUncorrected_only src c s
  rw [honly]
  exact ⟨rfl, rfl, List.prefix_append _ _⟩

theorem propose_out_prefix (ch : PairChange) (s : Part) : s.out <+: (propose ch s).out := by
  unfold propose
  split
  · exact List.prefix_rfl
  · unfold sendProposal
    simp only [emit_fields, Part.modPair_fields]
    split <;> simp [strictMeanwhile]

theorem propose_foldl_out_prefix (k : PoolSt → PairChange) (l : List PoolSt) :
    ∀ s : Part, s.out <+: (l.foldl (fun st p => propose (k p) st) s).out := by
  induction l with
  | nil => exact fun _ => List.prefix_rfl
  | cons p l ih => exact fun s => (propose_out_prefix (k p) s).trans (ih _)

theorem setStatus_out_prefix (u : SchedSt → SchedSt) (s : Part) : s.out <+: (setStatus u s).out := by
  unfold setStatus
  simp only []
  split
  · exact ((raiseEvent_lossStep 3 .f0 { s with sched := u s.sched }).trans (raiseEvent_lossStep 3 .f1 _)).sent
  · exact List.prefix_rfl

theorem faultyBy_out_prefix (cause sub : Nat) (s : Part) : s.out <+: (faultyBy cause sub s).out := by
  have hreport : ∀ u : Part, u.out <+: (log 0x1405 0 (leBytes 1 sub) (emit (.aer .f1 2) (emit (.aer .f0 2) u))).out :=
    fun u => ((KeepsBridges.emit _ u).trans ((KeepsBridges.emit _ _).trans (KeepsBridges.log _ _ _ _))).sent
  unfold faultyBy
  split
  · split <;> exact List.prefix_rfl
  · simp only []
    split
    · exact (setStatus_out_prefix _ s).trans (hreport _)
    · exact ((setStatus_out_prefix _ s).trans (hreport _)).trans
        (propose_foldl_out_prefix (fun p => .handover (Fin.ofNat 64 p.id) true) _ (Part.modPair _ _))

theorem faultyBy_faulty (cause sub : Nat) (s : Part) : (faultyBy cause sub s).sched.faulty = true := by
  unfold faultyBy
  split
  · next h => split <;> exact h
  · simp only []
    split <;> simp

/-! ### A bridge fault (R18) -/

/-- The record of a bridge that lost a word at the time `now`. -/
def BridgeSt.lostWord (b : BridgeSt) (now : Nat) : BridgeSt :=
  { b with faults := b.faults + 1, recent := now :: b.recent.filter (fun t => decide (now < t + sec 1)) }

/-- The part once a word is lost: the fault is counted on the bridge, answered and logged. -/
def countFault (src dst : Island) (s : Part) : Part :=
  let b := (s.bridge src dst).lostWord s.timeUs
  log 0x1401 (bridgeInst src dst) [1, BitVec.ofNat 8 (min 255 b.recent.length)]
    (emit (.bridgeAnswer src .bridgeFault) (s.setBridge b))

/-- The operation the lost word belonged to, where it has one, fails, and the loss is reported. -/
def failWord (src : Island) (sub : Nat) (op : Option (ChainId × BitVec 32)) (s : Part) : Part :=
  reportUncorrected src (op.map (·.1)) (match op with
    | some (c, h) => failOperation sub c.val h s
    | none => s)

/-- A word was lost on the bridge within the last second. -/
def faultedLately (src dst : Island) (s : Part) : Bool :=
  (s.bridge src dst).recent.any (fun t => decide (s.timeUs < t + sec 1))

theorem faultedLately_eq_true {src dst : Island} {s : Part} :
    faultedLately src dst s = true ↔ ∃ x ∈ (s.bridge src dst).recent, s.timeUs < x + 1000000 := by
  simp [faultedLately, sec]

theorem bridgeFaultEff_asleep {src dst : Island} (sub : Nat) (op : Option (ChainId × BitVec 32)) {s : Part}
    (h : s.ready dst = false) : bridgeFaultEff src dst sub op s = answerAsleep src dst s := by
  simp [bridgeFaultEff, h]

theorem bridgeFaultEff_ready {src dst : Island} (sub : Nat) (op : Option (ChainId × BitVec 32)) {s : Part}
    (h : s.ready dst = true) : bridgeFaultEff src dst sub op s =
      if faultedLately src dst s then faultyBy bridgeCause sub (failWord src sub op (countFault src dst s))
      else failWord src sub op (countFault src dst s) := by
  have hagain : (2 ≤ (s.timeUs :: (s.bridge src dst).recent.filter (fun t => decide (s.timeUs < t + sec 1))).length) ↔
      faultedLately src dst s = true := by
    simp [faultedLately, Nat.succ_le_iff, List.length_filter_pos_iff]
  simp only [bridgeFaultEff, h, Bool.not_true, Bool.false_eq_true, if_false, hagain]
  rfl

theorem countFault_bridges (src dst : Island) (s : Part) :
    (countFault src dst s).bridges = (s.setBridge ((s.bridge src dst).lostWord s.timeUs)).bridges := by
  simp [countFault]

theorem countFault_withinBridge (src dst : Island) (s : Part) : WithinBridge s (countFault src dst s) :=
  WithinBridge.trans (t := emit _ (s.setBridge _)) rfl (log_withinBridge _ _ _ _)

theorem countFault_answers (src dst : Island) (s : Part) : .bridgeAnswer src .bridgeFault ∈ (countFault src dst s).out :=
  (log_out_prefix _ _ _ _).subset (emit_mem_out _ _)

theorem failWord_keepsBridges (src : Island) (sub : Nat) (op : Option (ChainId × BitVec 32)) (s : Part) :
    KeepsBridges s (failWord src sub op s) := by
  refine KeepsBridges.trans ?_ (reportUncorrected_keepsBridges _ _ _)
  cases op with
  | none => exact KeepsBridges.refl s
  | some o => exact failOperation_keepsBridges _ _ _ _

theorem failWord_none (src : Island) (sub : Nat) (s : Part) : WithinBridge s (failWord src sub none s) := by
  obtain ⟨l, honly⟩ := reportUncorrected_only src none s
  exact honly.trans (by rw [failWord, Option.map_none, honly])

theorem failWord_completed {src : Island} {sub : Nat} {c : ChainId} {h : BitVec 32} {s : Part} {x : Cmd}
    (hx : s.cmd? c.val h = some x) (hdone : x.phase ≠ .done) (hgone : x.phase ≠ .abandoned) (hdump : s.dump.state ≠ 3) :
    Completed c.val h (internalError sub) 0 s (failWord src sub (some (c, h)) s) := by
  have hend := failOperation_completed (sub := sub) hx hdone hgone hdump
  obtain ⟨l, honly⟩ := reportUncorrected_only src (some c) (failOperation sub c.val h s)
  have heq : failWord src sub (some (c, h)) s = reportUncorrected src (some c) (failOperation sub c.val h s) := rfl
  rw [heq, honly]
  exact hend.later rfl (List.prefix_append _ _)

/-- Counting a fault changes nothing an ending command goes by. -/
theorem Completed.of_countFault {c : Nat} {h : BitVec 32} {status : Nat} {info : BitVec 64} {src dst : Island} {s t : Part}
    (hend : Completed c h status info (countFault src dst s) t) : Completed c h status info s t := by
  have hcount := countFault_withinBridge src dst s
  rw [hcount] at hend
  exact hend

/-- What follows a lost word, whether or not it makes the part faulty. -/
theorem bridgeFaultEff_spec {src dst : Island} {s : Part} (hready : s.ready dst = true) (sub : Nat)
    (op : Option (ChainId × BitVec 32)) :
    (bridgeFaultEff src dst sub op s).bridges = (countFault src dst s).bridges ∧
    (failWord src sub op (countFault src dst s)).out <+: (bridgeFaultEff src dst sub op s).out ∧
    (∀ c, (bridgeFaultEff src dst sub op s).chain c = (failWord src sub op (countFault src dst s)).chain c) := by
  have hkeeps := failWord_keepsBridges src sub op (countFault src dst s)
  rw [bridgeFaultEff_ready sub op hready]
  split
  · exact ⟨by simp [hkeeps.bridges], faultyBy_out_prefix _ _ _, fun c => by simp⟩
  · exact ⟨hkeeps.bridges, List.prefix_rfl, fun _ => rfl⟩

/-! ### The statement -/

theorem bridgeRequest_asleep (src : Island) {dst : Island} (word : Nat) (one : Bool) {s : State} (h : s.part.ready dst = false) :
    Runs (.bridgeRequest src dst word one) s (fun t =>
      t = { s.part with islands := t.islands, out := s.part.out ++ [.bridgeAnswer src .islandAsleep] } ∧
      src ∈ (t.island dst).refused ∧ (∀ j, j ≠ dst → t.island j = s.part.island j) ∧
      t.island dst = { s.part.island dst with refused := (t.island dst).refused }) := by
  refine runs_onPart (g := bridgeRequestEff src dst word one) rfl ?_
  have heq : bridgeRequestEff src dst word one s.part = answerAsleep src dst s.part := by simp [bridgeRequestEff, h]
  rw [heq]
  exact ⟨answerAsleep_only src dst _, answerAsleep_remembers src dst _, fun j hj => answerAsleep_island_ne src _ hj,
    answerAsleep_island src dst _⟩

theorem bridgeRequest_delivers (src : Island) {dst : Island} (word : Nat) {s : State} (h : s.part.ready dst = true) :
    Runs (.bridgeRequest src dst word false) s (fun t =>
      t = { s.part with out := s.part.out ++ [.bridgeWord src dst word, .bridgeAnswer src .done] }) := by
  refine runs_onPart (g := bridgeRequestEff src dst word false) rfl ?_
  simp [bridgeRequestEff, h, emit]

theorem bridgeRequest_corrects (src : Island) {dst : Island} (word : Nat) {s : State} (h : s.part.ready dst = true) :
    Runs (.bridgeRequest src dst word true) s (fun t =>
      (t.bridge src dst).corrected = (s.part.bridge src dst).corrected + 1 ∧
      (t.bridge dst src).corrected = (s.part.bridge src dst).corrected + 1 ∧
      (∃ l, t.out = l ++ [.bridgeWord src dst word, .bridgeAnswer src .done]) ∧
      (src = .h ∨ dst = .h → .aer .f0 0 ∈ t.out ∧ .aer .f1 0 ∈ t.out) ∧
      t = { s.part with bridges := t.bridges, log := t.log, dict := t.dict, tow := t.tow, out := t.out }) := by
  refine runs_onPart (g := bridgeRequestEff src dst word true) rfl ?_
  have heq : bridgeRequestEff src dst word true s.part =
      emit (.bridgeAnswer src .done) (emit (.bridgeWord src dst word) (correctWord src dst s.part)) := by
    simp [bridgeRequestEff, h]
  have hjoins : ({ s.part.bridge src dst with corrected := (s.part.bridge src dst).corrected + 1 } : BridgeSt).joins src dst = true :=
    s.part.bridge_joins src dst
  obtain ⟨hthere, hback⟩ := bridge_of_setBridge (t := bridgeRequestEff src dst word true s.part) hjoins
    (by rw [heq]; exact correctWord_bridges src dst s.part)
  refine ⟨by rw [hthere], by rw [hback], ?_, ?_, ?_⟩
  · rw [heq]
    exact ⟨(correctWord src dst s.part).out, by simp⟩
  · intro hport
    rw [heq]
    simp [correctWord_reports s.part hport]
  · rw [heq]
    exact (correctWord_withinBridge src dst s.part).trans ((WithinBridge.emit _ _).trans (WithinBridge.emit _ _))

theorem bridgeFault_asleep (src : Island) {dst : Island} (sub : Nat) (op : Option (ChainId × BitVec 32)) {s : State}
    (h : s.part.ready dst = false) : Runs (.bridgeFault src dst ⟨sub, op⟩) s (fun t =>
      t = { s.part with islands := t.islands, out := s.part.out ++ [.bridgeAnswer src .islandAsleep] }) := by
  refine runs_onPart (g := bridgeFaultEff src dst sub op) rfl ?_
  rw [bridgeFaultEff_asleep sub op h]
  exact answerAsleep_only src dst s.part

theorem bridgeFault_fails (src : Island) {dst : Island} (sub : Nat) (op : Option (ChainId × BitVec 32)) {s : State}
    (h : s.part.ready dst = true) : Runs (.bridgeFault src dst ⟨sub, op⟩) s (fun t =>
      (t.bridge src dst).faults = (s.part.bridge src dst).faults + 1 ∧
      .bridgeAnswer src .bridgeFault ∈ t.out ∧
      (∀ (c : ChainId) h x, op = some (c, h) → s.part.cmd? c.val h = some x → x.phase ≠ .done → x.phase ≠ .abandoned →
        s.part.dump.state ≠ 3 → Completed c.val h (internalError sub) 0 s.part t) ∧
      ((∀ x ∈ (s.part.bridge src dst).recent, x + 1000000 ≤ s.part.timeUs) → t.sched = s.part.sched ∧
        (op = none → t = { s.part with bridges := t.bridges, log := t.log, dict := t.dict, tow := t.tow, out := t.out })) ∧
      ((∃ x ∈ (s.part.bridge src dst).recent, s.part.timeUs < x + 1000000) → t.sched.faulty = true)) := by
  refine runs_onPart (g := bridgeFaultEff src dst sub op) rfl ?_
  have hcount := countFault_withinBridge src dst s.part
  have hfail := failWord_keepsBridges src sub op (countFault src dst s.part)
  obtain ⟨hbridges, hsent, hchains⟩ := bridgeFaultEff_spec h sub op
  refine ⟨?_, ?_, ?_, fun hlong => ?_, fun hlately => ?_⟩
  · have hjoins : ((s.part.bridge src dst).lostWord s.part.timeUs).joins src dst = true := s.part.bridge_joins src dst
    rw [(bridge_of_setBridge hjoins (hbridges.trans (countFault_bridges src dst s.part))).1]
    rfl
  · exact (hfail.sent.trans hsent).subset (countFault_answers src dst s.part)
  · rintro c k x rfl hx hdone hgone hdump
    have hend : Completed c.val k (internalError sub) 0 (countFault src dst s.part)
        (failWord src sub (some (c, k)) (countFault src dst s.part)) := by
      refine failWord_completed (x := x) ?_ hdone hgone ?_
      · rw [hcount]
        exact hx
      · rw [hcount]
        exact hdump
    exact (hend.later (by rw [hchains]) hsent).of_countFault
  · have hfirst : faultedLately src dst s.part = false := by
      refine Bool.eq_false_iff.mpr fun hlately => ?_
      obtain ⟨x, hx, hnear⟩ := faultedLately_eq_true.mp hlately
      exact absurd (hlong x hx) (by omega)
    rw [bridgeFaultEff_ready sub op h, hfirst, if_neg Bool.false_ne_true]
    refine ⟨hfail.sched.trans (by rw [hcount]), ?_⟩
    rintro rfl
    exact hcount.trans (failWord_none src sub _)
  · rw [bridgeFaultEff_ready sub op h, if_pos (faultedLately_eq_true.mpr hlately)]
    exact faultyBy_faulty _ _ _

/-- Settles O8: it holds, assembled from a lemma for each answer a word and a fault can have. -/
theorem bridgeWordsAreAnswered : Obligations.BridgeWordsAreAnswered := by
  unfold Obligations.BridgeWordsAreAnswered
  intro src dst word sub s
  exact ⟨fun hasleep => ⟨fun one => bridgeRequest_asleep src word one hasleep, fun op => bridgeFault_asleep src sub op hasleep⟩,
    fun hready => ⟨bridgeRequest_delivers src word hready, bridgeRequest_corrects src word hready,
      fun op => bridgeFault_fails src sub op hready⟩⟩

end Sys2Proof.Machine
end

section
/-! SUPPORT. What work inside the part leaves alone: the timebase, the fleet settings, the firmware, the islands and the Towpath's
own state. First the shared updates, then the Logbook, completions, faults, the self-test (09: R217, R230) and what depends on the
protected region (04: R68). -/

namespace Sys2Proof.Machine

/-- The Towpath's own state: all but the decisions it holds for the Logbook. -/
def TowSt.bare (t : TowSt) : TowSt := { t with heldLog := [], heldOver := 0 }

/-- What no work of the islands' subsystems touches: timebase, fleet settings, firmware, islands and the Towpath's own state. -/
def Part.footing (s : Part) : Nat × FleetSt × FwSt × List IslandSt × TowSt :=
  (s.timeUs, s.fleet, s.fw, s.islands, s.tow.bare)

theorem Part.footing_eq_iff {s t : Part} : t.footing = s.footing ↔
    t.timeUs = s.timeUs ∧ t.fleet = s.fleet ∧ t.fw = s.fw ∧ t.islands = s.islands ∧ t.tow.bare = s.tow.bare := by
  simp [Part.footing]

theorem foldl_footing {α : Type} {op : Part → α → Part} (h : ∀ s x, (op s x).footing = s.footing) (l : List α) (s : Part) :
    (l.foldl op s).footing = s.footing := foldl_keeps op Part.footing h l s

/-! ### The shared updates -/

@[simp] theorem emit_footing (o : Output) (s : Part) : (emit o s).footing = s.footing := rfl
@[simp] theorem Part.modMan_footing (s : Part) (g : ManifestSt → ManifestSt) : (s.modMan g).footing = s.footing := rfl
@[simp] theorem Part.modSched_footing (s : Part) (g : SchedSt → SchedSt) : (s.modSched g).footing = s.footing := rfl
@[simp] theorem Part.modDump_footing (s : Part) (g : DumpSt → DumpSt) : (s.modDump g).footing = s.footing := rfl
@[simp] theorem Part.modPair_footing (s : Part) (g : PairSt → PairSt) : (s.modPair g).footing = s.footing := rfl
@[simp] theorem Part.modToll_footing (s : Part) (g : TollSt → TollSt) : (s.modToll g).footing = s.footing := rfl
@[simp] theorem Part.modDict_footing (s : Part) (g : DictSt → DictSt) : (s.modDict g).footing = s.footing := rfl
@[simp] theorem Part.modLog_footing (s : Part) (g : LogSt → LogSt) : (s.modLog g).footing = s.footing := rfl
@[simp] theorem Part.modFab_footing (s : Part) (g : FabricSt → FabricSt) : (s.modFab g).footing = s.footing := rfl
@[simp] theorem Part.modPool_footing (s : Part) (p : Nat) (g : PoolSt → PoolSt) : (s.modPool p g).footing = s.footing := rfl
@[simp] theorem Part.modMember_footing (s : Part) (m : Nat) (g : MemberSt → MemberSt) : (s.modMember m g).footing = s.footing := rfl
@[simp] theorem Part.modVol_footing (s : Part) (v : Nat) (g : VolSt → VolSt) : (s.modVol v g).footing = s.footing := rfl

@[simp] theorem Part.setFn_footing (s : Part) (f : Fn) (x : FnSt) : (s.setFn f x).footing = s.footing := by
  cases f <;> rfl

/-! ### The Logbook, signals and completions -/

@[simp] theorem logAccept_footing (late : Bool) (e : LogEv) (s : Part) : (logAccept late e s).footing = s.footing := by
  simp [Part.footing]

@[simp] theorem logEvent_footing (e : LogEv) (s : Part) : (logEvent e s).footing = s.footing := by
  unfold logEvent
  split
  · exact logAccept_footing false e s
  · split
    · unfold holdLog
      split <;> rfl
    · rfl

@[simp] theorem log_footing (code inst : Nat) (d : Bytes) (s : Part) : (log code inst d s).footing = s.footing :=
  logEvent_footing _ s

@[simp] theorem noted_footing (ss rule item : Nat) (d : Bytes) (s : Part) : (noted ss rule item d s).footing = s.footing :=
  logEvent_footing _ s

/-- A record changes the Towpath at most in the decisions it holds. -/
theorem log_tow (code inst : Nat) (d : Bytes) (s : Part) :
    (log code inst d s).tow =
      { s.tow with heldLog := (log code inst d s).tow.heldLog, heldOver := (log code inst d s).tow.heldOver } := by
  obtain ⟨-, -, -, -, htow⟩ := Part.footing_eq_iff.mp (log_footing code inst d s)
  exact congrArg (fun t : TowSt =>
    { t with heldLog := (log code inst d s).tow.heldLog, heldOver := (log code inst d s).tow.heldOver }) htow

@[simp] theorem setStatus_footing (u : SchedSt → SchedSt) (s : Part) : (setStatus u s).footing = s.footing := by
  simp [Part.footing]

@[simp] theorem complete_footing (c : Nat) (h : BitVec 32) (status : Nat) (info : BitVec 64) (s : Part) :
    (complete c h status info s).footing = s.footing := by
  simp [Part.footing]

/-! ### Faults of the part and the self-test of island K -/

@[simp] theorem propose_footing (ch : PairChange) (s : Part) : (propose ch s).footing = s.footing := by
  simp [Part.footing]

@[simp] theorem faultyBy_footing (cause sub : Nat) (s : Part) : (faultyBy cause sub s).footing = s.footing := by
  unfold faultyBy
  split
  · split <;> rfl
  · simp only []
    split
    · simp
    · rw [foldl_footing (fun st p => propose_footing _ st)]
      simp

@[simp] theorem retireUnit_footing (u : Nat) (bySelfTest : Bool) (s : Part) : (retireUnit u bySelfTest s).footing = s.footing := by
  unfold retireUnit
  split
  · rfl
  · simp

@[simp] theorem tollFaultCheck_footing (s : Part) : (tollFaultCheck s).footing = s.footing := by
  unfold tollFaultCheck
  split
  · exact faultyBy_footing _ _ s
  · rfl

theorem selfTestEnd_footing (failed : BitVec 64) (s : Part) : (selfTestEnd failed s).footing = s.footing := by
  unfold selfTestEnd
  simp only [tollFaultCheck_footing, Part.modToll_footing]
  have hunits : ∀ t : Part, ((List.range 51).foldl (fun st u => if failed.getLsbD u then retireUnit u true st else st) t).footing =
      t.footing := foldl_footing (fun st u => by split <;> simp) _
  split <;> simp [hunits]

@[simp] theorem beginSlotLoad_footing (v : Nat) (s : Part) : (beginSlotLoad v s).footing = s.footing := by
  unfold beginSlotLoad
  split
  · rfl
  · split <;> rfl

@[simp] theorem loadSlotsOfKek_footing (id : Bytes) (s : Part) : (loadSlotsOfKek id s).footing = s.footing :=
  foldl_footing (fun st v => beginSlotLoad_footing v st) _ s

theorem autoloadKeks_footing (s : Part) : (autoloadKeks s).footing = s.footing :=
  foldl_footing (fun st k => by split <;> simp [Part.modKek]) _ s

@[simp] theorem wakeK_footing (s : Part) : (wakeK s).footing = s.footing :=
  (autoloadKeks_footing _).trans (selfTestEnd_footing 0 s)

/-! ### What depends on the protected region (R68, R92, R328) -/

/-- `t` differs from `s` at most in what a change of protection reaches: admission, the Manifest, the transactions that lose
protection with their completions, the pools' write states, the dump path, and the record of it. -/
def WithinProtection (s t : Part) : Prop :=
  t = { s with sched := t.sched, man := t.man, chains := t.chains, fn0 := t.fn0, fn1 := t.fn1, pools := t.pools, vols := t.vols
               pair := t.pair, dump := t.dump, dict := t.dict, log := t.log, out := t.out
               tow := { s.tow with heldLog := t.tow.heldLog, heldOver := t.tow.heldOver } }

theorem WithinProtection.refl (s : Part) : WithinProtection s s := rfl

theorem WithinProtection.trans {s t u : Part} (h : WithinProtection s t) (h' : WithinProtection t u) : WithinProtection s u :=
  calc u = _ := h'
    _ = _ := by rw [h]

theorem WithinProtection.foldl {α : Type} {op : Part → α → Part} (h : ∀ s x, WithinProtection s (op s x)) (l : List α) :
    ∀ s, WithinProtection s (l.foldl op s) := by
  induction l with
  | nil => exact WithinProtection.refl
  | cons x l ih => exact fun s => (h s x).trans (ih _)

theorem WithinProtection.modMan (s : Part) (g : ManifestSt → ManifestSt) : WithinProtection s (s.modMan g) := rfl
theorem WithinProtection.modSched (s : Part) (g : SchedSt → SchedSt) : WithinProtection s (s.modSched g) := rfl
theorem WithinProtection.modPool (s : Part) (p : Nat) (g : PoolSt → PoolSt) : WithinProtection s (s.modPool p g) := rfl
theorem WithinProtection.modChain (s : Part) (c : Nat) (g : ChainSt → ChainSt) : WithinProtection s (s.modChain c g) := rfl

theorem WithinProtection.footing {s t : Part} (h : WithinProtection s t) : t.footing = s.footing := by
  rw [h]
  rfl

theorem log_withinProtection (code inst : Nat) (d : Bytes) (s : Part) : WithinProtection s (log code inst d s) := by
  unfold WithinProtection
  apply Part.ext_fields <;> try simp
  exact log_tow code inst d s

theorem complete_withinProtection (c : Nat) (h : BitVec 32) (status : Nat) (info : BitVec 64) (s : Part) :
    WithinProtection s (complete c h status info s) :=
  calc complete c h status info s = _ := complete_within c h status info s
    _ = _ := by rw [complete_within c h status info s]

theorem KeepsHeld.withinProtection {s t : Part} (h : KeepsHeld s t) : WithinProtection s t :=
  calc t = _ := h.1
    _ = _ := by rw [h.1]

theorem settleEntries_withinProtection (l : List Held) (s : Part) : WithinProtection s (settleEntries l s) :=
  WithinProtection.foldl (fun st (x : Nat × Nat) => (settleEntry_keepsHeld x.1 x.2 st).withinProtection) _ s

theorem tellTwin_withinProtection (p : Nat) (n : TwinNews) (s : Part) : WithinProtection s (tellTwin p n s) := by
  unfold tellTwin
  split
  · split
    · exact WithinProtection.modMan s _
    · exact WithinProtection.refl s
  · exact WithinProtection.refl s

theorem releaseTxBlocks_withinProtection (c tag : Nat) (s : Part) : WithinProtection s (releaseTxBlocks c tag s) :=
  (WithinProtection.foldl (fun st p => tellTwin_withinProtection p _ st) _ s).trans
    ((WithinProtection.modMan _ _).trans (settleEntries_withinProtection _ _))

theorem endTxWrites_withinProtection (c tag status : Nat) (s : Part) : WithinProtection s (endTxWrites c tag status s) :=
  WithinProtection.foldl (fun st (x : Cmd) => complete_withinProtection c x.hseq status 0 st) _ s

theorem txLosesProtection_withinProtection (c tag : Nat) (s : Part) : WithinProtection s (txLosesProtection c tag s) := by
  have hrel := (releaseTxBlocks_withinProtection c tag s).trans (endTxWrites_withinProtection c tag 0x42 _)
  unfold txLosesProtection
  simp only []
  split
  · exact (hrel.trans (complete_withinProtection _ _ _ _ _)).trans (WithinProtection.modChain _ _ _)
  · exact hrel.trans (WithinProtection.modChain _ _ _)

theorem poolTxsLose_withinProtection (p : Nat) (s : Part) : WithinProtection s (poolTxsLose p s) :=
  WithinProtection.foldl (fun st (x : Nat × Nat) => txLosesProtection_withinProtection x.1 x.2 st) _ s

theorem setWriteState_withinProtection (p new row : Nat) (s : Part) : WithinProtection s (setWriteState p new row s) := by
  unfold setWriteState
  split
  · exact WithinProtection.refl s
  · split
    · exact WithinProtection.refl s
    · simp only []
      have hlog : ∀ (g : PoolSt → PoolSt) (d : Bytes), WithinProtection s (log 0x0501 p d (s.modPool p g)) := fun g d =>
        (WithinProtection.modPool s p g).trans (log_withinProtection _ _ _ _)
      split
      · exact (hlog _ _).trans (poolTxsLose_withinProtection p _)
      · exact hlog _ _

theorem refreshAdmitState_withinProtection (s : Part) : WithinProtection s (refreshAdmitState s) := by
  unfold refreshAdmitState
  simp only []
  split
  · exact WithinProtection.refl s
  · exact (WithinProtection.modSched s _).trans (log_withinProtection _ _ _ _)

theorem refreshWriteStates_withinProtection (s : Part) : WithinProtection s (refreshWriteStates s) := by
  refine WithinProtection.foldl (fun st p => ?_) _ s
  split
  · simp only []
    split
    · exact setWriteState_withinProtection _ _ _ st
    · exact (setWriteState_withinProtection _ _ _ st).trans (WithinProtection.modMan _ _)
  · exact WithinProtection.refl st

theorem refreshProtection_withinProtection (s : Part) : WithinProtection s (refreshProtection s) :=
  (refreshAdmitState_withinProtection s).trans (refreshWriteStates_withinProtection _)

theorem refreshDump_withinProtection (s : Part) : WithinProtection s (refreshDump s) := by
  unfold refreshDump
  split
  · exact WithinProtection.refl s
  · exact WithinProtection.trans (t := (s.modDump _).modPair _) rfl (refreshProtection_withinProtection _)

/-! ### Islands going down and up (Table 1.2, R11, R15, R16) -/

theorem Part.island_congr {s t : Part} (h : t.islands = s.islands) (i : Island) : t.island i = s.island i := by
  rw [Part.island, Part.island, h]

theorem Part.footing_islands {s t : Part} (h : t.footing = s.footing) : t.islands = s.islands :=
  (Part.footing_eq_iff.mp h).2.2.2.1

theorem Part.footing_island {s t : Part} (h : t.footing = s.footing) (i : Island) : t.island i = s.island i :=
  Part.island_congr (Part.footing_islands h) i

theorem clearKeys_only (s : Part) : clearKeys s = { s with toll := (clearKeys s).toll } := rfl

/-- Of an island going down: its own record, and with island K the Tollgate's. -/
theorem powerDown_only (i : Island) (s : Part) :
    powerDown i s = { s with islands := (powerDown i s).islands, toll := (powerDown i s).toll } := by
  unfold powerDown
  simp only []
  split <;> rfl

theorem powerDown_islands (i : Island) (s : Part) :
    (powerDown i s).islands =
      (s.modIsland i (fun x => { x with powered := false, ready := false, waking := false, refused := [] })).islands := by
  unfold powerDown
  simp only []
  split <;> rfl

theorem powerDown_island (i : Island) (s : Part) : (powerDown i s).island i =
    { s.island i with powered := false, ready := false, waking := false, refused := [] } := by
  rw [Part.island_congr (powerDown_islands i s), Part.modIsland_island _ _ _ (by simp)]

theorem powerDown_island_ne {i j : Island} (s : Part) (h : j ≠ i) : (powerDown i s).island j = s.island j := by
  rw [Part.island_congr (powerDown_islands i s), Part.modIsland_island_ne _ _ (by simp) h]

/-- Only island K takes anything of the Tollgate down with it. -/
theorem powerDown_toll {i : Island} (s : Part) (h : i ≠ .k) : (powerDown i s).toll = s.toll := by
  simp [powerDown, h]

/-- Island K loses its keys (R217). -/
theorem powerDown_k (s : Part) : (powerDown .k s).toll.slots = [] ∧ (powerDown .k s).toll.rekey = [] ∧
    ∀ x ∈ (powerDown .k s).toll.keks, x.loaded = false := by
  simp [powerDown, clearKeys]

theorem islandFollows_ne {i : Island} (s : Part) (h : i ≠ .d) : islandFollows i s = s := if_neg h

theorem islandFollows_withinProtection (i : Island) (s : Part) : WithinProtection s (islandFollows i s) := by
  unfold islandFollows
  split
  · exact refreshDump_withinProtection s
  · exact WithinProtection.refl s

/-- What follows the power of island D, where only the islands' records changed before it. -/
theorem WithinProtection.after_islands {s u t : Part} (h : WithinProtection u t) (hu : u = { s with islands := u.islands }) :
    t = { s with islands := t.islands, sched := t.sched, man := t.man, chains := t.chains, fn0 := t.fn0, fn1 := t.fn1
                 pools := t.pools, vols := t.vols, pair := t.pair, tow := t.tow, dump := t.dump, dict := t.dict, log := t.log
                 out := t.out } :=
  calc t = _ := h
    _ = _ := by rw [h, hu]

theorem islandPowerDown_stays {i : Island} {s : State}
    (h : (s.part.island i).powered = false ∨ mayPowerDown i s.part = false) : Stays (.islandPowerDown i) s := by
  have heq : islandPowerDownEff i s.part = s.part := by
    unfold islandPowerDownEff
    rcases h with h | h <;> simp [h]
  have hexec : exec (.islandPowerDown i) s = .next { s with part := islandPowerDownEff i s.part } := rfl
  rw [Stays, hexec, heq]

theorem islandPowerDown_goesDown {i : Island} {s : State} (hpow : (s.part.island i).powered = true)
    (hmay : mayPowerDown i s.part = true) :
    Runs (.islandPowerDown i) s (fun t =>
      (t.island i).powered = false ∧ t.ready i = false ∧ (t.island i).refused = [] ∧
      (∀ j, j ≠ i → t.island j = s.part.island j) ∧
      (i ≠ .k ∧ i ≠ .d → t = { s.part with islands := t.islands }) ∧
      (i = .d → t = { s.part with islands := t.islands, sched := t.sched, man := t.man, chains := t.chains, fn0 := t.fn0, fn1 := t.fn1, pools := t.pools, vols := t.vols, pair := t.pair, tow := t.tow, dump := t.dump, dict := t.dict, log := t.log, out := t.out }) ∧
      (i = .k → t = { s.part with islands := t.islands, toll := t.toll } ∧ t.toll.slots = [] ∧ t.toll.rekey = [] ∧
        ∀ k ∈ t.toll.keks, k.loaded = false)) := by
  refine runs_onPart (g := islandPowerDownEff i) rfl ?_
  have heq : islandPowerDownEff i s.part = islandFollows i (powerDown i s.part) := by simp [islandPowerDownEff, hpow, hmay]
  have honly := powerDown_only i s.part
  have hfollow := islandFollows_withinProtection i (powerDown i s.part)
  have hisland : ∀ j, (islandPowerDownEff i s.part).island j = (powerDown i s.part).island j := fun j => by
    rw [heq, Part.footing_island hfollow.footing]
  refine ⟨?_, ?_, ?_, fun j hj => ?_, fun ⟨hk, hd⟩ => ?_, ?_, ?_⟩
  · rw [hisland, powerDown_island]
  · rw [Part.ready, hisland, powerDown_island]
  · rw [hisland, powerDown_island]
  · rw [hisland, powerDown_island_ne _ hj]
  · rw [heq, islandFollows_ne _ hd]
    exact honly.trans (by rw [powerDown_toll _ hk])
  · rintro rfl
    rw [heq]
    exact hfollow.after_islands (honly.trans (by rw [powerDown_toll _ (by simp)]))
  · rintro rfl
    rw [heq, islandFollows_ne _ (by simp)]
    exact ⟨honly, powerDown_k s.part⟩

theorem writeHeldLog_footing (s : Part) : (writeHeldLog s).footing = s.footing := by
  have hheld : ∀ (l : List LogEv) (t : Part), (l.foldl (fun st e => logAccept true e st) t).footing = t.footing :=
    foldl_footing (fun st e => logAccept_footing true e st)
  unfold writeHeldLog
  simp only []
  split
  · rw [hheld]
    rfl
  · rw [logAccept_footing, Part.modLog_footing, hheld]
    rfl

theorem wakeWork_footing (i : Island) (s : Part) : (wakeWork i s).footing = s.footing := by
  cases i
  case k => exact (Part.modToll_footing _ _).trans (wakeK_footing s)
  case g => exact writeHeldLog_footing s
  all_goals exact (islandFollows_withinProtection _ s).footing

/-- Only islands K, G and D have work once they have power again. -/
theorem wakeWork_ne {i : Island} (s : Part) (hk : i ≠ .k) (hg : i ≠ .g) (hd : i ≠ .d) : wakeWork i s = s := by
  unfold wakeWork
  split
  · exact absurd rfl hk
  · exact absurd rfl hg
  · exact islandFollows_ne s hd

theorem islandWake_orders {i : Island} {s : State} (hready : (s.part.island i).ready = false)
    (hwaking : (s.part.island i).waking = false) :
    Runs (.islandWake i) s (fun t =>
      (t.island i).powered = true ∧ (t.island i).waking = true ∧ t.ready i = false ∧
      (∀ j, j ≠ i → t.island j = s.part.island j) ∧ (i = .k → t.toll.testing = true) ∧ (i ≠ .k ∧ i ≠ .g ∧ i ≠ .d → t = { s.part with islands := t.islands }) ∧
      (i = .d → t = { s.part with islands := t.islands, sched := t.sched, man := t.man, chains := t.chains, fn0 := t.fn0, fn1 := t.fn1, pools := t.pools, vols := t.vols, pair := t.pair, tow := t.tow, dump := t.dump, dict := t.dict, log := t.log, out := t.out })) := by
  refine runs_onPart (g := islandWakeEff i) rfl ?_
  let ordered := s.part.modIsland i (fun x => { x with powered := true, waking := true })
  have heq : islandWakeEff i s.part = wakeWork i ordered := by simp [islandWakeEff, hready, hwaking, ordered]
  have hisland : ∀ j, (islandWakeEff i s.part).island j = ordered.island j := fun j => by
    rw [heq, Part.footing_island (wakeWork_footing i ordered)]
  have hself : (islandWakeEff i s.part).island i = { s.part.island i with powered := true, waking := true } := by
    rw [hisland, Part.modIsland_island _ _ _ (by simp)]
  refine ⟨by rw [hself], by rw [hself], ?_, fun j hj => ?_, ?_, fun ⟨hk, hg, hd⟩ => ?_, ?_⟩
  · rw [Part.ready, hself, hready]
  · rw [hisland, Part.modIsland_island_ne _ _ (by simp) hj]
  · rintro rfl
    rw [heq]
    rfl
  · rw [heq, wakeWork_ne ordered hk hg hd]
    rfl
  · rintro rfl
    have hfollow : WithinProtection ordered (wakeWork .d ordered) := islandFollows_withinProtection .d ordered
    rw [heq]
    exact hfollow.after_islands rfl

theorem islandUp_out (i : Island) (s : Part) :
    (islandUp i s).out = s.out ++ (s.island i).refused.map (fun w => .islandReady w i) := by
  simp only [islandUp, foldl_emit]
  rfl

theorem islandUp_only (i : Island) (s : Part) : islandUp i s = { s with islands := (islandUp i s).islands, out := (islandUp i s).out } := by
  simp only [islandUp, foldl_emit]
  rfl

theorem islandUp_islands (i : Island) (s : Part) : (islandUp i s).islands =
    (s.modIsland i (fun x => { x with powered := true, ready := true, waking := false, refused := [] })).islands := by
  simp only [islandUp, foldl_emit]

theorem islandUp_island (i : Island) (s : Part) : (islandUp i s).island i =
    { s.island i with powered := true, ready := true, waking := false, refused := [] } := by
  rw [Part.island_congr (islandUp_islands i s), Part.modIsland_island _ _ _ (by simp)]

theorem islandUp_island_ne {i j : Island} (s : Part) (h : j ≠ i) : (islandUp i s).island j = s.island j := by
  rw [Part.island_congr (islandUp_islands i s), Part.modIsland_island_ne _ _ (by simp) h]

theorem islandReady_raises {i : Island} {s : State} (hwaking : (s.part.island i).waking = true) :
    Runs (.islandReady i) s (fun t =>
      t.ready i = true ∧ (t.island i).waking = false ∧ (t.island i).refused = [] ∧
      t.out = s.part.out ++ ((s.part.island i).refused.map (fun w => .islandReady w i)) ∧
      (∀ j, j ≠ i → t.island j = s.part.island j) ∧
      (i ≠ .k → t = { s.part with islands := t.islands, out := t.out }) ∧
      (i = .k → t = { s.part with islands := t.islands, out := t.out, toll := { s.part.toll with testing := false } })) := by
  refine runs_onPart (g := islandReadyEff i) rfl ?_
  let tested := if i = .k then s.part.modToll (fun t => { t with testing := false }) else s.part
  have heq : islandReadyEff i s.part = islandUp i tested := by simp [islandReadyEff, hwaking, tested]
  have hout : tested.out = s.part.out := by
    simp only [tested]
    split <;> rfl
  have hisland : ∀ j, tested.island j = s.part.island j := fun j => by
    simp only [tested]
    split <;> rfl
  rw [heq]
  refine ⟨?_, ?_, ?_, ?_, fun j hj => ?_, fun hk => ?_, ?_⟩
  · rw [Part.ready, islandUp_island]
  · rw [islandUp_island]
  · rw [islandUp_island]
  · rw [islandUp_out, hout, hisland]
  · rw [islandUp_island_ne _ hj, hisland]
  · have htested : tested = s.part := if_neg hk
    rw [htested]
    exact islandUp_only i s.part
  · rintro rfl
    exact islandUp_only .k _

/-- Settles O9: it holds, assembled from a lemma for each command and what it finds. -/
theorem islandsGoDownAndUp : Obligations.IslandsGoDownAndUp := by
  unfold Obligations.IslandsGoDownAndUp
  intro i s
  refine ⟨islandPowerDown_stays, ?_, fun ⟨hpow, hmay⟩ => islandPowerDown_goesDown hpow hmay,
    fun ⟨hready, hwaking⟩ => islandWake_orders hready hwaking, islandReady_raises⟩
  rintro rfl
  rfl

end Sys2Proof.Machine
end

section
/-! SUPPORT. What the recovery of the pools at a boot leaves alone (04: R119; 05: R100, R116, R117; 07: R153 to R177; 08: R193): every
operation of it keeps `Part.footing`, but that an encoding uses island C. -/

namespace Sys2Proof.Machine

/-! ### Entries of the Manifest and their writes -/

@[simp] theorem dropEntry_footing (p stripe : Nat) (s : Part) : (dropEntry p stripe s).footing = s.footing := rfl
@[simp] theorem dropClean_footing (p : Nat) (f : CleanBlk → Bool) (s : Part) : (dropClean p f s).footing = s.footing := rfl
@[simp] theorem needIntent_footing (p stripe : Nat) (s : Part) : (needIntent p stripe s).footing = s.footing := rfl
@[simp] theorem Part.modEntry_footing (s : Part) (p stripe : Nat) (g : MEntry → MEntry) :
    (s.modEntry p stripe g).footing = s.footing := rfl
@[simp] theorem enqueueCmd_footing (m : Nat) (op : MOp) (cls : Nat) (nonQueued fua : Bool) (mba count : Nat) (s : Part) :
    (enqueueCmd m op cls nonQueued fua mba count s).footing = s.footing := rfl

@[simp] theorem addEntry_footing (p stripe : Nat) (st : EntryState) (s : Part) : (addEntry p stripe st s).footing = s.footing := by
  unfold addEntry
  split <;> rfl

@[simp] theorem settleEntry_footing (p stripe : Nat) (s : Part) : (settleEntry p stripe s).footing = s.footing :=
  (settleEntry_keepsHeld p stripe s).withinProtection.footing

@[simp] theorem settleEntries_footing (l : List Held) (s : Part) : (settleEntries l s).footing = s.footing :=
  (settleEntries_withinProtection l s).footing

@[simp] theorem tellTwin_footing (p : Nat) (n : TwinNews) (s : Part) : (tellTwin p n s).footing = s.footing :=
  (tellTwin_withinProtection p n s).footing

@[simp] theorem refreshAdmitState_footing (s : Part) : (refreshAdmitState s).footing = s.footing :=
  (refreshAdmitState_withinProtection s).footing

@[simp] theorem refreshDump_footing (s : Part) : (refreshDump s).footing = s.footing := (refreshDump_withinProtection s).footing

theorem issueStripWrites_footing (p stripe : Nat) (s : Part) : (issueStripWrites p stripe s).footing = s.footing := by
  unfold issueStripWrites
  split
  · exact foldl_footing (fun _ _ => enqueueCmd_footing ..) _ s
  · rfl

theorem coverBlock_footing (p stripe i bo : Nat) (s : Part) : (coverBlock p stripe i bo s).footing = s.footing := by
  unfold coverBlock
  simp only []
  split <;> rfl

@[simp] theorem coverAll_footing (l : List (Nat × Nat × Nat × Nat)) (s : Part) : (coverAll l s).footing = s.footing :=
  foldl_footing (fun st _ => coverBlock_footing _ _ _ _ st) l s

@[simp] theorem ackThrough_footing (done : List (Nat × BitVec 32)) (s : Part) : (ackThrough done s).footing = s.footing := by
  refine foldl_footing (fun st ch => ?_) _ s
  split
  · rfl
  · split
    · split <;> simp
    · rfl

@[simp] theorem failThrough_footing (ps : PoolSt) (stripe : Nat) (s : Part) : (failThrough ps stripe s).footing = s.footing := by
  have hends : ∀ (f : Nat × BitVec 32 → List (Nat × Nat)) (l : List (Nat × BitVec 32)), (l.foldl (fun st ch =>
      match f ch with
      | [] => st
      | x :: xs => complete ch.1 ch.2 0x30 (infoOf x.1 (xs.foldl (fun a b => min a b.2) x.2)) st) s).footing = s.footing := fun f l =>
    foldl_footing (fun st ch => by split <;> simp) l s
  unfold failThrough
  extract_lets mine cmds s1 s2
  have hs1 : s1.footing = s.footing := hends _ cmds
  have hs2 : s2.footing = s.footing := by simp [s2, hs1]
  split
  · split <;> simp [hs2]
  · exact hs2

@[simp] theorem resolutionsDone_footing (p stripe : Nat) (s : Part) : (resolutionsDone p stripe s).footing = s.footing := by
  unfold resolutionsDone
  split <;> rfl

@[simp] theorem keepClean_footing (e : MEntry) (gone : List Held) (s : Part) : (keepClean e gone s).footing = s.footing := rfl

theorem markStale_footing (ps : PoolSt) (g : Geo) (stripe i : Nat) (written : List (Nat × Nat)) (s : Part) :
    (markStale ps g stripe i written s).footing = s.footing := by
  unfold markStale
  simp only []
  split <;> rfl

theorem retire_footing (p stripe : Nat) (s : Part) : (retire p stripe s).footing = s.footing := by
  unfold retire
  split
  · next ps e _ _ =>
    extract_lets g s1 isGone gone s2 s3 s4 s5 rest s6 s7
    have hs1 : s1.footing = s.footing := foldl_footing (fun st i => markStale_footing ps g stripe i _ st) e.mask s
    have hs5 : s5.footing = s1.footing := by simp [s5, s4, s3, s2]
    have hs6 : s6.footing = s5.footing := by
      simp only [s6]
      split <;> simp
    split
    · split <;> simp [hs1]
    · simp [s7, hs6, hs5, hs1]
  · rfl

theorem retireIfDone_footing (p stripe : Nat) (s : Part) : (retireIfDone p stripe s).footing = s.footing := by
  unfold retireIfDone
  split
  · split
    · exact retire_footing p stripe s
    · rfl
  · rfl

@[simp] theorem promote_footing (p stripe : Nat) (s : Part) : (promote p stripe s).footing = s.footing := by
  unfold promote
  split
  · split
    · rfl
    · simp only []
      rw [retireIfDone_footing, issueStripWrites_footing]
      split <;> simp
  · rfl

@[simp] theorem stageWrites_footing (p stripe : Nat) (blocks : List (Nat × Nat × Block)) (s : Part) :
    (stageWrites p stripe blocks s).footing = s.footing := by
  simp [stageWrites]

/-! ### Encoding (R39, R42) -/

@[simp] theorem pipeFailure_footing (q p stripe attempt : Nat) (s : Part) : (pipeFailure q p stripe attempt s).footing = s.footing := by
  unfold pipeFailure
  simp only []
  split
  · split <;> simp [partFaulty]
  · simp

@[simp] theorem encodeFailures_footing (p stripe fails : Nat) (s : Part) : (encodeFailures p stripe fails s).footing = s.footing := by
  unfold encodeFailures
  extract_lets s1 s2
  have hs1 : s1.footing = s.footing := by
    simp only [s1]
    split <;> simp
  have hs2 : s2.footing = s1.footing := by
    simp only [s2]
    split <;> simp
  split <;> simp [hs2, hs1]

/-- An encoding uses island C (R17): with the island ready nothing of it changes. -/
theorem stageEncoded_footing (p stripe : Nat) (mirror : Bool) (fails : Nat) (writes : List (Nat × Nat × Block)) {s : Part}
    (hc : s.ready .c = true) : (stageEncoded p stripe mirror fails writes s).footing = s.footing := by
  have huse : useIsland .c s = s := if_pos hc
  unfold stageEncoded
  rw [huse]
  split
  · simp
  · simp only []
    split <;> simp

/-! ### Reconciliation of a stripe (R119) -/

@[simp] theorem raiseDeferred_footing (vol lba cause : Nat) (s : Part) : (raiseDeferred vol lba cause s).footing = s.footing := rfl

@[simp] theorem enterLost_footing (p : Nat) (e : LostEntry) (s : Part) : (enterLost p e s).footing = s.footing := by
  unfold enterLost
  split
  · rfl
  · split
    · rfl
    · simp only []
      split <;> simp

@[simp] theorem settledByRank_footing (p vol lba : Nat) (covered : Bool) (s : Part) :
    (settledByRank p vol lba covered s).footing = s.footing := by
  unfold settledByRank
  simp only []
  split <;> simp

@[simp] theorem recordDiverged_footing (p : Nat) (d : DivEntry) (s : Part) : (recordDiverged p d s).footing = s.footing := by
  unfold recordDiverged
  split
  · rfl
  · split
    · rfl
    · simp

@[simp] theorem blockDiverges_footing (ps : PoolSt) (g : Geo) (stripe i bo : Nat) (s : Part) :
    (blockDiverges ps g stripe i bo s).footing = s.footing := by
  unfold blockDiverges
  split
  · split <;> simp
  · simp

theorem reconcileParity_footing (ps : PoolSt) (g : Geo) (bad : BadReads) (stripe bo : Nat) (s : Part) :
    (reconcileParity ps g bad stripe bo s).2.footing = s.footing := by
  unfold reconcileParity
  exact foldl_footing (fun st (x : Nat × LostEntry) => enterLost_footing ps.id x.2 st) _ s

theorem reconcileCopies_footing (ps : PoolSt) (g : Geo) (bad : BadReads) (stripe bo : Nat) (s : Part) :
    (reconcileCopies ps g bad stripe bo s).2.footing = s.footing := by
  unfold reconcileCopies
  simp only []
  split
  · simp
  · split
    · simp
    · rfl

@[simp] theorem writeStripe_footing (ps : PoolSt) (g : Geo) (stripe : Nat) (blocks : List (Nat × Nat × Block)) (s : Part) :
    (writeStripe ps g stripe blocks s).footing = s.footing := by
  unfold writeStripe
  exact foldl_footing (fun st i => foldl_footing (fun _ _ => Part.modMember_footing _ _ _) _ st) _
    (dropClean ps.id (fun b => b.stripe == stripe) s)

@[simp] theorem stallStripe_footing (p stripe : Nat) (s : Part) : (stallStripe p stripe s).footing = s.footing := by
  simp [stallStripe]

theorem examFold_footing {α : Type} {op : α → Part → Exam} (h : ∀ x s, (op x s).2.footing = s.footing) (l : List α) :
    ∀ acc : Exam, (l.foldl (fun acc x => (acc.1 ++ (op x acc.2).1, (op x acc.2).2)) acc).2.footing = acc.2.footing := by
  induction l with
  | nil => exact fun _ => rfl
  | cons x l ih => exact fun acc => (ih _).trans (h x acc.2)

@[simp] theorem reconcileStripe_footing (p : Nat) (bad : BadReads) (stripe : Nat) (s : Part) :
    (reconcileStripe p bad stripe s).2.footing = s.footing := by
  unfold reconcileStripe
  split
  · rfl
  · next ps _ =>
    simp only []
    split
    · simp
    · rw [writeStripe_footing]
      refine examFold_footing (op := fun bo => (if (ps.charter.geoOf stripe).mirror then reconcileCopies else reconcileParity)
        ps (ps.charter.geoOf stripe) bad stripe bo) (fun bo st => ?_) _ ([], s)
      split
      · exact reconcileCopies_footing _ _ _ _ _ st
      · exact reconcileParity_footing _ _ _ _ _ st

/-! ### Replay (R117, R119) -/

theorem Part.footing_ready {s t : Part} (h : t.footing = s.footing) (i : Island) : t.ready i = s.ready i := by
  rw [Part.ready, Part.ready, Part.footing_island h]

theorem replayByFill_footing (p stripe : Nat) (bad : BadReads) (fails : Nat) {s : Part} (hc : s.ready .c = true) :
    (replayByFill p stripe bad fails s).footing = s.footing := by
  unfold replayByFill
  split
  · rfl
  · simp only []
    split
    · simp
    · exact (stageEncoded_footing _ _ _ _ _ ((Part.footing_ready (Part.modEntry_footing s p stripe _) .c).trans hc)).trans
        (Part.modEntry_footing s p stripe _)
    · simp

theorem rewriteEntry_footing (p stripe : Nat) (s : Part) : (rewriteEntry p stripe s).footing = s.footing := by
  simp [rewriteEntry]

theorem reconcileThrough_footing (p stripe : Nat) (s : Part) : (reconcileThrough p stripe s).footing = s.footing := by
  unfold reconcileThrough
  simp only []
  rw [reconcileStripe_footing]
  split <;> simp

theorem replayEntry_footing (kept : Bool) (e : MEntry) {s : Part} (hc : s.ready .c = true) :
    (replayEntry kept e s).footing = s.footing := by
  unfold replayEntry
  split
  · split
    · rfl
    · split
      · exact replayByFill_footing _ _ _ _ hc
      · exact rewriteEntry_footing _ _ s
  · split
    · split
      · rfl
      · exact rewriteEntry_footing _ _ s
    · exact reconcileThrough_footing _ _ s
  · split <;> rfl
  · rfl

/-- A walk whose steps need island C. -/
theorem foldl_footing_ready {α : Type} {op : Part → α → Part}
    (h : ∀ s x, s.ready .c = true → (op s x).footing = s.footing) (l : List α) :
    ∀ s : Part, s.ready .c = true → (l.foldl op s).footing = s.footing := by
  induction l with
  | nil => exact fun _ _ => rfl
  | cons x l ih =>
    intro s hc
    have hstep := h s x hc
    exact (ih _ ((Part.footing_ready hstep .c).trans hc)).trans hstep

theorem replayPool_footing (kept : Bool) (p : Nat) {s : Part} (hc : s.ready .c = true) : (replayPool kept p s).footing = s.footing :=
  foldl_footing_ready (fun _ e h => replayEntry_footing kept e h) _ s hc

end Sys2Proof.Machine
end

section
/-! SUPPORT. A pool restarted at a boot (03: R46; 05: R100, R116): its charter, the changes that take effect and its Manifest copy
keep `Part.footing`. -/

namespace Sys2Proof.Machine

/-! ### Key slots and volumes (R218, R219) -/

@[simp] theorem clearSlot_footing (v : Nat) (s : Part) : (clearSlot v s).footing = s.footing := rfl
@[simp] theorem clearRekeySlot_footing (p : Nat) (s : Part) : (clearRekeySlot p s).footing = s.footing := rfl

@[simp] theorem finishSlotLoad_footing (v : Nat) (s : Part) : (finishSlotLoad v s).footing = s.footing := by
  unfold finishSlotLoad
  split
  · rfl
  · split
    · rfl
    · split
      · split <;> simp [Part.setSlot]
      · rfl

@[simp] theorem loadRekey_footing (p : Nat) (c : Charter) (s : Part) : (loadRekey p c s).footing = s.footing := by
  unfold loadRekey
  split
  · rfl
  · split
    · rfl
    · split <;> rfl

@[simp] theorem volumesChange_footing (old new : Charter) (s : Part) : (volumesChange old new s).footing = s.footing := by
  unfold volumesChange
  extract_lets gone s1 fresh s2 changed
  have hs1 : s1.footing = s.footing := foldl_footing (fun st v => by simp) gone s
  have hs2 : s2.footing = s1.footing := foldl_footing (fun st v => by simp) fresh s1
  refine (foldl_footing (fun st v => ?_) changed s2).trans (hs2.trans hs1)
  split <;> simp

/-! ### Members: zeroing, settings, pairs (R26, R181, R296) -/

@[simp] theorem startZero_footing (p : Nat) (c : Charter) (m : Nat) (s : Part) : (startZero p c m s).footing = s.footing := by
  unfold startZero
  split <;> simp [zeroCmd]

@[simp] theorem startInit_footing (p : Nat) (c : Charter) (s : Part) : (startInit p c s).footing = s.footing := by
  unfold startInit
  exact foldl_footing (fun st m => startZero_footing p c m st) _ (s.modPool p _)

@[simp] theorem writeCache_footing (m value : Nat) (s : Part) : (writeCache m value s).footing = s.footing := by
  unfold writeCache
  split
  · rfl
  · simp only []
    split <;> simp

theorem capLink_footing (m value : Nat) (s : Part) : (capLink m value s).footing = s.footing := by
  unfold capLink
  split
  · rfl
  · simp only []
    split <;> simp

@[simp] theorem beginSetting_footing (kind value m : Nat) (s : Part) : (beginSetting kind value m s).footing = s.footing := by
  unfold beginSetting applySetting
  split
  · simp
  · simp only []
    split
    · simp
    · exact capLink_footing _ _ _
    · simp
    · split <;> simp
    · simp

@[simp] theorem receiveCommitted_footing (m : Nat) (s : Part) : (receiveCommitted m s).footing = s.footing := by
  refine foldl_footing (fun st kind => ?_) _ s
  split
  · split <;> simp
  · rfl

theorem beginSync_footing (p : Nat) (s : Part) : (beginSync p s).footing = s.footing := by
  unfold beginSync
  extract_lets s1 begun ready seq news s2 s3
  have hs1 : s1.footing = s.footing := rfl
  have hs3 : s3.footing = s1.footing := foldl_footing (fun _ _ => emit_footing _ _) _ s2
  split
  · exact (foldl_footing (fun _ _ => emit_footing _ _) _ s3).trans (hs3.trans hs1)
  · exact hs1

theorem registerOn_footing (p : Nat) (s : Part) : (registerOn p s).footing = s.footing := by
  unfold registerOn
  split
  · rfl
  · exact foldl_footing (fun _ _ => Part.modMember_footing _ _ _) _ s

@[simp] theorem pairingChanges_footing (old : Option Charter) (new : Charter) (s : Part) :
    (pairingChanges old new s).footing = s.footing := by
  unfold pairingChanges
  simp only []
  split
  · rw [registerOn_footing, Part.modPool_footing, beginSync_footing]
  · split <;> rfl

/-! ### Crossings and rebuilds (R161, R166, R173) -/

@[simp] theorem setCrossState_footing (p new : Nat) (s : Part) : (setCrossState p new s).footing = s.footing := by
  unfold setCrossState
  split
  · rfl
  · split
    · rfl
    · simp

theorem releaseMember_footing (m : Nat) (s : Part) : (releaseMember m s).footing = s.footing := by
  simp [releaseMember]

@[simp] theorem crossingChanges_footing (old new : Charter) (s : Part) : (crossingChanges old new s).footing = s.footing := by
  unfold crossingChanges
  extract_lets p
  split
  · rfl
  · simp only [setCrossState_footing, loadRekey_footing, Part.modPool_footing]
    exact foldl_footing (fun _ _ => Part.modMember_footing _ _ _) _ s
  · simp only []
    split <;> split <;> simp
  · simp only [clearRekeySlot_footing, setCrossState_footing, Part.modPool_footing]
    exact foldl_footing (fun st m => releaseMember_footing m st) _ s

@[simp] theorem stallsFollow_footing (p : Nat) (progress : Bool) (s : Part) : (stallsFollow p progress s).footing = s.footing := rfl

@[simp] theorem renumber_footing (p n : Nat) (s : Part) : (renumber p n s).footing = s.footing := rfl

@[simp] theorem modReb_footing (p : Nat) (g : PoolReb → PoolReb) (s : Part) : (modReb p g s).footing = s.footing := rfl

@[simp] theorem startRebuild_footing (p : Nat) (c : Charter) (o : Nat) (s : Part) : (startRebuild p c o s).footing = s.footing := by
  simp [startRebuild]

@[simp] theorem loseHome_footing (p o : Nat) (s : Part) : (loseHome p o s).footing = s.footing := by
  unfold loseHome
  split
  · rfl
  · extract_lets inForce s1 s2
    have hs1 : s1.footing = s.footing := by
      simp only [s1]
      split
      · split <;> simp
      · rfl
    split
    · split
      · split <;> simp [s2, hs1]
      · simp [s2, hs1]
    · exact hs1

@[simp] theorem noteSpare_footing (p : Nat) (s : Part) : (noteSpare p s).footing = s.footing := by
  unfold noteSpare
  split
  · rfl
  · simp only []
    split <;> simp

theorem moveLane_footing (from_ : Part) (g : Geo) (src dst : Nat × Nat) (s : Part) : (moveLane from_ g src dst s).footing = s.footing :=
  foldl_footing (fun _ _ => Part.modMember_footing _ _ _) _ s

@[simp] theorem reassignLanes_footing (p : Nat) (old new : Charter) (s : Part) : (reassignLanes p old new s).footing = s.footing := by
  unfold reassignLanes
  split
  · rfl
  · refine foldl_footing (fun st es => ?_) _ s
    extract_lets go gn o oOld iOld iNew place
    split
    · rfl
    · split
      · split
        · rfl
        · split
          · exact moveLane_footing _ _ _ _ st
          · rfl
      · rfl

/-! ### A charter generation takes effect (R45, R166) -/

theorem takeEffect_footing (p : Nat) (s : Part) : (takeEffect p s).footing = s.footing := by
  unfold takeEffect
  split
  · rfl
  · split
    · rfl
    · next ps _ _ new _ =>
      extract_lets old creation s1 s2 s3 s4 s5 shapeChanged s6 ch moved rebuilt s7 s8 repl s9 s10 s11
      have hs1 : s1.footing = s.footing := rfl
      have hs2 : s2.footing = s1.footing := by
        simp only [s2]
        split <;> simp
      have hs3 : s3.footing = s2.footing := by simp [s3]
      have hs4 : s4.footing = s3.footing := by
        simp only [s4]
        split <;> simp
      have hs5 : s5.footing = s4.footing := by
        simp only [s5]
        split <;> simp
      have hs6 : s6.footing = s5.footing := by
        simp only [s6]
        split <;> simp
      have hrebuilt : rebuilt.footing = s6.footing := by
        refine (foldl_footing (fun st o => ?_) ch moved).trans (reassignLanes_footing p old new s6)
        split <;> simp
      have hs7 : s7.footing = s6.footing := by
        simp only [s7]
        split
        · rfl
        · simp [hrebuilt]
      have hs8 : s8.footing = s7.footing := foldl_footing (fun st (m : CMember) => loseHome_footing p m.ordinal st) _ s7
      have hs9 : s9.footing = s8.footing := foldl_footing (fun st _ => modReb_footing p _ st) repl s8
      have hs10 : s10.footing = s9.footing := foldl_footing (fun _ _ => Part.modMember_footing _ _ _) _ s9
      have hs11 : s11.footing = s10.footing := by
        refine foldl_footing (fun st m => ?_) new.members s10
        split
        · split
          · split <;> rfl
          · rfl
        · rfl
      calc _ = s11.footing := foldl_footing (fun st m => receiveCommitted_footing m st) _ s11
        _ = s.footing := by rw [hs11, hs10, hs9, hs8, hs7, hs6, hs5, hs4, hs3, hs2, hs1]

/-! ### A pool restarts (R116, R117, R193) -/

theorem erasePool_footing (p result : Nat) (s : Part) : (erasePool p result s).footing = s.footing := rfl

theorem loadStates_footing (p : Nat) (s : Part) : (loadStates p s).footing = s.footing := by
  unfold loadStates
  split
  · rfl
  · exact foldl_footing (fun _ _ => Part.modMember_footing _ _ _) _ s

theorem loseRebuildRecord_footing (p : Nat) (s : Part) : (loseRebuildRecord p s).footing = s.footing := by
  unfold loseRebuildRecord resumeRebuild
  split
  · rfl
  · exact foldl_footing (fun st o => startRebuild_footing p _ o st) _ (modReb p _ s)

theorem resumeCrossing_footing (p : Nat) (s : Part) : (resumeCrossing p s).footing = s.footing := by
  unfold resumeCrossing
  split
  · rfl
  · split
    · rfl
    · simp

@[simp] theorem clearPoolManifest_footing (p : Nat) (s : Part) : (clearPoolManifest p s).footing = s.footing := rfl

@[simp] theorem keepSealed_footing (p : Nat) (commits : List (Nat × Nat × Nat)) (s : Part) :
    (keepSealed p commits s).footing = s.footing := by
  unfold keepSealed
  extract_lets n kept gone s1 undone
  rw [settleEntries_footing]
  exact (foldl_footing (fun st e => by simp) undone s1).trans rfl

@[simp] theorem loadHomes_footing (p : Nat) (s : Part) : (loadHomes p s).footing = s.footing := by
  unfold loadHomes loadTable
  split
  · rfl
  · simp only []
    split <;> rfl

@[simp] theorem checkHomes_footing (p : Nat) (s : Part) : (checkHomes p s).footing = s.footing := by
  unfold checkHomes
  split
  · rfl
  · exact foldl_footing (fun st o => loseHome_footing p o st) _ s

@[simp] theorem recovered_footing (p source tide destaged : Nat) (s : Part) : (recovered p source tide destaged s).footing = s.footing := by
  simp [recovered, recoveryRecord, sourceUsed]

theorem reconcileEnds_footing (p : Nat) (s : Part) : (reconcileEnds p s).footing = s.footing := by
  unfold reconcileEnds
  split
  · rfl
  · split
    · simp [recoveryRecord]
    · rfl

@[simp] theorem Part.setMark_footing (s : Part) (p t : Nat) : (s.setMark p t).footing = s.footing := by
  unfold Part.setMark
  split <;> rfl

theorem recoverFromCheckpoints_footing (p : Nat) (s : Part) : (recoverFromCheckpoints p s).footing = s.footing := by
  unfold recoverFromCheckpoints
  extract_lets s1
  have hs1 : s1.footing = s.footing := by simp [s1]
  split
  · exact hs1
  · simp [reconcileEnds_footing, sourceUsed, resumeTide, hs1]

theorem recoverFromRegion_footing (p : Nat) (commits : List (Nat × Nat × Nat)) {s : Part} (hc : s.ready .c = true) :
    (recoverFromRegion p commits s).footing = s.footing := by
  unfold recoverFromRegion
  extract_lets s1 n
  have hs1 : s1.footing = s.footing := by simp [s1]
  rw [checkHomes_footing, recovered_footing, replayPool_footing false p ((Part.footing_ready hs1 .c).trans hc), hs1]

theorem restartPool_footing (kept : Bool) (commits : List (Nat × Nat × Nat)) (p : Nat) {s : Part} (hc : s.ready .c = true) :
    (restartPool kept commits p s).footing = s.footing := by
  unfold restartPool
  split
  · rfl
  · split
    · rfl
    · split
      · exact erasePool_footing _ _ s
      · extract_lets s1 s2 s3 s4 s5
        have hs1 : s1.footing = s.footing := by
          simp only [s1]
          split
          · exact takeEffect_footing p s
          · rfl
        have hs3 : s3.footing = s1.footing := by
          simp only [s3, s2, resumeCrossing_footing, loseRebuildRecord_footing, loadStates_footing, Part.modPool_footing]
        have hs4 : s4.footing = s3.footing := by
          simp only [s4]
          split <;> simp
        have hs5 : s5.footing = s4.footing := by
          simp only [s5]
          split <;> simp
        have hall : s5.footing = s.footing := by rw [hs5, hs4, hs3, hs1]
        split
        · exact hall
        · split
          · split <;> simp [hall]
          · split
            · rw [recoverFromRegion_footing p commits ((Part.footing_ready hall .c).trans hc), hall]
            · rw [recoverFromCheckpoints_footing, hall]

end Sys2Proof.Machine
end

section
/-! SUPPORT. A boot from archive sleep (Tables 1.4, 13.3): the islands it brings up, what it keeps, and what it leaves of the
Towpath. -/

namespace Sys2Proof.Machine

/-! ### The pools at a boot (R335, R336) -/

/-- What does not read the flags `TowSt.bare` clears is equal where the Towpaths without them are. -/
theorem TowSt.of_bare {β : Type} {t u : TowSt} (h : t.bare = u.bare) (π : TowSt → β) (hπ : ∀ w : TowSt, π w.bare = π w) :
    π t = π u := by
  rw [← hπ t, h, hπ]

/-- What the Towpath holds but its power state comes through with the rest. -/
theorem Part.footing_power {s t : Part} (h : t.footing = s.footing) (x : Nat) :
    (t.modTow (fun w => { w with power := x })).footing = (s.modTow (fun w => { w with power := x })).footing := by
  obtain ⟨htime, hfleet, hfw, hislands, htow⟩ := Part.footing_eq_iff.mp h
  exact Part.footing_eq_iff.mpr ⟨htime, hfleet, hfw, hislands, congrArg (fun w : TowSt => { w with power := x }) htow⟩

/-- `t` keeps the footing of `s` but for a power state that may be RESTORING (4). -/
def RestoresFrom (s t : Part) : Prop :=
  ∃ x, (x = s.tow.power ∨ x = 4) ∧ t.footing = (s.modTow (fun w => { w with power := x })).footing

theorem RestoresFrom.of_footing {s t : Part} (h : t.footing = s.footing) : RestoresFrom s t := ⟨_, .inl rfl, h⟩

theorem RestoresFrom.after {s t u : Part} (h : RestoresFrom t u) (hst : t.footing = s.footing) : RestoresFrom s u := by
  obtain ⟨x, hx, hu⟩ := h
  obtain ⟨-, -, -, -, htow⟩ := Part.footing_eq_iff.mp hst
  have hpower : t.tow.power = s.tow.power := TowSt.of_bare htow TowSt.power (fun _ => rfl)
  exact ⟨x, hpower ▸ hx, hu.trans (Part.footing_power hst x)⟩

theorem RestoresFrom.before {s t u : Part} (h : RestoresFrom s t) (htu : u.footing = t.footing) : RestoresFrom s u := by
  obtain ⟨x, hx, ht⟩ := h
  exact ⟨x, hx, htu.trans ht⟩

theorem consumeImage_restores (s : Part) : RestoresFrom s (consumeImage s) := by
  unfold consumeImage
  split
  · exact ⟨4, .inr rfl, rfl⟩
  · exact .of_footing rfl

theorem restorePools_restores {s : Part} (hc : s.ready .c = true) : RestoresFrom s (restorePools s) := by
  have hpools : ∀ (f : Nat → Bool) (commits : List (Nat × Nat × Nat)) (l : List Nat) (t : Part), t.footing = s.footing →
      (l.foldl (fun st p => restartPool (f p) commits p st) t).footing = s.footing := fun f commits l t ht =>
    (foldl_footing_ready (fun _ p h => restartPool_footing (f p) commits p h) l t ((Part.footing_ready ht .c).trans hc)).trans ht
  unfold restorePools
  extract_lets ids
  split
  · exact .of_footing (hpools (fun _ => false) [] ids (s.modSched _) rfl)
  · next m _ =>
    extract_lets commits here lost s1 s2 s3 s4 bits
    have hs2 : s2.footing = s.footing := by
      simp only [s2]
      split <;> rfl
    have hs3 : s3.footing = s.footing := hpools (fun p => here && !lost.contains p) commits ids s2 hs2
    exact (consumeImage_restores _).after (by simp [s4, hs3])

/-! ### The islands a boot brings up (R11, R16, Table 1.4) -/

theorem islandUp_ready (i j : Island) (s : Part) : (islandUp i s).ready j = (decide (j = i) || s.ready j) := by
  by_cases h : j = i
  · subst h
    simp [Part.ready, islandUp_island]
  · simp [Part.ready, islandUp_island_ne s h, h]

theorem islandsUp_ready (l : List Island) (j : Island) :
    ∀ s : Part, (l.foldl (fun st i => islandUp i st) s).ready j = (decide (j ∈ l) || s.ready j) := by
  induction l with
  | nil => simp
  | cons i l ih =>
    intro s
    rw [List.foldl_cons, ih, islandUp_ready]
    by_cases h : j = i <;> simp [h]

/-- What an island that rises leaves alone. -/
theorem islandsUp_keeps {β : Type} {π : Part → β} (h : ∀ (s : Part) islands out, π { s with islands := islands, out := out } = π s)
    (l : List Island) (s : Part) : π (l.foldl (fun st i => islandUp i st) s) = π s :=
  foldl_keeps (fun st i => islandUp i st) π (fun st i => by rw [islandUp_only i st, h]) l s

/-- An island a boot brings up; X only with the host's ports and in a pair (Table 1.4). -/
def Island.boots (hostToo : Bool) (s : Part) : Island → Bool
  | .h => hostToo
  | .x => hostToo && s.pair.state != 0
  | .s => false
  | _ => true

theorem mem_bootIslands {hostToo : Bool} {s : Part} {i : Island} : i ∈ bootIslands hostToo s ↔ Island.boots hostToo s i = true := by
  have hall : i ∈ Island.all := by
    cases i <;> simp [Island.all]
  simp only [bootIslands, List.mem_filter, hall, true_and]
  cases i <;> rfl

/-- The Towpath as a boot starts. -/
def TowSt.booting (t : TowSt) : TowSt :=
  { t with power := 0, coreEn := true, chgEn := true, tripped := false, afterDump := false, limitsWait := none, sleeping := false
           wakeN := false, dumpActive := false, coldHeld := false }

/-- A boot up to the point where its islands are ready. -/
def bootRise (cause : Nat) (hostToo : Bool) (s : Part) : Part :=
  let s := writeHeldLog (logBoot cause (islandUp .g (s.modTow TowSt.booting)))
  ((bootIslands hostToo s).filter (fun i => decide (i ≠ .g))).foldl (fun st i => islandUp i st) s

/-- The rest of a boot, the islands ready. -/
def bootWork (links : List Nat) (s : Part) : Part :=
  let s := wakeK (s.modDump (fun d => { d with targets := d.targets.map (DumpTarget.boot links) }))
  let s := (s.members.filter (·.linkUp)).foldl (fun st m => memberRestarts m.id st) s
  setStatus (fun x => { x with ready := true }) (refreshDump (noteSelfSpins (restorePools s)))

theorem bootPart_eq (cause : Nat) (links : List Nat) (hostToo : Bool) (s : Part) :
    bootPart cause links hostToo s = bootWork links (bootRise cause hostToo s) := rfl

theorem logBoot_footing (cause : Nat) (s : Part) : (logBoot cause s).footing = s.footing := by
  simp [logBoot]

/-- The base of a boot: what the islands' records and the messages do not touch. -/
theorem bootRise_keeps (cause : Nat) (hostToo : Bool) (s : Part) :
    (bootRise cause hostToo s).timeUs = s.timeUs ∧ (bootRise cause hostToo s).fleet = s.fleet ∧
    (bootRise cause hostToo s).fw = s.fw ∧
    (bootRise cause hostToo s).tow.bare = s.tow.booting.bare := by
  unfold bootRise
  extract_lets s1
  have hs1 : s1.footing = (islandUp .g (s.modTow TowSt.booting)).footing := (writeHeldLog_footing _).trans (logBoot_footing _ _)
  obtain ⟨htime, hfleet, hfw, -, htow⟩ := Part.footing_eq_iff.mp hs1
  refine ⟨?_, ?_, ?_, ?_⟩
  · rw [islandsUp_keeps (π := Part.timeUs) (fun _ _ _ => rfl), htime, islandUp_only]
    rfl
  · rw [islandsUp_keeps (π := Part.fleet) (fun _ _ _ => rfl), hfleet, islandUp_only]
    rfl
  · rw [islandsUp_keeps (π := Part.fw) (fun _ _ _ => rfl), hfw, islandUp_only]
    rfl
  · rw [islandsUp_keeps (π := fun t => t.tow.bare) (fun _ _ _ => rfl), htow, islandUp_only]
    rfl

/-- Of an island that was not ready before: a boot brings up all but H and X, which a scheduled wake leaves asleep. -/
theorem bootRise_ready (cause : Nat) (hostToo : Bool) (s : Part) :
    (∀ i, i ≠ .h → i ≠ .x → i ≠ .s → (bootRise cause hostToo s).ready i = true) ∧
    (s.ready .s = true → (bootRise cause hostToo s).ready .s = true) ∧
    (s.ready .h = false → (bootRise cause hostToo s).ready .h = hostToo) ∧
    (s.ready .x = false → hostToo = false → (bootRise cause hostToo s).ready .x = false) := by
  unfold bootRise
  extract_lets s1
  have hs1 : ∀ i, s1.ready i = (decide (i = .g) || s.ready i) := fun i => by
    have hfoot : s1.footing = (islandUp .g (s.modTow TowSt.booting)).footing := (writeHeldLog_footing _).trans (logBoot_footing _ _)
    rw [Part.footing_ready hfoot, islandUp_ready]
    rfl
  simp only [islandsUp_ready, hs1, List.mem_filter, mem_bootIslands]
  refine ⟨fun i hh hx hs => ?_, fun h => ?_, fun h => ?_, fun h hhost => ?_⟩
  · cases i <;> simp [Island.boots] at hh hx hs ⊢
  · simp [h]
  · simp [h, Island.boots]
  · simp [h, hhost, Island.boots]

/-! ### The work of a boot -/

theorem memberRestarts_footing (m : Nat) (s : Part) : (memberRestarts m s).footing = s.footing := by
  unfold memberRestarts
  split
  · rfl
  · simp only []
    split <;> simp

theorem noteSelfSpins_footing (s : Part) : (noteSelfSpins s).footing = s.footing := by
  unfold noteSelfSpins
  exact foldl_footing (fun st m => noted_footing _ _ _ _ st) _ s

theorem membersRestart_footing (l : List MemberSt) (s : Part) :
    (l.foldl (fun st m => memberRestarts m.id st) s).footing = s.footing :=
  foldl_footing (op := fun st (m : MemberSt) => memberRestarts m.id st) (fun st m => memberRestarts_footing m.id st) l s

theorem bootWork_restores (links : List Nat) {s : Part} (hc : s.ready .c = true) : RestoresFrom s (bootWork links s) := by
  unfold bootWork
  extract_lets s1 s2
  have hs1 : s1.footing = s.footing := by simp [s1]
  have hs2 : s2.footing = s.footing := (membersRestart_footing _ s1).trans hs1
  have hrestore := (restorePools_restores ((Part.footing_ready hs2 .c).trans hc)).after hs2
  exact hrestore.before (by rw [setStatus_footing, refreshDump_footing, noteSelfSpins_footing])

theorem bootWork_sched_ready (links : List Nat) (s : Part) : (bootWork links s).sched.ready = true := by
  simp [bootWork]

/-! ### A wake (R322, Table 1.4) -/

theorem wipe_ready (sLost powered : Bool) (s : Part) (i : Island) : (wipe sLost powered s).ready i = decide (i = .s) := by
  have hislands : (wipe sLost powered s).islands = s.islands.map (IslandSt.lost sLost) := rfl
  have hname : ((fun x : IslandSt => decide (x.island = i)) ∘ IslandSt.lost sLost) = fun x => decide (x.island = i) := rfl
  rw [Part.ready, Part.island, hislands, List.find?_map, hname]
  cases hfind : s.islands.find? (fun x => decide (x.island = i)) with
  | none => rfl
  | some x =>
    have hx : x.island = i := by simpa using List.find?_some hfind
    simp [IslandSt.lost, hx]

/-- What comes of a wake with or without the host's islands, at the readings `e`. -/
structure Woken (hostToo : Bool) (e : WakeEnv) (s t : Part) : Prop where
  timeUs : t.timeUs = s.timeUs
  fleet : t.fleet = s.fleet
  fw : t.fw = s.fw
  power : t.tow.power = 0 ∨ t.tow.power = 4
  coreEn : t.tow.coreEn = true
  wakeCause : t.tow.wakeCause = s.tow.wakeCause
  wakePending : t.tow.wakePending = s.tow.wakePending
  schedNext : t.tow.schedNext = s.tow.schedNext
  dieC : t.tow.dieC = e.dieC
  ready : t.sched.ready = true
  islands : ∀ i, i ≠ .h → i ≠ .x → t.ready i = true
  host : t.ready .h = hostToo
  twin : hostToo = false → t.ready .x = false

theorem bootPart_woken (hostToo : Bool) (e : WakeEnv) (links : List Nat) {s w : Part} (htime : w.timeUs = s.timeUs)
    (hfleet : w.fleet = s.fleet) (hfw : w.fw = s.fw) (htow : ∃ sense, w.tow = { s.tow with dieC := e.dieC, sense := sense })
    (hready : ∀ i, w.ready i = decide (i = .s)) : Woken hostToo e s (bootPart 3 links hostToo w) := by
  rw [bootPart_eq]
  obtain ⟨sense, htow⟩ := htow
  obtain ⟨hriseTime, hriseFleet, hriseFw, hriseTow⟩ := bootRise_keeps 3 hostToo w
  obtain ⟨hup, hs, hh, hx⟩ := bootRise_ready 3 hostToo w
  generalize bootRise 3 hostToo w = r at *
  obtain ⟨x, hx04, hfoot⟩ := bootWork_restores links (hup .c (by simp) (by simp) (by simp))
  have hsched := bootWork_sched_ready links r
  generalize bootWork links r = t at *
  obtain ⟨hworkTime, hworkFleet, hworkFw, -, hworkTow⟩ := Part.footing_eq_iff.mp hfoot
  have hisland : ∀ i, t.ready i = r.ready i := fun i => Part.footing_ready hfoot i
  have hkeep : ∀ {β : Type} (π : TowSt → β), (∀ v : TowSt, π v.bare = π v) → (∀ (v : TowSt) p, π { v with power := p } = π v) →
      π t.tow = π w.tow.booting := fun π hbare hpower =>
    (TowSt.of_bare hworkTow π hbare).trans ((hpower r.tow x).trans (TowSt.of_bare hriseTow π hbare))
  have hrise : r.tow.power = 0 := TowSt.of_bare hriseTow TowSt.power (fun _ => rfl)
  have hpower : t.tow.power = x := TowSt.of_bare hworkTow TowSt.power (fun _ => rfl)
  rw [htow] at hkeep
  exact {
    timeUs := hworkTime.trans (hriseTime.trans htime)
    fleet := hworkFleet.trans (hriseFleet.trans hfleet)
    fw := hworkFw.trans (hriseFw.trans hfw)
    power := by
      rw [hpower, ← hrise]
      exact hx04
    coreEn := hkeep TowSt.coreEn (fun _ => rfl) (fun _ _ => rfl)
    wakeCause := hkeep TowSt.wakeCause (fun _ => rfl) (fun _ _ => rfl)
    wakePending := hkeep TowSt.wakePending (fun _ => rfl) (fun _ _ => rfl)
    schedNext := hkeep TowSt.schedNext (fun _ => rfl) (fun _ _ => rfl)
    dieC := hkeep TowSt.dieC (fun _ => rfl) (fun _ _ => rfl)
    ready := hsched
    islands := fun i hi hi' => by
      rw [hisland]
      by_cases his : i = .s
      · subst his
        exact hs (by simp [hready])
      · exact hup i hi hi' his
    host := (hisland .h).trans (hh (by simp [hready]))
    twin := fun hhost => (hisland .x).trans (hx (by simp [hready]) hhost) }

/-- What a loss of the islands' content leaves of the timebase, the settings of the fleet, the firmware and, where island S stays
powered, the Towpath. -/
theorem wipe_keeps (sLost powered : Bool) (s : Part) :
    (wipe sLost powered s).timeUs = s.timeUs ∧ (wipe sLost powered s).fleet = s.fleet ∧ (wipe sLost powered s).fw = s.fw ∧
    (wipe sLost powered s).tow = if sLost then s.tow.powered else s.tow := by
  unfold wipe
  refine ⟨?_, ?_, ?_, ?_⟩ <;> rfl

theorem bootWake_woken (hostToo : Bool) (e : WakeEnv) (s : Part) : Woken hostToo e s (bootWake hostToo e s) := by
  obtain ⟨htime, hfleet, hfw, htow⟩ := wipe_keeps false false s
  have hready := wipe_ready false false s
  unfold bootWake
  extract_lets links
  generalize wipe false false s = w at *
  have hsense : (takeEnv e w).tow = { s.tow with dieC := e.dieC, sense := s.tow.sense.set 0 e.inputMv } := by
    rw [takeEnv, Part.modTow, htow, if_neg Bool.false_ne_true]
  exact bootPart_woken hostToo e links htime hfleet hfw ⟨_, hsense⟩ hready

end Sys2Proof.Machine
end

section
/-! SUPPORT. Archive sleep carried out (R213, R321, R385): what its steps touch and what they leave of the islands, the sessions and
the Towpath. -/

namespace Sys2Proof.Machine

/-! ### What a sleep touches -/

/-- `t` differs from `s` at most in what the steps of a sleep reach: the Logbook and its exports, the pair, the members, the
sessions, the islands with the keys of K, the admission and the Towpath. -/
def WithinSleep (s t : Part) : Prop :=
  t = { s with islands := t.islands, sched := t.sched, pools := t.pools, members := t.members, toll := t.toll, pair := t.pair
               tow := t.tow, dict := t.dict, log := t.log, out := t.out }

theorem WithinSleep.refl (s : Part) : WithinSleep s s := rfl

theorem WithinSleep.trans {s t u : Part} (h : WithinSleep s t) (h' : WithinSleep t u) : WithinSleep s u :=
  calc u = _ := h'
    _ = _ := by rw [h]

theorem WithinSleep.foldl {α : Type} {op : Part → α → Part} (h : ∀ s x, WithinSleep s (op s x)) (l : List α) :
    ∀ s, WithinSleep s (l.foldl op s) := by
  induction l with
  | nil => exact WithinSleep.refl
  | cons x l ih => exact fun s => (h s x).trans (ih _)

theorem WithinSleep.modTow (s : Part) (g : TowSt → TowSt) : WithinSleep s (s.modTow g) := rfl
theorem WithinSleep.modSched (s : Part) (g : SchedSt → SchedSt) : WithinSleep s (s.modSched g) := rfl
theorem WithinSleep.modLog (s : Part) (g : LogSt → LogSt) : WithinSleep s (s.modLog g) := rfl

theorem log_withinSleep (code inst : Nat) (d : Bytes) (s : Part) : WithinSleep s (log code inst d s) := by
  unfold WithinSleep
  apply Part.ext_fields <;> simp

theorem enqueueCmd_withinSleep (k : Nat) (op : MOp) (cls : Nat) (nonQueued fua : Bool) (mba count : Nat) (s : Part) :
    WithinSleep s (enqueueCmd k op cls nonQueued fua mba count s) := rfl

theorem exportTo_withinSleep (home : Nat) (s : Part) : WithinSleep s (exportTo home s) := by
  unfold exportTo
  split
  · exact .refl s
  · extract_lets foreign count e s1 s2 s3
    have hrecord : WithinSleep s s1 := rfl
    have hblocks : WithinSleep s1 s2 := WithinSleep.foldl (fun st r => enqueueCmd_withinSleep ..) _ _
    exact ((hrecord.trans hblocks).trans (enqueueCmd_withinSleep ..)).trans (log_withinSleep ..)

theorem exportLog_withinSleep (s : Part) : WithinSleep s (exportLog s) := by
  unfold exportLog
  extract_lets homes
  split
  · exact .refl s
  · exact (WithinSleep.foldl (fun st home => exportTo_withinSleep home st) homes s).trans (.modLog _ _)

theorem changePaths_withinSleep (g : PairSt → PairSt) (s : Part) : WithinSleep s (changePaths g s) := by
  unfold changePaths
  extract_lets old new state alarm renewed s1
  have hs1 : WithinSleep s s1 := rfl
  split
  · exact hs1
  · exact hs1.trans (log_withinSleep ..)

theorem modPoolPair_withinSleep (p : Nat) (g : PoolPairSt → PoolPairSt) (s : Part) : WithinSleep s (modPoolPair p g s) := rfl

theorem leavePair_withinSleep (s : Part) : WithinSleep s (leavePair s) := by
  unfold leavePair
  split
  · extract_lets told dropped
    have htold : WithinSleep s told := rfl
    have hdropped : WithinSleep told dropped := WithinSleep.foldl (fun st (p : PoolSt) => modPoolPair_withinSleep p.id _ st) _ told
    exact (htold.trans hdropped).trans (changePaths_withinSleep _ _)
  · exact .refl s

theorem stopMember_withinSleep (m : MemberSt) (s : Part) : WithinSleep s (stopMember m s) := rfl

theorem endSession_withinSleep (id : Nat) (s : Part) : WithinSleep s (endSession id s) := rfl

theorem endSessionsWhere_withinSleep (which : SessSt → Bool) (s : Part) : WithinSleep s (endSessionsWhere which s) :=
  WithinSleep.foldl (fun st (x : SessSt) => endSession_withinSleep x.id st) _ s

theorem endStoreLoad_withinSleep (s : Part) : WithinSleep s (endStoreLoad s) := rfl
theorem flushLog_withinSleep (s : Part) : WithinSleep s (flushLog s) := rfl

theorem powerDown_withinSleep (i : Island) (s : Part) : WithinSleep s (powerDown i s) := by
  rw [powerDown_only]
  rfl

/-! ### The steps before the islands go down (R321 steps 3 and 4) -/

theorem exportTo_footing (home : Nat) (s : Part) : (exportTo home s).footing = s.footing := by
  unfold exportTo
  split
  · rfl
  · extract_lets foreign count e s1 s2 s3
    have hblocks : s2.footing = s1.footing := foldl_footing (fun st r => enqueueCmd_footing ..) _ _
    exact (log_footing ..).trans hblocks

theorem exportLog_footing (s : Part) : (exportLog s).footing = s.footing := by
  unfold exportLog
  extract_lets homes
  split
  · rfl
  · exact foldl_footing (fun st home => exportTo_footing home st) homes s

theorem changePaths_footing (g : PairSt → PairSt) (s : Part) : (changePaths g s).footing = s.footing := by
  unfold changePaths
  extract_lets old new state alarm renewed s1
  split
  · rfl
  · exact log_footing ..

theorem modPoolPair_footing (p : Nat) (g : PoolPairSt → PoolPairSt) (s : Part) : (modPoolPair p g s).footing = s.footing := rfl
theorem stopMember_footing (m : MemberSt) (s : Part) : (stopMember m s).footing = s.footing := rfl
theorem endSession_footing (id : Nat) (s : Part) : (endSession id s).footing = s.footing := rfl

theorem leavePair_footing (s : Part) : (leavePair s).footing = s.footing := by
  unfold leavePair
  split
  · exact (changePaths_footing _ _).trans (foldl_footing (fun st (p : PoolSt) => modPoolPair_footing p.id _ st) _ _)
  · rfl

/-- The part once the Logbook is exported and the twin told. -/
def sleepLeaves (s : Part) : Part := endStoreLoad (leavePair (exportLog s))

/-- The part once the members are stopped and the sessions ended too. -/
def sleepStops (s : Part) : Part :=
  flushLog (endSessionsWhere (fun _ => true) ((s.members.filter (·.linkUp)).foldl (fun st m => stopMember m st) s))

theorem sleepLeaves_withinSleep (s : Part) : WithinSleep s (sleepLeaves s) :=
  ((exportLog_withinSleep s).trans (leavePair_withinSleep _)).trans (endStoreLoad_withinSleep _)

theorem endStoreLoad_sleepRefused (s : Part) : (endStoreLoad s).tow.sleepRefused = s.tow.sleepRefused := rfl

theorem sleepLeaves_sleepRefused (s : Part) : (sleepLeaves s).tow.sleepRefused = s.tow.sleepRefused := by
  obtain ⟨-, -, -, -, htow⟩ := Part.footing_eq_iff.mp ((leavePair_footing (exportLog s)).trans (exportLog_footing s))
  rw [sleepLeaves, endStoreLoad_sleepRefused]
  exact TowSt.of_bare htow TowSt.sleepRefused (fun _ => rfl)

theorem sleepStops_withinSleep (s : Part) : WithinSleep s (sleepStops s) :=
  ((WithinSleep.foldl (fun st m => stopMember_withinSleep m st) (s.members.filter (·.linkUp)) s).trans
    (endSessionsWhere_withinSleep _ _)).trans (flushLog_withinSleep _)

theorem sleepStops_footing (s : Part) : (sleepStops s).footing = s.footing := by
  have hmembers : ((s.members.filter (·.linkUp)).foldl (fun st m => stopMember m st) s).footing = s.footing :=
    foldl_footing (fun st m => stopMember_footing m st) _ s
  have hsessions : ∀ t : Part, (endSessionsWhere (fun _ => true) t).footing = t.footing := fun t =>
    foldl_footing (fun st (x : SessSt) => endSession_footing x.id st) _ t
  have hlog : ∀ t : Part, (flushLog t).footing = t.footing := fun _ => rfl
  rw [sleepStops, hlog, hsessions, hmembers]

theorem sleepStops_sleepRefused (s : Part) : (sleepStops s).tow.sleepRefused = s.tow.sleepRefused := by
  obtain ⟨-, -, -, -, htow⟩ := Part.footing_eq_iff.mp (sleepStops_footing s)
  exact TowSt.of_bare htow TowSt.sleepRefused (fun _ => rfl)

theorem foldl_endSession_sessions (l : List SessSt) : ∀ s : Part,
    (l.foldl (fun st x => endSession x.id st) s).dict.sessions = s.dict.sessions.filter (fun y => l.all (fun x => y.id != x.id)) := by
  induction l with
  | nil => simp
  | cons x l ih =>
    intro s
    have hx : (endSession x.id s).dict.sessions = s.dict.sessions.filter (fun y => y.id != x.id) := rfl
    rw [List.foldl_cons, ih, hx, List.filter_filter]
    exact List.filter_congr (fun y _ => by rw [List.all_cons, Bool.and_comm])

/-- An end of every session leaves none. -/
theorem endSessionsWhere_all (s : Part) : (endSessionsWhere (fun _ => true) s).dict.sessions = [] := by
  rw [endSessionsWhere, List.filter_true, foldl_endSession_sessions, List.filter_eq_nil_iff]
  intro y hy
  simp only [List.all_eq_true, not_forall]
  exact ⟨y, hy, by simp⟩

theorem sleepStops_sessions (s : Part) : (sleepStops s).dict.sessions = [] := endSessionsWhere_all _

/-! ### The islands go down (R321 step 5) -/

theorem powerDowns_keeps {β : Type} {π : Part → β} (h : ∀ (s : Part) islands toll, π { s with islands := islands, toll := toll } = π s)
    (l : List Island) (s : Part) : π (l.foldl (fun st i => powerDown i st) s) = π s :=
  foldl_keeps (fun st i => powerDown i st) π (fun st i => by rw [powerDown_only i st, h]) l s

theorem powerDowns_powered (l : List Island) (j : Island) : ∀ s : Part,
    ((l.foldl (fun st i => powerDown i st) s).island j).powered = (!decide (j ∈ l) && (s.island j).powered) := by
  induction l with
  | nil => simp
  | cons i l ih =>
    intro s
    rw [List.foldl_cons, ih]
    by_cases h : j = i
    · subst h
      simp [powerDown_island]
    · simp [powerDown_island_ne s h, h]

/-- The islands down but S, G last. -/
def islandsSleep (s : Part) : Part :=
  powerDown .g ((Island.all.filter (fun i => decide (i ≠ .s ∧ i ≠ .g))).foldl (fun st i => powerDown i st) s)

theorem islandsSleep_withinSleep (s : Part) : WithinSleep s (islandsSleep s) :=
  (WithinSleep.foldl (fun st i => powerDown_withinSleep i st) _ s).trans (powerDown_withinSleep .g _)

theorem islandsSleep_keeps {β : Type} {π : Part → β} (h : ∀ (s : Part) islands toll, π { s with islands := islands, toll := toll } = π s)
    (s : Part) : π (islandsSleep s) = π s := by
  rw [islandsSleep, powerDown_only, h, powerDowns_keeps h]

theorem islandsSleep_powered {i : Island} (s : Part) (h : i ≠ .s) : ((islandsSleep s).island i).powered = false := by
  by_cases hg : i = .g
  · subst hg
    simp [islandsSleep, powerDown_island]
  · have hall : i ∈ Island.all := by
      cases i <;> simp [Island.all]
    rw [islandsSleep, powerDown_island_ne _ hg, powerDowns_powered]
    simp [hall, h, hg]

/-! ### Archive sleep entered -/

theorem goToSleep_eq (s : Part) : goToSleep s =
    ((islandsSleep (sleepStops (sleepLeaves s))).modTow (fun t => { t with power := 5, coreEn := false, sleeping := false })).modSched
      (fun x => { x with ready := false }) := rfl

theorem goToSleep_withinSleep (s : Part) : WithinSleep s (goToSleep s) := by
  rw [goToSleep_eq]
  exact ((((sleepLeaves_withinSleep s).trans (sleepStops_withinSleep _)).trans (islandsSleep_withinSleep _)).trans (.modTow _ _)).trans (.modSched _ _)

/-- What archive sleep leaves: every island down but S, no session. -/
structure Asleep (t : Part) : Prop where
  power : t.tow.power = 5
  sleeping : t.tow.sleeping = false
  coreEn : t.tow.coreEn = false
  ready : t.sched.ready = false
  islands : ∀ i, i ≠ .s → (t.island i).powered = false
  sessions : t.dict.sessions = []

theorem goToSleep_asleep (s : Part) : Asleep (goToSleep s) := by
  have hislands := fun i => islandsSleep_powered (i := i) (sleepStops (sleepLeaves s))
  have hdict := islandsSleep_keeps (π := Part.dict) (fun _ _ _ => rfl) (sleepStops (sleepLeaves s))
  have hsessions := sleepStops_sessions (sleepLeaves s)
  rw [← hdict] at hsessions
  rw [goToSleep_eq]
  generalize islandsSleep (sleepStops (sleepLeaves s)) = t at *
  exact {
    power := rfl
    sleeping := rfl
    coreEn := rfl
    ready := rfl
    islands := hislands
    sessions := hsessions }

theorem goToSleep_sleepRefused (s : Part) : (goToSleep s).tow.sleepRefused = s.tow.sleepRefused := by
  have htow := islandsSleep_keeps (π := Part.tow) (fun _ _ _ => rfl) (sleepStops (sleepLeaves s))
  rw [goToSleep_eq]
  exact (congrArg TowSt.sleepRefused htow).trans ((sleepStops_sleepRefused _).trans (sleepLeaves_sleepRefused s))

theorem sleepIfReady_withinSleep (s : Part) : WithinSleep s (sleepIfReady s) := by
  unfold sleepIfReady
  split
  · exact goToSleep_withinSleep s
  · exact .refl s

theorem sleepIfReady_sleepRefused (s : Part) : (sleepIfReady s).tow.sleepRefused = s.tow.sleepRefused := by
  unfold sleepIfReady
  split
  · exact goToSleep_sleepRefused s
  · rfl

/-! ### A sleep begins -/

/-- The sleep is noted and the pools whose twin stays awake are offered to it. -/
def sleepAsked (s : Part) : Part :=
  let s := s.modTow (fun t => { t with sleepRefused := 0, sleeping := true })
  ((toHandOver s).filter (fun p => p.pair.ownerNext == 2)).foldl (fun st p => propose (.handover (Fin.ofNat 64 p.id) true) st) s

theorem beginSleep_eq (s : Part) : beginSleep s = sleepIfReady (sleepAsked s) := rfl

theorem propose_handover_withinSleep (pool : Fin 64) (recovery : Bool) (s : Part) :
    WithinSleep s (propose (.handover pool recovery) s) := by
  unfold propose
  split <;> rfl

theorem sleepAsked_withinSleep (s : Part) : WithinSleep s (sleepAsked s) :=
  (WithinSleep.modTow s _).trans (WithinSleep.foldl (fun st _ => propose_handover_withinSleep _ _ st) _ _)

theorem sleepAsked_keeps (s : Part) : (sleepAsked s).tow = { s.tow with sleepRefused := 0, sleeping := true } ∧
    (sleepAsked s).islands = s.islands ∧ (sleepAsked s).man = s.man ∧ (sleepAsked s).members = s.members := by
  simp [sleepAsked]

/-- With no pool to hand over nothing is proposed. -/
theorem sleepAsked_of_none {s : Part} (h : toHandOver s = []) :
    sleepAsked s = s.modTow (fun t => { t with sleepRefused := 0, sleeping := true }) := by
  have htow : toHandOver (s.modTow (fun t => { t with sleepRefused := 0, sleeping := true })) = toHandOver s := rfl
  rw [sleepAsked, htow, h]
  rfl

theorem beginSleep_withinSleep (s : Part) : WithinSleep s (beginSleep s) :=
  (sleepAsked_withinSleep s).trans (sleepIfReady_withinSleep _)

theorem beginSleep_sleepRefused (s : Part) : (beginSleep s).tow.sleepRefused = 0 := by
  rw [beginSleep_eq, sleepIfReady_sleepRefused, (sleepAsked_keeps s).1]

/-- Nothing held, issued or to hand over: the part sleeps at once. -/
theorem beginSleep_asleep {s : Part} (hheld : s.man.held = []) (hentries : s.man.entries = [])
    (hidle : ∀ m ∈ s.members, m.waiting = [] ∧ m.outstanding = []) (hover : toHandOver s = []) : Asleep (beginSleep s) := by
  have hready : sleepReady (sleepAsked s) = true := by
    have htow : toHandOver (sleepAsked s) = toHandOver s := by rw [sleepAsked_of_none hover]; rfl
    obtain ⟨hnoted, -, hman, hmembers⟩ := sleepAsked_keeps s
    simpa [sleepReady, htow, hnoted, hman, hmembers, hheld, hentries, hover] using hidle
  rw [beginSleep_eq, sleepIfReady, if_pos hready]
  exact goToSleep_asleep _

/-- While a block is held or an entry in use the part waits. -/
theorem beginSleep_waits {s : Part} (h : s.man.held ≠ [] ∨ s.man.entries ≠ []) : beginSleep s = sleepAsked s := by
  have hready : sleepReady (sleepAsked s) = false := by
    obtain ⟨-, -, hman, -⟩ := sleepAsked_keeps s
    rcases h with h | h <;> simp [sleepReady, hman, h]
  rw [beginSleep_eq, sleepIfReady, if_neg (by simp [hready])]

/-- What comes of a sleep carried out from `s`: entered once nothing keeps the part awake, awaited while a block is held or an entry
in use. -/
structure SleepBegun (s t : Part) : Prop where
  sleepRefused : t.tow.sleepRefused = 0
  asleep : s.man.held = [] → s.man.entries = [] → (∀ m ∈ s.members, m.waiting = [] ∧ m.outstanding = []) → toHandOver s = [] →
    Asleep t
  waits : s.man.held ≠ [] ∨ s.man.entries ≠ [] →
    t.tow.sleeping = true ∧ t.tow.power = s.tow.power ∧ t.islands = s.islands ∧ t.members = s.members

theorem beginSleep_begun (s : Part) : SleepBegun s (beginSleep s) where
  sleepRefused := beginSleep_sleepRefused s
  asleep := beginSleep_asleep
  waits := fun h => by
    obtain ⟨htow, hislands, -, hmembers⟩ := sleepAsked_keeps s
    rw [beginSleep_waits h, htow]
    exact ⟨rfl, rfl, hislands, hmembers⟩

end Sys2Proof.Machine
end

section
/-! SUPPORT. IDLE, archive sleep and the wake sources (13: R15, R213, R320 to R323, Tables 13.3, 13.4): sources,
host ports, requests; then the statement of `ThePartSleepsAndWakes`. -/

namespace Sys2Proof.Machine

/-! ### A source of Table 13.4 fires (R322) -/

theorem State.onWake_of_asleep {f : Part → Part} {s : State} (h : (f s.part).tow.power = 5) : s.onWake f = s.onPart f :=
  if_neg (fun ⟨_, hawake⟩ => hawake h)

theorem State.onWake_of_awake {f : Part → Part} {s : State} (h : s.part.tow.power ≠ 5) : s.onWake f = s.onPart f :=
  if_neg (fun ⟨hasleep, _⟩ => h hasleep)

theorem State.onWake_of_woken {f : Part → Part} {s : State} (h : s.part.tow.power = 5) (hf : (f s.part).tow.power ≠ 5) :
    s.onWake f = { s with part := f s.part, peerMem := [] } :=
  if_pos ⟨h, hf⟩

theorem State.onWake_of_eq {f : Part → Part} {s : State} (h : f s.part = s.part) : s.onWake f = s := by
  rw [State.onWake, h, if_neg (fun ⟨hasleep, hawake⟩ => hawake hasleep), State.onPart, h]

theorem wakeFires_stays {src : Nat} {e : WakeEnv} {s : Part}
    (h : s.tow.power ≠ 5 ∨ (s.objNum 0x2700 4).testBit src = false) : wakeFires src e s = s :=
  if_pos (h.imp_right (fun hbit => by simp [hbit]))

/-- WAKE_N may be asserted first (Table 13.4); neither the limits nor the settings depend on it. -/
theorem wakeFires_of_enabled {src : Nat} (e : WakeEnv) {s : Part} (hpower : s.tow.power = 5)
    (hbit : (s.objNum 0x2700 4).testBit src = true) : ∃ n, ∀ t, t = s.modTow (fun w => { w with wakeN := n }) →
      wakeFires src e s = if wakeLimits s e then wakeBy src e t
        else logWake src true (t.modTow (fun w => { w with
          wakePending := if w.wakePending.contains src then w.wakePending else w.wakePending ++ [src] })) := by
  unfold wakeFires
  rw [if_neg (by simp [hpower, hbit])]
  by_cases hn : 3 ≤ src ∧ s.objNum 0x2700 6 = 1
  · refine ⟨true, ?_⟩
    rintro t rfl
    rw [if_pos hn]
    rfl
  · refine ⟨s.tow.wakeN, ?_⟩
    rintro t rfl
    rw [if_neg hn]
    rfl

theorem logWake_power (src : Nat) (refused : Bool) (s : Part) : (logWake src refused s).tow.power = s.tow.power := by
  simp [logWake]

theorem logWake_wakePending (src : Nat) (refused : Bool) (s : Part) : (logWake src refused s).tow.wakePending = s.tow.wakePending := by
  simp [logWake]

theorem logWake_only (src : Nat) (refused : Bool) (s : Part) : logWake src refused s =
    { s with tow := (logWake src refused s).tow, dict := (logWake src refused s).dict, log := (logWake src refused s).log
             out := (logWake src refused s).out } := by
  apply Part.ext_fields <;> simp [logWake]

/-- The source is kept pending in a part that stays asleep. -/
structure Pends (src : Nat) (s t : Part) : Prop where
  source : src ∈ t.tow.wakePending
  others : ∀ n ∈ s.tow.wakePending, n ∈ t.tow.wakePending
  power : t.tow.power = 5
  only : t = { s with tow := t.tow, dict := t.dict, log := t.log, out := t.out }

theorem wakeFires_pends {src : Nat} {e : WakeEnv} {s : Part} (hpower : s.tow.power = 5)
    (hbit : (s.objNum 0x2700 4).testBit src = true) (hlimits : wakeLimits s e = false) : Pends src s (wakeFires src e s) := by
  obtain ⟨n, heq⟩ := wakeFires_of_enabled e hpower hbit
  have hkept : ∀ l : List Nat, src ∈ (if l.contains src then l else l ++ [src]) ∧
      ∀ x ∈ l, x ∈ (if l.contains src then l else l ++ [src]) := fun l => by
    by_cases h : src ∈ l <;> simp +contextual [h]
  rw [heq _ rfl, if_neg (by simp [hlimits])]
  exact {
    source := by
      rw [logWake_wakePending]
      exact (hkept s.tow.wakePending).1
    others := by
      rw [logWake_wakePending]
      exact (hkept s.tow.wakePending).2
    power := (logWake_power _ _ _).trans hpower
    only := logWake_only _ _ _ }

/-- The source `src` has woken the part at the readings `e` (R322, Table 1.4). -/
structure WokenBy (src : Nat) (e : WakeEnv) (s t : Part) : Prop where
  timeUs : t.timeUs = s.timeUs
  fleet : t.fleet = s.fleet
  fw : t.fw = s.fw
  power : t.tow.power = 0 ∨ t.tow.power = 4
  coreEn : t.tow.coreEn = true
  wakeCause : t.tow.wakeCause = src
  wakePending : t.tow.wakePending = []
  dieC : t.tow.dieC = e.dieC
  ready : t.sched.ready = true
  islands : ∀ i, i ≠ .h → i ≠ .x → t.ready i = true
  host : t.ready .h = decide (src ≠ 2)
  scheduled : src = 2 → t.ready .x = false ∧ t.tow.schedNext = some (s.timeUs + hour (s.objNum 0x2104 2))

theorem wakeBy_woken (src : Nat) (e : WakeEnv) (s : Part) : WokenBy src e s (wakeBy src e s) := by
  unfold wakeBy
  extract_lets roused
  have hwoken := bootWake_woken (src != 2) e roused
  have htime : roused.timeUs = s.timeUs := by simp [roused, logWake]
  have hfleet : roused.fleet = s.fleet := by simp [roused, logWake]
  have hfw : roused.fw = s.fw := by simp [roused, logWake]
  have hcause : roused.tow.wakeCause = src := rfl
  have hpending : roused.tow.wakePending = [] := rfl
  have hnext : src = 2 → roused.tow.schedNext = some (s.timeUs + hour (s.objNum 0x2104 2)) := fun h => if_pos h
  generalize bootWake (src != 2) e roused = t at *
  exact {
    timeUs := hwoken.timeUs.trans htime
    fleet := hwoken.fleet.trans hfleet
    fw := hwoken.fw.trans hfw
    power := hwoken.power
    coreEn := hwoken.coreEn
    wakeCause := hwoken.wakeCause.trans hcause
    wakePending := hwoken.wakePending.trans hpending
    dieC := hwoken.dieC
    ready := hwoken.ready
    islands := hwoken.islands
    host := by
      rw [hwoken.host]
      by_cases h : src = 2 <;> simp [h]
    scheduled := fun h => ⟨hwoken.twin (by simp [h]), hwoken.schedNext.trans (hnext h)⟩ }

theorem wakeFires_wakes {src : Nat} {e : WakeEnv} {s : Part} (hpower : s.tow.power = 5)
    (hbit : (s.objNum 0x2700 4).testBit src = true) (hlimits : wakeLimits s e = true) : WokenBy src e s (wakeFires src e s) := by
  obtain ⟨n, heq⟩ := wakeFires_of_enabled e hpower hbit
  rw [heq _ rfl, if_pos hlimits]
  have hwoken := wakeBy_woken src e (s.modTow (fun w => { w with wakeN := n }))
  exact { hwoken with }

theorem WokenBy.awake {src : Nat} {e : WakeEnv} {s t : Part} (h : WokenBy src e s t) : t.tow.power ≠ 5 := by
  rcases h.power with hp | hp <;> simp [hp]

/-- A boot keeps the timebase, the settings of the fleet and the firmware. -/
theorem WokenBy.only {src : Nat} {e : WakeEnv} {s t : Part} (h : WokenBy src e s t) :
    t = { s with islands := t.islands, bridges := t.bridges, sched := t.sched, man := t.man, chains := t.chains, fn0 := t.fn0, fn1 := t.fn1, chainSplit := t.chainSplit, tableGen := t.tableGen, peerBar := t.peerBar, subsysId := t.subsysId, pools := t.pools, vols := t.vols, members := t.members, fabric := t.fabric, toll := t.toll, pair := t.pair, tow := t.tow, dump := t.dump, cal := t.cal, dict := t.dict, log := t.log, out := t.out } := by
  apply Part.ext_fields <;> try rfl
  · exact h.timeUs
  · exact h.fleet
  · exact h.fw

/-! ### A host port comes up (R322 source 0) -/

/-- The port of a working part trains; island H, and X in a pair, come up where a scheduled wake left them asleep. -/
def hostUp (f : Fn) (s : Part) : Part :=
  if s.working then
    let s := s.modFn f (fun x => { x with perst := false })
    if s.ready .h then s
    else
      let s := islandUp .h s
      if s.pair.state = 0 then s else islandUp .x s
  else s

theorem wakeHostEff_eq (f : Fn) (e : WakeEnv) (s : Part) : wakeHostEff f e s = hostUp f (wakeFires 0 e s) := rfl

theorem hostUp_of_not_working {s : Part} (f : Fn) (h : s.working = false) : hostUp f s = s := if_neg (by simp [h])

theorem Part.modFn_ready (s : Part) (f : Fn) (g : FnSt → FnSt) (i : Island) : (s.modFn f g).ready i = s.ready i := by
  rw [Part.modFn_only]
  rfl

theorem hostUp_of_ready {s : Part} (f : Fn) (hwork : s.working = true) (hready : s.ready .h = true) :
    hostUp f s = s.modFn f (fun x => { x with perst := false }) := by
  rw [hostUp, if_pos hwork]
  exact if_pos ((Part.modFn_ready ..).trans hready)

theorem islandUp_fn (i : Island) (s : Part) (f : Fn) : (islandUp i s).fn f = s.fn f := by
  rw [islandUp_only]
  rfl

/-- What a host port's rise brings up in a working part, and what it touches. -/
theorem hostUp_up {s : Part} (f : Fn) (hwork : s.working = true) :
    ((hostUp f s).fn f).perst = false ∧ (hostUp f s).ready .h = true ∧
    (s.ready .h = false → s.pair.state ≠ 0 → (hostUp f s).ready .x = true) ∧
    hostUp f s = { s with fn0 := (hostUp f s).fn0, fn1 := (hostUp f s).fn1, islands := (hostUp f s).islands
                          out := (hostUp f s).out } := by
  have hready := Part.modFn_ready s f (fun x => { x with perst := false })
  have honly := Part.modFn_only s f (fun x => { x with perst := false })
  have hperst : ((s.modFn f (fun x => { x with perst := false })).fn f).perst = false := by simp
  rw [hostUp, if_pos hwork]
  generalize s.modFn f (fun x => { x with perst := false }) = t at *
  have hpair : (islandUp .h t).pair = s.pair := by rw [islandUp_only, honly]
  simp only []
  by_cases hh : s.ready .h = true
  · rw [if_pos ((hready .h).trans hh)]
    exact ⟨hperst, (hready .h).trans hh, fun h => absurd hh (by simp [h]), by rw [honly]⟩
  · have hup : islandUp .h t = { s with fn0 := (islandUp .h t).fn0, fn1 := (islandUp .h t).fn1, islands := (islandUp .h t).islands
                                        out := (islandUp .h t).out } := by
      rw [islandUp_only, honly]
    rw [if_neg (by rw [hready]; exact hh), hpair]
    by_cases hx : s.pair.state = 0
    · rw [if_pos hx]
      exact ⟨by rw [islandUp_fn]; exact hperst, by simp [islandUp_ready], fun _ h => absurd hx h, hup⟩
    · rw [if_neg hx]
      exact ⟨by rw [islandUp_fn, islandUp_fn]; exact hperst, by simp [islandUp_ready], fun _ _ => by simp [islandUp_ready],
        by rw [islandUp_only, hup]⟩

theorem WokenBy.working {src : Nat} {e : WakeEnv} {s t : Part} (h : WokenBy src e s t) : t.working = true := by
  rcases h.power with hp | hp <;> simp [Part.working, hp]

theorem WokenBy.modFn {src : Nat} {e : WakeEnv} {s t : Part} (h : WokenBy src e s t) (f : Fn) (g : FnSt → FnSt) :
    WokenBy src e s (t.modFn f g) := by
  rw [Part.modFn_only]
  exact { h with }

/-! ### The six sources -/

/-- What the model does with source `src` where it is heard. -/
def sourceEff (f : Fn) (src : Nat) (e : WakeEnv) (s : Part) : Part := if src = 0 then wakeHostEff f e s else wakeFires src e s

theorem exec_wakeSource {f : Fn} {node : Nat} {ch : Fin 8} {e : WakeEnv} {s : State} {i : Instr} {src : Nat}
    (hi : (i, src) ∈ [(Instr.wakeHost f e, 0), (.wakeCan node e, 1), (.wakeScheduled e, 2), (.wakePresence e, 3),
      (.wakeThreshold ch e, 4), (.wakeStore e, 5)])
    (hcan : src = 1 → node = s.part.dict.canNode ∧ s.part.objNum 0x1100 4 ≠ 0) :
    ∃ g, exec i s = .next (s.onWake g) ∧ g s.part = sourceEff f src e s.part := by
  simp only [List.mem_cons, Prod.mk.injEq, List.not_mem_nil, or_false] at hi
  rcases hi with ⟨rfl, rfl⟩ | ⟨rfl, rfl⟩ | ⟨rfl, rfl⟩ | ⟨rfl, rfl⟩ | ⟨rfl, rfl⟩ | ⟨rfl, rfl⟩
  · exact ⟨wakeHostEff f e, rfl, rfl⟩
  · exact ⟨_, rfl, if_pos (hcan rfl)⟩
  all_goals exact ⟨wakeFires _ e, rfl, rfl⟩

theorem sourceEff_pends {f : Fn} {src : Nat} {e : WakeEnv} {s : Part} (hpower : s.tow.power = 5)
    (hbit : (s.objNum 0x2700 4).testBit src = true) (hlimits : wakeLimits s e = false) : Pends src s (sourceEff f src e s) := by
  have hpends := wakeFires_pends hpower hbit hlimits
  unfold sourceEff
  split
  · next h =>
    subst h
    rwa [wakeHostEff_eq, hostUp_of_not_working f (by simp [Part.working, hpends.power])]
  · exact hpends

theorem sourceEff_wakes {f : Fn} {src : Nat} {e : WakeEnv} {s : Part} (hpower : s.tow.power = 5)
    (hbit : (s.objNum 0x2700 4).testBit src = true) (hlimits : wakeLimits s e = true) :
    WokenBy src e s (sourceEff f src e s) ∧ (src = 0 → ((sourceEff f src e s).fn f).perst = false) := by
  have hwoken := wakeFires_wakes hpower hbit hlimits
  unfold sourceEff
  split
  · next h =>
    subst h
    rw [wakeHostEff_eq, hostUp_of_ready f hwoken.working (by simp [hwoken.host])]
    exact ⟨hwoken.modFn f _, fun _ => by simp⟩
  · next h => exact ⟨hwoken, fun h' => absurd h' h⟩

/-! ### Sleep requests (R321, R323) -/

theorem ok_only (q : Req) (s : Part) :
    ok q s = { s with dict := (ok q s).dict, out := (ok q s).out, fn0 := (ok q s).fn0, fn1 := (ok q s).fn1 } := by
  apply Part.ext_fields <;> simp

theorem refuseState_only (q : Req) (rule item : Nat) (s : Part) : refuseState q rule item s =
    { s with dict := (refuseState q rule item s).dict, out := (refuseState q rule item s).out
             fn0 := (refuseState q rule item s).fn0, fn1 := (refuseState q rule item s).fn1 } := by
  apply Part.ext_fields <;> simp

theorem refuseState_answers (q : Req) (rule item : Nat) (s : Part) :
    Answers (refuseState q rule item s) stState (ruleDetail rule item) :=
  ⟨_, (respondValue_frame q stState (ruleDetail rule item) [] _ s).1, rfl, rfl⟩

theorem askSleep_refused {forced : Bool} {q : Req} {s : Part} (h : Allowed s q roleOperator none) (hr : sleepRefusal forced s ≠ 0) :
    askSleep forced q s = refuseState q 321 (sleepRefusal forced s)
      (s.modTow (fun t => { t with sleepRefused := sleepRefusal forced s })) := by
  obtain ⟨x, hopen, hrole, hlock⟩ := h
  rw [askSleep, checked_of q roleOperator none _ s x hopen hrole hlock]
  split
  · next h0 => exact absurd h0 hr
  · rfl

theorem askSleep_begins {forced : Bool} {q : Req} {s : Part} (h : Allowed s q roleOperator none) (hr : sleepRefusal forced s = 0) :
    askSleep forced q s = beginSleep (ok q s) := by
  obtain ⟨x, hopen, hrole, hlock⟩ := h
  rw [askSleep, checked_of q roleOperator none _ s x hopen hrole hlock]
  split
  · rfl
  · next hne => exact absurd hr hne

/-- A sleep that begins right after the request is answered begins from the state asked in. -/
theorem SleepBegun.of_ok {q : Req} {s t : Part} (h : SleepBegun (ok q s) t) : SleepBegun s t := by
  have hover : toHandOver (ok q s) = toHandOver s := by
    rw [ok_only]
    rfl
  obtain ⟨hrefused, hasleep, hwaits⟩ := h
  rw [ok_only] at hasleep hwaits
  rw [ok_only] at hover
  exact ⟨hrefused, fun hheld hentries hidle hnone => hasleep hheld hentries hidle (hover.trans hnone), hwaits⟩

/-- The work of a scheduled wake has ended. -/
def sleepAgain (s : Part) : Part :=
  if s.tow.wakeCause ≠ 2 ∨ 1 < s.tow.power ∨ s.tow.sleeping then s
  else
    match sleepRefusal false s with
    | 0 => beginSleep s
    | n => s.modTow (fun t => { t with sleepRefused := n })

theorem exec_returnToArchiveSleep (s : State) : exec .returnToArchiveSleep s = .next (s.onPart sleepAgain) := rfl

theorem sleepAgain_stays {s : Part} (h : s.tow.wakeCause ≠ 2 ∨ 1 < s.tow.power ∨ s.tow.sleeping = true) : sleepAgain s = s := if_pos h

theorem sleepAgain_refused {s : Part} (hdue : ¬ (s.tow.wakeCause ≠ 2 ∨ 1 < s.tow.power ∨ s.tow.sleeping = true))
    (hr : sleepRefusal false s ≠ 0) : sleepAgain s = s.modTow (fun t => { t with sleepRefused := sleepRefusal false s }) := by
  rw [sleepAgain, if_neg hdue]
  split
  · next h0 => exact absurd h0 hr
  · rfl

theorem sleepAgain_begins {s : Part} (hdue : ¬ (s.tow.wakeCause ≠ 2 ∨ 1 < s.tow.power ∨ s.tow.sleeping = true))
    (hr : sleepRefusal false s = 0) : sleepAgain s = beginSleep s := by
  rw [sleepAgain, if_neg hdue]
  split
  · rfl
  · next hne => exact absurd hr hne

theorem SleepBegun.spelled {s t : Part} (h : SleepBegun s t) : t.tow.sleepRefused = 0 ∧
    (s.man.held = [] → s.man.entries = [] → (∀ m ∈ s.members, m.waiting = [] ∧ m.outstanding = []) → toHandOver s = [] →
      t.tow.power = 5 ∧ t.tow.sleeping = false ∧ t.tow.coreEn = false ∧ t.sched.ready = false ∧
      (∀ i, i ≠ .s → (t.island i).powered = false) ∧ t.dict.sessions = []) ∧
    (s.man.held ≠ [] ∨ s.man.entries ≠ [] → t.tow.sleeping = true ∧ t.tow.power = s.tow.power ∧
      t.islands = s.islands ∧ t.members = s.members) :=
  ⟨h.sleepRefused, fun hheld hentries hidle hover =>
    have ha := h.asleep hheld hentries hidle hover
    ⟨ha.power, ha.sleeping, ha.coreEn, ha.ready, ha.islands, ha.sessions⟩, h.waits⟩

/-- What a request's sleep touches, with the answer that goes before it. -/
theorem beginSleep_ok_only (q : Req) (s : Part) {t : Part} (h : WithinSleep (ok q s) t) :
    t = { s with islands := t.islands, sched := t.sched, fn0 := t.fn0, fn1 := t.fn1, pools := t.pools, members := t.members
                 toll := t.toll, pair := t.pair, tow := t.tow, dict := t.dict, log := t.log, out := t.out } := by
  rw [WithinSleep] at h
  have hfn0 : t.fn0 = (ok q s).fn0 := (congrArg Part.fn0 h).trans rfl
  have hfn1 : t.fn1 = (ok q s).fn1 := (congrArg Part.fn1 h).trans rfl
  calc t = _ := h
    _ = _ := by rw [hfn0, hfn1, ok_only]

theorem exec_sleepRequest {q : Req} {i : Instr} {forced : Bool}
    (hi : (i = .sleepRequest q ∧ forced = false) ∨ (i = .sleepRequestForced q ∧ forced = true)) (s : State) :
    exec i s = .next (s.onPart (askSleep forced q)) := by
  rcases hi with ⟨rfl, rfl⟩ | ⟨rfl, rfl⟩ <;> rfl

theorem exec_wakeTimed {ch : Fin 8} {e : WakeEnv} {i : Instr} {src : Nat}
    (hi : (i, src) ∈ [(Instr.wakeScheduled e, 2), (.wakePresence e, 3), (.wakeThreshold ch e, 4), (.wakeStore e, 5)]) (s : State) :
    exec i s = .next (s.onWake (wakeFires src e)) := by
  simp only [List.mem_cons, Prod.mk.injEq, List.not_mem_nil, or_false] at hi
  rcases hi with ⟨rfl, rfl⟩ | ⟨rfl, rfl⟩ | ⟨rfl, rfl⟩ | ⟨rfl, rfl⟩ <;> rfl

theorem wakeCan_stays {node : Nat} {e : WakeEnv} {s : State} (h : s.part.tow.power ≠ 5 ∨ (s.part.objNum 0x2700 4).testBit 1 = false ∨
    node ≠ s.part.dict.canNode ∨ s.part.objNum 0x1100 4 = 0) : Stays (.wakeCan node e) s := by
  refine congrArg Host.Outcome.next (State.onWake_of_eq ?_)
  split
  · next hheard =>
    obtain ⟨hnode, hcan⟩ := hheard
    rcases h with h | h | h | h
    · exact wakeFires_stays (.inl h)
    · exact wakeFires_stays (.inr h)
    · exact absurd hnode h
    · exact absurd h hcan
  · rfl

theorem wakeHost_stays {f : Fn} {e : WakeEnv} {s : State} (hwork : s.part.working = false)
    (h : s.part.tow.power ≠ 5 ∨ (s.part.objNum 0x2700 4).testBit 0 = false) : Stays (.wakeHost f e) s := by
  refine congrArg Host.Outcome.next (State.onWake_of_eq ?_)
  rw [wakeHostEff_eq, wakeFires_stays h, hostUp_of_not_working f hwork]

theorem working_awake {s : Part} (h : s.working = true) : s.tow.power ≠ 5 := fun h5 => by
  simp [Part.working, h5] at h

theorem exec_wakeHost_working {s : State} (f : Fn) (e : WakeEnv) (hwork : s.part.working = true) :
    exec (.wakeHost f e) s = .next { s with part := hostUp f s.part } := by
  have hawake := working_awake hwork
  have heq : wakeHostEff f e s.part = hostUp f s.part := by rw [wakeHostEff_eq, wakeFires_stays (.inl hawake)]
  refine congrArg Host.Outcome.next ((State.onWake_of_awake hawake).trans ?_)
  rw [State.onPart, heq]

theorem idleEntry_stays {s : State} (h : s.part.tow.power ≠ 0 ∨ nothingToDo s.part = false) : Stays .idleEntry s := by
  have hnot : ¬ (s.part.tow.power = 0 ∧ nothingToDo s.part = true) := by
    rintro ⟨hpower, hdo⟩
    rcases h with h | h
    · exact h hpower
    · simp [hdo] at h
  exact congrArg (fun t => Host.Outcome.next { s with part := t }) (if_neg hnot)

/-- Settles O52: a sleep is refused, awaited or entered by `beginSleep`; a source that is heard and enabled wakes the part by a boot or
is kept pending. -/
theorem thePartSleepsAndWakes : Obligations.ThePartSleepsAndWakes := by
  unfold Obligations.ThePartSleepsAndWakes
  rintro q f node ch e s pendsOr awake rfl rfl
  refine ⟨idleEntry_stays, fun hpower hdo => ?_, fun i forced hi hallowed => ⟨fun hr => ?_, fun hr => ?_⟩, fun h => ?_,
    fun hcause hpower hsleeping => ?_, fun i src hi hcan hpower hbit => ⟨fun hlimits => ?_, fun hlimits => ?_⟩,
    fun i src hi h => ?_, wakeCan_stays, wakeHost_stays, fun hwork => ?_⟩
  · exact runs_onPart rfl (if_pos ⟨hpower, hdo⟩)
  · refine runs_onPart (exec_sleepRequest hi s) ?_
    rw [askSleep_refused hallowed hr]
    exact ⟨refuseState_answers .., by simp, (refuseState_only ..).trans (by simp [Part.modTow])⟩
  · refine runs_onPart (exec_sleepRequest hi s) ?_
    rw [askSleep_begins hallowed hr]
    exact ⟨(beginSleep_begun _).of_ok.spelled, beginSleep_ok_only q s.part (beginSleep_withinSleep _)⟩
  · rw [Stays, exec_returnToArchiveSleep, State.onPart, sleepAgain_stays h]
  · have hdue : ¬ (s.part.tow.wakeCause ≠ 2 ∨ 1 < s.part.tow.power ∨ s.part.tow.sleeping = true) := by
      simp [hcause, hpower, hsleeping]
    refine ⟨fun hr => runs_onPart (exec_returnToArchiveSleep s) (sleepAgain_refused hdue hr),
      fun hr => runs_onPart (exec_returnToArchiveSleep s) ?_⟩
    rw [sleepAgain_begins hdue hr]
    exact ⟨(beginSleep_begun _).spelled, beginSleep_withinSleep _⟩
  · obtain ⟨g, hexec, hg⟩ := exec_wakeSource hi hcan
    have hpends : Pends src s.part (g s.part) := hg ▸ sourceEff_pends hpower hbit hlimits
    rw [State.onWake_of_asleep hpends.power] at hexec
    exact runs_onPart hexec ⟨hpends.source, hpends.others, hpends.power, hpends.only⟩
  · obtain ⟨g, hexec, hg⟩ := exec_wakeSource hi hcan
    obtain ⟨hwoken, hperst⟩ := sourceEff_wakes (f := f) hpower hbit hlimits
    rw [← hg] at hwoken hperst
    rw [State.onWake_of_woken hpower hwoken.awake] at hexec
    exact ⟨g s.part, hexec, ⟨hwoken.power, hwoken.coreEn, hwoken.wakeCause, hwoken.wakePending, hwoken.dieC, hwoken.ready,
      hwoken.islands, hwoken.host, hwoken.scheduled⟩, hperst, hwoken.only⟩
  · rw [Stays, exec_wakeTimed hi, State.onWake_of_eq (wakeFires_stays h)]
  · obtain ⟨hperst, hhost, htwin, honly⟩ := hostUp_up f hwork
    exact ⟨_, exec_wakeHost_working f e hwork, hperst, hhost, htwin, honly⟩

end Sys2Proof.Machine
end

section
/-! SUPPORT. Commands that join the members' queues (08: R199), the copies of a charter and the pools they belong to (02: R45): what
each changes and leaves alone. -/

namespace Sys2Proof.Machine

/-! ### Parts that differ in their members alone -/

/-- `t` differs from `s` at most in its members. -/
def MembersOnly (s t : Part) : Prop := t = { s with members := t.members }

theorem MembersOnly.refl (s : Part) : MembersOnly s s := rfl

theorem MembersOnly.trans {s t u : Part} (h : MembersOnly s t) (h' : MembersOnly t u) : MembersOnly s u :=
  calc u = _ := h'
    _ = _ := by rw [h]

theorem MembersOnly.foldl {α : Type} {op : Part → α → Part} (h : ∀ s x, MembersOnly s (op s x)) (l : List α) :
    ∀ s, MembersOnly s (l.foldl op s) := by
  induction l with
  | nil => exact MembersOnly.refl
  | cons x l ih => exact fun s => (h s x).trans (ih _)

theorem MembersOnly.modMember (s : Part) (k : Nat) (g : MemberSt → MemberSt) : MembersOnly s (s.modMember k g) := rfl

theorem MembersOnly.pool? {s t : Part} (h : MembersOnly s t) (p : Nat) : t.pool? p = s.pool? p := by
  rw [h]
  rfl

/-! ### The members' queues (R199) -/

/-- `y` is `m` with commands added at the end of its queue. -/
def MemberSt.QueuedTo (m y : MemberSt) : Prop :=
  m.waiting <+: y.waiting ∧ y = { m with nextTag := y.nextTag, waiting := y.waiting }

theorem MemberSt.QueuedTo.refl (m : MemberSt) : m.QueuedTo m := ⟨List.prefix_rfl, rfl⟩

theorem MemberSt.QueuedTo.trans {m y z : MemberSt} (h : m.QueuedTo y) (h' : y.QueuedTo z) : m.QueuedTo z :=
  ⟨h.1.trans h'.1, calc z = _ := h'.2
    _ = _ := by rw [h.2]⟩

/-- `t` differs from `s` at most in commands that joined the members' queues. -/
structure Queues (s t : Part) : Prop where
  only : MembersOnly s t
  queued : ∀ k, Option.Rel MemberSt.QueuedTo (s.member? k) (t.member? k)

theorem Queues.refl (s : Part) : Queues s s :=
  ⟨MembersOnly.refl s, fun k => by cases s.member? k <;> constructor; exact .refl _⟩

theorem Queues.trans {s t u : Part} (h : Queues s t) (h' : Queues t u) : Queues s u := by
  refine ⟨h.only.trans h'.only, fun k => ?_⟩
  have hst := h.queued k
  have htu := h'.queued k
  revert hst htu
  generalize s.member? k = a
  generalize t.member? k = b
  generalize u.member? k = c
  rintro (hst | _) (htu | _)
  · exact .some (hst.trans htu)
  · exact .none

theorem Queues.foldl {α : Type} {op : Part → α → Part} (h : ∀ s x, Queues s (op s x)) (l : List α) :
    ∀ s, Queues s (l.foldl op s) := by
  induction l with
  | nil => exact Queues.refl
  | cons x l ih => exact fun s => (h s x).trans (ih _)

theorem Queues.of_member {s t : Part} (h : Queues s t) {k : Nat} {m : MemberSt} (hm : s.member? k = some m) :
    ∃ y, t.member? k = some y ∧ m.QueuedTo y := by
  have hk := h.queued k
  rw [hm] at hk
  generalize t.member? k = o at hk ⊢
  obtain @⟨_, y, hy⟩ := hk
  exact ⟨y, rfl, hy⟩

theorem Queues.to_member {s t : Part} (h : Queues s t) {k : Nat} {y : MemberSt} (hy : t.member? k = some y) :
    ∃ m, s.member? k = some m ∧ m.QueuedTo y := by
  have hk := h.queued k
  rw [hy] at hk
  generalize s.member? k = o at hk ⊢
  obtain @⟨m, _, hm⟩ := hk
  exact ⟨m, rfl, hm⟩

/-- The command that joins the queue of `m`. -/
def MemberSt.nextCmd (m : MemberSt) (op : MOp) (cls : Nat) (nonQueued fua : Bool) (mba count : Nat) : MCmd :=
  { id := m.nextTag, op := op, cls := cls, nonQueued := nonQueued, fua := fua, mba := mba, count := count, lane := 144
    retried := false, timedOut := false }

theorem enqueueCmd_member? (k : Nat) (op : MOp) (cls : Nat) (nonQueued fua : Bool) (mba count : Nat) (s : Part) :
    (enqueueCmd k op cls nonQueued fua mba count s).member? k = (s.member? k).map (fun m => { m with
      nextTag := m.nextTag + 1, waiting := m.waiting ++ [m.nextCmd op cls nonQueued fua mba count] }) :=
  Part.modMember_member? s k _ (fun _ => rfl)

theorem enqueueCmd_member?_ne {j k : Nat} (h : j ≠ k) (op : MOp) (cls : Nat) (nonQueued fua : Bool) (mba count : Nat) (s : Part) :
    (enqueueCmd k op cls nonQueued fua mba count s).member? j = s.member? j :=
  Part.modMember_member?_ne s _ (fun _ => rfl) h

theorem enqueueCmd_queues (k : Nat) (op : MOp) (cls : Nat) (nonQueued fua : Bool) (mba count : Nat) (s : Part) :
    Queues s (enqueueCmd k op cls nonQueued fua mba count s) := by
  refine ⟨rfl, fun j => ?_⟩
  by_cases hj : j = k
  · rw [hj, enqueueCmd_member?]
    cases s.member? k with
    | none => exact .none
    | some m => exact .some ⟨List.prefix_append _ _, rfl⟩
  · rw [enqueueCmd_member?_ne hj]
    exact (Queues.refl s).queued j

/-- A command of which `P` holds waits in member `k`'s queue. -/
def Part.Waits (s : Part) (k : Nat) (P : MCmd → Prop) : Prop := ∃ y, s.member? k = some y ∧ ∃ c ∈ y.waiting, P c

theorem Part.Waits.later {s t : Part} {k : Nat} {P : MCmd → Prop} (h : s.Waits k P) (hq : Queues s t) : t.Waits k P := by
  obtain ⟨m, hm, c, hc, hP⟩ := h
  obtain ⟨y, hy, hpre, -⟩ := hq.of_member hm
  exact ⟨y, hy, c, hpre.subset hc, hP⟩

/-- A command that has just been queued waits, under the member's next tag. -/
theorem enqueueCmd_waits {k : Nat} {s : Part} {m : MemberSt} (hm : s.member? k = some m) (op : MOp) (cls : Nat)
    (nonQueued fua : Bool) (mba count : Nat) : (enqueueCmd k op cls nonQueued fua mba count s).Waits k (fun c =>
      c.id = m.nextTag ∧ c.op = op ∧ c.cls = cls ∧ c.fua = fua ∧ c.mba = mba ∧ c.count = count) := by
  rw [Part.Waits, enqueueCmd_member?, hm]
  exact ⟨_, rfl, m.nextCmd op cls nonQueued fua mba count, by simp, rfl, rfl, rfl, rfl, rfl, rfl⟩

theorem Part.Waits.imp {s : Part} {k : Nat} {P Q : MCmd → Prop} (h : s.Waits k P) (hPQ : ∀ c, P c → Q c) : s.Waits k Q := by
  obtain ⟨y, hy, c, hc, hP⟩ := h
  exact ⟨y, hy, c, hc, hPQ c hP⟩

/-- A walk over `l` queues a command for `x` once it reaches it, from any part of which `I` still holds. -/
theorem foldl_waits {α : Type} {op : Part → α → Part} (hop : ∀ s a, Queues s (op s a)) {x : α} {k : Nat} {P : MCmd → Prop}
    {I : Part → Prop} (hI : ∀ s a, a ≠ x → I s → I (op s a)) (hreach : ∀ s, I s → (op s x).Waits k P) :
    ∀ {l : List α}, x ∈ l → ∀ {s : Part}, I s → (l.foldl op s).Waits k P := by
  intro l
  induction l with
  | nil => exact fun hx => absurd hx List.not_mem_nil
  | cons a l ih =>
    intro hx s hs
    by_cases ha : a = x
    · exact ha ▸ (hreach s hs).later (Queues.foldl hop l _)
    · exact ih ((List.mem_cons.mp hx).resolve_left (Ne.symm ha)) (hI s a ha hs)

/-! ### What a member takes -/

theorem Part.takes_eq (s : Part) (k : Nat) : s.takes k = ((s.member? k).map (·.state)).any [1, 2, 3, 5, 6, 7].contains := by
  unfold Part.takes
  cases s.member? k <;> rfl

theorem Part.takes_congr {s t : Part} {k : Nat} (h : (t.member? k).map (·.state) = (s.member? k).map (·.state)) :
    t.takes k = s.takes k := by
  rw [Part.takes_eq, Part.takes_eq, h]

theorem Part.exists_of_takes {s : Part} {k : Nat} (h : s.takes k = true) : ∃ m, s.member? k = some m := by
  unfold Part.takes at h
  cases hm : s.member? k with
  | none => simp [hm] at h
  | some m => exact ⟨m, rfl⟩

/-! ### The copies of a charter (R45) -/

theorem sendCopyA_queues (creation : Bool) (k : Nat) (s : Part) : Queues s (sendCopyA creation k s) := by
  have hsent := (enqueueCmd_queues k .structureWrite 0 false true 16 512 s).trans
    (enqueueCmd_queues k .structureWrite 0 false true 0 (if creation then 16 else 1) _)
  cases creation with
  | true => exact hsent.trans (enqueueCmd_queues ..)
  | false => exact hsent

theorem sendCopyA_member?_ne {j k : Nat} (h : j ≠ k) (creation : Bool) (s : Part) :
    (sendCopyA creation k s).member? j = s.member? j := by
  unfold sendCopyA
  simp only []
  split <;> simp only [enqueueCmd_member?_ne h]

theorem sendCopyA_waits {k : Nat} {s : Part} {m : MemberSt} (hm : s.member? k = some m) (creation : Bool) :
    (sendCopyA creation k s).Waits k (fun c => c.op = .structureWrite ∧ c.id = m.nextTag) := by
  have hfirst := (enqueueCmd_waits hm .structureWrite 0 false true 16 512).imp
    (Q := fun c => c.op = .structureWrite ∧ c.id = m.nextTag) (fun c hc => ⟨hc.2.1, hc.1⟩)
  have hsecond := hfirst.later (enqueueCmd_queues k .structureWrite 0 false true 0 (if creation then 16 else 1) _)
  cases creation with
  | true => exact hsecond.later (enqueueCmd_queues ..)
  | false => exact hsecond

theorem sendCopies_queues (c : Charter) (creation : Bool) (holders : List Nat) (s : Part) :
    Queues s (sendCopies c creation holders s) := Queues.foldl (fun st k => sendCopyA_queues creation k st) _ s

/-- Copy A goes to every member a change must reach that takes commands and does not hold it (R45 step 2). -/
theorem sendCopies_waits {c : Charter} {creation : Bool} {holders : List Nat} {k : Nat} {s : Part} {m : MemberSt}
    (hlisted : k ∈ c.listed) (hnew : k ∉ holders) (htakes : s.takes k = true) (hm : s.member? k = some m) :
    (sendCopies c creation holders s).Waits k (fun x => x.op = .structureWrite ∧ x.id = m.nextTag) :=
  foldl_waits (fun st j => sendCopyA_queues creation j st) (I := fun st => st.member? k = some m)
    (fun st _ hj hst => (sendCopyA_member?_ne (Ne.symm hj) creation st).trans hst) (fun _ hst => sendCopyA_waits hst creation)
    (List.mem_filter.mpr ⟨hlisted, by simp [htakes, hnew]⟩) hm

theorem sendCopyB_queues (p gen k : Nat) (s : Part) : Queues s (sendCopyB p gen k s) := enqueueCmd_queues ..

/-- Copy B goes to every member that is named and takes commands (R45 step 4). -/
theorem sendCopyB_foldl_waits {p gen k : Nat} {l : List Nat} {s : Part} {m : MemberSt} (hk : k ∈ l) (hm : s.member? k = some m) :
    (l.foldl (fun st j => sendCopyB p gen j st) s).Waits k (fun c => c.op = .copyB p gen) :=
  foldl_waits (fun st j => sendCopyB_queues p gen j st) (I := fun st => ∃ y, st.member? k = some y)
    (fun _ _ _ ⟨_, hy⟩ => ((sendCopyB_queues ..).of_member hy).imp fun _ h => h.1)
    (fun _ ⟨_, hy⟩ => (enqueueCmd_waits hy ..).imp fun _ hc => hc.2.1) hk ⟨m, hm⟩

/-! ### Pools -/

theorem Part.pool?_id {s : Part} {p : Nat} {ps : PoolSt} (h : s.pool? p = some ps) : ps.id = p := by
  simpa using List.find?_some h

theorem Part.modPool_of_pool? {s : Part} {p : Nat} {ps : PoolSt} (h : s.pool? p = some ps) (g : PoolSt → PoolSt)
    (hg : ∀ x, (g x).id = x.id) : (s.modPool p g).pool? p = some (g ps) := by
  rw [Part.modPool_pool? s p g hg, h, Option.map_some]

theorem queueDelta_pool? {s : Part} {p : Nat} {ps : PoolSt} (h : s.pool? p = some ps) (d : CharterDelta) :
    ∃ x, (queueDelta p d s).pool? p = some x ∧ d ∈ x.queue ∧ x = { ps with queue := x.queue } := by
  refine ⟨_, Part.modPool_of_pool? h _ (fun x => by split <;> rfl), ?_⟩
  split
  · next hin => exact ⟨by simpa using hin, rfl⟩
  · exact ⟨by simp, rfl⟩

theorem queueDelta_only (p : Nat) (d : CharterDelta) (s : Part) : queueDelta p d s = { s with pools := (queueDelta p d s).pools } := rfl

/-- A generation being written (R45 step 2): the pool's new change, and copies on their way; nothing else. -/
theorem writeGeneration_pool? {s : Part} {p : Nat} {ps : PoolSt} (h : s.pool? p = some ps) (c : Charter) (d : Option CharterDelta)
    (restoring creation : Bool) : (writeGeneration p c d restoring creation s).pool? p = some { ps with
      highGen := c.gen
      change := some { charter := c, delta := d, holders := [], failed := [], restoring := restoring
                       announceTide := if ps.pair.state = 2 then some s.sched.tideNow else none, creation := creation } } := by
  unfold writeGeneration
  simp only []
  split
  · exact Part.modPool_of_pool? h _ (fun _ => rfl)
  · rw [(sendCopies_queues ..).only.pool?]
    exact Part.modPool_of_pool? h _ (fun _ => rfl)

theorem writeGeneration_only (p : Nat) (c : Charter) (d : Option CharterDelta) (restoring creation : Bool) (s : Part) :
    writeGeneration p c d restoring creation s = { s with
      pools := (writeGeneration p c d restoring creation s).pools
      members := (writeGeneration p c d restoring creation s).members } := by
  unfold writeGeneration
  simp only []
  split
  · rfl
  · rw [(sendCopies_queues ..).only]
    rfl

end Sys2Proof.Machine
end

section
/-! SUPPORT. Charter changes are built (02: R26, R45), with the statement of `CharterChangesAreBuilt`. -/

namespace Sys2Proof.Machine

/-! ### Charter changes are built (R45 steps 1 and 2) -/

theorem stays_onPart {c : Instr} {s : State} {g : Part → Part} (h : exec c s = .next (s.onPart g)) (hg : g s.part = s.part) :
    Stays c s := by
  rw [Stays, h, State.onPart, hg]

theorem startChange_stays {p : Nat} {s : Part} {ps : PoolSt} (h : s.pool? p = some ps)
    (hwait : ps.queue = [] ∨ ps.change ≠ none ∨ ps.coming ≠ none) : startChange p s = s := by
  unfold startChange
  rw [h]
  cases hq : ps.queue with
  | nil => simp [hq]
  | cons d rest =>
    have hbusy : ps.change.isSome = true ∨ ps.coming.isSome = true := by simpa [hq, Option.isSome_iff_ne_none] using hwait
    rcases hbusy with hb | hb <;> simp [hq, hb]

/-- The pool's queue once its first change is being built. -/
def dequeued (p : Nat) (rest : List CharterDelta) (s : Part) : Part := s.modPool p (fun x => { x with queue := rest })

theorem startChange_builds {p : Nat} {s : Part} {ps : PoolSt} {d : CharterDelta} {rest : List CharterDelta}
    (h : s.pool? p = some ps) (hq : ps.queue = d :: rest) (hlife : ps.life ≠ 0) (howned : ps.owned = true) (hchange : ps.change = none)
    (hcoming : ps.coming = none) : startChange p s =
      writeGeneration p (numberGeneration (dequeued p rest s) ps (recordStates (dequeued p rest s) (applyDelta ps.charter d))) (some d)
        false false (dequeued p rest s) := by
  unfold startChange
  rw [h]
  simp only [hq, hlife, howned, hchange, hcoming]
  rfl

theorem charterChange_builds {p : PoolId} {s : State} {ps : PoolSt} {d : CharterDelta} {rest : List CharterDelta}
    (h : s.part.pool? p.val = some ps) (hq : ps.queue = d :: rest) (hlife : ps.life ≠ 0) (howned : ps.owned = true)
    (hchange : ps.change = none) (hcoming : ps.coming = none) :
    Runs (.charterChange p) s (fun t => ∃ x ch, t.pool? p.val = some x ∧ x.change = some ch ∧ x.queue = rest ∧
      x.highGen = ps.highGen + 1 ∧ ch.charter.gen = ps.highGen + 1 ∧ ch.charter.changed = s.part.timeUs ∧
      ch.charter.changeTide = (if ps.charter.paired then s.part.sched.tideNow + s.part.leadTides else s.part.sched.tideNow) ∧
      ch.holders = [] ∧ ch.failed = [] ∧ ch.restoring = false ∧ x.charter = ps.charter ∧ x.coming = none ∧
      t = { s.part with pools := t.pools, members := t.members }) := by
  refine runs_onPart (g := startChange p.val) rfl ?_
  have hpool : (dequeued p.val rest s.part).pool? p.val = some { ps with queue := rest } :=
    Part.modPool_of_pool? h _ (fun _ => rfl)
  rw [startChange_builds h hq hlife howned hchange hcoming]
  exact ⟨_, _, writeGeneration_pool? hpool _ _ _ _, rfl, rfl, rfl, rfl, rfl, rfl, rfl, rfl, rfl, rfl, hcoming,
    writeGeneration_only ..⟩

/-- A restoring generation is written again, its failed writes forgotten. -/
theorem retryRestore_eq {p : Nat} {s : Part} {ps : PoolSt} {ch : ChangeBuild} (h : s.pool? p = some ps) (hch : ps.change = some ch)
    (hr : ch.restoring = true) : retryRestore p s =
      sendCopies ch.charter false ch.holders (s.modPool p (fun x => { x with change := some { ch with failed := [] } })) := by
  unfold retryRestore
  rw [h]
  simp only [hch, hr, if_true]

theorem charterRestoreRetry_writes {p : PoolId} {s : State} {ps : PoolSt} {ch : ChangeBuild} (h : s.part.pool? p.val = some ps)
    (hch : ps.change = some ch) (hr : ch.restoring = true) :
    Runs (.charterRestoreRetry p) s (fun t => ∃ x, t.pool? p.val = some x ∧ x.change = some { ch with failed := [] } ∧
      x.charter = ps.charter ∧ t = { s.part with pools := t.pools, members := t.members } ∧
      ∀ k m, k ∈ ch.charter.listed → k ∉ ch.holders → s.part.takes k = true → s.part.member? k = some m →
        ∃ y, t.member? k = some y ∧ (∃ c ∈ y.waiting, c.op = .structureWrite ∧ c.id = m.nextTag)) := by
  refine runs_onPart (g := retryRestore p.val) rfl ?_
  rw [retryRestore_eq h hch hr]
  have hq := sendCopies_queues ch.charter false ch.holders
    (s.part.modPool p.val (fun x => { x with change := some { ch with failed := [] } }))
  refine ⟨_, (hq.only.pool? _).trans (Part.modPool_of_pool? h _ (fun _ => rfl)), rfl, rfl, ?_,
    fun k m hk hnew htakes hm => sendCopies_waits hk hnew htakes hm⟩
  rw [hq.only]
  rfl

theorem poolInitComplete_asks {p : PoolId} {s : State} {ps : PoolSt} (h : s.part.pool? p.val = some ps) (hlife : ps.life = 2)
    (hinit : ps.latest.initDone = false) (hleft : ps.initLeft = []) :
    Runs (.poolInitComplete p) s (fun t => ∃ x, t.pool? p.val = some x ∧ x.initLeft = [] ∧ .initDone ∈ x.queue ∧
      x.charter = ps.charter ∧ t = { s.part with pools := t.pools }) := by
  refine runs_onPart (g := poolInitCompleteEff p.val) rfl ?_
  have hdone : poolInitCompleteEff p.val s.part = queueDelta p.val .initDone s.part := by
    simp [poolInitCompleteEff, h, hlife, hinit, hleft]
  rw [hdone]
  obtain ⟨x, hx, hmem, hrest⟩ := queueDelta_pool? h .initDone
  exact ⟨x, hx, by rw [hrest, hleft], hmem, by rw [hrest], queueDelta_only ..⟩

theorem poolInitComplete_stays {p : PoolId} {s : State} {ps : PoolSt} (h : s.part.pool? p.val = some ps)
    (hnot : ps.life ≠ 2 ∨ ps.latest.initDone = true ∨ ps.initLeft ≠ []) : Stays (.poolInitComplete p) s := by
  refine stays_onPart (g := poolInitCompleteEff p.val) rfl ?_
  unfold poolInitCompleteEff
  rw [h]
  refine if_neg fun hall => ?_
  simp only [Bool.and_eq_true, decide_eq_true_eq, List.isEmpty_iff, Bool.not_eq_true'] at hall
  obtain ⟨⟨hlife, hleft⟩, hinit⟩ := hall
  simp [hlife, hleft, hinit] at hnot

/-- Settles O10: a waiting change is built by `writeGeneration` under the next number, a restoring one is written again, and INIT_DONE
is asked for once no zeroing is left. -/
theorem charterChangesAreBuilt : Obligations.CharterChangesAreBuilt := by
  unfold Obligations.CharterChangesAreBuilt
  intro p s ps h
  exact ⟨fun d rest hq hlife howned hchange hcoming => charterChange_builds h hq hlife howned hchange hcoming,
    fun hwait => stays_onPart (g := startChange p.val) rfl (startChange_stays h hwait),
    fun ch hch hr => charterRestoreRetry_writes h hch hr,
    fun hlife hinit hleft => poolInitComplete_asks h hlife hinit hleft,
    fun hnot => poolInitComplete_stays h hnot⟩

end Sys2Proof.Machine
end

section
/-! SUPPORT. A change of the charter commits or is abandoned (02: R25, R26, R45), with the statement of `CharterCopiesCommit`. -/

namespace Sys2Proof.Machine

/-! ### A copy is written, a majority commits (R45 step 3) -/

theorem putCopyA_membersOnly (c : Charter) (k : Nat) (s : Part) : MembersOnly s (putCopyA c k s) := by
  unfold putCopyA
  split
  · exact MembersOnly.refl s
  · exact MembersOnly.modMember s k _

theorem Charter.find?_of_listed {c : Charter} {k : Nat} (h : k ∈ c.listed) : ∃ m, c.members.find? (fun x => x.id == k) = some m := by
  obtain ⟨m, hm, rfl⟩ := List.mem_map.mp h
  refine Option.isSome_iff_exists.mp (List.find?_isSome.mpr ⟨m, List.mem_of_mem_filter hm, by simp⟩)

/-- A member with copy A and its label written (R45 step 2). -/
def MemberSt.withCopyA (s : Part) (c : Charter) (e : CMember) (x : MemberSt) : MemberSt :=
  { x with charterA := some c, label := .good (labelOf s c e x.info.capacity) }

theorem putCopyA_eq {c : Charter} {k : Nat} {e : CMember} (he : c.members.find? (fun m => m.id == k) = some e) (s : Part) :
    putCopyA c k s = s.modMember k (MemberSt.withCopyA s c e) := by
  unfold putCopyA
  rw [he]
  rfl

/-- Copy A on a listed member is the charter's. -/
theorem putCopyA_charterA {c : Charter} {k : Nat} {s : Part} {y : MemberSt} (h : k ∈ c.listed)
    (hy : (putCopyA c k s).member? k = some y) : y.charterA = some c := by
  obtain ⟨e, he⟩ := Charter.find?_of_listed h
  rw [putCopyA_eq he, Part.modMember_member? s k (MemberSt.withCopyA s c e) (fun _ => rfl)] at hy
  obtain ⟨x, -, rfl⟩ := Option.map_eq_some_iff.mp hy
  rfl

theorem putCopyA_state (c : Charter) (k j : Nat) (s : Part) :
    ((putCopyA c k s).member? j).map (·.state) = (s.member? j).map (·.state) := by
  cases he : c.members.find? (fun m => m.id == k) with
  | none => rw [putCopyA, he]
  | some e =>
    rw [putCopyA_eq he]
    by_cases hj : j = k
    · subst hj
      rw [Part.modMember_member? s j (MemberSt.withCopyA s c e) (fun _ => rfl), Option.map_map]
      rfl
    · rw [Part.modMember_member?_ne s (MemberSt.withCopyA s c e) (fun _ => rfl) hj]

theorem putCopyA_takes (c : Charter) (k j : Nat) (s : Part) : (putCopyA c k s).takes j = s.takes j :=
  Part.takes_congr (putCopyA_state c k j s)

/-- The change of a pool with member `k` counted as a holder of copy A. -/
def ChangeBuild.holding (ch : ChangeBuild) (k : Nat) : ChangeBuild :=
  { ch with holders := ch.holders ++ [k], failed := ch.failed.filter (· != k) }

/-- The part once copy A of change `ch` is written on member `k`, before it is asked whether that is a majority. -/
def copyCounted (p k : Nat) (ch : ChangeBuild) (s : Part) : Part :=
  putCopyA ch.charter k (s.modPool p (fun x => { x with change := some (ch.holding k) }))

section
variable {p k : Nat} {s : Part} {ps : PoolSt} {ch : ChangeBuild} (h : s.pool? p = some ps) (hch : ps.change = some ch)
  (hlisted : k ∈ ch.charter.listed) (hnew : k ∉ ch.holders) (hann : announced s p ch.announceTide = true)
include h hch hlisted hnew hann

theorem copyWritten_counts : copyWritten p k true s = commitIfMajority p (copyCounted p k ch s) := by
  unfold copyWritten
  simp only [h, hch]
  rw [if_neg (by simp [hlisted, hnew, hann])]
  rfl

theorem copyWritten_fails (hfailed : k ∉ ch.failed) : copyWritten p k false s =
    commitIfMajority p (s.modPool p (fun x => { x with change := some { ch with failed := ch.failed ++ [k] } })) := by
  unfold copyWritten
  simp only [h, hch]
  rw [if_neg (by simp [hlisted, hnew, hann]), if_neg (by simp)]
  simp only [List.contains_iff_mem, hfailed, if_false]

end

theorem copyCounted_pool? {p k : Nat} {s : Part} {ps : PoolSt} {ch : ChangeBuild} (h : s.pool? p = some ps) :
    (copyCounted p k ch s).pool? p = some { ps with change := some (ch.holding k) } :=
  ((putCopyA_membersOnly _ _ _).pool? p).trans (Part.modPool_of_pool? h _ (fun _ => rfl))

theorem copyCounted_only (p k : Nat) (ch : ChangeBuild) (s : Part) :
    copyCounted p k ch s = { s with pools := (copyCounted p k ch s).pools, members := (copyCounted p k ch s).members } := by
  rw [copyCounted, putCopyA_membersOnly]
  rfl

theorem copyCounted_takes (p k j : Nat) (ch : ChangeBuild) (s : Part) : (copyCounted p k ch s).takes j = s.takes j :=
  putCopyA_takes _ _ _ _

/-- The pool with its change committed: the generation waits for its boundary. -/
def PoolSt.committed (c : Charter) (x : PoolSt) : PoolSt := { x with change := none, coming := some c }

/-- Change `ch` of the pool is committed, and copy B is on its way to the holders of copy A that take commands. -/
def commitSent (p : Nat) (ch : ChangeBuild) (s : Part) : Part :=
  (ch.holders.filter (fun k => s.takes k)).foldl (fun st k => sendCopyB p ch.charter.gen k st) (s.modPool p (PoolSt.committed ch.charter))

theorem commitSent_queues (p : Nat) (ch : ChangeBuild) (s : Part) :
    Queues (s.modPool p (PoolSt.committed ch.charter)) (commitSent p ch s) :=
  Queues.foldl (fun st k => sendCopyB_queues p ch.charter.gen k st) _ _

theorem commitSent_pool? {p : Nat} {s : Part} {ps : PoolSt} (ch : ChangeBuild) (h : s.pool? p = some ps) :
    (commitSent p ch s).pool? p = some (ps.committed ch.charter) :=
  ((commitSent_queues p ch s).only.pool? p).trans (Part.modPool_of_pool? h _ (fun _ => rfl))

theorem commitSent_only (p : Nat) (ch : ChangeBuild) (s : Part) :
    commitSent p ch s = { s with pools := (commitSent p ch s).pools, members := (commitSent p ch s).members } := by
  rw [(commitSent_queues p ch s).only]
  rfl

/-- Copy A stands on more than half of the listed members of an unpaired part's pool: the change commits, copy B goes out. -/
theorem commitIfMajority_commits {p : Nat} {s : Part} {ps : PoolSt} {ch : ChangeBuild} (h : s.pool? p = some ps)
    (hch : ps.change = some ch) (hmaj : ch.charter.listed.length < 2 * ch.holders.length)
    (hpair : (ch.charter.paired && decide (s.pair.state = 2 ∨ s.pair.state = 3)) = false) :
    commitIfMajority p s = commitSent p ch s := by
  have hsame : (commitSent p ch s).pair = s.pair := by rw [commitSent_only]
  unfold commitIfMajority
  simp only [h, hch, if_pos hmaj]
  refine if_neg ?_
  change ¬ (ch.charter.paired && decide ((commitSent p ch s).pair.state = 2 ∨ (commitSent p ch s).pair.state = 3)) = true
  rw [hsame, hpair]
  exact Bool.false_ne_true

theorem commitIfMajority_waits {p : Nat} {s : Part} {ps : PoolSt} {ch : ChangeBuild} (h : s.pool? p = some ps)
    (hch : ps.change = some ch) (hmaj : 2 * ch.holders.length ≤ ch.charter.listed.length)
    (hleft : ch.charter.listed.length < 2 * (ch.charter.listed.length - ch.failed.length)) : commitIfMajority p s = s := by
  unfold commitIfMajority
  simp only [h, hch]
  rw [if_neg (by omega), if_neg (by omega)]

theorem commitIfMajority_abandons {p : Nat} {s : Part} {ps : PoolSt} {ch : ChangeBuild} (h : s.pool? p = some ps)
    (hch : ps.change = some ch) (hmaj : 2 * ch.holders.length ≤ ch.charter.listed.length)
    (hlost : 2 * (ch.charter.listed.length - ch.failed.length) ≤ ch.charter.listed.length) :
    commitIfMajority p s = abandonChange p s := by
  unfold commitIfMajority
  simp only [h, hch]
  rw [if_neg (by omega), if_pos hlost]

/-! ### A change is abandoned (R45 step 4) -/

/-- The commands that a release sends: a flush, the label and both charter copies. -/
def releaseQueued (k : Nat) (s : Part) : Part :=
  let s := enqueueCmd k .structureWrite 0 false true 0 1 (enqueueCmd k .flushCache 0 false false 0 0 s)
  enqueueCmd k .structureWrite 0 false true (s.copyBAt k) 512 (enqueueCmd k .structureWrite 0 false true 16 512 s)

theorem releaseQueued_queues (k : Nat) (s : Part) : Queues s (releaseQueued k s) :=
  ((enqueueCmd_queues ..).trans (enqueueCmd_queues ..)).trans ((enqueueCmd_queues ..).trans (enqueueCmd_queues ..))

/-- A member as its release leaves it (R25). -/
def MemberSt.release (s : Part) (m : MemberSt) : MemberSt :=
  { m with label := .good (releasedLabel s m), charterA := none, charterB := none, state := if m.state = 0 ∨ m.state = 4 then m.state else 1
           presentAt := s.timeUs, registered := false, fenced := false }

theorem releaseMember_eq (k : Nat) (s : Part) :
    releaseMember k s = (releaseQueued k s).modMember k (MemberSt.release (releaseQueued k s)) := rfl

theorem releaseMember_membersOnly (k : Nat) (s : Part) : MembersOnly s (releaseMember k s) := by
  rw [releaseMember_eq]
  exact (releaseQueued_queues k s).only.trans (MembersOnly.modMember ..)

theorem releaseMembers_only (l : List Nat) (s : Part) : MembersOnly s (l.foldl (fun st k => releaseMember k st) s) :=
  MembersOnly.foldl (fun st k => releaseMember_membersOnly k st) l s

/-- `t` differs from `s` at most in what a record of the Logbook reaches. -/
def Recorded (s t : Part) : Prop := t = { s with log := t.log, dict := t.dict, tow := t.tow, out := t.out }

theorem noted_recorded (ss rule item : Nat) (d : Bytes) (s : Part) : Recorded s (noted ss rule item d s) := by
  unfold Recorded
  apply Part.ext_fields <;> simp

theorem log_recorded (code inst : Nat) (d : Bytes) (s : Part) : Recorded s (log code inst d s) := by
  unfold Recorded
  apply Part.ext_fields <;> simp

theorem dropChange_pool? {p : Nat} {s : Part} {ps : PoolSt} (h : s.pool? p = some ps) (d : Option CharterDelta) :
    ∃ x, (dropChange p d s).pool? p = some x ∧ x = { ps with change := none, queue := x.queue } := by
  have hnone : (s.modPool p (fun x => { x with change := none })).pool? p = some { ps with change := none } :=
    Part.modPool_of_pool? h _ (fun _ => rfl)
  unfold dropChange
  simp only []
  split
  · exact ⟨_, hnone, rfl⟩
  · split
    · obtain ⟨x, hx, -, hrest⟩ := queueDelta_pool? hnone ‹CharterDelta›
      exact ⟨x, hx, hrest⟩
    · exact ⟨_, hnone, rfl⟩
  · exact ⟨_, hnone, rfl⟩

theorem dropChange_only (p : Nat) (d : Option CharterDelta) (s : Part) :
    dropChange p d s = { s with pools := (dropChange p d s).pools, vols := (dropChange p d s).vols } := by
  unfold dropChange
  simp only []
  split
  · rfl
  · split <;> rfl
  · rfl

theorem restoreGeneration_eq {p : Nat} {s : Part} {ps : PoolSt} (h : s.pool? p = some ps) :
    restoreGeneration p s = writeGeneration p (numberGeneration s ps ps.charter) none true false s := by
  unfold restoreGeneration
  rw [h]

/-- A Crossing that has its start number keeps its block in a restoring generation. -/
theorem numberGeneration_cross {s : Part} {ps : PoolSt} {c : Charter} (h : ∀ y, c.cross = some y → y.startGen ≠ 0) :
    (numberGeneration s ps c).cross = c.cross := by
  unfold numberGeneration
  cases hc : c.cross with
  | none => simp
  | some y => simp [h y hc]

/-- The record a change leaves when it is abandoned. -/
def abandonNoted (p : Nat) (ch : ChangeBuild) (s : Part) : Part := noted 20 45 1 (leBytes 1 p ++ leBytes 8 ch.charter.gen) s

theorem abandonChange_restores {p : Nat} {s : Part} {ps : PoolSt} {ch : ChangeBuild} (h : s.pool? p = some ps)
    (hch : ps.change = some ch) (hcreation : ch.creation = false) (hrestoring : ch.restoring = false) :
    abandonChange p s = restoreGeneration p (dropChange p ch.delta (abandonNoted p ch s)) := by
  unfold abandonChange
  simp only [h, hch, hcreation, hrestoring]
  rfl

theorem abandonChange_fails {p : Nat} {s : Part} {ps : PoolSt} {ch : ChangeBuild} (h : s.pool? p = some ps)
    (hch : ps.change = some ch) (hcreation : ch.creation = true) :
    abandonChange p s = failCreation p ch (abandonNoted p ch s) := by
  unfold abandonChange
  simp only [h, hch, hcreation]
  rfl

theorem failCreation_pool? {p : Nat} {s : Part} {ps : PoolSt} (ch : ChangeBuild) (h : s.pool? p = some ps) :
    (failCreation p ch s).pool? p = some { ps with life := 0, change := none, queue := [], commitResult := ruleResult 45 0 } :=
  Part.modPool_of_pool? (((releaseMembers_only _ s).pool? p).trans h) _ (fun _ => rfl)

theorem failCreation_only (p : Nat) (ch : ChangeBuild) (s : Part) :
    failCreation p ch s = { s with pools := (failCreation p ch s).pools, members := (failCreation p ch s).members } := by
  unfold failCreation
  simp only []
  rw [releaseMembers_only]
  rfl

/-! ### The statement of `CharterCopiesCommit` -/

section
variable {p : PoolId} {k : MemberId} {s : State} {ps : PoolSt} {ch : ChangeBuild} (h : s.part.pool? p.val = some ps)
  (hch : ps.change = some ch) (hlisted : k.val ∈ ch.charter.listed) (hnew : k.val ∉ ch.holders)
  (hann : announced s.part p.val ch.announceTide = true)
include h hch hlisted hnew hann

theorem copyWritten_commits (hmaj : ch.charter.listed.length < 2 * (ch.holders.length + 1))
    (hpair : (ch.charter.paired && decide (s.part.pair.state = 2 ∨ s.part.pair.state = 3)) = false) :
    Runs (.charterCopyWritten p k true) s (fun t => ∃ x, t.pool? p.val = some x ∧ x.coming = some ch.charter ∧
      x.change = none ∧ x.charter = ps.charter ∧
      (∀ j m, (j = k.val ∨ j ∈ ch.holders) → s.part.member? j = some m → s.part.takes j = true →
        ∃ y, t.member? j = some y ∧ ∃ c ∈ y.waiting, c.op = .copyB p.val ch.charter.gen) ∧
      (∀ y, t.member? k.val = some y → y.charterA = some ch.charter) ∧
      t = { s.part with pools := t.pools, members := t.members }) := by
  refine runs_onPart (g := copyWritten p.val k.val true) rfl ?_
  have hpool := copyCounted_pool? (k := k.val) (ch := ch) h
  have honly := copyCounted_only p.val k.val ch s.part
  have hpair' : ((ch.holding k.val).charter.paired && decide ((copyCounted p.val k.val ch s.part).pair.state = 2 ∨
      (copyCounted p.val k.val ch s.part).pair.state = 3)) = false := by rw [honly]; exact hpair
  rw [copyWritten_counts h hch hlisted hnew hann,
    commitIfMajority_commits hpool rfl (by simpa [ChangeBuild.holding] using hmaj) hpair']
  refine ⟨_, commitSent_pool? _ hpool, rfl, rfl, rfl, ?_, ?_, ?_⟩
  · intro j m hj hm htakes
    have htakes' : (copyCounted p.val k.val ch s.part).takes j = true := (copyCounted_takes ..).trans htakes
    obtain ⟨y, hy⟩ := Part.exists_of_takes htakes'
    refine sendCopyB_foldl_waits (List.mem_filter.mpr ⟨?_, htakes'⟩) (m := y) hy
    rcases hj with rfl | hj
    · exact List.mem_append_right _ (List.mem_singleton.mpr rfl)
    · exact List.mem_append_left _ hj
  · intro y hy
    obtain ⟨m, hm, -, hrest⟩ := (commitSent_queues ..).to_member hy
    rw [hrest]
    exact putCopyA_charterA (y := m) hlisted hm
  · rw [commitSent_only, honly]

theorem copyWritten_waits (hmaj : 2 * (ch.holders.length + 1) ≤ ch.charter.listed.length)
    (hleft : ch.charter.listed.length < 2 * (ch.charter.listed.length - (ch.failed.filter (· != k.val)).length)) :
    Runs (.charterCopyWritten p k true) s (fun t => ∃ x, t.pool? p.val = some x ∧
      x.change = some { ch with holders := ch.holders ++ [k.val], failed := ch.failed.filter (· != k.val) } ∧
      x.coming = ps.coming ∧ x.charter = ps.charter ∧ t = { s.part with pools := t.pools, members := t.members }) := by
  refine runs_onPart (g := copyWritten p.val k.val true) rfl ?_
  have hpool := copyCounted_pool? (k := k.val) (ch := ch) h
  rw [copyWritten_counts h hch hlisted hnew hann,
    commitIfMajority_waits hpool rfl (by simpa [ChangeBuild.holding] using hmaj) hleft]
  exact ⟨_, hpool, rfl, rfl, rfl, copyCounted_only ..⟩

variable (hfailed : k.val ∉ ch.failed)
  (hlost : 2 * (ch.charter.listed.length - (ch.failed.length + 1)) ≤ ch.charter.listed.length)
  (hshort : 2 * ch.holders.length ≤ ch.charter.listed.length)
include hfailed hlost hshort

/-- A failed write that leaves no majority abandons the change. -/
theorem copyWritten_abandons : copyWritten p.val k.val false s.part =
    abandonChange p.val (s.part.modPool p.val (fun x => { x with change := some { ch with failed := ch.failed ++ [k.val] } })) := by
  have hpool : (s.part.modPool p.val (fun x => { x with change := some { ch with failed := ch.failed ++ [k.val] } })).pool? p.val =
      some { ps with change := some { ch with failed := ch.failed ++ [k.val] } } := Part.modPool_of_pool? h _ (fun _ => rfl)
  rw [copyWritten_fails h hch hlisted hnew hann hfailed]
  exact commitIfMajority_abandons hpool rfl hshort (by simpa using hlost)

theorem copyWritten_restores (hcreation : ch.creation = false) (hrestoring : ch.restoring = false) :
    Runs (.charterCopyWritten p k false) s (fun t => ∃ x c2, t.pool? p.val = some x ∧ x.change = some c2 ∧
      c2.restoring = true ∧ c2.holders = [] ∧ x.charter = ps.charter ∧ x.coming = ps.coming ∧
      c2.charter = { ps.charter with gen := ps.highGen + 1, changed := c2.charter.changed, changeTide := c2.charter.changeTide,
                                     cross := c2.charter.cross } ∧
      ((∀ y, ps.charter.cross = some y → y.startGen ≠ 0) → c2.charter.cross = ps.charter.cross) ∧
      t = { s.part with pools := t.pools, members := t.members, vols := t.vols, log := t.log, dict := t.dict, tow := t.tow, out := t.out }) := by
  refine runs_onPart (g := copyWritten p.val k.val false) rfl ?_
  rw [copyWritten_abandons h hch hlisted hnew hann hfailed hlost hshort]
  generalize hs1 : s.part.modPool p.val (fun x => { x with change := some { ch with failed := ch.failed ++ [k.val] } }) = s1
  have hpool1 : s1.pool? p.val = some { ps with change := some { ch with failed := ch.failed ++ [k.val] } } :=
    hs1 ▸ Part.modPool_of_pool? h _ (fun _ => rfl)
  rw [abandonChange_restores hpool1 rfl hcreation hrestoring]
  obtain ⟨x, hx, hrest⟩ := dropChange_pool? (s := abandonNoted p.val { ch with failed := ch.failed ++ [k.val] } s1)
    (by rw [abandonNoted, noted_recorded]; exact hpool1) ch.delta
  rw [restoreGeneration_eq hx]
  have hx' : x.charter = ps.charter ∧ x.coming = ps.coming ∧ x.highGen = ps.highGen := by rw [hrest]; exact ⟨rfl, rfl, rfl⟩
  obtain ⟨hcharter, hcoming, hhigh⟩ := hx'
  refine ⟨_, _, writeGeneration_pool? hx _ _ _ _, rfl, rfl, rfl, hcharter, hcoming, ?_, ?_, ?_⟩
  · simp only [numberGeneration, hcharter, hhigh]
  · rw [← hcharter]
    exact numberGeneration_cross
  · rw [writeGeneration_only, dropChange_only, abandonNoted, noted_recorded, ← hs1]
    rfl

theorem copyWritten_creationFails (hcreation : ch.creation = true) :
    Runs (.charterCopyWritten p k false) s (fun t => ∃ x, t.pool? p.val = some x ∧ x.life = 0 ∧ x.change = none ∧
      x.commitResult = ruleResult 45 0 ∧
      t = { s.part with pools := t.pools, members := t.members, log := t.log, dict := t.dict, tow := t.tow, out := t.out }) := by
  refine runs_onPart (g := copyWritten p.val k.val false) rfl ?_
  rw [copyWritten_abandons h hch hlisted hnew hann hfailed hlost hshort]
  generalize hs1 : s.part.modPool p.val (fun x => { x with change := some { ch with failed := ch.failed ++ [k.val] } }) = s1
  have hpool1 : s1.pool? p.val = some { ps with change := some { ch with failed := ch.failed ++ [k.val] } } :=
    hs1 ▸ Part.modPool_of_pool? h _ (fun _ => rfl)
  rw [abandonChange_fails hpool1 rfl hcreation]
  refine ⟨_, failCreation_pool? (ps := { ps with change := some { ch with failed := ch.failed ++ [k.val] } }) _
    (by rw [abandonNoted, noted_recorded]; exact hpool1), rfl, rfl, rfl, ?_⟩
  rw [failCreation_only, abandonNoted, noted_recorded, ← hs1]
  rfl

end

/-- Settles O11: a copy that is written counts through `commitIfMajority`, which commits, waits or abandons; an abandoned change is
restored by `restoreGeneration`, a creation fails by `failCreation`. -/
theorem charterCopiesCommit : Obligations.CharterCopiesCommit := by
  unfold Obligations.CharterCopiesCommit
  intro p k s ps ch h hch hlisted hnew hann
  exact ⟨fun hmaj hpair => copyWritten_commits h hch hlisted hnew hann hmaj hpair,
    fun hmaj hleft => copyWritten_waits h hch hlisted hnew hann hmaj hleft,
    fun hfailed hlost hshort hrestoring =>
      ⟨fun hcreation => copyWritten_restores h hch hlisted hnew hann hfailed hlost hshort hcreation hrestoring,
       fun hcreation => copyWritten_creationFails h hch hlisted hnew hann hfailed hlost hshort hcreation⟩⟩

end Sys2Proof.Machine
end

section
/-! SUPPORT. Pools begin and end, and a member is released (02: R23 to R26, R29; 08: R191; 15: R361), with the statement of
`PoolsBeginAndEnd`. -/

namespace Sys2Proof.Machine

/-! ### Requests that pass, and their answers (R361) -/

theorem checked_allowed {q : Req} {need : Nat} {scope : Option (Nat × Nat)} {s : Part} (h : Allowed s q need scope)
    (k : Part → Part) : checked q need scope k s = k s := by
  obtain ⟨x, hopen, hrole, hlock⟩ := h
  exact checked_of q need scope k s x hopen hrole hlock

theorem keepWritten_only (index sub v : Nat) (s : Part) :
    keepWritten index sub v s = { s with dict := (keepWritten index sub v s).dict } := by
  unfold keepWritten
  split <;> rfl

theorem okCommit_only (q : Req) (sc : Nat × Nat) (s : Part) : okCommit q sc s =
    { s with dict := (okCommit q sc s).dict, out := (okCommit q sc s).out, fn0 := (okCommit q sc s).fn0, fn1 := (okCommit q sc s).fn1 } := by
  apply Part.ext_fields <;> simp

theorem refuseRule_only (q : Req) (rule item : Nat) (s : Part) : refuseRule q rule item s =
    { s with dict := (refuseRule q rule item s).dict, out := (refuseRule q rule item s).out
             fn0 := (refuseRule q rule item s).fn0, fn1 := (refuseRule q rule item s).fn1 } := by
  apply Part.ext_fields <;> simp

theorem refuseRule_answers (q : Req) (rule item : Nat) (s : Part) :
    Answers (refuseRule q rule item s) stRule (ruleDetail rule item) :=
  ⟨_, (respondValue_frame q stRule (ruleDetail rule item) [] _ s).1, rfl, rfl⟩

theorem keepWritten_refuseRule (index sub v : Nat) (q : Req) (rule item : Nat) (s : Part) :
    keepWritten index sub v (refuseRule q rule item s) = refuseRule q rule item s :=
  keepWritten_refused index sub v q stRule (ruleDetail rule item) s (by decide) (by decide)

/-! ### A pool begins (R23, R24, R26) -/

theorem Part.putPool_pool? (s : Part) (x : PoolSt) : (s.putPool x).pool? x.id = some x := by
  have hnone : (s.pools.filter (fun y => y.id != x.id)).find? (fun y => y.id == x.id) = none := by
    simp [List.find?_eq_none]
  simp [Part.putPool, Part.pool?, List.find?_append, hnone]

theorem newCharter_members (s : Part) (p : Nat) (ids : List Nat) (uuid seed : Bytes) :
    (newCharter s p ids uuid seed).members.map (·.id) = ids ∧ ∀ m ∈ (newCharter s p ids uuid seed).members, m.state = 2 := by
  refine ⟨List.ext_getElem (by simp [newCharter]) (by simp [newCharter]), fun m hm => ?_⟩
  obtain ⟨i, hi, rfl⟩ := List.mem_mapIdx.mp hm
  rfl

/-- The part once UUID and seed of a new pool are drawn. -/
def poolDrawn (s : Part) : Part := ((s.draw 16).2.draw 4).2

/-- The first generation of the pool that the staged definition describes. -/
def firstGeneration (p : Nat) (s : Part) : Charter :=
  newCharter (poolDrawn s) p (bitmapIds (s.objBlob (poolIdx p 0x10) 7)) (s.draw 16).1 ((s.draw 16).2.draw 4).1

/-- The part once the pool is COMMITTING, its first generation on the way. -/
def poolBegun (p : Nat) (s : Part) : Part :=
  writeGeneration p (firstGeneration p s) none false true
    ((poolDrawn s).putPool { PoolSt.begin_ (firstGeneration p s) 1 with highGen := 0 })

theorem createPool_begins {p : Nat} {s : Part} (q : Req)
    (hr : createRefusal s p (bitmapIds (s.objBlob (poolIdx p 0x10) 7)) = none) :
    createPool q p s = okCommit q (scopePool p) (poolBegun p s) := by
  unfold createPool
  simp only [hr]
  rfl

theorem createPool_refused {p r i : Nat} {s : Part} (q : Req)
    (hr : createRefusal s p (bitmapIds (s.objBlob (poolIdx p 0x10) 7)) = some (r, i)) :
    createPool q p s = refusePool q p r i s := by
  unfold createPool
  simp only [hr]

theorem poolCommitEff_creates {q : Req} {p : Nat} {s : Part} (h : Allowed s q roleCustodian (some (scopePool p)))
    (hnew : ∀ x, s.pool? p = some x → x.life = 0) :
    poolCommitEff q p s = keepWritten (poolIdx p 0) 3 1 (createPool q p s) := by
  unfold poolCommitEff
  rw [checked_allowed h]
  cases hp : s.pool? p with
  | none => rfl
  | some x => simp only [hnew x hp, if_true]

theorem poolBegun_pool? (p : Nat) (s : Part) : ∃ x ch, (poolBegun p s).pool? p = some x ∧ x.life = 1 ∧ x.change = some ch ∧
    ch.creation = true ∧ ch.charter = firstGeneration p s :=
  ⟨_, _, writeGeneration_pool? (Part.putPool_pool? (poolDrawn s) { PoolSt.begin_ (firstGeneration p s) 1 with highGen := 0 }) _ _ _ _,
    rfl, rfl, rfl, rfl⟩

theorem poolBegun_only (p : Nat) (s : Part) : poolBegun p s =
    { s with pools := (poolBegun p s).pools, members := (poolBegun p s).members, toll := (poolBegun p s).toll } := by
  rw [poolBegun, writeGeneration_only]
  rfl

theorem poolCommit_begins {q : Req} {p : PoolId} {s : State} (h : Allowed s.part q roleCustodian (some (scopePool p.val)))
    (hnew : ∀ x, s.part.pool? p.val = some x → x.life = 0)
    (hr : createRefusal s.part p.val (bitmapIds (s.part.objBlob (poolIdx p.val 0x10) 7)) = none) :
    Runs (.poolCommit q p) s (fun t => t.answer = some stOk ∧ (∃ x ch, t.pool? p.val = some x ∧ x.life = 1 ∧
      x.change = some ch ∧ ch.creation = true ∧ ch.charter.gen = 1 ∧ ch.charter.initDone = false ∧ ch.charter.vols = [] ∧
      ch.charter.members.map (·.id) = bitmapIds (s.part.objBlob (poolIdx p.val 0x10) 7) ∧
      (∀ m ∈ ch.charter.members, m.state = 2)) ∧
      t = { s.part with pools := t.pools, members := t.members, toll := t.toll, dict := t.dict, out := t.out,
                        fn0 := t.fn0, fn1 := t.fn1 }) := by
  refine runs_onPart (g := poolCommitEff q p.val) rfl ?_
  rw [poolCommitEff_creates h hnew, createPool_begins q hr]
  obtain ⟨x, ch, hx, hlife, hch, hcreation, hcharter⟩ := poolBegun_pool? p.val s.part
  obtain ⟨hids, hactive⟩ := newCharter_members (poolDrawn s.part) p.val (bitmapIds (s.part.objBlob (poolIdx p.val 0x10) 7))
    (s.part.draw 16).1 ((s.part.draw 16).2.draw 4).1
  refine ⟨by simp [Part.answer], ⟨x, ch, by simpa using hx, hlife, hch, hcreation, ?_⟩, ?_⟩
  · rw [hcharter]
    exact ⟨rfl, rfl, rfl, hids, hactive⟩
  · rw [keepWritten_only, okCommit_only, poolBegun_only]

theorem setPoolResult_pool? {p : Nat} {s : Part} (hnew : ∀ x, s.pool? p = some x → x.life = 0) (result : Nat) :
    ∃ x, (setPoolResult p result s).pool? p = some x ∧ x.life = 0 ∧ x.commitResult = result := by
  unfold setPoolResult
  cases hp : s.pool? p with
  | none => exact ⟨_, Part.putPool_pool? s { PoolSt.begin_ (Charter.none_ p) 0 with commitResult := result }, rfl, rfl⟩
  | some x => exact ⟨_, Part.modPool_of_pool? hp _ (fun _ => rfl), hnew x hp, rfl⟩

theorem setPoolResult_only (p result : Nat) (s : Part) :
    setPoolResult p result s = { s with pools := (setPoolResult p result s).pools } := by
  unfold setPoolResult
  split <;> rfl

theorem poolCommit_refused {q : Req} {p : PoolId} {s : State} {r i : Nat}
    (h : Allowed s.part q roleCustodian (some (scopePool p.val))) (hnew : ∀ x, s.part.pool? p.val = some x → x.life = 0)
    (hr : createRefusal s.part p.val (bitmapIds (s.part.objBlob (poolIdx p.val 0x10) 7)) = some (r, i)) :
    Runs (.poolCommit q p) s (fun t => t.answer = some stRule ∧ (∃ x, t.pool? p.val = some x ∧ x.life = 0 ∧
      x.commitResult = ruleResult r i) ∧
      t = { s.part with pools := t.pools, dict := t.dict, out := t.out, fn0 := t.fn0, fn1 := t.fn1 }) := by
  refine runs_onPart (g := poolCommitEff q p.val) rfl ?_
  rw [poolCommitEff_creates h hnew, createPool_refused q hr, refusePool, keepWritten_refuseRule]
  refine ⟨by simp [Part.answer], by simpa using setPoolResult_pool? hnew (ruleResult r i), ?_⟩
  rw [refuseRule_only, setPoolResult_only]

/-! ### A member is released (R25) -/

theorem updBy_updBy {α : Type} {p : α → Bool} {g : α → α} (g' : α → α) (hg : ∀ x, p (g x) = p x) (l : List α) :
    updBy p g' (updBy p g l) = updBy p (fun x => g' (g x)) l := by
  simp only [updBy, List.map_map]
  refine List.map_congr_left fun x _ => ?_
  by_cases hx : p x <;> simp [hx, hg]

/-- `t` is `s` with member `k` changed but for its id. -/
def ReshapesMember (k : Nat) (s t : Part) : Prop := ∃ g : MemberSt → MemberSt, t = s.modMember k g ∧ ∀ x, (g x).id = x.id

theorem ReshapesMember.modMember {k : Nat} {s t : Part} (h : ReshapesMember k s t) (g' : MemberSt → MemberSt) :
    ∃ g : MemberSt → MemberSt, t.modMember k g' = s.modMember k (fun x => g' (g x)) ∧ ∀ x, (g x).id = x.id := by
  obtain ⟨g, rfl, hg⟩ := h
  refine ⟨g, ?_, hg⟩
  rw [Part.modMember, Part.modMember, updBy_updBy g' (fun x => by rw [hg])]
  rfl

theorem ReshapesMember.enqueueCmd {k : Nat} {s t : Part} (h : ReshapesMember k s t) (op : MOp) (cls : Nat) (nonQueued fua : Bool)
    (mba count : Nat) : ReshapesMember k s (enqueueCmd k op cls nonQueued fua mba count t) := by
  obtain ⟨g, hg, hid⟩ := h.modMember (fun m => { m with
    nextTag := m.nextTag + 1, waiting := m.waiting ++ [m.nextCmd op cls nonQueued fua mba count] })
  exact ⟨_, hg, fun x => hid x⟩

theorem ReshapesMember.refl (k : Nat) (s : Part) : ReshapesMember k s s :=
  ⟨id, by simp [Part.modMember, updBy], fun _ => rfl⟩

/-- A member that a release has left: a label with IN_POOL 0 and no charter copy. -/
def MemberSt.Released (y : MemberSt) : Prop := y.charterA = none ∧ y.charterB = none ∧ ∃ l, y.label = .good l ∧ l.inPool = false

theorem MemberSt.release_released (s : Part) (m : MemberSt) : (m.release s).Released := ⟨rfl, rfl, _, rfl, rfl⟩

/-- A release changes the member itself alone. -/
theorem releaseMember_modMember (k : Nat) (s : Part) : ∃ g : MemberSt → MemberSt, releaseMember k s = s.modMember k g ∧
    (∀ x, (g x).id = x.id) ∧ ∀ x, (g x).Released := by
  have hqueued : ReshapesMember k s (releaseQueued k s) :=
    ((((ReshapesMember.refl k s).enqueueCmd ..).enqueueCmd ..).enqueueCmd ..).enqueueCmd ..
  obtain ⟨g, hg, hid⟩ := hqueued.modMember (MemberSt.release (releaseQueued k s))
  exact ⟨_, (releaseMember_eq k s).trans hg, fun x => hid x, fun x => MemberSt.release_released _ _⟩

theorem releaseMember_member?_ne {j k : Nat} (h : j ≠ k) (s : Part) : (releaseMember k s).member? j = s.member? j := by
  obtain ⟨g, hg, hid, -⟩ := releaseMember_modMember k s
  rw [hg, Part.modMember_member?_ne s g hid h]

theorem releaseMember_released {k : Nat} {s : Part} {y : MemberSt} (h : (releaseMember k s).member? k = some y) : y.Released := by
  obtain ⟨g, hg, hid, hrel⟩ := releaseMember_modMember k s
  rw [hg, Part.modMember_member? s k g hid] at h
  obtain ⟨m, -, rfl⟩ := Option.map_eq_some_iff.mp h
  exact hrel m

theorem releaseMembers_keep {j : Nat} (l : List Nat) : ∀ s : Part, (∀ y, s.member? j = some y → y.Released) →
    ∀ y, (l.foldl (fun st k => releaseMember k st) s).member? j = some y → y.Released := by
  induction l with
  | nil => exact fun _ h => h
  | cons k l ih =>
    intro s h
    rw [List.foldl_cons]
    refine ih (releaseMember k s) fun y hy => ?_
    by_cases hj : j = k
    · exact releaseMember_released (hj ▸ hy)
    · exact h y (by rwa [releaseMember_member?_ne hj] at hy)

/-- Every member of the list is released. -/
theorem releaseMembers_released {j : Nat} {l : List Nat} (h : j ∈ l) : ∀ s : Part,
    ∀ y, (l.foldl (fun st k => releaseMember k st) s).member? j = some y → y.Released := by
  induction l with
  | nil => exact absurd h List.not_mem_nil
  | cons k l ih =>
    intro s
    rw [List.foldl_cons]
    by_cases hj : j = k
    · subst hj
      exact releaseMembers_keep l _ fun y => releaseMember_released
    · exact ih ((List.mem_cons.mp h).resolve_left hj) _

/-! ### A pool ends (R29) -/

theorem deletePool_pool? (p : Nat) (ps : PoolSt) (s : Part) : ∃ x, (deletePool p ps s).pool? p = some x ∧ x.life = 0 :=
  ⟨_, Part.putPool_pool? _ { PoolSt.begin_ (Charter.none_ p) 0 with commitResult := 0 }, rfl⟩

theorem deletePool_member? (p : Nat) (ps : PoolSt) (s : Part) (j : Nat) : (deletePool p ps s).member? j =
    (((ps.charter.members.map (·.id)).filter (fun k => s.takes k)).foldl (fun st k => releaseMember k st) s).member? j := rfl

theorem deletePool_only (p : Nat) (ps : PoolSt) (s : Part) : deletePool p ps s =
    { s with pools := (deletePool p ps s).pools, members := (deletePool p ps s).members, man := (deletePool p ps s).man } := by
  rw [deletePool, releaseMembers_only]
  rfl

theorem deletePool_manifest (p : Nat) (ps : PoolSt) (s : Part) :
    (∀ e ∈ (deletePool p ps s).man.entries, e.pool ≠ p) ∧ ∀ b ∈ (deletePool p ps s).man.held, b.pool ≠ p := by
  rw [deletePool, releaseMembers_only]
  exact ⟨fun e he => by simpa using (List.mem_filter.mp he).2, fun b hb => by simpa using (List.mem_filter.mp hb).2⟩

theorem poolDeleteEff_deletes {q : Req} {p : Nat} {s : Part} {ps : PoolSt} (h : Allowed s q roleCustodian (some (scopePool p)))
    (hp : s.pool? p = some ps) (hlife : ps.life ≠ 0) (hlatest : ps.latest.vols = []) (hvols : ps.charter.vols = [])
    (howned : ps.owned = true) :
    poolDeleteEff q p s = keepWritten (poolIdx p 0) 3 2 (okCommit q (scopePool p) (deletePool p ps s)) := by
  unfold poolDeleteEff
  rw [checked_allowed h]
  simp [hp, hlife, hlatest, hvols, howned]

theorem poolDelete_ends {q : Req} {p : PoolId} {s : State} {ps : PoolSt}
    (h : Allowed s.part q roleCustodian (some (scopePool p.val))) (hp : s.part.pool? p.val = some ps) (hlife : ps.life ≠ 0)
    (hlatest : ps.latest.vols = []) (hvols : ps.charter.vols = []) (howned : ps.owned = true) :
    Runs (.poolDelete q p) s (fun t => t.answer = some stOk ∧ (∃ x, t.pool? p.val = some x ∧ x.life = 0) ∧
      (∀ e ∈ t.man.entries, e.pool ≠ p.val) ∧ (∀ b ∈ t.man.held, b.pool ≠ p.val) ∧
      (∀ m ∈ ps.charter.members, s.part.takes m.id = true → ∀ y, t.member? m.id = some y →
        y.charterA = none ∧ y.charterB = none ∧ ∃ l, y.label = .good l ∧ l.inPool = false) ∧
      t = { s.part with pools := t.pools, members := t.members, man := t.man, dict := t.dict, out := t.out,
                        fn0 := t.fn0, fn1 := t.fn1 }) := by
  refine runs_onPart (g := poolDeleteEff q p.val) rfl ?_
  rw [poolDeleteEff_deletes h hp hlife hlatest hvols howned]
  obtain ⟨hentries, hheld⟩ := deletePool_manifest p.val ps s.part
  refine ⟨by simp [Part.answer], by simpa using deletePool_pool? p.val ps s.part, by simpa using hentries,
    by simpa using hheld, fun m hm htakes y hy => ?_, ?_⟩
  · have hmem : m.id ∈ (ps.charter.members.map (·.id)).filter (fun k => s.part.takes k) :=
      List.mem_filter.mpr ⟨List.mem_map_of_mem hm, htakes⟩
    exact releaseMembers_released hmem s.part y (by simpa [deletePool_member?] using hy)
  · rw [keepWritten_only, okCommit_only, deletePool_only]

/-! ### MEMBER_RELEASE and the conflicting member (R25, R191) -/

/-- A member whose label bears id `k`, held back as conflicting. -/
def MemberSt.conflictsWith (k : Nat) (m : MemberSt) : Bool :=
  m.state == 0xFE && (match m.label with
    | .good l => l.inPool && l.memberId == k
    | _ => false)

theorem Part.conflictingFor_eq (s : Part) (k : Nat) : s.conflictingFor k = s.members.find? (MemberSt.conflictsWith k) := rfl

theorem MemberSt.Released.not_conflictsWith {y : MemberSt} (h : y.Released) (k : Nat) : y.conflictsWith k = false := by
  obtain ⟨-, -, l, hl, hin⟩ := h
  simp [MemberSt.conflictsWith, hl, hin]

/-- The first entry that `q` picks is still the first when entries other than it change to ones that `q` does not pick. -/
theorem find?_updBy_unpicked {α : Type} {p q : α → Bool} {g : α → α} (hg : ∀ x, q (g x) = false) {x : α} (hx : p x = false) :
    ∀ {l : List α}, l.find? q = some x → (updBy p g l).find? q = some x := by
  intro l
  induction l with
  | nil => exact fun h => h
  | cons a l ih =>
    intro h
    rw [updBy, List.map_cons]
    by_cases ha : q a
    · obtain rfl : a = x := by simpa [ha] using h
      simp [hx, ha]
    · have hhead : q (if p a then g a else a) = false := by split <;> simp [hg, ha]
      rw [List.find?_cons_of_neg (by simp [hhead])]
      exact ih (by simpa [ha] using h)

theorem releaseMember_conflictingFor_none {k : Nat} {s : Part} (h : s.conflictingFor k = none) :
    (releaseMember k s).conflictingFor k = none := by
  obtain ⟨g, hg, -, hrel⟩ := releaseMember_modMember k s
  rw [hg, Part.conflictingFor_eq, List.find?_eq_none]
  rw [Part.conflictingFor_eq, List.find?_eq_none] at h
  intro y hy
  obtain ⟨m, hm, rfl⟩ := List.mem_map.mp hy
  split
  · simp [(hrel m).not_conflictsWith k]
  · exact h m hm

theorem releaseMember_conflictingFor_some {k : Nat} {s : Part} {x : MemberSt} (h : s.conflictingFor k = some x) (hx : x.id ≠ k) :
    (releaseMember k s).conflictingFor k = some x := by
  obtain ⟨g, hg, -, hrel⟩ := releaseMember_modMember k s
  rw [hg]
  exact find?_updBy_unpicked (fun m => (hrel m).not_conflictsWith k) (by simpa using hx) h

/-- The id that a member with id `n` has once `a` and `b` have changed ids. -/
def swappedId (a b n : Nat) : Nat := if n = a then b else if n = b then a else n

theorem swapIds_members (a b : Nat) (s : Part) :
    (swapIds a b s).members = s.members.map (fun m => { m with id := swappedId a b m.id }) := rfl

theorem swappedId_eq_right (a b n : Nat) : swappedId a b n = b ↔ n = a := by
  by_cases hab : n = a
  · simp [swappedId, hab]
  · by_cases hb : n = b <;> simp [swappedId, hab, hb]
    omega

theorem swappedId_eq_left (a b n : Nat) : swappedId a b n = a ↔ n = b := by
  by_cases hab : n = a
  · simp [swappedId, hab, eq_comm]
  · by_cases hb : n = b <;> simp [swappedId, hab, hb]

theorem swapIds_member?_of_id {a b c d : Nat} (h : ∀ n, swappedId a b n = d ↔ n = c) (s : Part) :
    (swapIds a b s).member? d = (s.member? c).map (fun m => { m with id := d }) := by
  have hpick : ((fun x : MemberSt => x.id == d) ∘ fun m : MemberSt => { m with id := swappedId a b m.id }) = fun x => x.id == c :=
    funext fun m => by simp [h]
  rw [Part.member?, swapIds_members, List.find?_map, hpick, Part.member?]
  cases hm : s.members.find? (fun x => x.id == c) with
  | none => rfl
  | some m =>
    have hid : m.id = c := by simpa using List.find?_some hm
    rw [Option.map_some, Option.map_some, (h m.id).mpr hid]

/-- Members `a` and `b` change ids, and no others. -/
theorem swapIds_member? (a b : Nat) (s : Part) :
    (swapIds a b s).member? b = (s.member? a).map (fun m => { m with id := b }) ∧
    (swapIds a b s).member? a = (s.member? b).map (fun m => { m with id := a }) :=
  ⟨swapIds_member?_of_id (swappedId_eq_right a b) s, swapIds_member?_of_id (swappedId_eq_left a b) s⟩

/-- What the end of a conflict leaves: the member that conflicted with `k` has its id and is PRESENT, the other the one it had. -/
theorem settleConflict_some {k : Nat} {s : Part} {x : MemberSt} (h : s.conflictingFor k = some x) (hx : x.id ≠ k) :
    (settleConflict k s).member? x.id = (s.member? k).map (fun m => { m with id := x.id }) ∧
    (settleConflict k s).member? k = (s.member? x.id).map (fun m => { m with id := k, state := 1, presentAt := s.timeUs }) := by
  obtain ⟨hswapped, hback⟩ := swapIds_member? k x.id s
  have heq : settleConflict k s = (swapIds k x.id s).modMember k (fun m => { m with state := 1, presentAt := s.timeUs }) := by
    rw [settleConflict, h]
  rw [heq]
  refine ⟨?_, ?_⟩
  · rw [Part.modMember_member?_ne (swapIds k x.id s) (fun m => { m with state := 1, presentAt := s.timeUs }) (fun _ => rfl) hx, hswapped]
  · rw [Part.modMember_member? (swapIds k x.id s) k (fun m => { m with state := 1, presentAt := s.timeUs }) (fun _ => rfl), hback,
      Option.map_map]
    rfl

theorem settleConflict_none {k : Nat} {s : Part} (h : s.conflictingFor k = none) : settleConflict k s = s := by
  rw [settleConflict, h]

theorem settleConflict_only (k : Nat) (s : Part) :
    settleConflict k s = { s with members := (settleConflict k s).members, fabric := (settleConflict k s).fabric } := by
  unfold settleConflict
  split <;> rfl

theorem memberReleaseEff_releases {q : Req} {k : Nat} {s : Part} {m : MemberSt} (h : Allowed s q roleCustodian none)
    (hfree : s.memberNamed k = false) (hm : s.member? k = some m) (hup : m.linkUp = true) (hstate : m.state ≠ 0) :
    memberReleaseEff q k s = keepWritten (0x6000 + k) 0x15 1 (ok q (settleConflict k (releaseMember k s))) := by
  unfold memberReleaseEff
  rw [checked_allowed h]
  simp [hfree, hm, hup, hstate]

theorem releaseMember_some {k : Nat} {s : Part} {m : MemberSt} (hm : s.member? k = some m) :
    ∃ y, (releaseMember k s).member? k = some y ∧ y.Released := by
  obtain ⟨g, hg, hid, hrel⟩ := releaseMember_modMember k s
  exact ⟨g m, by rw [hg, Part.modMember_member? s k g hid, hm, Option.map_some], hrel m⟩

theorem memberRelease_releases {q : Req} {k : MemberId} {s : State} {m : MemberSt} (h : Allowed s.part q roleCustodian none)
    (hfree : s.part.memberNamed k.val = false) (hm : s.part.member? k.val = some m) (hup : m.linkUp = true) (hstate : m.state ≠ 0) :
    Runs (.memberRelease q k) s (fun t => t.answer = some stOk ∧
      (∀ j, (s.part.conflictingFor k.val = none ∧ j = k.val ∨ ∃ x, s.part.conflictingFor k.val = some x ∧ x.id ≠ k.val ∧ j = x.id) →
        ∃ y, t.member? j = some y ∧ y.charterA = none ∧ y.charterB = none ∧ ∃ l, y.label = .good l ∧ l.inPool = false) ∧
      (∀ x, s.part.conflictingFor k.val = some x → x.id ≠ k.val → ∃ z, t.member? k.val = some z ∧ z.state = 1) ∧
      t = { s.part with fn0 := t.fn0, fn1 := t.fn1, members := t.members, fabric := t.fabric, dict := t.dict, out := t.out }) := by
  refine runs_onPart (g := memberReleaseEff q k.val) rfl ?_
  rw [memberReleaseEff_releases h hfree hm hup hstate]
  obtain ⟨y, hy, hreleased⟩ := releaseMember_some hm
  have hmember : ∀ j, (keepWritten (0x6000 + k.val) 0x15 1 (ok q (settleConflict k.val (releaseMember k.val s.part)))).member? j =
      (settleConflict k.val (releaseMember k.val s.part)).member? j := fun j => by simp
  refine ⟨by simp [Part.answer], fun j hj => ?_, fun x hx hne => ?_, ?_⟩
  · rw [hmember]
    rcases hj with ⟨hnone, rfl⟩ | ⟨x, hx, hne, rfl⟩
    · rw [settleConflict_none (releaseMember_conflictingFor_none hnone)]
      exact ⟨y, hy, hreleased⟩
    · rw [(settleConflict_some (releaseMember_conflictingFor_some hx hne) hne).1, hy]
      exact ⟨_, rfl, hreleased⟩
  · rw [hmember, (settleConflict_some (releaseMember_conflictingFor_some hx hne) hne).2, releaseMember_member?_ne hne]
    obtain ⟨z, hz⟩ : ∃ z, s.part.member? x.id = some z :=
      Option.isSome_iff_exists.mp (List.find?_isSome.mpr ⟨x, List.mem_of_find?_eq_some hx, by simp⟩)
    rw [hz]
    exact ⟨_, rfl, rfl⟩
  · rw [keepWritten_only, ok_only, settleConflict_only, releaseMember_membersOnly]

/-- Settles O12: a creation is answered once `writeGeneration` has begun it, a refusal names its rule, a deletion releases by
`releaseMember` and erases, and a release settles the conflict by `swapIds`. -/
theorem poolsBeginAndEnd : Obligations.PoolsBeginAndEnd := by
  unfold Obligations.PoolsBeginAndEnd
  intro q p k s
  exact ⟨fun h => ⟨fun hnew => ⟨fun hr => poolCommit_begins h hnew hr, fun r i hr => poolCommit_refused h hnew hr⟩,
      fun ps hp hlife hlatest hvols howned => poolDelete_ends h hp hlife hlatest hvols howned⟩,
    fun m h hfree hm hup hstate => memberRelease_releases h hfree hm hup hstate⟩

end Sys2Proof.Machine
end

section
/-! SUPPORT. What work on a stripe leaves alone (04: R82 to R88; 05: R107, R121; 06: R131 to R148; 07: R156 to R165). Three views of the
part, each finer than the one before: `Part.backdrop` for all of that work, `Part.structures` for a destage's progress once it is
staged, `Part.books` for what is only put on record. -/

namespace Sys2Proof.Machine

/-! ### The three views -/

/-- A pool but for its integrity and rebuild records. -/
def PoolSt.bare (x : PoolSt) : PoolSt := { x with int := PoolInt.empty, reb := PoolReb.empty }

/-- A pool but for its integrity and rebuild records and the stripes that wait for an extension. -/
def PoolSt.standing (x : PoolSt) : PoolSt := { x.bare with ckpt := { x.ckpt with ready := [] } }

/-- A member but for the commands in its queue. -/
def MemberSt.bare (m : MemberSt) : MemberSt := { m with nextTag := 0, waiting := [] }

/-- What no work on a stripe touches, short of an encoding. -/
def Part.backdrop (s : Part) : Nat × List IslandSt × List BridgeSt × Nat × Nat × Nat × Nat × FabricSt × FleetSt × TollSt × PairSt ×
    DumpSt × CalSt × FwSt × List PoolSt :=
  (s.timeUs, s.islands, s.bridges, s.chainSplit, s.tableGen, s.peerBar, s.subsysId, s.fabric, s.fleet, s.toll, s.pair, s.dump, s.cal,
    s.fw, s.pools.map PoolSt.standing)

/-- The backdrop, with the pools but for their records and the members but for their queues. -/
def Part.structures (s : Part) :=
  (s.backdrop, s.pools.map PoolSt.bare, s.members.map MemberSt.bare)

/-- The structures, with the scheduler's record, the Manifest and the members. -/
def Part.books (s : Part) := (s.structures, s.sched, s.man, s.members)

theorem Part.backdrop_of_structures {s t : Part} (h : t.structures = s.structures) : t.backdrop = s.backdrop := congrArg Prod.fst h

theorem Part.structures_of_books {s t : Part} (h : t.books = s.books) : t.structures = s.structures := congrArg Prod.fst h

theorem Part.backdrop_of_books {s t : Part} (h : t.books = s.books) : t.backdrop = s.backdrop :=
  Part.backdrop_of_structures (Part.structures_of_books h)

theorem Part.man_of_books {s t : Part} (h : t.books = s.books) : t.man = s.man := congrArg (fun x => x.2.2.1) h

theorem Part.sched_of_books {s t : Part} (h : t.books = s.books) : t.sched = s.sched := congrArg (fun x => x.2.1) h

theorem Part.members_of_books {s t : Part} (h : t.books = s.books) : t.members = s.members := congrArg (fun x => x.2.2.2) h

/-- What work on a stripe can reach. -/
theorem Part.backdrop_only {s t : Part} (h : t.backdrop = s.backdrop) :
    t = { s with sched := t.sched, man := t.man, chains := t.chains, fn0 := t.fn0, fn1 := t.fn1, pools := t.pools, vols := t.vols
                 members := t.members, tow := t.tow, dict := t.dict, log := t.log, out := t.out } := by
  simp only [Part.backdrop, Prod.mk.injEq] at h
  apply Part.ext_fields <;> simp only [h]

theorem map_find?_of_map_eq {α β : Type} {f : α → β} {l l' : List α} (h : l'.map f = l.map f) {p : α → Bool} {q : β → Bool}
    (hp : ∀ x, q (f x) = p x) : (l'.find? p).map f = (l.find? p).map f := by
  obtain rfl : p = q ∘ f := funext fun x => (hp x).symm
  rw [← List.find?_map, ← List.find?_map, h]

theorem exists_of_map_eq_some {α β : Type} {f : α → β} {o o' : Option α} (h : o'.map f = o.map f) {x : α} (hx : o = some x) :
    ∃ y, o' = some y ∧ f y = f x := by
  rw [hx] at h
  exact Option.map_eq_some_iff.mp h

theorem Part.pools_of_backdrop {s t : Part} (h : t.backdrop = s.backdrop) :
    t.pools.map PoolSt.standing = s.pools.map PoolSt.standing := by
  simp only [Part.backdrop, Prod.mk.injEq] at h
  simp only [h]

/-- A pool after work on a stripe stands as it stood before. -/
theorem Part.pool?_of_backdrop {s t : Part} (h : t.backdrop = s.backdrop) {p : Nat} {ps : PoolSt} (hp : s.pool? p = some ps) :
    ∃ x, t.pool? p = some x ∧ x.standing = ps.standing :=
  exists_of_map_eq_some (map_find?_of_map_eq (q := fun x => x.id == p) (Part.pools_of_backdrop h) (fun _ => rfl)) hp

theorem Part.pool?_of_structures {s t : Part} (h : t.structures = s.structures) {p : Nat} {ps : PoolSt} (hp : s.pool? p = some ps) :
    ∃ x, t.pool? p = some x ∧ x.bare = ps.bare :=
  have hpools : t.pools.map PoolSt.bare = s.pools.map PoolSt.bare := congrArg (fun x => x.2.1) h
  exists_of_map_eq_some (map_find?_of_map_eq (q := fun x => x.id == p) hpools (fun _ => rfl)) hp

theorem Part.member?_of_members {s t : Part} (h : t.members.map MemberSt.bare = s.members.map MemberSt.bare) {k : Nat}
    {y : MemberSt} (hy : t.member? k = some y) : ∃ m, s.member? k = some m ∧ m.bare = y.bare :=
  exists_of_map_eq_some (map_find?_of_map_eq (q := fun x => x.id == k) h.symm (fun _ => rfl)) hy

theorem Part.members_of_structures {s t : Part} (h : t.structures = s.structures) :
    t.members.map MemberSt.bare = s.members.map MemberSt.bare := congrArg (fun x => x.2.2) h

/-! ### Updates -/

theorem map_updBy {α β : Type} {f : α → β} {p : α → Bool} {g : α → α} (hg : ∀ x, f (g x) = f x) (l : List α) :
    (updBy p g l).map f = l.map f := by
  rw [updBy, List.map_map]
  exact List.map_congr_left fun x _ => by by_cases hx : p x <;> simp [hx, hg]

theorem Part.modPool_backdrop {g : PoolSt → PoolSt} (hg : ∀ x, (g x).standing = x.standing) (s : Part) (p : Nat) :
    (s.modPool p g).backdrop = s.backdrop := by
  simp only [Part.backdrop, Part.modPool, map_updBy hg]

/-- A pool's integrity and rebuild records are no more than records. -/
theorem Part.modPool_books {g : PoolSt → PoolSt} (hg : ∀ x, (g x).bare = x.bare) (s : Part) (p : Nat) :
    (s.modPool p g).books = s.books := by
  have hstanding : ∀ x, (g x).standing = x.standing := fun x => congrArg (fun y : PoolSt => { y with ckpt := { y.ckpt with ready := [] } }) (hg x)
  simp only [Part.books, Part.structures, Part.modPool_backdrop hstanding]
  simp only [Part.modPool, map_updBy hg]

theorem Part.modMember_structures {g : MemberSt → MemberSt} (hg : ∀ m, (g m).bare = m.bare) (s : Part) (k : Nat) :
    (s.modMember k g).structures = s.structures := by
  simp only [Part.structures, Part.modMember, map_updBy hg]
  rfl

theorem foldl_books {α : Type} {op : Part → α → Part} (h : ∀ s x, (op s x).books = s.books) (l : List α) (s : Part) :
    (l.foldl op s).books = s.books := foldl_keeps op Part.books h l s

theorem foldl_structures {α : Type} {op : Part → α → Part} (h : ∀ s x, (op s x).structures = s.structures) (l : List α) (s : Part) :
    (l.foldl op s).structures = s.structures := foldl_keeps op Part.structures h l s

theorem foldl_backdrop {α : Type} {op : Part → α → Part} (h : ∀ s x, (op s x).backdrop = s.backdrop) (l : List α) (s : Part) :
    (l.foldl op s).backdrop = s.backdrop := foldl_keeps op Part.backdrop h l s

@[simp] theorem Part.modMan_structures (s : Part) (g : ManifestSt → ManifestSt) : (s.modMan g).structures = s.structures := rfl
@[simp] theorem Part.modSched_structures (s : Part) (g : SchedSt → SchedSt) : (s.modSched g).structures = s.structures := rfl
@[simp] theorem Part.modEntry_structures (s : Part) (p stripe : Nat) (g : MEntry → MEntry) :
    (s.modEntry p stripe g).structures = s.structures := rfl
@[simp] theorem dropEntry_structures (p stripe : Nat) (s : Part) : (dropEntry p stripe s).structures = s.structures := rfl
@[simp] theorem enqueueCmd_structures (k : Nat) (op : MOp) (cls : Nat) (nonQueued fua : Bool) (mba count : Nat) (s : Part) :
    (enqueueCmd k op cls nonQueued fua mba count s).structures = s.structures := by
  unfold enqueueCmd
  apply Part.modMember_structures
  exact fun _ => rfl

@[simp] theorem active_books (s : Part) : (active s).books = s.books := rfl

/-! ### The Logbook and completions -/

@[simp] theorem log_books (code inst : Nat) (d : Bytes) (s : Part) : (log code inst d s).books = s.books := by
  simp [Part.books, Part.structures, Part.backdrop]

@[simp] theorem noted_books (ss rule item : Nat) (d : Bytes) (s : Part) : (noted ss rule item d s).books = s.books := by
  simp [Part.books, Part.structures, Part.backdrop]

@[simp] theorem complete_books (c : Nat) (h : BitVec 32) (status : Nat) (info : BitVec 64) (s : Part) :
    (complete c h status info s).books = s.books := by
  simp [Part.books, Part.structures, Part.backdrop]

/-! ### Lost, divergent and repaired blocks (R131, R138, R145, R150) -/

@[simp] theorem raiseDeferred_books (vol lba cause : Nat) (s : Part) : (raiseDeferred vol lba cause s).books = s.books := rfl

@[simp] theorem enterLost_books (p : Nat) (e : LostEntry) (s : Part) : (enterLost p e s).books = s.books := by
  unfold enterLost
  split
  · rfl
  · split
    · rfl
    · have hlogged : (log 0x0802 p e.bytes (s.modPool p (fun x => { x with int := { x.int with lost := x.int.lost ++ [e] } }))).books =
          s.books := by
        rw [log_books]
        apply Part.modPool_books
        exact fun _ => rfl
      split
      · exact hlogged
      · exact hlogged

@[simp] theorem clearLost_books (p stripe i bo : Nat) (s : Part) : (clearLost p stripe i bo s).books = s.books := by
  unfold clearLost
  apply Part.modPool_books
  exact fun _ => rfl

@[simp] theorem clearDiverged_books (p stripe i bo : Nat) (s : Part) : (clearDiverged p stripe i bo s).books = s.books := by
  unfold clearDiverged
  apply Part.modPool_books
  exact fun _ => rfl

@[simp] theorem examineLater_books (p stripe : Nat) (s : Part) : (examineLater p stripe s).books = s.books := by
  unfold examineLater
  apply Part.modPool_books
  exact fun _ => rfl

@[simp] theorem recheckLater_books (p stripe bo : Nat) (blocked : Bool) (s : Part) :
    (recheckLater p stripe bo blocked s).books = s.books :=
  Part.modPool_books (fun x => by split <;> rfl) s p

@[simp] theorem recordDiverged_books (p : Nat) (d : DivEntry) (s : Part) : (recordDiverged p d s).books = s.books := by
  unfold recordDiverged
  split
  · rfl
  · split
    · rfl
    · rw [raiseDeferred_books, log_books]
      apply Part.modPool_books
      exact fun _ => rfl

@[simp] theorem settledByRank_books (p vol lba : Nat) (covered : Bool) (s : Part) :
    (settledByRank p vol lba covered s).books = s.books := by
  unfold settledByRank
  simp only []
  split <;> simp

@[simp] theorem blockDiverges_books (ps : PoolSt) (g : Geo) (stripe i bo : Nat) (s : Part) :
    (blockDiverges ps g stripe i bo s).books = s.books := by
  unfold blockDiverges
  split
  · split <;> simp
  · simp

@[simp] theorem repairedAt_books (ps : PoolSt) (g : Geo) (stripe i bo : Nat) (s : Part) :
    (repairedAt ps g stripe i bo s).books = s.books := by
  have hcount : ∀ vol lba member, (countRepaired ps.id vol lba member s).books = s.books := fun vol lba member => by
    unfold countRepaired
    rw [log_books]
    apply Part.modPool_books
    exact fun _ => rfl
  unfold repairedAt
  split <;> exact hcount _ _ _

/-! ### Decoding and settlement (R36, R412) -/

@[simp] theorem settleRank_books (ps : PoolSt) (g : Geo) (stripe bo : Nat) (reads : List StripRead) (units : List (Option Bytes))
    (low : List Bytes) (s : Part) : (settleRank ps g stripe bo reads units low s).part.books = s.books := by
  unfold settleRank
  split <;> simp

theorem settle_books (s : Part) (ps : PoolSt) (g : Geo) (stripe bo : Nat) (reads : List StripRead) (units : List (Option Bytes))
    (d : Decoded) : (settle s ps g stripe bo reads units d).part.books = s.books := by
  cases d with
  | beyond => rfl
  | clean u => rfl
  | wrong i u low =>
    unfold settle
    simp only []
    split
    · rfl
    · split
      · rfl
      · rfl
      · split <;> simp
      · simp
  | unsettled u =>
    have hall : ((List.range g.h.k).foldl (fun st i => blockDiverges ps g stripe i bo st) s).books = s.books :=
      foldl_books (fun st i => blockDiverges_books ps g stripe i bo st) _ s
    unfold settle
    simp only []
    split
    · rw [settleRank_books, hall]
    · exact hall

@[simp] theorem restoreOffset_books (s : Part) (ps : PoolSt) (g : Geo) (bad : BadReads) (stripe bo : Nat) :
    (restoreOffset s ps g bad stripe bo).2.part.books = s.books := settle_books ..

/-! ### The plan of a destage (R83 to R85) -/

theorem restoredOffset_books (ps : PoolSt) (g : Geo) (bad : BadReads) (stripe : Nat) (new : List (Nat × Nat × Block)) (bo : Nat)
    (s : Part) : (restoredOffset ps g bad stripe new bo s).2.books = s.books := by
  have hrestored := restoreOffset_books s ps g bad stripe bo
  unfold restoredOffset
  extract_lets reads unit
  split
  · split
    · rfl
    · exact foldl_books (fun t (e : Nat × LostEntry) => enterLost_books ps.id e.2 t) _ s
  · next r _ heq =>
    rw [heq] at hrestored
    split
    · exact hrestored
    · exact (foldl_books (fun t i => repairedAt_books ps g stripe i bo t) _ r.part).trans hrestored

theorem fillOffset_books (ps : PoolSt) (g : Geo) (bad : BadReads) (stripe : Nat) (new : List (Nat × Nat × Block)) (bo : Nat)
    (s : Part) : (fillOffset ps g bad stripe new bo s).2.books = s.books := by
  unfold fillOffset
  simp only []
  split
  · rfl
  · exact restoredOffset_books ..

theorem rmwOffset_books (ps : PoolSt) (g : Geo) (bad : BadReads) (stripe : Nat) (new : List (Nat × Nat × Block)) (bo : Nat)
    (s : Part) : (rmwOffset ps g bad stripe new bo s).2.books = s.books := by
  unfold rmwOffset
  simp only []
  split
  · rfl
  · split
    · rfl
    · exact restoredOffset_books ..

/-- The plan of a stripe puts on record what it finds, no more. -/
theorem planStripe_books (ps : PoolSt) (g : Geo) (bad : BadReads) (stripe : Nat) (rmw : Bool) (new : List (Nat × Nat × Block))
    (s : Part) : (planStripe ps g bad stripe rmw new s).2.books = s.books := by
  have hoffset : ∀ bo st, ((if rmw then rmwOffset else fillOffset) ps g bad stripe new bo st).2.books = st.books := fun bo st => by
    split
    · exact rmwOffset_books ..
    · exact fillOffset_books ..
  have hall : ∀ (l : List Nat) (acc : OffsetPlan), (l.foldl (fun (acc : OffsetPlan) bo =>
      match acc with
      | (none, st) => (none, st)
      | (some w, st) =>
        match (if rmw then rmwOffset else fillOffset) ps g bad stripe new bo st with
        | (some w2, st2) => (some (w ++ w2), st2)
        | (none, st2) => (none, st2)) acc).2.books = acc.2.books := fun l => by
    induction l with
    | nil => exact fun _ => rfl
    | cons bo l ih =>
      intro acc
      rw [List.foldl_cons, ih]
      obtain ⟨w, st⟩ := acc
      cases w with
      | none => rfl
      | some w =>
        have hbo := hoffset bo st
        simp only []
        split <;> simp_all
  unfold planStripe
  split
  · rfl
  · exact hall _ _

end Sys2Proof.Machine
end

section
/-! SUPPORT. What the destage of a stripe and its retirement leave alone: `Part.structures` (04: R85 to R88, R119). -/

namespace Sys2Proof.Machine

/-! ### The reach of work on stripes -/

/-- `t` differs from `s` at most in what work on stripes reaches, short of an encoding. -/
def WithinStripes (s t : Part) : Prop :=
  t = { s with sched := t.sched, man := t.man, chains := t.chains, fn0 := t.fn0, fn1 := t.fn1, pools := t.pools, vols := t.vols
               members := t.members, tow := t.tow, dict := t.dict, log := t.log, out := t.out }

theorem WithinStripes.of_backdrop {s t : Part} (h : t.backdrop = s.backdrop) : WithinStripes s t := Part.backdrop_only h

theorem WithinStripes.of_structures {s t : Part} (h : t.structures = s.structures) : WithinStripes s t :=
  .of_backdrop (Part.backdrop_of_structures h)

theorem WithinStripes.of_books {s t : Part} (h : t.books = s.books) : WithinStripes s t := .of_backdrop (Part.backdrop_of_books h)

theorem WithinStripes.of_members {s t : Part} (h : MembersOnly s t) : WithinStripes s t := by
  unfold WithinStripes
  rw [h]

theorem WithinStripes.modPool (s : Part) (p : Nat) (g : PoolSt → PoolSt) : WithinStripes s (s.modPool p g) := rfl

theorem WithinStripes.trans {s t u : Part} (h : WithinStripes s t) (h' : WithinStripes t u) : WithinStripes s u :=
  calc u = _ := h'
    _ = _ := by rw [h]

/-! ### Entries, their writes and the retirement -/

@[simp] theorem log_structures (code inst : Nat) (d : Bytes) (s : Part) : (log code inst d s).structures = s.structures :=
  Part.structures_of_books (log_books ..)

@[simp] theorem complete_structures (c : Nat) (h : BitVec 32) (status : Nat) (info : BitVec 64) (s : Part) :
    (complete c h status info s).structures = s.structures :=
  Part.structures_of_books (complete_books ..)

@[simp] theorem tellTwin_structures (p : Nat) (n : TwinNews) (s : Part) : (tellTwin p n s).structures = s.structures := by
  unfold tellTwin
  split
  · split <;> simp
  · rfl

@[simp] theorem refreshAdmitState_structures (s : Part) : (refreshAdmitState s).structures = s.structures := by
  unfold refreshAdmitState
  extract_lets new old
  split
  · rfl
  · exact (log_structures ..).trans (Part.modSched_structures ..)

@[simp] theorem settleEntry_structures (p stripe : Nat) (s : Part) : (settleEntry p stripe s).structures = s.structures := by
  unfold settleEntry
  split
  · rfl
  · simp only []
    split <;> simp

@[simp] theorem settleEntries_structures (l : List Held) (s : Part) : (settleEntries l s).structures = s.structures :=
  foldl_structures (fun _ _ => settleEntry_structures ..) _ s

@[simp] theorem issueStripWrites_structures (p stripe : Nat) (s : Part) : (issueStripWrites p stripe s).structures = s.structures := by
  unfold issueStripWrites
  split
  · exact foldl_structures (fun _ _ => enqueueCmd_structures ..) _ s
  · rfl

@[simp] theorem coverBlock_books (p stripe i bo : Nat) (s : Part) : (coverBlock p stripe i bo s).books = s.books := by
  unfold coverBlock
  simp only []
  split <;> simp

@[simp] theorem coverAll_books (l : List (Nat × Nat × Nat × Nat)) (s : Part) : (coverAll l s).books = s.books :=
  foldl_books (fun st _ => coverBlock_books _ _ _ _ st) l s

@[simp] theorem ackThrough_books (done : List (Nat × BitVec 32)) (s : Part) : (ackThrough done s).books = s.books := by
  refine foldl_books (fun st ch => ?_) _ s
  split
  · rfl
  · split
    · split <;> simp
    · rfl

@[simp] theorem failThrough_structures (ps : PoolSt) (stripe : Nat) (s : Part) :
    (failThrough ps stripe s).structures = s.structures := by
  have hends : ∀ (f : Nat × BitVec 32 → List (Nat × Nat)) (l : List (Nat × BitVec 32)), (l.foldl (fun st ch =>
      match f ch with
      | [] => st
      | x :: xs => complete ch.1 ch.2 0x30 (infoOf x.1 (xs.foldl (fun a b => min a b.2) x.2)) st) s).structures = s.structures :=
    fun f l => foldl_structures (fun st ch => by split <;> simp) l s
  unfold failThrough
  extract_lets mine cmds s1 s2
  have hs1 : s1.structures = s.structures := hends _ cmds
  have hs2 : s2.structures = s.structures := by simp [s2, hs1]
  split
  · split <;> simp [hs2]
  · exact hs2

@[simp] theorem resolutionsDone_books (p stripe : Nat) (s : Part) : (resolutionsDone p stripe s).books = s.books := by
  unfold resolutionsDone
  split
  · rfl
  · apply Part.modPool_books
    exact fun _ => rfl

@[simp] theorem keepClean_structures (e : MEntry) (gone : List Held) (s : Part) : (keepClean e gone s).structures = s.structures := rfl

theorem markStale_books (ps : PoolSt) (g : Geo) (stripe i : Nat) (written : List (Nat × Nat)) (s : Part) :
    (markStale ps g stripe i written s).books = s.books := by
  unfold markStale
  simp only []
  split
  · rfl
  · apply Part.modPool_books
    intro x
    split <;> rfl

@[simp] theorem retire_structures (p stripe : Nat) (s : Part) : (retire p stripe s).structures = s.structures := by
  unfold retire
  split
  · next ps e _ _ =>
    extract_lets g s1 isGone gone s2 s3 s4 s5 rest s6 s7
    have hs1 : s1.structures = s.structures :=
      Part.structures_of_books (foldl_books (fun st i => markStale_books ps g stripe i _ st) e.mask s)
    have hs2 : s2.structures = s1.structures := by
      apply Part.structures_of_books
      apply Part.modPool_books
      exact fun _ => rfl
    have hs5 : s5.structures = s1.structures := by simp [s5, s4, s3, hs2]
    have hs6 : s6.structures = s5.structures := by
      simp only [s6]
      split <;> simp
    have hacked : ∀ l, (ackThrough l (resolutionsDone p stripe s7)).structures = s7.structures := fun l =>
      Part.structures_of_books ((ackThrough_books ..).trans (resolutionsDone_books ..))
    split
    · split <;> simp [hs1]
    · rw [hacked, ← hs1, ← hs5, ← hs6]
      simp [s7]
  · rfl

@[simp] theorem retireIfDone_structures (p stripe : Nat) (s : Part) : (retireIfDone p stripe s).structures = s.structures := by
  unfold retireIfDone
  split
  · split
    · exact retire_structures p stripe s
    · rfl
  · rfl

@[simp] theorem promote_structures (p stripe : Nat) (s : Part) : (promote p stripe s).structures = s.structures := by
  unfold promote
  split
  · split
    · rfl
    · simp only []
      rw [retireIfDone_structures, issueStripWrites_structures]
      split <;> simp
  · rfl

theorem promoteAll_structures (p : Nat) (s : Part) : (promoteAll p s).structures = s.structures :=
  foldl_structures (fun st x => promote_structures p x st) _ s

/-! ### Staging and writes of structures -/

@[simp] theorem needIntent_backdrop (p stripe : Nat) (s : Part) : (needIntent p stripe s).backdrop = s.backdrop := by
  apply Part.modPool_backdrop
  intro x
  split <;> rfl

@[simp] theorem addEntry_structures (p stripe : Nat) (st : EntryState) (s : Part) : (addEntry p stripe st s).structures = s.structures := by
  unfold addEntry
  split <;> rfl

@[simp] theorem stageWrites_backdrop (p stripe : Nat) (blocks : List (Nat × Nat × Block)) (s : Part) :
    (stageWrites p stripe blocks s).backdrop = s.backdrop := by
  have htold : (tellTwin p (.writing p stripe) (s.modEntry p stripe (fun e => { e with
      staged := blocks, mask := stripsOf blocks, left := [], places := [], done := [], built := true
      readyTide := s.sched.tideNow }))).backdrop = s.backdrop :=
    Part.backdrop_of_structures ((tellTwin_structures ..).trans (Part.modEntry_structures ..))
  unfold stageWrites
  rw [Part.backdrop_of_structures (promote_structures ..), needIntent_backdrop]
  exact htold

@[simp] theorem stageRepair_backdrop (cls p stripe : Nat) (blocks : List (Nat × Nat × Block)) (s : Part) :
    (stageRepair cls p stripe blocks s).backdrop = s.backdrop := by
  unfold stageRepair
  split
  · rfl
  · split
    · exact Part.backdrop_of_books (examineLater_books ..)
    · rw [stageWrites_backdrop]
      exact Part.backdrop_of_structures ((Part.modEntry_structures ..).trans (addEntry_structures ..))

end Sys2Proof.Machine
end

section
/-! SUPPORT. Checkpoints and extensions: building, homes, two valid copies, force (05: R107 to R115; 06: R147; 12: R299), with the
statement of `CheckpointsAndExtensionsTakeForce`. -/

namespace Sys2Proof.Machine

/-! ### Structures written to homes, and found there -/

theorem writeToHomes_queues (ps : PoolSt) (homes : List Nat) (mba count : Nat) (s : Part) :
    Queues s (writeToHomes ps homes mba count s) := Queues.foldl (fun _ _ => enqueueCmd_queues ..) homes s

/-- Each home that is a member of this part gets the write (R110). -/
theorem writeToHomes_waits {ps : PoolSt} {homes : List Nat} {o : Nat} (ho : o ∈ homes) {s : Part} {m : MemberSt}
    (hm : s.member? (ps.charter.idAt o) = some m) (mba count : Nat) : (writeToHomes ps homes mba count s).Waits (ps.charter.idAt o)
      (fun c => c.op = .structureWrite ∧ c.fua = true ∧ c.cls = 0 ∧ c.mba = mba ∧ c.count = count) :=
  foldl_waits (op := fun st a => enqueueCmd (ps.charter.idAt a) .structureWrite 0 false true mba count st)
    (fun _ _ => enqueueCmd_queues ..) (I := fun st => ∃ y, st.member? (ps.charter.idAt o) = some y)
    (fun _ _ _ ⟨_, hy⟩ => ((enqueueCmd_queues ..).of_member hy).imp fun _ h => h.1)
    (fun _ ⟨_, hy⟩ => (enqueueCmd_waits hy ..).imp fun _ ⟨_, hop, hcls, hfua, hmba, hcount⟩ => ⟨hop, hfua, hcls, hmba, hcount⟩)
    ho ⟨m, hm⟩

/-- What an update gives a member, every member it reaches has. -/
theorem foldl_modMember_gives {P : MemberSt → Prop} {g : MemberSt → MemberSt} (hP : ∀ m, P (g m)) (hid : ∀ m, (g m).id = m.id)
    (f : Nat → Nat) {o : Nat} : ∀ {homes : List Nat}, o ∈ homes → ∀ {s : Part} {y : MemberSt},
      (homes.foldl (fun st a => st.modMember (f a) g) s).member? (f o) = some y → P y := by
  have hgiven : ∀ s y, (Part.modMember s (f o) g).member? (f o) = some y → P y := fun s y hy => by
    rw [Part.modMember_member? s _ g hid, Option.map_eq_some_iff] at hy
    obtain ⟨m, -, rfl⟩ := hy
    exact hP m
  have hkept : ∀ (homes : List Nat) (s : Part), (∀ y, s.member? (f o) = some y → P y) →
      ∀ y, (homes.foldl (fun st a => st.modMember (f a) g) s).member? (f o) = some y → P y := fun homes => by
    induction homes with
    | nil => exact fun _ h => h
    | cons a homes ih =>
      refine fun s hs => ih _ ?_
      by_cases ha : f a = f o
      · exact ha ▸ hgiven s
      · exact (Part.modMember_member?_ne s g hid (Ne.symm ha)).symm ▸ hs
  intro homes
  induction homes with
  | nil => exact fun ho => absurd ho List.not_mem_nil
  | cons a homes ih =>
    intro ho s y hy
    rcases List.mem_cons.mp ho with rfl | ho
    · exact hkept homes _ (hgiven s) y hy
    · exact ih ho hy

theorem foldl_modMember_only (f : Nat → Nat) (g : MemberSt → MemberSt) (homes : List Nat) (s : Part) :
    MembersOnly s (homes.foldl (fun st a => st.modMember (f a) g) s) := MembersOnly.foldl (fun st _ => MembersOnly.modMember st _ g) homes s

/-- A checkpoint its homes report valid is in their slots. -/
theorem putCkpt_gives {f : Nat → Nat} {i : CkptImage × LostImage} {o : Nat} {homes : List Nat} (ho : o ∈ homes) {s : Part} {y : MemberSt}
    (hy : (homes.foldl (fun st a => st.modMember (f a) (fun m => m.putCkpt i)) s).member? (f o) = some y) :
    i.1 ∈ y.ckpts ∧ i.2 ∈ y.lostSlots :=
  foldl_modMember_gives (P := fun y => i.1 ∈ y.ckpts ∧ i.2 ∈ y.lostSlots)
    (g := fun m => m.putCkpt i) (fun m => by simp [MemberSt.putCkpt]) (fun _ => rfl) f ho hy

/-- An extension its homes report valid is in their rings. -/
theorem putExt_gives {f : Nat → Nat} {e : ExtImage} {o : Nat} {homes : List Nat} (ho : o ∈ homes) {s : Part} {y : MemberSt}
    (hy : (homes.foldl (fun st a => st.modMember (f a) (fun m => m.putExt e)) s).member? (f o) = some y) : e ∈ y.exts :=
  foldl_modMember_gives (P := fun y => e ∈ y.exts) (g := fun m => m.putExt e)
    (fun m => by simp [MemberSt.putExt]) (fun _ => rfl) f ho hy

/-! ### Checkpoints are built (R107 to R110, R299) -/

theorem tellTwin_only (p : Nat) (n : TwinNews) (s : Part) : tellTwin p n s = { s with man := (tellTwin p n s).man } := by
  unfold tellTwin
  split
  · split <;> rfl
  · rfl

/-- The checkpoint a build of the pool announces and writes. -/
def ckptBuildOf (s : Part) (ps : PoolSt) : CkptBuild :=
  { image := { seq := max ps.ckpt.seq ps.pair.announcedSeq + 1, tide := s.sched.tideNow - 1, destagedTide := s.man.destagedTide
               charterGen := ps.charter.gen, homes := nextHomes s ps, outOfSchedule := !ps.ckpt.due.isEmpty
               writeThrough := ps.writeState == 1, noManifest := decide (s.sched.ceiling ≤ 0), intent := intentNow s ps
               lostCount := ps.int.lost.length, written := s.timeUs, poolUuid := ps.charter.uuid }
    lostImage := lostImageOf ps (max ps.ckpt.seq ps.pair.announcedSeq + 1), reported := [], lost := []
    announceTide := if ps.pair.state = 2 then some s.sched.tideNow else none }

/-- The part once a build has begun, before its writes: maybe a note of R113, the build in the pool, the twin told. -/
def ckptBegun (p : Nat) (s : Part) (ps : PoolSt) : Part :=
  let noted := if sepKind ps.charter = 2 then noted 11 113 3 (leBytes 1 p ++ leBytes 8 (ckptBuildOf s ps).image.seq) s else s
  tellTwin p (.checkpoint p (ckptBuildOf s ps).image.seq)
    (noted.modPool p (fun x => { x with ckpt := { x.ckpt with build := some (ckptBuildOf s ps), due := [] } }))

theorem buildCheckpoint_builds {p : Nat} {s : Part} {ps : PoolSt} (h : s.pool? p = some ps) (hlife : ps.life ≠ 0)
    (howned : ps.owned = true) (hbuild : ps.ckpt.build = none) (hmay : ps.ckpt.due.contains 4 = false ∨ oldWritesOut s ps = false) :
    buildCheckpoint p s =
      if ps.pair.state = 2 then ckptBegun p s ps else writeCkpt ps (ckptBuildOf s ps) (ckptBegun p s ps) := by
  have hguard : (decide (ps.life = 0) || !ps.owned || ps.ckpt.build.isSome || (ps.ckpt.due.contains 4 && oldWritesOut s ps)) = false := by
    have hdue : (ps.ckpt.due.contains 4 && oldWritesOut s ps) = false := Bool.and_eq_false_iff.mpr hmay
    rw [hdue]
    simp [hlife, howned, hbuild]
  unfold buildCheckpoint
  rw [h]
  simp only [hguard]
  rfl

theorem ckptBegun_only (p : Nat) (s : Part) (ps : PoolSt) : ckptBegun p s ps = { s with
    man := (ckptBegun p s ps).man, pools := (ckptBegun p s ps).pools, tow := (ckptBegun p s ps).tow, dict := (ckptBegun p s ps).dict
    log := (ckptBegun p s ps).log, out := (ckptBegun p s ps).out } := by
  unfold ckptBegun
  extract_lets noted
  have hnoted : Recorded s noted := by
    simp only [noted]
    split
    · exact noted_recorded ..
    · rfl
  rw [tellTwin_only, hnoted]
  rfl

theorem ckptBegun_pool? {p : Nat} {s : Part} {ps : PoolSt} (h : s.pool? p = some ps) : (ckptBegun p s ps).pool? p =
    some { ps with ckpt := { ps.ckpt with build := some (ckptBuildOf s ps), due := [] } } := by
  unfold ckptBegun
  extract_lets noted
  have hnoted : noted.pool? p = some ps := by
    simp only [noted]
    split
    · rw [noted_recorded]
      exact h
    · exact h
  rw [tellTwin_only]
  exact Part.modPool_of_pool? hnoted _ (fun _ => rfl)

theorem writeCkpt_queues (ps : PoolSt) (b : CkptBuild) (s : Part) : Queues s (writeCkpt ps b s) := by
  unfold writeCkpt
  extract_lets c blocks s1 s2
  have hs2 : Queues s1 s2 := by
    simp only [s2]
    split
    · exact .refl _
    · exact writeToHomes_queues ..
  exact ((writeToHomes_queues ..).trans hs2).trans (writeToHomes_queues ..)

/-- Each home gets the lost-block table and the header (R110, R147). -/
theorem writeCkpt_waits {ps : PoolSt} {b : CkptBuild} {o : Nat} (ho : o ∈ b.image.homes) {s : Part} {m : MemberSt}
    (hm : s.member? (ps.charter.idAt o) = some m) :
    (writeCkpt ps b s).Waits (ps.charter.idAt o)
      (fun c => c.op = .structureWrite ∧ c.fua = true ∧ c.cls = 0 ∧ c.mba = slotAt b.image.seq ∧ c.count = 1) ∧
    (writeCkpt ps b s).Waits (ps.charter.idAt o)
      (fun c => c.op = .structureWrite ∧ c.fua = true ∧ c.cls = 0 ∧ c.mba = lostSlotAt b.image.seq) := by
  unfold writeCkpt
  extract_lets c blocks s1 s2
  have hs1 : Queues s s1 := writeToHomes_queues ..
  have hs2 : Queues s1 s2 := by
    simp only [s2]
    split
    · exact .refl _
    · exact writeToHomes_queues ..
  obtain ⟨m2, hm2, -⟩ := (hs1.trans hs2).of_member hm
  have hlost := (writeToHomes_waits ho hm (lostSlotAt c) (1 + ceilDiv b.lostImage.entries.length 128)).later hs2
  exact ⟨writeToHomes_waits ho hm2 (slotAt c) 1,
    (hlost.later (writeToHomes_queues ..)).imp fun _ ⟨hop, hfua, hcls, hmba, _⟩ => ⟨hop, hfua, hcls, hmba⟩⟩

theorem Part.Waits.of_member {s : Part} {k : Nat} {P : MCmd → Prop} (h : s.Waits k P) {y : MemberSt} (hy : s.member? k = some y) :
    ∃ c ∈ y.waiting, P c := by
  obtain ⟨z, hz, hc⟩ := h
  obtain rfl : z = y := Option.some.inj (hz.symm.trans hy)
  exact hc

theorem checkpointBuild_builds {p : PoolId} {s : State} {ps : PoolSt} (h : s.part.pool? p.val = some ps) (hlife : ps.life ≠ 0)
    (howned : ps.owned = true) (hbuild : ps.ckpt.build = none)
    (hmay : ps.ckpt.due.contains 4 = false ∨ oldWritesOut s.part ps = false) :
    Runs (.checkpointBuild p) s (fun t => ∃ x b, t.pool? p.val = some x ∧ x.ckpt = { ps.ckpt with build := some b, due := [] } ∧
      b.image.seq = max ps.ckpt.seq ps.pair.announcedSeq + 1 ∧ b.image.tide = s.part.sched.tideNow - 1 ∧
      b.image.charterGen = ps.charter.gen ∧ b.image.homes = nextHomes s.part ps ∧ b.image.intent = intentNow s.part ps ∧
      b.image.poolUuid = ps.charter.uuid ∧ b.image.lostCount = ps.int.lost.length ∧ b.lostImage = lostImageOf ps b.image.seq ∧
      b.image.outOfSchedule = !ps.ckpt.due.isEmpty ∧ b.reported = [] ∧ x.charter = ps.charter ∧
      (ps.pair.state ≠ 2 → ∀ o ∈ nextHomes s.part ps, ∀ m, s.part.member? (ps.charter.idAt o) = some m →
        ∃ y, t.member? (ps.charter.idAt o) = some y ∧
          (∃ c ∈ y.waiting, c.op = .structureWrite ∧ c.fua = true ∧ c.cls = 0 ∧ c.mba = slotAt b.image.seq ∧ c.count = 1) ∧
          (∃ c ∈ y.waiting, c.op = .structureWrite ∧ c.fua = true ∧ c.cls = 0 ∧ c.mba = lostSlotAt b.image.seq)) ∧
      (ps.pair.state = 2 → t.members = s.part.members) ∧ t = { s.part with man := t.man, pools := t.pools, members := t.members, tow := t.tow, dict := t.dict, log := t.log, out := t.out }) := by
  refine runs_onPart (g := buildCheckpoint p.val) rfl ?_
  have hbegun := ckptBegun_only p.val s.part ps
  have hbuilt : (if ps.pair.state = 2 then ckptBegun p.val s.part ps
      else writeCkpt ps (ckptBuildOf s.part ps) (ckptBegun p.val s.part ps)).pool? p.val =
        some { ps with ckpt := { ps.ckpt with build := some (ckptBuildOf s.part ps), due := [] } } := by
    split
    · exact ckptBegun_pool? h
    · exact ((writeCkpt_queues ..).only.pool? _).trans (ckptBegun_pool? h)
  rw [buildCheckpoint_builds h hlife howned hbuild hmay]
  refine ⟨_, ckptBuildOf s.part ps, hbuilt, rfl, rfl, rfl, rfl, rfl, rfl, rfl, rfl, rfl, rfl, rfl, rfl, fun hpair o ho m hm => ?_,
    fun hpair => ?_, ?_⟩
  · rw [if_neg hpair]
    have hm' : (ckptBegun p.val s.part ps).member? (ps.charter.idAt o) = some m := by
      rw [hbegun]
      exact hm
    obtain ⟨hheader, hlost⟩ := writeCkpt_waits (b := ckptBuildOf s.part ps) ho hm'
    obtain ⟨y, hy, hc⟩ := hheader
    exact ⟨y, hy, hc, hlost.of_member hy⟩
  · rw [if_pos hpair, hbegun]
  · split
    · rw [hbegun]
    · rw [(writeCkpt_queues ..).only, hbegun]

theorem checkpointBuild_stays {p : PoolId} {s : State} {ps : PoolSt} (h : s.part.pool? p.val = some ps) (hbuild : ps.ckpt.build ≠ none) :
    Stays (.checkpointBuild p) s := by
  refine stays_onPart (g := buildCheckpoint p.val) rfl ?_
  unfold buildCheckpoint
  rw [h]
  exact if_pos (by simp [Option.isSome_iff_ne_none.mpr hbuild])

/-! ### A checkpoint takes force (R111, R112) -/

/-- A build's homes that report now, with those that have before. -/
def CkptBuild.withReports (b : CkptBuild) (homes : List Nat) : CkptBuild := { b with reported := (b.reported ++ homes).eraseDups }

/-- The checkpoint in force, and what lapses with the one before: the pool's record of it. -/
structure CkptSt.Forced (y : CkptSt) (b : CkptBuild) : Prop where
  seq : y.seq = b.image.seq
  homes : y.homes = b.image.homes
  lostHomes : y.lostHomes = b.lost
  intent : y.intent = b.image.intent
  inForce : y.inForce = some (b.image, b.lostImage)
  extSeq : y.extSeq = 0
  exts : y.exts = []
  build : y.build = none
  extBuild : y.extBuild = none
  tide : y.tide = b.image.tide
  ready : ∀ z ∈ y.ready, z ∉ b.image.intent

theorem CkptSt.Forced.addDue {y : CkptSt} {b : CkptBuild} (h : y.Forced b) (n : Nat) : (y.addDue n).Forced b :=
  ⟨h.seq, h.homes, h.lostHomes, h.intent, h.inForce, h.extSeq, h.exts, h.build, h.extBuild, h.tide, h.ready⟩

theorem refreshLostState_books (p : Nat) (s : Part) : (refreshLostState p s).books = s.books := by
  unfold refreshLostState
  apply Part.modPool_books
  exact fun _ => rfl

/-- The pool's record once `b` is in force; `dropped` are the stripes it no longer names that have a write to come. -/
def CkptSt.force (b : CkptBuild) (dropped : List Nat) (x : CkptSt) : CkptSt :=
  let y : CkptSt := { x with
    seq := b.image.seq, homes := b.image.homes, lostHomes := b.lost, intent := b.image.intent, extSeq := 0, build := none
    extBuild := none, extReported := [], inForce := some (b.image, b.lostImage), exts := []
    ready := ((x.ready ++ dropped).eraseDups).filter (fun z => !b.image.intent.contains z)
    moved := if x.due.contains 4 then x.moved else [], tide := b.image.tide, destagedTide := b.image.destagedTide }
  if b.lost.isEmpty then y else y.addDue 1

theorem CkptSt.force_forced (b : CkptBuild) (dropped : List Nat) (x : CkptSt) : (x.force b dropped).Forced b := by
  unfold CkptSt.force
  extract_lets y
  have hy : y.Forced b :=
    ⟨rfl, rfl, rfl, rfl, rfl, rfl, rfl, rfl, rfl, rfl, fun z hz => by simpa using (List.mem_filter.mp hz).2⟩
  split
  · exact hy
  · exact hy.addDue 1

/-- A checkpoint takes force in the pool's record, between what is logged of its homes and what may be written now. -/
theorem takeForce_eq {p : Nat} {b : CkptBuild} {s : Part} {ps : PoolSt} (h : s.pool? p = some ps) :
    ∃ (logged : Part) (dropped : List Nat), logged.books = s.books ∧ takeForce p b s = promoteAll p (refreshLostState p (logged.modPool p (fun x =>
      { x with pair := { x.pair with oldIntent := [] }, ckpt := x.ckpt.force b dropped }))) := by
  unfold takeForce
  rw [h]
  exact ⟨_, _, foldl_books (fun _ _ => log_books ..) _ s, rfl⟩

/-- The pool's record holds the new checkpoint; the members stay but for their queues. -/
theorem takeForce_forces {p : Nat} {b : CkptBuild} {s : Part} {ps : PoolSt} (h : s.pool? p = some ps) :
    (∃ x, (takeForce p b s).pool? p = some x ∧ x.ckpt.Forced b) ∧ WithinStripes s (takeForce p b s) ∧
      (takeForce p b s).members.map MemberSt.bare = s.members.map MemberSt.bare := by
  obtain ⟨logged, dropped, hlogged, heq⟩ := takeForce_eq (b := b) h
  obtain ⟨x1, hx1, -⟩ := Part.pool?_of_structures (Part.structures_of_books hlogged) h
  have hforced := Part.modPool_of_pool? hx1 (fun x =>
    { x with pair := { x.pair with oldIntent := [] }, ckpt := x.ckpt.force b dropped }) (fun _ => rfl)
  have hend := (promoteAll_structures p _).trans (Part.structures_of_books (refreshLostState_books p (logged.modPool p (fun x =>
    { x with pair := { x.pair with oldIntent := [] }, ckpt := x.ckpt.force b dropped }))))
  obtain ⟨x, hx, hbare⟩ := Part.pool?_of_structures hend hforced
  have hckpt : x.ckpt = x1.ckpt.force b dropped := congrArg PoolSt.ckpt hbare
  have hmembers : logged.members = s.members := Part.members_of_books hlogged
  rw [heq]
  refine ⟨⟨x, hx, hckpt ▸ CkptSt.force_forced b dropped x1.ckpt⟩,
    ((WithinStripes.of_books hlogged).trans (.modPool ..)).trans (.of_structures hend), ?_⟩
  rw [Part.members_of_structures hend, ← hmembers]
  rfl

theorem checkpointValid_noBuild {p : PoolId} {who : List (Fin 3)} {s : State} {ps : PoolSt} (h : s.part.pool? p.val = some ps)
    (hbuild : ps.ckpt.build = none) : Runs (.checkpointValid p who) s (fun t =>
      (ps.ckpt.inForce = none → t = s.part) ∧
      (∀ i, ps.ckpt.inForce = some i → ∀ o ∈ reporting ps.ckpt.homes who, ∀ y, t.member? (ps.charter.idAt o) = some y →
        i.1 ∈ y.ckpts ∧ i.2 ∈ y.lostSlots) ∧ t = { s.part with members := t.members }) := by
  refine runs_onPart (g := checkpointTakesForce p.val who) rfl ?_
  unfold checkpointTakesForce
  rw [h]
  simp only [hbuild]
  cases hforce : ps.ckpt.inForce with
  | none => exact ⟨fun _ => rfl, fun _ hi => absurd hi.symm nofun, rfl⟩
  | some i =>
    refine ⟨nofun, fun j hj o ho y hy => ?_, foldl_modMember_only ..⟩
    obtain rfl := Option.some.inj hj
    exact putCkpt_gives ho hy

theorem checkpointValid_stays {p : PoolId} {who : List (Fin 3)} {s : State} {ps : PoolSt} (h : s.part.pool? p.val = some ps)
    {b : CkptBuild} (hbuild : ps.ckpt.build = some b) (hann : announced s.part p.val b.announceTide = false) :
    Stays (.checkpointValid p who) s := by
  refine stays_onPart (g := checkpointTakesForce p.val who) rfl ?_
  unfold checkpointTakesForce
  rw [h]
  simp only [hbuild, hann]
  rfl

/-- The homes that report a build, put on record. -/
def ckptReported (p : Nat) (c : Charter) (b : CkptBuild) (homes : List Nat) (s : Part) : Part :=
  homes.foldl (fun st o => st.modMember (c.idAt o) (fun m => m.putCkpt (b.image, b.lostImage)))
    (s.modPool p (fun x => { x with ckpt := { x.ckpt with build := some (b.withReports homes) } }))

theorem checkpointTakesForce_reported {p : Nat} {who : List (Fin 3)} {s : Part} {ps : PoolSt} (h : s.pool? p = some ps)
    {b : CkptBuild} (hbuild : ps.ckpt.build = some b) (hann : announced s p b.announceTide = true) :
    checkpointTakesForce p who s =
      if 2 ≤ (b.reported ++ reporting b.alive who).eraseDups.length then
        takeForce p (b.withReports (reporting b.alive who)) (ckptReported p ps.charter b (reporting b.alive who) s)
      else ckptReported p ps.charter b (reporting b.alive who) s := by
  unfold checkpointTakesForce
  rw [h]
  simp only [hbuild, hann]
  rfl

theorem checkpointValid_reports {p : PoolId} {who : List (Fin 3)} {s : State} {ps : PoolSt} (h : s.part.pool? p.val = some ps)
    {b : CkptBuild} (hbuild : ps.ckpt.build = some b) (hann : announced s.part p.val b.announceTide = true) :
    let homes := reporting b.alive who
    Runs (.checkpointValid p who) s (fun t => ∃ x, t.pool? p.val = some x ∧
      (∀ o ∈ homes, ∀ y, t.member? (ps.charter.idAt o) = some y → b.image ∈ y.ckpts ∧ b.lostImage ∈ y.lostSlots) ∧
      ((b.reported ++ homes).eraseDups.length < 2 →
        x.ckpt = { ps.ckpt with build := some { b with reported := (b.reported ++ homes).eraseDups } } ∧
        t = { s.part with pools := t.pools, members := t.members }) ∧
      (2 ≤ (b.reported ++ homes).eraseDups.length → x.ckpt.seq = b.image.seq ∧ x.ckpt.homes = b.image.homes ∧
        x.ckpt.lostHomes = b.lost ∧ x.ckpt.intent = b.image.intent ∧ x.ckpt.inForce = some (b.image, b.lostImage) ∧
        x.ckpt.extSeq = 0 ∧ x.ckpt.exts = [] ∧ x.ckpt.build = none ∧ x.ckpt.extBuild = none ∧ x.ckpt.tide = b.image.tide ∧
        (∀ z ∈ x.ckpt.ready, z ∉ b.image.intent)) ∧
      WithinStripes s.part t) := by
  intro homes
  refine runs_onPart (g := checkpointTakesForce p.val who) rfl ?_
  have hput : MembersOnly (s.part.modPool p.val (fun x => { x with ckpt := { x.ckpt with build := some (b.withReports homes) } }))
      (ckptReported p.val ps.charter b homes s.part) := foldl_modMember_only ..
  have hpool : (ckptReported p.val ps.charter b homes s.part).pool? p.val =
      some { ps with ckpt := { ps.ckpt with build := some (b.withReports homes) } } :=
    (hput.pool? _).trans (Part.modPool_of_pool? h _ (fun _ => rfl))
  have hgiven : ∀ o ∈ homes, ∀ y, (ckptReported p.val ps.charter b homes s.part).member? (ps.charter.idAt o) = some y →
      b.image ∈ y.ckpts ∧ b.lostImage ∈ y.lostSlots := fun o ho y hy => putCkpt_gives ho hy
  have hreach : WithinStripes s.part (ckptReported p.val ps.charter b homes s.part) :=
    (WithinStripes.modPool ..).trans (.of_members hput)
  rw [checkpointTakesForce_reported h hbuild hann]
  by_cases htwo : 2 ≤ (b.reported ++ homes).eraseDups.length
  · obtain ⟨⟨x, hx, hf⟩, hwithin, hmembers⟩ := takeForce_forces (b := b.withReports homes) hpool
    rw [if_pos htwo]
    refine ⟨x, hx, fun o ho y hy => ?_, fun hlt => absurd htwo (Nat.not_le.mpr hlt), fun _ => ⟨hf.seq, hf.homes, hf.lostHomes,
      hf.intent, hf.inForce, hf.extSeq, hf.exts, hf.build, hf.extBuild, hf.tide, hf.ready⟩, hreach.trans hwithin⟩
    obtain ⟨m, hm, hbare⟩ := Part.member?_of_members hmembers hy
    have hckpts : m.ckpts = y.ckpts := (congrArg MemberSt.ckpts hbare :)
    have hslots : m.lostSlots = y.lostSlots := (congrArg MemberSt.lostSlots hbare :)
    exact hckpts ▸ hslots ▸ hgiven o ho m hm
  · rw [if_neg htwo]
    refine ⟨_, hpool, hgiven, fun _ => ⟨rfl, ?_⟩, fun h => absurd h htwo, hreach⟩
    rw [hput]
    rfl

/-! ### Extensions (R108, R115) -/

/-- The extension a build of the pool writes: of every ready stripe that fits. -/
def extensionOf (s : Part) (ps : PoolSt) : ExtImage :=
  { seq := ps.ckpt.extSeq + 1, baseSeq := ps.ckpt.seq, tide := s.sched.tideNow, intent := extensionStripes ps.ckpt.ready
    poolUuid := ps.charter.uuid }

/-- The part once the build of an extension has begun, before its writes: the build in the pool, the twin told. -/
def extBegun (p : Nat) (s : Part) (ps : PoolSt) : Part :=
  tellTwin p (.extension p (extensionOf s ps).intent)
    (s.modPool p (fun x => { x with ckpt := { x.ckpt with extBuild := some (extensionOf s ps), extReported := [] } }))

theorem extBegun_only (p : Nat) (s : Part) (ps : PoolSt) :
    extBegun p s ps = { s with man := (extBegun p s ps).man, pools := (extBegun p s ps).pools } := by
  unfold extBegun
  rw [tellTwin_only]
  rfl

theorem extBegun_pool? {p : Nat} {s : Part} {ps : PoolSt} (h : s.pool? p = some ps) : (extBegun p s ps).pool? p =
    some { ps with ckpt := { ps.ckpt with extBuild := some (extensionOf s ps), extReported := [] } } := by
  unfold extBegun
  rw [tellTwin_only]
  exact Part.modPool_of_pool? h _ (fun _ => rfl)

theorem buildExtension_eq {p : Nat} {s : Part} {ps : PoolSt} (h : s.pool? p = some ps) (howned : ps.owned = true)
    (hready : ps.ckpt.ready ≠ []) (hbuild : ps.ckpt.extBuild = none) (hgrowth : ps.growthHeld = false) (hseq : ps.ckpt.seq ≠ 0) :
    buildExtension p s =
      if 4096 ≤ ps.ckpt.extSeq then addDue p 2 s
      else if maxRanges < (rangesOf (sortNats (ps.ckpt.intent ++ extensionStripes ps.ckpt.ready).eraseDups)).length then addDue p 3 s
      else if ps.pair.state = 2 then extBegun p s ps else writeExt ps (extensionOf s ps) (extBegun p s ps) := by
  have hguard : (!ps.owned || ps.ckpt.ready.isEmpty || ps.ckpt.extBuild.isSome || ps.growthHeld || decide (ps.ckpt.seq = 0)) = false := by
    simp [howned, hready, hbuild, hgrowth, hseq]
  unfold buildExtension
  rw [h]
  simp only [hguard]
  rfl

theorem extensionWrite_builds {p : PoolId} {s : State} {ps : PoolSt} (h : s.part.pool? p.val = some ps) (howned : ps.owned = true)
    (hready : ps.ckpt.ready ≠ []) (hbuild : ps.ckpt.extBuild = none) (hgrowth : ps.growthHeld = false) (hseq : ps.ckpt.seq ≠ 0) :
    let fits := (rangesOf (sortNats (ps.ckpt.intent ++ extensionStripes ps.ckpt.ready).eraseDups)).length ≤ maxRanges
    (ps.ckpt.extSeq < 4096 → fits → Runs (.extensionWrite p) s (fun t => ∃ x, t.pool? p.val = some x ∧
      x.ckpt = { ps.ckpt with
        extBuild := some { seq := ps.ckpt.extSeq + 1, baseSeq := ps.ckpt.seq, tide := s.part.sched.tideNow, intent := extensionStripes ps.ckpt.ready, poolUuid := ps.charter.uuid }
        extReported := [] } ∧ t = { s.part with man := t.man, pools := t.pools, members := t.members })) ∧
    (4096 ≤ ps.ckpt.extSeq → Runs (.extensionWrite p) s (fun t => ∃ x, t.pool? p.val = some x ∧
      x.ckpt = ps.ckpt.addDue 2 ∧ t = { s.part with pools := t.pools })) ∧
    (ps.ckpt.extSeq < 4096 → ¬ fits → Runs (.extensionWrite p) s (fun t => ∃ x, t.pool? p.val = some x ∧
      x.ckpt = ps.ckpt.addDue 3 ∧ t = { s.part with pools := t.pools })) := by
  intro fits
  have heq := buildExtension_eq h howned hready hbuild hgrowth hseq
  have hdue : ∀ n, (addDue p.val n s.part).pool? p.val = some { ps with ckpt := ps.ckpt.addDue n } := fun n =>
    Part.modPool_of_pool? h _ (fun _ => rfl)
  refine ⟨fun hroom hfits => ?_, fun hfull => ?_, fun hroom hfits => ?_⟩
  · refine runs_onPart (g := buildExtension p.val) rfl ?_
    rw [heq, if_neg (Nat.not_le.mpr hroom), if_neg (Nat.not_lt.mpr hfits)]
    split
    · exact ⟨_, extBegun_pool? h, rfl, by rw [extBegun_only]⟩
    · have hsent : MembersOnly (extBegun p.val s.part ps) (writeExt ps (extensionOf s.part ps) (extBegun p.val s.part ps)) :=
        (writeToHomes_queues ..).only
      refine ⟨_, (hsent.pool? _).trans (extBegun_pool? h), rfl, ?_⟩
      rw [hsent, extBegun_only]
  · refine runs_onPart (g := buildExtension p.val) rfl ?_
    rw [heq, if_pos hfull]
    exact ⟨_, hdue 2, rfl, rfl⟩
  · refine runs_onPart (g := buildExtension p.val) rfl ?_
    rw [heq, if_neg (Nat.not_le.mpr hroom), if_pos (Nat.not_le.mp hfits)]
    exact ⟨_, hdue 3, rfl, rfl⟩

theorem extensionWrite_stays {p : PoolId} {s : State} {ps : PoolSt} (h : s.part.pool? p.val = some ps)
    (hwait : ps.growthHeld = true ∨ ps.ckpt.ready = []) : Stays (.extensionWrite p) s := by
  refine stays_onPart (g := buildExtension p.val) rfl ?_
  unfold buildExtension
  rw [h]
  rcases hwait with hgrowth | hready
  · simp [hgrowth]
  · simp [hready]

theorem extensionValid_noBuild {p : PoolId} {who : List (Fin 3)} {s : State} {ps : PoolSt} (h : s.part.pool? p.val = some ps)
    (hbuild : ps.ckpt.extBuild = none) :
    let homes := (reporting ps.ckpt.homes who).filter (fun o => !ps.ckpt.lostHomes.contains o)
    Runs (.extensionValid p who) s (fun t =>
      (∀ e, ps.ckpt.exts.getLast? = some e → ∀ o ∈ homes, ∀ y, t.member? (ps.charter.idAt o) = some y → e ∈ y.exts) ∧
      t = { s.part with members := t.members }) := by
  intro homes
  refine runs_onPart (g := extensionTakesEffect p.val who) rfl ?_
  unfold extensionTakesEffect
  rw [h]
  simp only [hbuild]
  cases hlast : ps.ckpt.exts.getLast? with
  | none => exact ⟨nofun, rfl⟩
  | some e =>
    refine ⟨fun e' he o ho y hy => ?_, foldl_modMember_only ..⟩
    obtain rfl := Option.some.inj he
    exact putExt_gives ho hy

theorem extensionValid_stays {p : PoolId} {who : List (Fin 3)} {s : State} {ps : PoolSt} (h : s.part.pool? p.val = some ps)
    {e : ExtImage} (hbuild : ps.ckpt.extBuild = some e) (hpair : ps.pair.state = 2) (htwin : s.part.twinHas p.val e.tide = false) :
    Stays (.extensionValid p who) s := by
  refine stays_onPart (g := extensionTakesEffect p.val who) rfl ?_
  unfold extensionTakesEffect
  rw [h]
  simp only [hbuild, hpair, htwin]
  rfl

/-- The homes that report an extension, put on record. -/
def extReported (p : Nat) (ps : PoolSt) (e : ExtImage) (homes : List Nat) (s : Part) : Part :=
  homes.foldl (fun st o => st.modMember (ps.charter.idAt o) (fun m => m.putExt e))
    (s.modPool p (fun x => { x with ckpt := { x.ckpt with extReported := (ps.ckpt.extReported ++ homes).eraseDups } }))

/-- The pool's record once extension `e` is in effect. -/
def CkptSt.extend (e : ExtImage) (x : CkptSt) : CkptSt :=
  { x with extBuild := none, extReported := [], extSeq := e.seq, exts := x.exts ++ [e]
           intent := sortNats (x.intent ++ e.intent).eraseDups, ready := x.ready.filter (fun z => !e.intent.contains z) }

theorem CkptSt.mem_extend_intent (e : ExtImage) (x : CkptSt) (z : Nat) : z ∈ (x.extend e).intent ↔ z ∈ x.intent ∨ z ∈ e.intent := by
  simp [CkptSt.extend, sortNats]

theorem CkptSt.extend_ready {e : ExtImage} {x : CkptSt} {z : Nat} (hz : z ∈ (x.extend e).ready) : z ∉ e.intent := by
  simpa using (List.mem_filter.mp hz).2

theorem extensionTakesEffect_reported {p : Nat} {who : List (Fin 3)} {s : Part} {ps : PoolSt} (h : s.pool? p = some ps)
    {e : ExtImage} (hbuild : ps.ckpt.extBuild = some e) (hann : ps.pair.state ≠ 2 ∨ s.twinHas p e.tide = true) :
    let homes := (reporting ps.ckpt.homes who).filter (fun o => !ps.ckpt.lostHomes.contains o)
    extensionTakesEffect p who s = if (ps.ckpt.extReported ++ homes).eraseDups.length < 2 then extReported p ps e homes s
      else promoteAll p ((extReported p ps e homes s).modPool p (fun x => { x with ckpt := x.ckpt.extend e })) := by
  have hguard : (decide (ps.pair.state = 2) && !s.twinHas p e.tide) = false := by
    rcases hann with hpair | htwin
    · simp [hpair]
    · simp [htwin]
  unfold extensionTakesEffect
  rw [h]
  simp only [hbuild, hguard]
  rfl

theorem extensionValid_reports {p : PoolId} {who : List (Fin 3)} {s : State} {ps : PoolSt} (h : s.part.pool? p.val = some ps)
    {e : ExtImage} (hbuild : ps.ckpt.extBuild = some e) (hann : ps.pair.state ≠ 2 ∨ s.part.twinHas p.val e.tide = true) :
    let homes := (reporting ps.ckpt.homes who).filter (fun o => !ps.ckpt.lostHomes.contains o)
    Runs (.extensionValid p who) s (fun t => ∃ x, t.pool? p.val = some x ∧
      (∀ o ∈ homes, ∀ y, t.member? (ps.charter.idAt o) = some y → e ∈ y.exts) ∧
      ((ps.ckpt.extReported ++ homes).eraseDups.length < 2 →
        x.ckpt = { ps.ckpt with extReported := (ps.ckpt.extReported ++ homes).eraseDups } ∧
        t = { s.part with pools := t.pools, members := t.members }) ∧
      (2 ≤ (ps.ckpt.extReported ++ homes).eraseDups.length → x.ckpt.extSeq = e.seq ∧ x.ckpt.extBuild = none ∧
        x.ckpt.exts = ps.ckpt.exts ++ [e] ∧ x.ckpt.seq = ps.ckpt.seq ∧
        (∀ z, z ∈ x.ckpt.intent ↔ z ∈ ps.ckpt.intent ∨ z ∈ e.intent) ∧ (∀ z ∈ x.ckpt.ready, z ∉ e.intent)) ∧
      WithinStripes s.part t) := by
  intro homes
  refine runs_onPart (g := extensionTakesEffect p.val who) rfl ?_
  let record : CkptSt := { ps.ckpt with extReported := (ps.ckpt.extReported ++ homes).eraseDups }
  have hput : MembersOnly (s.part.modPool p.val (fun x =>
      { x with ckpt := { x.ckpt with extReported := (ps.ckpt.extReported ++ homes).eraseDups } }))
      (extReported p.val ps e homes s.part) := foldl_modMember_only ..
  have hpool : (extReported p.val ps e homes s.part).pool? p.val = some { ps with ckpt := record } :=
    (hput.pool? _).trans (Part.modPool_of_pool? h _ (fun _ => rfl))
  have hgiven : ∀ o ∈ homes, ∀ y, (extReported p.val ps e homes s.part).member? (ps.charter.idAt o) = some y → e ∈ y.exts :=
    fun o ho y hy => putExt_gives ho hy
  have hreach : WithinStripes s.part (extReported p.val ps e homes s.part) := (WithinStripes.modPool ..).trans (.of_members hput)
  rw [extensionTakesEffect_reported h hbuild hann]
  by_cases hone : (ps.ckpt.extReported ++ homes).eraseDups.length < 2
  · rw [if_pos hone]
    refine ⟨_, hpool, hgiven, fun _ => ⟨rfl, ?_⟩, fun htwo => absurd hone (Nat.not_lt.mpr htwo), hreach⟩
    rw [hput]
    rfl
  · have hend := promoteAll_structures p.val ((extReported p.val ps e homes s.part).modPool p.val (fun x =>
      { x with ckpt := x.ckpt.extend e }))
    have hextended : ((extReported p.val ps e homes s.part).modPool p.val (fun x => { x with ckpt := x.ckpt.extend e })).pool? p.val =
        some { ps with ckpt := record.extend e } := Part.modPool_of_pool? hpool _ (fun _ => rfl)
    obtain ⟨x, hx, hbare⟩ := Part.pool?_of_structures hend hextended
    have hckpt : x.ckpt = record.extend e := congrArg (fun z : PoolSt => z.ckpt) hbare
    rw [if_neg hone]
    refine ⟨x, hx, fun o ho y hy => ?_, fun hlt => absurd hlt hone, fun _ => ?_,
      (hreach.trans (.modPool ..)).trans (.of_structures hend)⟩
    · obtain ⟨m, hm, hmbare⟩ := Part.member?_of_members (Part.members_of_structures hend) hy
      have hexts : m.exts = y.exts := (congrArg MemberSt.exts hmbare :)
      exact hexts ▸ hgiven o ho m hm
    · rw [hckpt]
      exact ⟨rfl, rfl, rfl, rfl, record.mem_extend_intent e, fun _ hz => CkptSt.extend_ready hz⟩

/-- Settles O24: it holds, assembled from a lemma for each event and what it finds. -/
theorem checkpointsAndExtensionsTakeForce : Obligations.CheckpointsAndExtensionsTakeForce := by
  unfold Obligations.CheckpointsAndExtensionsTakeForce
  intro p who s ps h
  exact ⟨checkpointBuild_stays h, checkpointBuild_builds h, checkpointValid_noBuild h,
    fun b hbuild => ⟨checkpointValid_stays h hbuild, checkpointValid_reports h hbuild⟩, extensionWrite_builds h, extensionWrite_stays h,
    extensionValid_noBuild h, fun e hbuild => ⟨extensionValid_stays h hbuild, extensionValid_reports h hbuild⟩⟩

end Sys2Proof.Machine
end

section
/-! SUPPORT. Members are replaced and ordinals copied home (02: R25, R47; 03: R62; 07: R164, R165), with the statement of
`MembersAreReplaced`. -/

namespace Sys2Proof.Machine

/-! ### A replacement is assigned (R164) -/

theorem respond_only (q : Req) (st detail : Nat) (data : Bytes) (s : Part) : respond q st detail data s =
    { s with dict := (respond q st detail data s).dict, out := (respond q st detail data s).out
             fn0 := (respond q st detail data s).fn0, fn1 := (respond q st detail data s).fn1 } := by
  apply Part.ext_fields <;> simp

theorem memberReplaces_refused {q : Req} {k : MemberId} {o : Nat} {s : State} {m : MemberSt} {ps : PoolSt}
    (hm : s.part.member? k.val = some m) (hallowed : Allowed s.part q roleCustodian none)
    (htarget : replaceTarget s.part o m = some ps) (r : Nat) (hr : replaceRefusal s.part ps.latest o m = some r) :
    Runs (.memberReplaces q k o) s (fun t =>
      Answers t stRule (ruleDetail r 0) ∧ t = { s.part with dict := t.dict, out := t.out, fn0 := t.fn0, fn1 := t.fn1 }) := by
  refine runs_onPart (g := memberReplacesEff q k.val o) rfl ?_
  have heq : memberReplacesEff q k.val o s.part = refuseRule q r 0 s.part := by
    unfold memberReplacesEff
    rw [checked_allowed hallowed]
    simp only [hm, htarget, hr]
  rw [heq]
  exact ⟨refuseRule_answers .., refuseRule_only ..⟩

theorem memberReplaces_assigns {q : Req} {p : PoolId} {k : MemberId} {o : Nat} {s : State} {m : MemberSt} {ps : PoolSt}
    (hm : s.part.member? k.val = some m) (h : s.part.pool? p.val = some ps) (hallowed : Allowed s.part q roleCustodian none)
    (htarget : replaceTarget s.part o m = some ps) (hr : replaceRefusal s.part ps.latest o m = none)
    (hcross : ps.latest.cross = none) (howned : ps.owned = true) :
    Runs (.memberReplaces q k o) s (fun t => t.answer = some (if ps.changing then stPending else stOk) ∧
      (∃ x, t.pool? p.val = some x ∧ replaceDelta o m ∈ x.queue ∧ x.charter = ps.charter) ∧
      t = { s.part with pools := t.pools, dict := t.dict, out := t.out, fn0 := t.fn0, fn1 := t.fn1 }) := by
  refine runs_onPart (g := memberReplacesEff q k.val o) rfl ?_
  obtain ⟨x, hx, hasked, hxeq⟩ := queueDelta_pool? (s := s.part.setObjNum (0x6000 + k.val) 0x13 o) h (replaceDelta o m)
  have heq : memberReplacesEff q k.val o s.part = respond q (if ps.changing then stPending else stOk) 0 []
      (queueDelta p.val (replaceDelta o m) (s.part.setObjNum (0x6000 + k.val) 0x13 o)) := by
    unfold memberReplacesEff
    rw [checked_allowed hallowed]
    simp only [hm, htarget, hr, hcross, howned, Part.pool?_id h]
    rfl
  rw [heq]
  refine ⟨?_, ⟨x, ?_, hasked, by rw [hxeq]⟩, ?_⟩
  · simp [Part.answer]
  · simpa using hx
  · exact (respond_only ..).trans (by rw [respond_only]; rfl)

theorem autoReplace_stays {k : MemberId} {s : State} {m : MemberSt} (hm : s.part.member? k.val = some m)
    (hwait : m.state ≠ 1 ∨ s.part.timeUs < m.presentAt + 60000000) : Stays (.autoReplace k) s := by
  refine stays_onPart (g := autoReplaceEff k.val) rfl ?_
  unfold autoReplaceEff
  rw [hm]
  have hshort : m.state ≠ 1 ∨ s.part.timeUs < m.presentAt + sec 60 := hwait
  exact if_pos (by simpa using hshort)

theorem autoReplace_assigns {p : PoolId} {k : MemberId} {o : Nat} {s : State} {m : MemberSt} {ps : PoolSt}
    (hm : s.part.member? k.val = some m) (h : s.part.pool? p.val = some ps) (hstate : m.state = 1)
    (hlong : m.presentAt + 60000000 ≤ s.part.timeUs) (hone : s.part.pools = [ps]) (hlife : ps.life = 3) (howned : ps.owned = true)
    (hcross : ps.charter.cross = none) (hauto : s.part.objNum (poolIdx p.val 0x15) 9 = 1)
    (hvacancy : (vacancies s.part ps.latest m.info.enclFound).find? (fun o => (replaceRefusal s.part ps.latest o m).isNone) = some o) :
    Runs (.autoReplace k) s (fun t => ∃ x, t.pool? p.val = some x ∧ replaceDelta o m ∈ x.queue ∧ x.charter = ps.charter ∧
      t = { s.part with pools := t.pools }) := by
  have heq : autoReplaceEff k.val s.part = queueDelta p.val (replaceDelta o m) s.part := by
    have hid := Part.pool?_id h
    have hwaited : m.presentAt + sec 60 ≤ s.part.timeUs := hlong
    unfold autoReplaceEff
    simp [hm, hstate, hwaited, hone, hlife, howned, hcross, hid, hauto, hvacancy, replaceOrdinal]
  refine runs_onPart (g := autoReplaceEff k.val) rfl ?_
  obtain ⟨x, hx, hasked, hxeq⟩ := queueDelta_pool? h (replaceDelta o m)
  rw [heq]
  exact ⟨x, hx, hasked, by rw [hxeq], queueDelta_only ..⟩

/-! ### A strip goes home (R165) -/

theorem restoreBlock_books (ps : PoolSt) (g : Geo) (bad : BadReads) (stripe i bo : Nat) (s : Part) :
    (restoreBlock ps g bad stripe i bo s).part.books = s.books := by
  have hlost : ∀ l : List (Nat × LostEntry), (l.foldl (fun t e => enterLost ps.id e.2 t) s).books = s.books :=
    fun l => foldl_books (fun t e => enterLost_books ps.id e.2 t) l s
  have hrestored := restoreOffset_books s ps g bad stripe bo
  unfold restoreBlock
  split
  · simp only []
    split
    · simp only []
      split <;> simp
    · simp
  · split
    · simp only []
      split
      · exact hlost _
      · rw [recheckLater_books]
        exact hlost _
    · next r _ heq =>
      rw [heq] at hrestored
      exact (foldl_books (fun t j => repairedAt_books ps g stripe j bo t) _ r.part).trans hrestored

theorem laneBlock_books (ps : PoolSt) (g : Geo) (bad : BadReads) (stripe i bo : Nat) (s : Part) :
    (laneBlock ps g bad stripe i bo s).part.books = s.books := by
  unfold laneBlock
  split
  · rfl
  · exact restoreBlock_books ..

theorem restoreStrip_books (ps : PoolSt) (g : Geo) (bad : BadReads) (stripe i : Nat) (s : Part) :
    (restoreStrip ps g bad stripe i s).part.books = s.books := by
  have hall : ∀ (l : List Nat) (acc : Restored), (l.foldl (fun (acc : Restored) bo =>
      let r := laneBlock ps g bad stripe i bo acc.part
      { blocks := acc.blocks ++ r.blocks, rewrites := acc.rewrites ++ r.rewrites, part := r.part }) acc).part.books = acc.part.books :=
    fun l => by
      induction l with
      | nil => exact fun _ => rfl
      | cons bo l ih => exact fun acc => (ih _).trans (laneBlock_books ps g bad stripe i bo acc.part)
  exact hall _ _

theorem putStrip_backdrop (ps : PoolSt) (g : Geo) (k mba i : Nat) (blocks : List (Nat × Block)) (s : Part) :
    (putStrip ps g k mba i blocks s).backdrop = s.backdrop := rfl

theorem copyHome_backdrop (p o k : Nat) (g : Geo) (bad : BadReads) (stripe : Nat) (s : Part) :
    (copyHome p o k g bad stripe s).backdrop = s.backdrop := by
  unfold copyHome
  split
  · simp only []
    split
    · rfl
    · exact ((stageRepair_backdrop ..).trans (putStrip_backdrop ..)).trans (Part.backdrop_of_books (restoreStrip_books ..))
  · rfl

/-- The shapes that have the ordinal of entry `e`, each with its ordinal there. -/
def copybackWork (ps : PoolSt) (e : Nat) : List (Geo × Nat) :=
  ps.shapes.filterMap (fun h => (h.entries.idxOf? e).map (fun oh => (h, oh)))

/-- The strips of stripe group `grp` go home, in each shape of `work`. -/
def copyGroup (p k grp : Nat) (bad : BadReads) (work : List (Geo × Nat)) (s : Part) : Part :=
  work.foldl (fun st w => (w.1.groupStripes grp).foldl (fun st2 x => copyHome p w.2 k w.1 bad x st2) st) s

theorem copyGroup_backdrop (p k grp : Nat) (bad : BadReads) (work : List (Geo × Nat)) (s : Part) :
    (copyGroup p k grp bad work s).backdrop = s.backdrop :=
  foldl_backdrop (op := fun st (w : Geo × Nat) => (w.1.groupStripes grp).foldl (fun st2 x => copyHome p w.2 k w.1 bad x st2) st)
    (fun st w => foldl_backdrop (fun st2 x => copyHome_backdrop p w.2 k w.1 bad x st2) _ st) work s

/-- A copy-back waits for the unit, the pool, the member or another task. -/
def copybackHeld (s : Part) (ps : PoolSt) (o : Nat) : Bool :=
  let k := ps.charter.geo.ids.getD o 16384
  !ps.owned || ps.pair.state == 4 || ps.life != 3 || !s.returned ps.charter.geo o || !s.takes k ||
    ((s.member? k).map (fun m => m.fleet.any (fun x => x.2 == 1))).getD false || !(poolTasks s ps).isEmpty || s.sched.frozen ||
    s.dump.state == 3

theorem copybackWork_groupStripes (ps : PoolSt) (e grp : Nat) :
    ps.shapes.filterMap (fun h => (h.entries.idxOf? e).map (fun oh => (h, oh, h.groupStripes grp))) =
      (copybackWork ps e).map (fun w => (w.1, w.2, w.1.groupStripes grp)) := by
  simp [copybackWork, List.map_filterMap, Function.comp_def]

theorem copybackEff_eq {p : Nat} {s : Part} {ps : PoolSt} (h : s.pool? p = some ps) (o : Nat) (bad : BadReads) :
    let k := ps.charter.geo.ids.getD o 16384
    let next := (alGet o ps.reb.copyback).getD 0
    let work := copybackWork ps (ps.charter.geo.entries.getD o 0)
    let groups := (work.map (fun w => w.1.braid.groups)).foldl max 0
    copybackEff p o bad s =
      if copybackHeld s ps o then s
      else if groups ≤ next then s
      else if work.any (fun w => (w.1.groupStripes next).any (fun x => homeBlocked s ps w.2 w.1 x)) then s
      else
        let t := modReb p (fun r => { r with copyback := alSet o (next + 1) r.copyback })
          (countMedium bad (copyGroup p k next bad work (active s)))
        if next + 1 = groups then queueDelta p (.memberState o 2) t else t := by
  intro k next work groups
  have hgroups : (((work.map (fun w => (w.1, w.2, w.1.groupStripes next))).map (fun w => w.1.braid.groups)).foldl max 0) = groups := by
    simp [groups, Function.comp_def]
  have hany : (work.map (fun w => (w.1, w.2, w.1.groupStripes next))).any (fun w => w.2.2.any (fun x => homeBlocked s ps w.2.1 w.1 x)) =
      work.any (fun w => (w.1.groupStripes next).any (fun x => homeBlocked s ps w.2 w.1 x)) := by
    simp [List.any_map, Function.comp_def]
  have hcopied : (work.map (fun w => (w.1, w.2, w.1.groupStripes next))).foldl (fun st w =>
      w.2.2.foldl (fun st2 x => copyHome p w.2.1 k w.1 bad x st2) st) (active s) = copyGroup p k next bad work (active s) := by
    rw [List.foldl_map]
    rfl
  unfold copybackEff
  rw [h]
  simp only [copybackWork_groupStripes]
  rw [hgroups, hany, hcopied]
  rfl

theorem copyback_goesHome {p : PoolId} {o : Nat} {s : State} {ps : PoolSt} (h : s.part.pool? p.val = some ps) :
    let home := ps.charter.geo.ids.getD o 16384
    let work := copybackWork ps (ps.charter.geo.entries.getD o 0)
    let groups := (work.map (fun w => w.1.braid.groups)).foldl max 0
    let next := (alGet o ps.reb.copyback).getD 0
    ps.life = 3 → ps.owned = true → ps.pair.state ≠ 4 → s.part.returned ps.charter.geo o = true → s.part.takes home = true →
      (∀ y, s.part.member? home = some y → ∀ f ∈ y.fleet, f.2 ≠ 1) → poolTasks s.part ps = [] →
      s.part.sched.frozen = false → s.part.dump.state ≠ 3 → next < groups →
      (∀ w ∈ work, ∀ x ∈ w.1.groupStripes next, homeBlocked s.part ps w.2 w.1 x = false) →
      Runs (.copyback p o []) s (fun t => ∃ x, t.pool? p.val = some x ∧ alGet o x.reb.copyback = some (next + 1) ∧
        (next + 1 = groups → .memberState o 2 ∈ x.queue) ∧ x.charter = ps.charter ∧ WithinStripes s.part t) := by
  intro home work groups next hlife howned hpair hreturned htakes hidle htasks hfrozen hdump hleft hfree
  have hidle' : ((s.part.member? home).map (fun m => m.fleet.any (fun x => x.2 == 1))).getD false = false := by
    cases hy : s.part.member? home with
    | none => rfl
    | some y => simpa using fun a b hf => hidle y hy (a, b) hf
  have hheld : copybackHeld s.part ps o = false := by
    have hpair' : (ps.pair.state == 4) = false := beq_false_of_ne hpair
    have hdump' : (s.part.dump.state == 3) = false := beq_false_of_ne hdump
    unfold copybackHeld
    simp only [howned, hpair', hlife, hreturned, htakes, hidle', htasks, hfrozen, hdump', home]
    rfl
  have hunblocked : work.any (fun w => (w.1.groupStripes next).any (fun x => homeBlocked s.part ps w.2 w.1 x)) = false := by
    simpa [List.any_eq_false] using fun a b hw => hfree (a, b) hw
  let copied := copyGroup p.val home next [] work (active s.part)
  have hcopied : copied.backdrop = s.part.backdrop := (copyGroup_backdrop ..).trans (Part.backdrop_of_books (active_books _))
  obtain ⟨y, hy, hstanding⟩ := Part.pool?_of_backdrop hcopied h
  have hcharter : y.charter = ps.charter := (congrArg PoolSt.charter hstanding :)
  let advanced := modReb p.val (fun r => { r with copyback := alSet o (next + 1) r.copyback }) copied
  have hadvanced : advanced.pool? p.val = some { y with reb := { y.reb with copyback := alSet o (next + 1) y.reb.copyback } } :=
    Part.modPool_of_pool? hy _ (fun _ => rfl)
  have hwithin : WithinStripes s.part advanced := (WithinStripes.of_backdrop hcopied).trans (.modPool ..)
  refine runs_onPart (g := copybackEff p.val o []) rfl ?_
  have heq : copybackEff p.val o [] s.part = if next + 1 = groups then queueDelta p.val (.memberState o 2) advanced else advanced := by
    rw [copybackEff_eq h, hheld, hunblocked, if_neg (Nat.not_le.mpr hleft)]
    rfl
  rw [heq]
  split
  · obtain ⟨x, hx, hasked, hxeq⟩ := queueDelta_pool? hadvanced (.memberState o 2)
    exact ⟨x, hx, by rw [hxeq]; exact alGet_alSet .., fun _ => hasked, by rw [hxeq]; exact hcharter, hwithin.trans (.modPool ..)⟩
  · next hmore => exact ⟨_, hadvanced, alGet_alSet .., fun hlast => absurd hlast hmore, hcharter, hwithin⟩

theorem copyback_stays_blocked {p : PoolId} {o : Nat} {s : State} {ps : PoolSt} (h : s.part.pool? p.val = some ps)
    (hblocked : ∃ w ∈ copybackWork ps (ps.charter.geo.entries.getD o 0),
      ∃ x ∈ w.1.groupStripes ((alGet o ps.reb.copyback).getD 0), homeBlocked s.part ps w.2 w.1 x = true) (bad : BadReads) :
    Stays (.copyback p o bad) s := by
  have hany : (copybackWork ps (ps.charter.geo.entries.getD o 0)).any (fun w =>
      (w.1.groupStripes ((alGet o ps.reb.copyback).getD 0)).any (fun x => homeBlocked s.part ps w.2 w.1 x)) = true := by
    simpa [List.any_eq_true] using hblocked
  refine stays_onPart (g := copybackEff p.val o bad) rfl ?_
  rw [copybackEff_eq h, hany]
  simp

theorem copyback_stays_busy {p : PoolId} {o : Nat} {s : State} {ps : PoolSt} (h : s.part.pool? p.val = some ps)
    (hbusy : poolTasks s.part ps ≠ [] ∨ ps.owned = false) (bad : BadReads) : Stays (.copyback p o bad) s := by
  have hheld : copybackHeld s.part ps o = true := by
    unfold copybackHeld
    rcases hbusy with htasks | howned
    · simp [htasks]
    · simp [howned]
  refine stays_onPart (g := copybackEff p.val o bad) rfl ?_
  rw [copybackEff_eq h, hheld]
  rfl

/-- Settles O28: it holds, assembled from a lemma for each command and what it finds. -/
theorem membersAreReplaced : Obligations.MembersAreReplaced := by
  unfold Obligations.MembersAreReplaced
  intro q p k o s m ps hm h
  exact ⟨fun hallowed htarget => ⟨memberReplaces_refused hm hallowed htarget, memberReplaces_assigns hm h hallowed htarget⟩,
    autoReplace_stays hm, autoReplace_assigns hm h, ⟨copyback_goesHome h, copyback_stays_blocked h⟩, copyback_stays_busy h⟩

end Sys2Proof.Machine
end

section
/-! SUPPORT. The start of a destage (02: R40, R41; 04: R82 to R85; 05: R104): its staging, its encoding and the pipelines' failures,
for `StripesAreDestaged`. -/

namespace Sys2Proof.Machine

/-! ### A Manifest entry -/

theorem Part.modEntry_entry? {s : Part} {p stripe : Nat} {e : MEntry} (h : s.entry? p stripe = some e) (g : MEntry → MEntry)
    (hg : ∀ x, (g x).pool = x.pool ∧ (g x).stripe = x.stripe) : (s.modEntry p stripe g).entry? p stripe = some (g e) := by
  have hfind := find?_updBy (fun e : MEntry => e.pool == p && e.stripe == stripe) g s.man.entries
    (fun x hx => by rwa [(hg x).1, (hg x).2])
  exact hfind.trans (congrArg (Option.map g) h)

theorem Part.entry?_congr {s t : Part} (h : t.man.entries = s.man.entries) (p stripe : Nat) : t.entry? p stripe = s.entry? p stripe := by
  unfold Part.entry?
  rw [h]

theorem tellTwin_entries (p : Nat) (n : TwinNews) (s : Part) : (tellTwin p n s).man.entries = s.man.entries := by
  unfold tellTwin
  split
  · split <;> rfl
  · rfl

theorem tellTwin_held (p : Nat) (n : TwinNews) (s : Part) : (tellTwin p n s).man.held = s.man.held := by
  unfold tellTwin
  split
  · split <;> rfl
  · rfl

/-! ### Staging a stripe the intent set does not name (R104) -/

theorem PoolSt.inIntent_of_standing {x y : PoolSt} (h : x.standing = y.standing) (stripe : Nat) : x.inIntent stripe = y.inIntent stripe := by
  have hintent : x.ckpt.intent = y.ckpt.intent := (congrArg (fun z : PoolSt => z.ckpt.intent) h :)
  unfold PoolSt.inIntent
  rw [hintent]

/-- No strip of a stripe is written before the intent set names it. -/
theorem promote_stays {p stripe : Nat} {s : Part} {ps : PoolSt} (h : s.pool? p = some ps) (hin : ps.inIntent stripe = false) :
    promote p stripe s = s := by
  unfold promote
  rw [h]
  cases s.entry? p stripe with
  | none => rfl
  | some e => exact if_pos (by simp [PoolSt.mayWrite, hin])

/-- The entry once `blocks` are staged under it. -/
def MEntry.stagedAt (e : MEntry) (blocks : List (Nat × Nat × Block)) (tide : Nat) : MEntry :=
  { e with staged := blocks, mask := stripsOf blocks, left := [], places := [], done := [], built := true, readyTide := tide }

theorem stageWrites_waits {p stripe : Nat} {s : Part} {ps : PoolSt} {e : MEntry} (h : s.pool? p = some ps)
    (he : s.entry? p stripe = some e) (hin : ps.inIntent stripe = false) (blocks : List (Nat × Nat × Block)) :
    (stageWrites p stripe blocks s).entry? p stripe = some (e.stagedAt blocks s.sched.tideNow) ∧
      (stageWrites p stripe blocks s).man.held = s.man.held := by
  let staged := s.modEntry p stripe (fun e => e.stagedAt blocks s.sched.tideNow)
  let waiting := needIntent p stripe (tellTwin p (.writing p stripe) staged)
  have hwaiting : waiting.backdrop = s.backdrop := (needIntent_backdrop ..).trans
    (Part.backdrop_of_structures ((tellTwin_structures ..).trans (Part.modEntry_structures ..)))
  obtain ⟨x, hx, hstanding⟩ := Part.pool?_of_backdrop hwaiting h
  have heq : stageWrites p stripe blocks s = waiting :=
    promote_stays hx ((PoolSt.inIntent_of_standing hstanding stripe).trans hin)
  rw [heq]
  refine ⟨(Part.entry?_congr (tellTwin_entries ..) p stripe).trans (Part.modEntry_entry? he _ fun _ => ⟨rfl, rfl⟩), tellTwin_held ..⟩

/-! ### What an encoding reaches (R39, R41, R42) -/

/-- `t` differs from `s` at most in what a pipeline's failure reaches. -/
def WithinFault (s t : Part) : Prop :=
  t = { s with sched := t.sched, fn0 := t.fn0, fn1 := t.fn1, pools := t.pools, pair := t.pair, tow := t.tow, dict := t.dict
               log := t.log, out := t.out }

theorem WithinFault.refl (s : Part) : WithinFault s s := rfl

theorem WithinFault.trans {s t u : Part} (h : WithinFault s t) (h' : WithinFault t u) : WithinFault s u :=
  calc u = _ := h'
    _ = _ := by rw [h]

theorem WithinFault.of_recorded {s t : Part} (h : Recorded s t) : WithinFault s t := by
  unfold WithinFault
  rw [h]

theorem WithinFault.modSched (s : Part) (g : SchedSt → SchedSt) : WithinFault s (s.modSched g) := rfl

theorem WithinFault.man {s t : Part} (h : WithinFault s t) : t.man = s.man := by
  rw [h]

theorem partFaulty_withinFault (subsystem : Nat) (s : Part) : WithinFault s (partFaulty subsystem s) := by
  unfold WithinFault partFaulty
  apply Part.ext_fields <;> simp

theorem pipeFailure_withinFault (q p stripe attempt : Nat) (s : Part) : WithinFault s (pipeFailure q p stripe attempt s) := by
  unfold pipeFailure
  extract_lets again s1 s2 s3 s4
  have hs1 : WithinFault s s1 := .of_recorded (log_recorded ..)
  have hs2 : WithinFault s s2 := hs1.trans (.modSched ..)
  have hs4 : WithinFault s s4 := (hs2.trans (.modSched ..)).trans (.of_recorded (log_recorded ..))
  split
  · split
    · exact hs4.trans (partFaulty_withinFault ..)
    · exact hs4
  · exact hs2

theorem faultyBy_pipeFails (cause sub : Nat) (s : Part) : (faultyBy cause sub s).sched.pipeFails = s.sched.pipeFails := by
  unfold faultyBy
  split
  · split <;> rfl
  · simp only []
    split
    · simp
    · simp [propose_foldl_frame]

/-- A failed encoding is counted against its pipeline. -/
theorem pipeFailure_pipeFails (q p stripe attempt : Nat) (s : Part) :
    (pipeFailure q p stripe attempt s).sched.pipeFails = (q, s.timeUs) :: s.sched.pipeFails := by
  unfold pipeFailure
  extract_lets again s1 s2 s3 s4
  have hs2 : s2.sched.pipeFails = (q, s.timeUs) :: s.sched.pipeFails := by simp [s2, s1]
  have hs4 : s4.sched.pipeFails = (q, s.timeUs) :: s.sched.pipeFails := by simp [s4, s3, hs2]
  split
  · split
    · rw [partFaulty, faultyBy_pipeFails, hs4]
    · exact hs4
  · exact hs2

theorem encodeFailures_withinFault (p stripe fails : Nat) (s : Part) : WithinFault s (encodeFailures p stripe fails s) := by
  unfold encodeFailures
  extract_lets s1 s2
  have hs1 : WithinFault s s1 := by
    simp only [s1]
    split
    · exact .of_recorded (noted_recorded ..)
    · exact .refl s
  have hs2 : WithinFault s s2 := by
    simp only [s2]
    split
    · exact hs1.trans (pipeFailure_withinFault ..)
    · exact hs1
  split
  · exact hs2.trans (pipeFailure_withinFault ..)
  · exact hs2

/-- An encoding no pipeline fails is noted at most. -/
theorem encodeFailures_none (p stripe : Nat) (s : Part) : Recorded s (encodeFailures p stripe 0 s) := by
  unfold encodeFailures
  extract_lets s1 s2
  have hs2 : s2 = s1 := if_neg (by decide)
  rw [if_neg (by decide), hs2]
  simp only [s1]
  split
  · exact noted_recorded ..
  · rfl

/-! ### What the start of a destage reaches -/

/-- `t` differs from `s` at most in what a destage reaches. -/
def WithinDestage (s t : Part) : Prop :=
  t = { s with islands := t.islands, sched := t.sched, man := t.man, chains := t.chains, fn0 := t.fn0, fn1 := t.fn1, pools := t.pools
               vols := t.vols, members := t.members, pair := t.pair, tow := t.tow, dict := t.dict, log := t.log, out := t.out }

theorem WithinDestage.trans {s t u : Part} (h : WithinDestage s t) (h' : WithinDestage t u) : WithinDestage s u :=
  calc u = _ := h'
    _ = _ := by rw [h]

theorem WithinDestage.of_stripes {s t : Part} (h : WithinStripes s t) : WithinDestage s t := by
  unfold WithinDestage
  rw [h]

theorem WithinDestage.of_fault {s t : Part} (h : WithinFault s t) : WithinDestage s t := by
  unfold WithinDestage
  rw [h]

theorem WithinDestage.modMan (s : Part) (g : ManifestSt → ManifestSt) : WithinDestage s (s.modMan g) := rfl

theorem WithinDestage.stageWrites (p stripe : Nat) (blocks : List (Nat × Nat × Block)) (s : Part) :
    WithinDestage s (Machine.stageWrites p stripe blocks s) := .of_stripes (.of_backdrop (stageWrites_backdrop ..))

theorem useIsland_only (i : Island) (s : Part) :
    useIsland i s = { s with islands := (useIsland i s).islands, out := (useIsland i s).out } := by
  unfold useIsland
  split
  · rfl
  · exact islandUp_only i s

theorem WithinDestage.useIsland (i : Island) (s : Part) : WithinDestage s (Machine.useIsland i s) := by
  unfold WithinDestage
  rw [useIsland_only]

/-! ### Encoding (R39, R41) -/

/-- What is staged with an encoding that no pipeline fails. -/
def MEntry.Staged (y e : MEntry) (writes : List (Nat × Nat × Block)) (tide : Nat) : Prop :=
  y.staged = writes ∧ y.mask = stripsOf writes ∧ y.left = [] ∧ y.built = true ∧ y.readyTide = tide ∧ y.state = e.state ∧ y.snap = e.snap

theorem stageEncoded_stages {p stripe : Nat} {s : Part} {ps : PoolSt} {e : MEntry} (h : s.pool? p = some ps)
    (he : s.entry? p stripe = some e) (hin : ps.inIntent stripe = false) (mirror : Bool) (writes : List (Nat × Nat × Block)) :
    (∃ y, (stageEncoded p stripe mirror 0 writes s).entry? p stripe = some y ∧ y.Staged e writes s.sched.tideNow) ∧
      (stageEncoded p stripe mirror 0 writes s).man.held = s.man.held ∧ WithinDestage s (stageEncoded p stripe mirror 0 writes s) := by
  cases mirror with
  | true =>
    obtain ⟨hentry, hheld⟩ := stageWrites_waits h he hin writes
    exact ⟨⟨_, hentry, rfl, rfl, rfl, rfl, rfl, rfl, rfl⟩, hheld, .stageWrites ..⟩
  | false =>
    let used := useIsland .c s
    let encoded := encodeFailures p stripe 0 used
    have hencoded : Recorded used encoded := encodeFailures_none p stripe used
    let good := encoded.modEntry p stripe (fun e => { e with synd := 0, syndFail := false })
    obtain ⟨hman, hsched, hpools⟩ : encoded.man = s.man ∧ encoded.sched = s.sched ∧ encoded.pools = s.pools := by
      rw [hencoded]
      simp only [used]
      rw [useIsland_only]
      exact ⟨rfl, rfl, rfl⟩
    have hpool : good.pool? p = some ps := (congrArg (List.find? fun x : PoolSt => x.id == p) hpools).trans h
    have hentry : good.entry? p stripe = some { e with synd := 0, syndFail := false } :=
      Part.modEntry_entry? ((Part.entry?_congr (congrArg ManifestSt.entries hman) p stripe).trans he) _ fun _ => ⟨rfl, rfl⟩
    have heq : stageEncoded p stripe false 0 writes s = stageWrites p stripe writes good := rfl
    obtain ⟨hstaged, hheld⟩ := stageWrites_waits hpool hentry hin writes
    rw [heq]
    refine ⟨⟨_, hstaged, rfl, rfl, rfl, rfl, congrArg SchedSt.tideNow hsched, rfl, rfl⟩, hheld.trans (congrArg ManifestSt.held hman :), ?_⟩
    exact (((WithinDestage.useIsland .c s).trans (.of_fault (.of_recorded hencoded))).trans (.modMan ..)).trans (.stageWrites ..)

/-- With two encodings failed the stripe waits for a good one. -/
theorem stageEncoded_fails {p stripe n : Nat} {s : Part} {e : MEntry} (he : s.entry? p stripe = some e) (hn : 2 ≤ n)
    (writes : List (Nat × Nat × Block)) :
    (∃ y, (stageEncoded p stripe false n writes s).entry? p stripe = some y ∧ y.staged = writes ∧ y.synd = n ∧ y.syndFail = true ∧
      y.built = e.built ∧ y.left = []) ∧
      (stageEncoded p stripe false n writes s).man.held = s.man.held ∧ WithinDestage s (stageEncoded p stripe false n writes s) := by
  let used := useIsland .c s
  let encoded := encodeFailures p stripe n used
  have hencoded : WithinFault used encoded := encodeFailures_withinFault p stripe n used
  have hman : encoded.man = s.man := by
    rw [hencoded.man]
    simp only [used]
    rw [useIsland_only]
  have hcounted := Part.modEntry_entry? ((Part.entry?_congr (congrArg ManifestSt.entries hman) p stripe).trans he)
    (fun e => { e with synd := if n < 2 then 0 else n, syndFail := decide (0 < n) }) fun _ => ⟨rfl, rfl⟩
  have hentry := Part.modEntry_entry? hcounted
    (fun e => { e with staged := writes, mask := stripsOf writes, left := [], places := [], done := [] }) fun _ => ⟨rfl, rfl⟩
  have heq : stageEncoded p stripe false n writes s =
      (encoded.modEntry p stripe (fun e => { e with synd := if n < 2 then 0 else n, syndFail := decide (0 < n) })).modEntry p stripe
        (fun e => { e with staged := writes, mask := stripsOf writes, left := [], places := [], done := [] }) := if_neg (Nat.not_lt.mpr hn)
  rw [heq]
  refine ⟨⟨_, hentry, rfl, if_neg (Nat.not_lt.mpr hn), decide_eq_true (by omega), rfl, rfl⟩, (congrArg ManifestSt.held hman :), ?_⟩
  exact (((WithinDestage.useIsland .c s).trans (.of_fault hencoded)).trans (.modMan ..)).trans (.modMan ..)

/-! ### The start of a destage (R82, R83) -/

/-- A destage's staging is its encoding, from the entry with the snapshot taken. -/
theorem stageDestage_eq {ps : PoolSt} {g : Geo} {stripe : Nat} {s : Part} {e : MEntry} (he : s.entry? ps.id stripe = some e) (rmw : Bool)
    (snap : List Held) (writes : List (Nat × Nat × Block)) (fails : Nat) : ∃ (taken : Part) (x : MEntry),
      stageDestage ps g stripe rmw snap writes fails s = stageEncoded ps.id stripe g.mirror fails writes taken ∧
      taken.entry? ps.id stripe = some x ∧ x.state = e.state ∧ x.built = e.built ∧
      x.snap = snap.map (fun b => (b.strip, b.bo, b.gen)) ∧ taken.man.held = s.man.held ∧ taken = { s with man := taken.man } := by
  unfold stageDestage
  extract_lets checks through fit cls snapped counted
  obtain ⟨x, hx, hstate, hbuilt, hsnap⟩ : ∃ x, snapped.entry? ps.id stripe = some x ∧ x.state = e.state ∧ x.built = e.built ∧
      x.snap = snap.map (fun b => (b.strip, b.bo, b.gen)) := ⟨_, Part.modEntry_entry? he _ fun _ => ⟨rfl, rfl⟩, rfl, rfl, rfl⟩
  refine ⟨counted, x, rfl, ?_, hstate, hbuilt, hsnap, ?_, ?_⟩
  · simp only [counted]
    split
    · exact hx
    · exact hx
  · simp only [counted]
    split <;> rfl
  · simp only [counted]
    split <;> rfl

end Sys2Proof.Machine
end

section
/-! SUPPORT. A destage starts, or stays where it may not (04: R82, R83; 05: R104; 08: R206), for `StripesAreDestaged`. -/

namespace Sys2Proof.Machine

theorem destage_stays {p stripe : Nat} {s : Part} {ps : PoolSt} {e : MEntry} (h : s.pool? p = some ps) (he : s.entry? p stripe = some e)
    (hnot : mayDestage s ps stripe e = false ∨ snapshot s p stripe = []) (again : Bool) (bad : BadReads) (n : Nat) :
    destage again p stripe bad n s = s := by
  unfold destage
  rw [h, he]
  rcases hnot with hmay | hsnap
  · exact if_pos (by simp [hmay])
  · exact if_pos (by simp [hsnap])

theorem mayDestage_rests {s : Part} {ps : PoolSt} {stripe : Nat} {e : MEntry} (h : mayDestage s ps stripe e = true) :
    e.stuck = false ∧ e.built = false := by
  simp only [mayDestage, Bool.and_eq_true, Bool.not_eq_true'] at h
  simp only [h, and_self]

theorem destageStart_stays {p : PoolId} {stripe : Nat} {s : State} {ps : PoolSt} {e : MEntry} (h : s.part.pool? p.val = some ps)
    (he : s.part.entry? p.val stripe = some e) (bad : BadReads) (n : Nat)
    (hnot : mayDestage s.part ps stripe e = false ∨ snapshot s.part p.val stripe = []) :
    Stays (.destageStart p stripe bad n) s ∧ (e.stuck = false → Stays (.destageRetry p stripe ⟨bad, n⟩) s) := by
  refine ⟨stays_onPart (g := destage false p.val stripe bad n) rfl (destage_stays h he hnot ..), fun hstuck => ?_⟩
  refine stays_onPart (g := destageRetryEff p.val stripe bad n) rfl ?_
  unfold destageRetryEff
  simp only [he, hstuck]
  exact destage_stays h he hnot ..

/-- A stripe that waits for strips is left alone while the part is frozen, dumps or does not own it. -/
theorem destageRetry_stays_stuck {p : PoolId} {stripe : Nat} {s : State} {ps : PoolSt} {e : MEntry} (h : s.part.pool? p.val = some ps)
    (he : s.part.entry? p.val stripe = some e) (bad : BadReads) (n : Nat) (hstuck : e.stuck = true)
    (hheld : ps.owned = false ∨ s.part.sched.frozen = true ∨ s.part.dump.state = 3) : Stays (.destageRetry p stripe ⟨bad, n⟩) s := by
  refine stays_onPart (g := destageRetryEff p.val stripe bad n) rfl ?_
  unfold destageRetryEff resumeStripe
  simp only [he, hstuck, h, if_true]
  refine if_pos ?_
  rcases hheld with howned | hfrozen | hdump
  · simp [howned]
  · simp [hfrozen]
  · simp [hdump]

/-- The destage of entry `e` may start, and its plan, `writes`, found on `st`, does not fall short. -/
structure Destages (s : Part) (p stripe : Nat) (ps : PoolSt) (e : MEntry) (writes : List (Nat × Nat × Block)) (st : Part) : Prop where
  pool : s.pool? p = some ps
  entry : s.entry? p stripe = some e
  may : mayDestage s ps stripe e = true
  snap : snapshot s p stripe ≠ []
  plan : planStripe ps (ps.charter.geoOf stripe) [] stripe
    (!(ps.charter.geoOf stripe).mirror && choosesRmw s ps (ps.charter.geoOf stripe).h stripe (newestOf (snapshot s p stripe)))
    (newestOf (snapshot s p stripe)) s = (some writes, st)
  enough : fallsShort (active st) ps (ps.charter.geoOf stripe) stripe (stripsOf writes)
    ((stripsOf writes).filter (fun i => !((active st).places ps (ps.charter.geoOf stripe) e.whole stripe i).isEmpty)) = false

section
variable {s st : Part} {p stripe : Nat} {ps : PoolSt} {e : MEntry} {writes : List (Nat × Nat × Block)}

theorem Destages.destage_eq (d : Destages s p stripe ps e writes st) {again : Bool}
    (horder : again = true ∨ olderFirst s ps e
      (decide ((newestOf (snapshot s p stripe)).length = (ps.charter.geoOf stripe).h.kb)) = false) (n : Nat) :
    destage again p stripe [] n s = stageDestage ps (ps.charter.geoOf stripe) stripe
      (!(ps.charter.geoOf stripe).mirror && choosesRmw s ps (ps.charter.geoOf stripe).h stripe (newestOf (snapshot s p stripe)))
      (snapshot s p stripe) writes (if (ps.charter.geoOf stripe).mirror then 0 else n) (active st) := by
  have hguard : (!mayDestage s ps stripe e || (snapshot s p stripe).isEmpty || (!again && olderFirst s ps e
      (decide ((newestOf (snapshot s p stripe)).length = (ps.charter.geoOf stripe).h.kb)))) = false := by
    rcases horder with hagain | holder
    · simp [d.may, d.snap, hagain]
    · rw [holder]
      simp [d.may, d.snap]
  have hread : countMedium [] (active st) = active st := rfl
  unfold destage
  simp only [d.pool, d.entry, hguard, d.plan, hread, d.enough]
  rfl

/-- After the plan the part is as before but for what the plan put on record. -/
theorem Destages.planned (d : Destages s p stripe ps e writes st) :
    (∃ x, (active st).pool? p = some x ∧ ∀ z, x.inIntent z = ps.inIntent z) ∧ (active st).entry? p stripe = some e ∧
      (active st).man = s.man ∧ (active st).sched = s.sched ∧ WithinDestage s (active st) := by
  have hbooks : (active st).books = s.books := by
    have hst := planStripe_books ps (ps.charter.geoOf stripe) [] stripe
      (!(ps.charter.geoOf stripe).mirror && choosesRmw s ps (ps.charter.geoOf stripe).h stripe (newestOf (snapshot s p stripe)))
      (newestOf (snapshot s p stripe)) s
    rw [d.plan] at hst
    exact (active_books st).trans hst
  obtain ⟨x, hx, hbare⟩ := Part.pool?_of_structures (Part.structures_of_books hbooks) d.pool
  have hintent : x.ckpt.intent = ps.ckpt.intent := (congrArg (fun z : PoolSt => z.ckpt.intent) hbare :)
  exact ⟨⟨x, hx, fun z => by rw [PoolSt.inIntent, PoolSt.inIntent, hintent]⟩,
    (Part.entry?_congr (congrArg ManifestSt.entries (Part.man_of_books hbooks)) p stripe).trans d.entry, Part.man_of_books hbooks,
    Part.sched_of_books hbooks, .of_stripes (.of_books hbooks)⟩

/-- A destage is the encoding of its plan, from an entry that has the snapshot. -/
theorem Destages.encodes (d : Destages s p stripe ps e writes st) {again : Bool}
    (horder : again = true ∨ olderFirst s ps e
      (decide ((newestOf (snapshot s p stripe)).length = (ps.charter.geoOf stripe).h.kb)) = false) (n : Nat) :
    ∃ (taken : Part) (x : PoolSt) (y : MEntry),
      destage again p stripe [] n s = stageEncoded p stripe (ps.charter.geoOf stripe).mirror
        (if (ps.charter.geoOf stripe).mirror then 0 else n) writes taken ∧
      taken.pool? p = some x ∧ (∀ z, x.inIntent z = ps.inIntent z) ∧ taken.entry? p stripe = some y ∧ y.state = e.state ∧
      y.built = e.built ∧ y.snap = (snapshot s p stripe).map (fun b => (b.strip, b.bo, b.gen)) ∧
      taken.man.held = s.man.held ∧ taken.sched = s.sched ∧ WithinDestage s taken := by
  obtain ⟨⟨x, hx, hxin⟩, hentry, hman, hsched, hwithin⟩ := d.planned
  obtain rfl := Part.pool?_id d.pool
  obtain ⟨taken, y, heq, hy, hstate, hbuilt, hsnap, hheld, htaken⟩ := stageDestage_eq (g := ps.charter.geoOf stripe) hentry
    (!(ps.charter.geoOf stripe).mirror && choosesRmw s ps (ps.charter.geoOf stripe).h stripe (newestOf (snapshot s ps.id stripe)))
    (snapshot s ps.id stripe) writes (if (ps.charter.geoOf stripe).mirror then 0 else n)
  have htook : WithinDestage (active st) taken := by
    rw [htaken]
    rfl
  refine ⟨taken, x, y, (d.destage_eq horder n).trans heq, ?_, hxin, hy, hstate, hbuilt, hsnap, ?_, ?_, hwithin.trans htook⟩
  · rw [htaken]
    exact hx
  · rw [hheld, hman]
  · rw [htaken]
    exact hsched

theorem Destages.stages (d : Destages s p stripe ps e writes st) (hin : ps.inIntent stripe = false) {again : Bool}
    (horder : again = true ∨ olderFirst s ps e
      (decide ((newestOf (snapshot s p stripe)).length = (ps.charter.geoOf stripe).h.kb)) = false) :
    (∃ y, (destage again p stripe [] 0 s).entry? p stripe = some y ∧ y.staged = writes ∧ y.mask = stripsOf writes ∧ y.left = [] ∧
      y.built = true ∧ y.readyTide = s.sched.tideNow ∧ y.state = e.state ∧
      y.snap = (snapshot s p stripe).map (fun b => (b.strip, b.bo, b.gen))) ∧
      (destage again p stripe [] 0 s).man.held = s.man.held ∧ WithinDestage s (destage again p stripe [] 0 s) := by
  obtain ⟨taken, x, y, heq, hx, hxin, hy, hstate, -, hsnap, hheld, hsched, hwithin⟩ := d.encodes horder 0
  rw [ite_self] at heq
  obtain ⟨⟨z, hz, hstaged, hmask, hleft, hbuilt, hready, hzstate, hzsnap⟩, hzheld, hzwithin⟩ :=
    stageEncoded_stages hx hy ((hxin stripe).trans hin) (ps.charter.geoOf stripe).mirror writes
  rw [heq]
  exact ⟨⟨z, hz, hstaged, hmask, hleft, hbuilt, hready.trans (congrArg SchedSt.tideNow hsched), hzstate.trans hstate,
    hzsnap.trans hsnap⟩, hzheld.trans hheld, hwithin.trans hzwithin⟩

theorem Destages.failsEncoding (d : Destages s p stripe ps e writes st) {n : Nat} (hn : 2 ≤ n)
    (hmirror : (ps.charter.geoOf stripe).mirror = false) :
    (∃ y, (destage true p stripe [] n s).entry? p stripe = some y ∧ y.staged = writes ∧ y.synd = n ∧ y.syndFail = true ∧
      y.built = false ∧ y.left = []) ∧
      (destage true p stripe [] n s).man.held = s.man.held ∧ WithinDestage s (destage true p stripe [] n s) := by
  obtain ⟨taken, x, y, heq, -, -, hy, -, hbuilt, -, hheld, -, hwithin⟩ := d.encodes (.inl rfl) n
  obtain ⟨⟨z, hz, hstaged, hsynd, hfail, hzbuilt, hleft⟩, hzheld, hzwithin⟩ := stageEncoded_fails hy hn writes
  have heq' : destage true p stripe [] n s = stageEncoded p stripe false n writes taken := by
    simpa [hmirror] using heq
  rw [heq']
  exact ⟨⟨z, hz, hstaged, hsynd, hfail, (hzbuilt.trans hbuilt).trans (mayDestage_rests d.may).2, hleft⟩, hzheld.trans hheld,
    hwithin.trans hzwithin⟩

theorem Destages.destageRetryEff_eq (d : Destages s p stripe ps e writes st) (n : Nat) :
    destageRetryEff p stripe [] n s = destage true p stripe [] n s := by
  unfold destageRetryEff
  simp only [d.entry, (mayDestage_rests d.may).1]
  rfl

end

theorem destage_runs_stages {p : PoolId} {stripe : Nat} {s : State} {st : Part} {ps : PoolSt} {e : MEntry}
    {writes : List (Nat × Nat × Block)} (d : Destages s.part p.val stripe ps e writes st) (hin : ps.inIntent stripe = false) (i : Instr)
    (hi : i = Instr.destageRetry p stripe ⟨[], 0⟩ ∨ (i = Instr.destageStart p stripe [] 0 ∧ olderFirst s.part ps e
      (decide ((newestOf (snapshot s.part p.val stripe)).length = (ps.charter.geoOf stripe).h.kb)) = false)) :
    Runs i s (fun t => (∃ y, t.entry? p.val stripe = some y ∧ y.staged = writes ∧ y.mask = stripsOf writes ∧ y.left = [] ∧
        y.built = true ∧ y.readyTide = s.part.sched.tideNow ∧ y.state = e.state ∧
        y.snap = (snapshot s.part p.val stripe).map (fun b => (b.strip, b.bo, b.gen))) ∧
      t.man.held = s.part.man.held ∧ WithinDestage s.part t) := by
  rcases hi with rfl | ⟨rfl, holder⟩
  · refine runs_onPart (g := destageRetryEff p.val stripe [] 0) rfl ?_
    rw [d.destageRetryEff_eq]
    exact d.stages hin (.inl rfl)
  · exact runs_onPart (g := destage false p.val stripe [] 0) rfl (d.stages hin (.inr holder))

theorem destageRetry_runs_failsEncoding {p : PoolId} {stripe n : Nat} {s : State} {st : Part} {ps : PoolSt} {e : MEntry}
    {writes : List (Nat × Nat × Block)} (d : Destages s.part p.val stripe ps e writes st) (hn : 2 ≤ n)
    (hmirror : (ps.charter.geoOf stripe).mirror = false) :
    Runs (.destageRetry p stripe ⟨[], n⟩) s (fun t => (∃ y, t.entry? p.val stripe = some y ∧ y.staged = writes ∧ y.synd = n ∧
      y.syndFail = true ∧ y.built = false ∧ y.left = []) ∧ t.man.held = s.part.man.held ∧ WithinDestage s.part t) := by
  refine runs_onPart (g := destageRetryEff p.val stripe [] n) rfl ?_
  rw [d.destageRetryEff_eq]
  exact d.failsEncoding hn hmirror

/-! ### Another encoding (R41) -/

theorem syndromeRetry_stays {p : PoolId} {stripe : Nat} {s : State} {e : MEntry} (he : s.part.entry? p.val stripe = some e)
    (hsynd : e.synd = 0) (good : Bool) : Stays (.syndromeRetry p stripe good) s := by
  refine stays_onPart (g := syndromeRetryEff p.val stripe good) rfl ?_
  unfold syndromeRetryEff
  simp only [he, hsynd]
  rfl

theorem syndromeRetryEff_eq {p stripe : Nat} {s : Part} {e : MEntry} (he : s.entry? p stripe = some e) (hsynd : e.synd ≠ 0)
    (hpipes : s.pipes ≠ []) (good : Bool) : syndromeRetryEff p stripe good s =
      if good then
        stageWrites p stripe e.staged
          ((noted 7 41 3 (leBytes 1 p ++ leBytes 6 stripe ++ leBytes 1 (min 255 (e.synd + 1))) s).modEntry p stripe
            (fun x => { x with synd := 0 }))
      else
        pipeFailure (s.pipeOf e.synd) p stripe (min 255 (e.synd + 1)) (s.modEntry p stripe (fun x => { x with synd := x.synd + 1 })) := by
  have hguard : (decide (e.synd = 0) || s.pipes.isEmpty) = false := by simp [hsynd, hpipes]
  unfold syndromeRetryEff
  simp only [he, hguard]
  rfl

theorem syndromeRetry_fails {p : PoolId} {stripe : Nat} {s : State} {e : MEntry} (he : s.part.entry? p.val stripe = some e)
    (hsynd : e.synd ≠ 0) (hpipes : s.part.pipes ≠ []) :
    Runs (.syndromeRetry p stripe false) s (fun t => t.entry? p.val stripe = some { e with synd := e.synd + 1 } ∧
      t.sched.pipeFails = (s.part.pipeOf e.synd, s.part.timeUs) :: s.part.sched.pipeFails ∧ t = { s.part with sched := t.sched, man := t.man, fn0 := t.fn0, fn1 := t.fn1, pools := t.pools, pair := t.pair, tow := t.tow, dict := t.dict, log := t.log, out := t.out }) := by
  refine runs_onPart (g := syndromeRetryEff p.val stripe false) rfl ?_
  rw [syndromeRetryEff_eq he hsynd hpipes, if_neg Bool.false_ne_true]
  let counted := s.part.modEntry p.val stripe (fun x => { x with synd := x.synd + 1 })
  have hfault : WithinFault counted (pipeFailure (s.part.pipeOf e.synd) p.val stripe (min 255 (e.synd + 1)) counted) :=
    pipeFailure_withinFault ..
  refine ⟨?_, pipeFailure_pipeFails .., ?_⟩
  · exact (Part.entry?_congr (congrArg ManifestSt.entries hfault.man) _ _).trans (Part.modEntry_entry? he _ fun _ => ⟨rfl, rfl⟩)
  · rw [hfault.man]
    exact hfault

theorem syndromeRetry_stages {p : PoolId} {stripe : Nat} {s : State} {ps : PoolSt} {e : MEntry} (h : s.part.pool? p.val = some ps)
    (he : s.part.entry? p.val stripe = some e) (hsynd : e.synd ≠ 0) (hpipes : s.part.pipes ≠ []) (hin : ps.inIntent stripe = false) :
    Runs (.syndromeRetry p stripe true) s (fun t =>
      (∃ y, t.entry? p.val stripe = some y ∧ y.synd = 0 ∧ y.staged = e.staged ∧ y.built = true) ∧ t.man.held = s.part.man.held ∧
      t = { s.part with sched := t.sched, man := t.man, chains := t.chains, fn0 := t.fn0, fn1 := t.fn1, pools := t.pools, vols := t.vols, members := t.members, pair := t.pair, tow := t.tow, dict := t.dict, log := t.log, out := t.out }) := by
  refine runs_onPart (g := syndromeRetryEff p.val stripe true) rfl ?_
  rw [syndromeRetryEff_eq he hsynd hpipes, if_pos rfl]
  let logged := noted 7 41 3 (leBytes 1 p.val ++ leBytes 6 stripe ++ leBytes 1 (min 255 (e.synd + 1))) s.part
  let good := logged.modEntry p.val stripe (fun x => { x with synd := 0 })
  have hlogged : Recorded s.part logged := noted_recorded ..
  obtain ⟨hman, hpools⟩ : logged.man = s.part.man ∧ logged.pools = s.part.pools := by
    rw [hlogged]
    exact ⟨rfl, rfl⟩
  have hpool : good.pool? p.val = some ps := (congrArg (List.find? fun x : PoolSt => x.id == p.val) hpools).trans h
  have hentry : good.entry? p.val stripe = some { e with synd := 0 } :=
    Part.modEntry_entry? ((Part.entry?_congr (congrArg ManifestSt.entries hman) _ _).trans he) _ fun _ => ⟨rfl, rfl⟩
  obtain ⟨hstaged, hheld⟩ := stageWrites_waits hpool hentry hin e.staged
  have hgood : WithinStripes s.part good := by
    simp only [good]
    rw [hlogged]
    rfl
  have hwithin : WithinStripes s.part (stageWrites p.val stripe e.staged good) := hgood.trans (.of_backdrop (stageWrites_backdrop ..))
  refine ⟨⟨_, hstaged, rfl, rfl, rfl⟩, hheld.trans (congrArg ManifestSt.held hman :), ?_⟩
  rw [hwithin]

end Sys2Proof.Machine
end

section
/-! SUPPORT. A strip reported durable, and the retirement of an entry with its last one (04: R87, R88), with the statement of
`StripesAreDestaged`. -/

namespace Sys2Proof.Machine

/-! ### What a member's media hold -/

theorem Block.eq_zero_of_isZero {b : Block} (h : b.isZero = true) : b = Block.zero := by
  obtain ⟨data, md⟩ := b
  simpa [Block.isZero, Block.zero] using h

theorem alGet_alDel_ne {κ α : Type} [DecidableEq κ] {k q : κ} (h : q ≠ k) (l : List (κ × α)) : alGet q (alDel k l) = alGet q l := by
  induction l with
  | nil => rfl
  | cons x l ih =>
    obtain ⟨k', v⟩ := x
    have ih' : alGet q (List.filter (fun e => !decide (e.1 = k)) l) = alGet q l := ih
    by_cases hk : k' = k
    · subst hk
      simp [alDel, alGet, Ne.symm h, ih']
    · by_cases hq : k' = q
      · simp [alDel, alGet, hq, h]
      · simp [alDel, alGet, hk, hq, ih']

theorem MemberSt.store_blockAt (m : MemberSt) (mba : Nat) (b : Block) : (m.store mba b).blockAt mba = b := by
  unfold MemberSt.store MemberSt.blockAt
  by_cases hzero : b.isZero = true
  · simpa [hzero] using (Block.eq_zero_of_isZero hzero).symm
  · simp [hzero]

theorem MemberSt.store_blockAt_ne {mba mba' : Nat} (h : mba' ≠ mba) (m : MemberSt) (b : Block) :
    (m.store mba b).blockAt mba' = m.blockAt mba' := by
  unfold MemberSt.store MemberSt.blockAt
  by_cases hzero : b.isZero = true
  · simp [hzero, alGet_alDel_ne h]
  · simp [hzero, alGet_alSet_ne _ _ h]

/-! ### A strip is stored (R87) -/

/-- The member once the blocks of strip `i` are on it from `base` on, each with its stamp. -/
def MemberSt.withStrip (ps : PoolSt) (g : Geo) (i base : Nat) (blocks : List (Nat × Nat × Block)) (m : MemberSt) : MemberSt :=
  let stored := blocks.foldl (fun (m : MemberSt) x =>
    m.store (base + x.2.1) (stampBlock (g.isCheck i) g.fmt i ps.id (base + x.2.1) x.2.2)) m
  { stored with recentWrites := (base :: stored.recentWrites).take 4096 }

theorem storeStrip_eq (ps : PoolSt) (g : Geo) (e : MEntry) (i : Nat) (s : Part) : storeStrip ps g e i s =
    ((e.places.filter (fun x => x.1 == i && s.takes x.2.1)).map (·.2)).foldl (fun st pl =>
      st.modMember pl.1 (fun m => m.withStrip ps g i pl.2 (e.staged.filter (fun x => x.1 == i)))) s := rfl

theorem MemberSt.withStrip_stands (ps : PoolSt) (g : Geo) (i base : Nat) (blocks : List (Nat × Nat × Block)) (m : MemberSt) :
    (m.withStrip ps g i base blocks).id = m.id ∧ (m.withStrip ps g i base blocks).state = m.state := by
  have hall : ∀ m : MemberSt, (blocks.foldl (fun (m : MemberSt) x =>
      m.store (base + x.2.1) (stampBlock (g.isCheck i) g.fmt i ps.id (base + x.2.1) x.2.2)) m).id = m.id ∧
      (blocks.foldl (fun (m : MemberSt) x =>
      m.store (base + x.2.1) (stampBlock (g.isCheck i) g.fmt i ps.id (base + x.2.1) x.2.2)) m).state = m.state := by
    induction blocks with
    | nil => exact fun _ => ⟨rfl, rfl⟩
    | cons x blocks ih => exact fun m => ih (m.store (base + x.2.1) _)
  exact hall m

theorem MemberSt.withStrip_blockAt_other {ps : PoolSt} {g : Geo} {i base mba : Nat} {blocks : List (Nat × Nat × Block)}
    (h : ∀ x ∈ blocks, mba ≠ base + x.2.1) (m : MemberSt) : (m.withStrip ps g i base blocks).blockAt mba = m.blockAt mba := by
  have hall : ∀ (l : List (Nat × Nat × Block)), (∀ x ∈ l, mba ≠ base + x.2.1) → ∀ m : MemberSt, (l.foldl (fun (m : MemberSt) x =>
      m.store (base + x.2.1) (stampBlock (g.isCheck i) g.fmt i ps.id (base + x.2.1) x.2.2)) m).blockAt mba = m.blockAt mba := fun l => by
    induction l with
    | nil => exact fun _ _ => rfl
    | cons x l ih =>
      intro hl m
      rw [List.foldl_cons, ih fun y hy => hl y (List.mem_cons_of_mem x hy)]
      exact MemberSt.store_blockAt_ne (hl x List.mem_cons_self) m _
  exact hall blocks h m

theorem MemberSt.withStrip_blockAt (ps : PoolSt) (g : Geo) (i base bo : Nat) (b : Block) (m : MemberSt) :
    (m.withStrip ps g i base [(i, bo, b)]).blockAt (base + bo) = stampBlock (g.isCheck i) g.fmt i ps.id (base + bo) b :=
  MemberSt.store_blockAt m (base + bo) _

theorem Part.modMember_mediaAt {s : Part} {k mba : Nat} {g : MemberSt → MemberSt} (hid : ∀ m, (g m).id = m.id)
    (hblock : ∀ m, (g m).blockAt mba = m.blockAt mba) : (s.modMember k g).mediaAt k mba = s.mediaAt k mba := by
  unfold Part.mediaAt
  rw [Part.modMember_member? s k g hid, Option.map_map]
  simp only [Function.comp_def, hblock]

theorem Part.modMember_mediaAt_ne {s : Part} {j k mba : Nat} {g : MemberSt → MemberSt} (hid : ∀ m, (g m).id = m.id) (h : j ≠ k) :
    (s.modMember k g).mediaAt j mba = s.mediaAt j mba := by
  unfold Part.mediaAt
  rw [Part.modMember_member?_ne s g hid h]

/-- No other place is written. -/
theorem storeStrip_mediaAt_other {ps : PoolSt} {g : Geo} {e : MEntry} {i : Nat} {s : Part} {k mba : Nat}
    (h : ∀ pl ∈ e.places, pl.1 = i → s.takes pl.2.1 = true → ∀ x ∈ e.staged, x.1 = i → ¬ (k = pl.2.1 ∧ mba = pl.2.2 + x.2.1)) :
    (storeStrip ps g e i s).mediaAt k mba = s.mediaAt k mba := by
  have hall : ∀ (l : List (Nat × Nat)), (∀ pl ∈ l, ∀ x ∈ e.staged.filter (fun x => x.1 == i), ¬ (k = pl.1 ∧ mba = pl.2 + x.2.1)) →
      ∀ st : Part, (l.foldl (fun st pl => st.modMember pl.1 (fun m =>
        m.withStrip ps g i pl.2 (e.staged.filter (fun x => x.1 == i)))) st).mediaAt k mba = st.mediaAt k mba := fun l => by
    induction l with
    | nil => exact fun _ _ => rfl
    | cons pl l ih =>
      intro hl st
      rw [List.foldl_cons, ih fun y hy => hl y (List.mem_cons_of_mem pl hy)]
      have hid : ∀ m : MemberSt, (m.withStrip ps g i pl.2 (e.staged.filter (fun x => x.1 == i))).id = m.id :=
        fun m => (m.withStrip_stands ..).1
      by_cases hk : k = pl.1
      · rw [hk]
        exact Part.modMember_mediaAt hid fun m =>
          MemberSt.withStrip_blockAt_other (fun x hx hmba => hl pl List.mem_cons_self x hx ⟨hk, hmba⟩) m
      · exact Part.modMember_mediaAt_ne hid hk
  rw [storeStrip_eq]
  refine hall _ (fun pl hpl x hx => ?_) s
  obtain ⟨y, hy, rfl⟩ := List.mem_map.mp hpl
  simp only [List.mem_filter, Bool.and_eq_true, beq_iff_eq] at hy hx
  exact h y hy.1 hy.2.1 hy.2.2 x hx.1 hx.2

/-- A strip of one staged block is stored, stamped, at its one place. -/
theorem storeStrip_mediaAt {ps : PoolSt} {g : Geo} {e : MEntry} {i k base bo : Nat} {b : Block} {s : Part}
    (hplace : e.places.filter (fun y => y.1 == i) = [(i, k, base)]) (htakes : s.takes k = true)
    (hstaged : e.staged.filter (fun x => x.1 == i) = [(i, bo, b)]) :
    (storeStrip ps g e i s).mediaAt k (base + bo) = stampBlock (g.isCheck i) g.fmt i ps.id (base + bo) b := by
  have hplaces : (e.places.filter (fun x => x.1 == i && s.takes x.2.1)).map (·.2) = [(k, base)] := by
    have hboth : e.places.filter (fun x => x.1 == i && s.takes x.2.1) =
        (e.places.filter (fun y => y.1 == i)).filter (fun y => s.takes y.2.1) := by
      simp only [List.filter_filter, Bool.and_comm]
    simp [hboth, hplace, htakes]
  obtain ⟨m, hm⟩ := Part.exists_of_takes htakes
  rw [storeStrip_eq, hplaces, hstaged, List.foldl_cons, List.foldl_nil, Part.mediaAt,
    Part.modMember_member? s k _ fun m => (m.withStrip_stands ..).1, hm]
  exact MemberSt.withStrip_blockAt ps g i base bo b m

theorem storeStrip_membersOnly (ps : PoolSt) (g : Geo) (e : MEntry) (i : Nat) (s : Part) : MembersOnly s (storeStrip ps g e i s) := by
  rw [storeStrip_eq]
  exact MembersOnly.foldl (fun st _ => MembersOnly.modMember st _ _) _ s

/-! ### Member states -/

/-- The members with their states. -/
def Part.memberStates (s : Part) : List (Nat × Nat) := s.members.map (fun m => (m.id, m.state))

theorem Part.member_state_of_states {s t : Part} (h : t.memberStates = s.memberStates) (k : Nat) :
    (t.member? k).map (·.state) = (s.member? k).map (·.state) := by
  have hboth := map_find?_of_map_eq (p := fun x : MemberSt => x.id == k) (q := fun x => x.1 == k) h (fun _ => rfl)
  have hsnd := congrArg (Option.map Prod.snd) hboth
  rwa [Option.map_map, Option.map_map] at hsnd

theorem Part.takes_of_states {s t : Part} (h : t.memberStates = s.memberStates) (k : Nat) : t.takes k = s.takes k :=
  Part.takes_congr (Part.member_state_of_states h k)

theorem Part.holds_eq (s : Part) (k : Nat) : s.holds k = ((s.member? k).map (·.state)).any [2, 3, 5, 6, 7].contains := by
  unfold Part.holds
  cases s.member? k <;> rfl

theorem Part.holds_of_states {s t : Part} (h : t.memberStates = s.memberStates) (k : Nat) : t.holds k = s.holds k := by
  rw [Part.holds_eq, Part.holds_eq, Part.member_state_of_states h]

theorem storeStrip_memberStates (ps : PoolSt) (g : Geo) (e : MEntry) (i : Nat) (s : Part) :
    (storeStrip ps g e i s).memberStates = s.memberStates := by
  rw [storeStrip_eq]
  refine foldl_keeps _ Part.memberStates (fun st pl => ?_) _ s
  exact map_updBy (fun m => Prod.ext (m.withStrip_stands ..).1 (m.withStrip_stands ..).2) st.members

theorem fallsShort_of_states {s t : Part} (h : t.memberStates = s.memberStates) (ps : PoolSt) (g : Geo) (stripe : Nat)
    (mask written : List Nat) : fallsShort t ps g stripe mask written = fallsShort s ps g stripe mask written := by
  unfold fallsShort afterWrite presence
  simp only [Part.holds_of_states h]

/-! ### A strip leaves its entry (R87) -/

/-- The part once strip `strip` of entry `e` is stored and has left the entry. -/
def stripStored (p stripe strip : Nat) (ps : PoolSt) (e : MEntry) (s : Part) : Part :=
  let stored := storeStrip ps (ps.charter.geoOf stripe) e strip s
  stored.modEntry p stripe (fun x => { x with
    left := x.left.filter (· != strip), done := x.done ++ x.places.filter (fun y => y.1 == strip && stored.takes y.2.1) })

/-- The entry that strip `strip` has left; `s` says which of its places took it. -/
def MEntry.without (e : MEntry) (strip : Nat) (s : Part) : MEntry :=
  { e with left := e.left.filter (· != strip), done := e.done ++ e.places.filter (fun y => y.1 == strip && s.takes y.2.1) }

theorem commitStrip_eq {p stripe strip : Nat} {s : Part} {ps : PoolSt} {e : MEntry} (h : s.pool? p = some ps)
    (he : s.entry? p stripe = some e) (hstate : e.state = .writing ∨ e.state = .through) (hleft : strip ∈ e.left) :
    commitStrip p stripe strip s = retireIfDone p stripe (stripStored p stripe strip ps e s) := by
  have hguard : ((decide (e.state = .writing) || decide (e.state = .through)) && e.left.contains strip) = true := by
    simp [hstate, hleft]
  unfold commitStrip
  simp only [h, he, hguard]
  rfl

section
variable (p stripe strip : Nat) (ps : PoolSt) (e : MEntry) (s : Part)

theorem stripStored_entry? {e : MEntry} {s : Part} (he : s.entry? p stripe = some e) :
    (stripStored p stripe strip ps e s).entry? p stripe = some (e.without strip s) := by
  have htakes := Part.takes_of_states (storeStrip_memberStates ps (ps.charter.geoOf stripe) e strip s)
  have hstored : (storeStrip ps (ps.charter.geoOf stripe) e strip s).entry? p stripe = some e := by
    rw [storeStrip_membersOnly ps (ps.charter.geoOf stripe) e strip s]
    exact he
  have hentry := Part.modEntry_entry? hstored (fun x => { x with
    left := x.left.filter (· != strip), done := x.done ++ x.places.filter (fun y => y.1 == strip &&
      (storeStrip ps (ps.charter.geoOf stripe) e strip s).takes y.2.1) }) fun _ => ⟨rfl, rfl⟩
  refine hentry.trans ?_
  simp only [htakes]
  rfl

theorem stripStored_only : stripStored p stripe strip ps e s =
    { s with man := (stripStored p stripe strip ps e s).man, members := (stripStored p stripe strip ps e s).members } := by
  unfold stripStored
  simp only []
  rw [storeStrip_membersOnly]
  rfl

theorem stripStored_held : (stripStored p stripe strip ps e s).man.held = s.man.held := by
  unfold stripStored
  simp only []
  rw [storeStrip_membersOnly]
  rfl

theorem stripStored_memberStates : (stripStored p stripe strip ps e s).memberStates = s.memberStates := storeStrip_memberStates ..

theorem stripStored_mediaAt (k mba : Nat) : (stripStored p stripe strip ps e s).mediaAt k mba =
    (storeStrip ps (ps.charter.geoOf stripe) e strip s).mediaAt k mba := rfl

end

theorem retireIfDone_waits {p stripe : Nat} {s : Part} {e : MEntry} (he : s.entry? p stripe = some e) (hleft : e.left ≠ []) :
    retireIfDone p stripe s = s := by
  unfold retireIfDone
  simp only [he]
  exact if_neg (by simp [hleft])

theorem sleepIfReady_awake {s : Part} (h : s.tow.sleeping = false) : sleepIfReady s = s := by
  unfold sleepIfReady sleepReady
  rw [h]
  rfl

/-- A strip that is not the last one is stored and leaves the entry. -/
theorem stripCommit_stores {p : PoolId} {stripe strip : Nat} {s : State} {ps : PoolSt} {e : MEntry}
    (h : s.part.pool? p.val = some ps) (he : s.part.entry? p.val stripe = some e)
    (hstate : e.state = .writing ∨ e.state = .through) (hleft : strip ∈ e.left) (hawake : s.part.tow.sleeping = false)
    (done : List (Nat × Nat × Nat)) (hdone : done = e.done ++ e.places.filter (fun y => y.1 == strip && s.part.takes y.2.1))
    (hmore : e.left.filter (· != strip) ≠ []) :
    Runs (.stripCommit p stripe strip) s (fun t =>
      t.entry? p.val stripe = some { e with left := e.left.filter (· != strip), done := done } ∧ t.man.held = s.part.man.held ∧
      (∀ k mba, (∀ pl ∈ e.places, pl.1 = strip → s.part.takes pl.2.1 = true → ∀ x ∈ e.staged, x.1 = strip →
        ¬ (k = pl.2.1 ∧ mba = pl.2.2 + x.2.1)) → t.mediaAt k mba = s.part.mediaAt k mba) ∧
      (∀ k m bo b, e.places.filter (fun y => y.1 == strip) = [(strip, k, m)] → s.part.takes k = true →
        e.staged.filter (fun x => x.1 == strip) = [(strip, bo, b)] →
        t.mediaAt k (m + bo) = stampBlock ((ps.charter.geoOf stripe).isCheck strip) (ps.charter.geoOf stripe).fmt strip ps.id (m + bo) b) ∧
      t = { s.part with man := t.man, members := t.members }) := by
  subst hdone
  refine runs_onPart (g := fun s => sleepIfReady (commitStrip p.val stripe strip s)) rfl ?_
  have hentry := stripStored_entry? p.val stripe strip ps he
  have honly := stripStored_only p.val stripe strip ps e s.part
  have heq : sleepIfReady (commitStrip p.val stripe strip s.part) = stripStored p.val stripe strip ps e s.part := by
    rw [commitStrip_eq h he hstate hleft, retireIfDone_waits hentry hmore]
    refine sleepIfReady_awake ?_
    rw [honly]
    exact hawake
  simp only [heq]
  exact ⟨hentry, stripStored_held .., fun k mba hother => (stripStored_mediaAt ..).trans (storeStrip_mediaAt_other hother),
    fun k m bo b hplace htakes hstaged => (stripStored_mediaAt ..).trans (storeStrip_mediaAt hplace htakes hstaged), honly⟩

/-! ### The entry retires (R88) -/

theorem refreshAdmitState_man (s : Part) : (refreshAdmitState s).man = s.man := by
  unfold refreshAdmitState
  extract_lets new old
  split
  · rfl
  · exact (Part.man_of_books (log_books ..)).trans (by simp)

theorem dropEntry_entry? (p stripe : Nat) (s : Part) : (dropEntry p stripe s).entry? p stripe = none := by
  simp only [Part.entry?, dropEntry, Part.modMan, List.find?_eq_none, List.mem_filter]
  intro x ⟨_, hx⟩ hx'
  simp [hx'] at hx

/-- `t` has the entry of the stripe no more, and none of its held blocks; the others stay. -/
structure Retired (p stripe : Nat) (s t : Part) : Prop where
  entry : t.entry? p stripe = none
  held : t.man.held = s.man.held.filter (fun b => !(b.pool == p && b.stripe == stripe))

/-- An entry whose held blocks the snapshot all took retires, where its write does not fall short. -/
theorem retire_retires {p stripe : Nat} {s : Part} {ps : PoolSt} {e : MEntry} (h : s.pool? p = some ps)
    (he : s.entry? p stripe = some e) (hsnap : ∀ b ∈ s.heldOf p stripe, (b.strip, b.bo, b.gen) ∈ e.snap)
    (hshort : fallsShort s ps (ps.charter.geoOf stripe) stripe e.mask (e.done.map (·.1)) = false) :
    Retired p stripe s (retire p stripe s) := by
  unfold retire
  split
  · next ps' e' hps' he' =>
    obtain rfl : ps' = ps := Option.some.inj (hps'.symm.trans h)
    obtain rfl : e' = e := Option.some.inj (he'.symm.trans he)
    extract_lets g s1 isGone gone s2 s3 s4 s5 rest s6 s7
    have hbooks : s1.books = s.books := foldl_books (fun st i => markStale_books _ _ stripe i _ st) _ s
    have hman : s1.man = s.man := Part.man_of_books hbooks
    have hmembers : s1.memberStates = s.memberStates :=
      congrArg (List.map fun m : MemberSt => (m.id, m.state)) (Part.members_of_books hbooks)
    have henough : fallsShort s1 ps' g stripe e'.mask (e'.done.map (·.1)) = false := (fallsShort_of_states hmembers ..).trans hshort
    have hgone : ∀ b ∈ s.man.held, isGone b = (b.pool == p && b.stripe == stripe) := fun b hb => by
      by_cases hmine : (b.pool == p && b.stripe == stripe) = true
      · simp only [isGone, hmine]
        simpa using hsnap b (List.mem_filter.mpr ⟨hb, hmine⟩)
      · simp only [isGone, hmine]
        rfl
    have hheld : s5.man.held = s.man.held.filter (fun b => !(b.pool == p && b.stripe == stripe)) := by
      have hkept : s5.man.held = s1.man.held.filter (fun b => !isGone b) := tellTwin_held ..
      rw [hkept, hman]
      exact List.filter_congr fun b hb => by rw [hgone b hb]
    have hrest : rest = [] := by
      simp only [rest, Part.heldOf, hheld, List.filter_filter, List.filter_eq_nil_iff]
      simp
    have hs6 : s6 = dropEntry p stripe s5 := if_pos (by rw [hrest]; rfl)
    have hend : ∀ l, (ackThrough l (resolutionsDone p stripe s7)).man = s7.man := fun l =>
      Part.man_of_books ((ackThrough_books ..).trans (resolutionsDone_books ..))
    have hs7 : s7.man = { s6.man with destagedTide := max s6.man.destagedTide s6.destagedThrough } := by
      have hadmit : s7 = refreshAdmitState (s6.modMan (fun m => { m with destagedTide := max m.destagedTide s6.destagedThrough })) := rfl
      rw [hadmit]
      exact refreshAdmitState_man _
    rw [henough, Bool.and_false, if_neg Bool.false_ne_true]
    refine ⟨?_, ?_⟩
    · rw [Part.entry?_congr ((congrArg ManifestSt.entries ((hend _).trans hs7) :)), hs6]
      exact dropEntry_entry? ..
    · rw [hend, hs7, hs6]
      exact hheld
  · next hnone => exact (hnone ps e h he).elim

theorem retireIfDone_retires {p stripe : Nat} {s : Part} {e : MEntry} (he : s.entry? p stripe = some e) (hleft : e.left = [])
    (hbuilt : e.built = false) (hstate : e.state = .writing ∨ e.state = .through) (hmask : e.mask ≠ []) :
    retireIfDone p stripe s = retire p stripe s := by
  unfold retireIfDone
  simp only [he]
  exact if_pos (by simp [hleft, hbuilt, hstate, hmask])

/-- The last strip's commit retires the entry. -/
theorem stripCommit_retires {p : PoolId} {stripe strip : Nat} {s : State} {ps : PoolSt} {e : MEntry}
    (h : s.part.pool? p.val = some ps) (he : s.part.entry? p.val stripe = some e)
    (hstate : e.state = .writing ∨ e.state = .through) (hleft : strip ∈ e.left) (hawake : s.part.tow.sleeping = false)
    (done : List (Nat × Nat × Nat)) (hdone : done = e.done ++ e.places.filter (fun y => y.1 == strip && s.part.takes y.2.1))
    (hlast : e.left.filter (· != strip) = []) (hbuilt : e.built = false) (hmask : e.mask ≠ [])
    (hsnap : ∀ b ∈ s.part.heldOf p.val stripe, (b.strip, b.bo, b.gen) ∈ e.snap)
    (hshort : fallsShort s.part ps (ps.charter.geoOf stripe) stripe e.mask (done.map (·.1)) = false) :
    Runs (.stripCommit p stripe strip) s (fun t => t.entry? p.val stripe = none ∧ t.heldOf p.val stripe = [] ∧
      (∀ b ∈ s.part.man.held, ¬ (b.pool = p.val ∧ b.stripe = stripe) → b ∈ t.man.held) ∧ WithinStripes s.part t) := by
  subst hdone
  refine runs_onPart (g := fun s => sleepIfReady (commitStrip p.val stripe strip s)) rfl ?_
  let stored := stripStored p.val stripe strip ps e s.part
  have honly : stored = { s.part with man := stored.man, members := stored.members } := stripStored_only ..
  have hheld : stored.man.held = s.part.man.held := stripStored_held ..
  have hentry : stored.entry? p.val stripe = some (e.without strip s.part) := stripStored_entry? _ _ _ _ he
  have hpool : stored.pool? p.val = some ps := by
    rw [honly]
    exact h
  have hretires : Retired p.val stripe stored (retire p.val stripe stored) := by
    refine retire_retires hpool hentry (fun b hb => hsnap b ?_) ((fallsShort_of_states (stripStored_memberStates ..) ..).trans hshort)
    rwa [Part.heldOf, hheld] at hb
  have heq : sleepIfReady (commitStrip p.val stripe strip s.part) = retire p.val stripe stored := by
    rw [commitStrip_eq h he hstate hleft, retireIfDone_retires hentry hlast hbuilt hstate hmask]
    refine sleepIfReady_awake ?_
    have htow := (Part.footing_eq_iff.mp (retire_footing p.val stripe stored)).2.2.2.2
    have hsleeping : (retire p.val stripe stored).tow.sleeping = stored.tow.sleeping := (congrArg TowSt.sleeping htow :)
    rw [hsleeping, honly]
    exact hawake
  have hwithin : WithinStripes s.part stored := by
    unfold WithinStripes
    rw [honly]
  simp only [heq]
  refine ⟨hretires.entry, ?_, fun b hb hother => ?_, hwithin.trans (.of_structures (retire_structures ..))⟩
  · simp only [Part.heldOf, hretires.held, List.filter_filter, List.filter_eq_nil_iff]
    simp
  · rw [hretires.held, hheld, List.mem_filter]
    exact ⟨hb, by simpa [imp_iff_not_or] using hother⟩

/-- Settles O21: it holds, assembled from a lemma for each row of a destage and what it finds. -/
theorem stripesAreDestaged : Obligations.StripesAreDestaged := by
  unfold Obligations.StripesAreDestaged
  rintro p stripe strip s ps e g h he rfl
  refine ⟨destageStart_stays h he, destageRetry_stays_stuck h he, ?_, fun hstate hleft hawake done hdone =>
    ⟨stripCommit_stores h he hstate hleft hawake done hdone, stripCommit_retires h he hstate hleft hawake done hdone⟩,
    syndromeRetry_stays he, fun hsynd hpipes => ⟨syndromeRetry_fails he hsynd hpipes, syndromeRetry_stages h he hsynd hpipes⟩⟩
  rintro new writes st rfl hmay hsnap hin hplan hshort
  have d : Destages s.part p.val stripe ps e writes st := ⟨h, he, hmay, hsnap, hplan, hshort⟩
  exact ⟨destage_runs_stages d hin, fun n => destageRetry_runs_failsEncoding d⟩

end Sys2Proof.Machine
end

section
/-! SUPPORT. The best lane of the Braid placement (03: R56, R58), with the statement of `RelocationFollowsMemberStates`. -/

namespace Sys2Proof.Machine

/-! ### The search for a lane (R58) -/

/-- Lane `l` may be given to a strip of frame `f`: it is usable (R56) and not taken. -/
def Braid.laneFree (b : Braid) (f : Nat) (taken : List Nat) (l : Nat) : Prop :=
  b.relocated (b.home f (b.lanePos l)) = false ∧ l ∉ taken

/-- One step of the search: the best lane so far, as (class, distance, lane), after lane `l` was looked at. -/
def Braid.lookAtLane (b : Braid) (f qx sx x : Nat) (taken : List Nat) (best : Option (Nat × Nat × Nat)) (l : Nat) :
    Option (Nat × Nat × Nat) :=
  if taken.contains l || b.relocated (b.home f (b.lanePos l)) then best
  else
    let cand := (b.laneClass sx x (b.home f (b.lanePos l)),
      min ((b.lanePos l + b.n - qx) % b.n) ((qx + b.n - b.lanePos l) % b.n), l)
    match best with
    | none => some cand
    | some c =>
      if decide (cand.1 < c.1 ∨ (cand.1 = c.1 ∧ (cand.2.1 < c.2.1 ∨ (cand.2.1 = c.2.1 ∧ cand.2.2 < c.2.2)))) then some cand
      else some c

section
variable {b : Braid} {f qx sx x : Nat} {taken : List Nat} {best : Option (Nat × Nat × Nat)} {l : Nat}

theorem Braid.bestLane_eq_foldl :
    b.bestLane f qx sx x taken =
      ((List.range b.s).foldl (b.lookAtLane f qx sx x taken) none).map (fun c => (c.2.2, c.1)) := rfl

theorem Braid.lookAtLane_not_free (h : ¬ b.laneFree f taken l) : b.lookAtLane f qx sx x taken best l = best := by
  refine if_pos ?_
  simp only [Braid.laneFree, not_and_or, not_not, Bool.not_eq_false] at h
  simpa [or_comm] using h

theorem Braid.lookAtLane_free (h : b.laneFree f taken l) :
    ∃ c, b.lookAtLane f qx sx x taken best l = some c ∧ (c.2.2 = l ∨ best = some c) := by
  have hfree : ¬ (taken.contains l || b.relocated (b.home f (b.lanePos l))) = true := by simp [h.1, h.2]
  unfold Braid.lookAtLane
  rw [if_neg hfree]
  cases best with
  | none => exact ⟨_, rfl, .inl rfl⟩
  | some c =>
    dsimp only
    split
    · exact ⟨_, rfl, .inl rfl⟩
    · exact ⟨c, rfl, .inr rfl⟩

/-- What a search finds is a free lane it looked at, or what was the best before. -/
theorem Braid.foldl_lookAtLane_some {c : Nat × Nat × Nat} (ls : List Nat) :
    ls.foldl (b.lookAtLane f qx sx x taken) best = some c → (c.2.2 ∈ ls ∧ b.laneFree f taken c.2.2) ∨ best = some c := by
  induction ls generalizing best with
  | nil => exact .inr
  | cons l ls ih =>
    intro h
    obtain ⟨hmem, hfree⟩ | hstep := ih h
    · exact .inl ⟨.tail _ hmem, hfree⟩
    · by_cases hl : b.laneFree f taken l
      · obtain ⟨c', hc', hor⟩ := b.lookAtLane_free (qx := qx) (sx := sx) (x := x) (best := best) hl
        obtain rfl : c' = c := by simpa [hc'] using hstep
        exact hor.imp_left (fun heq => by subst heq; exact ⟨.head _, hl⟩)
      · exact .inr (by rwa [Braid.lookAtLane_not_free hl] at hstep)

/-- A search that finds nothing looked at no free lane. -/
theorem Braid.foldl_lookAtLane_none (ls : List Nat) :
    ls.foldl (b.lookAtLane f qx sx x taken) best = none → best = none ∧ ∀ l ∈ ls, ¬ b.laneFree f taken l := by
  induction ls generalizing best with
  | nil => exact fun h => ⟨h, by simp⟩
  | cons l ls ih =>
    intro h
    obtain ⟨hstep, hrest⟩ := ih h
    have hl : ¬ b.laneFree f taken l := fun hl => by
      obtain ⟨c, hc, -⟩ := b.lookAtLane_free (qx := qx) (sx := sx) (x := x) (best := best) hl
      simp [hc] at hstep
    exact ⟨by rwa [Braid.lookAtLane_not_free hl] at hstep, by simpa [hl] using hrest⟩

theorem Braid.bestLane_free {cls : Nat} (h : b.bestLane f qx sx x taken = some (l, cls)) :
    l < b.s ∧ b.laneFree f taken l := by
  simp only [Braid.bestLane_eq_foldl, Option.map_eq_some_iff, Prod.mk.injEq] at h
  obtain ⟨c, hc, rfl, -⟩ := h
  simpa using Braid.foldl_lookAtLane_some _ hc

theorem Braid.bestLane_ne_none (hl : l < b.s) (hfree : b.laneFree f taken l) : b.bestLane f qx sx x taken ≠ none := by
  rw [Braid.bestLane_eq_foldl, ne_eq, Option.map_eq_none_iff]
  exact fun h => (Braid.foldl_lookAtLane_none _ h).2 l (List.mem_range.mpr hl) hfree

end

/-! ### The statement -/

theorem Charter.braid_relocated {c : Charter} {o : Nat} {m : CMember} (h : c.members[o]? = some m) :
    c.braid.relocated o = relocState m.state := by
  simp [Charter.braid, Braid.make, Braid.relocated, List.getD_eq_getElem?_getD, h]

theorem relocState_iff (st : Nat) : relocState st = true ↔ st = 1 ∨ st = 0 ∨ st = 4 ∨ st = 5 := by
  simp only [relocState, List.contains_iff_mem, List.mem_cons, List.not_mem_nil, or_false]
  omega

/-- Settles O7: it holds. `Charter.braid` takes the relocated ordinals from the states of the members, and `bestLane` searches the
lanes of the shape for the best free one. -/
theorem relocationFollowsMemberStates : Obligations.RelocationFollowsMemberStates := by
  unfold Obligations.RelocationFollowsMemberStates
  intro c m o h
  refine ⟨by rw [Charter.braid_relocated h, relocState_iff], fun f qx sx x taken l cls hbest => ?_,
    fun f qx sx x taken l hl htaken hhome => Braid.bestLane_ne_none hl ⟨hhome, htaken⟩⟩
  obtain ⟨hl, hhome, htaken⟩ := Braid.bestLane_free hbest
  exact ⟨hhome, htaken, hl⟩

end Sys2Proof.Machine
end

section
/-! SUPPORT. What work on one stripe leaves to the others of a rebuild (04: R88; 05: R103, R104; 07: R156, R161): their entries, the
pools but for what that stripe has on record there, and the members but for their queues. -/

namespace Sys2Proof.Machine

/-! ### What is only put on record about blocks (R131, R138, R145) -/

/-- A pool but for its integrity records. -/
def PoolSt.uninspected (x : PoolSt) : PoolSt := { x with int := PoolInt.empty }

/-- The pools but for their integrity records. -/
def Part.uninspected (s : Part) : List PoolSt := s.pools.map PoolSt.uninspected

theorem foldl_uninspected {α : Type} {op : Part → α → Part} (h : ∀ s x, (op s x).uninspected = s.uninspected) (l : List α) (s : Part) :
    (l.foldl op s).uninspected = s.uninspected := foldl_keeps op Part.uninspected h l s

theorem Part.uninspected_of_pools {s t : Part} (h : t.pools = s.pools) : t.uninspected = s.uninspected :=
  congrArg (List.map _) h

theorem Part.modPool_uninspected {g : PoolSt → PoolSt} (hg : ∀ x, (g x).uninspected = x.uninspected) (s : Part) (p : Nat) :
    (s.modPool p g).uninspected = s.uninspected := map_updBy hg _

@[simp] theorem log_uninspected (code inst : Nat) (d : Bytes) (s : Part) : (log code inst d s).uninspected = s.uninspected :=
  Part.uninspected_of_pools (by simp)

@[simp] theorem noted_uninspected (ss rule item : Nat) (d : Bytes) (s : Part) : (noted ss rule item d s).uninspected = s.uninspected :=
  Part.uninspected_of_pools (by simp)

@[simp] theorem complete_uninspected (c : Nat) (h : BitVec 32) (status : Nat) (info : BitVec 64) (s : Part) :
    (complete c h status info s).uninspected = s.uninspected := Part.uninspected_of_pools (by simp)

@[simp] theorem raiseDeferred_uninspected (vol lba cause : Nat) (s : Part) :
    (raiseDeferred vol lba cause s).uninspected = s.uninspected := rfl

@[simp] theorem enterLost_uninspected (p : Nat) (e : LostEntry) (s : Part) : (enterLost p e s).uninspected = s.uninspected := by
  unfold enterLost
  split
  · rfl
  · split
    · rfl
    · have hlogged : (log 0x0802 p e.bytes (s.modPool p (fun x => { x with int := { x.int with lost := x.int.lost ++ [e] } }))).uninspected =
          s.uninspected := (log_uninspected ..).trans (Part.modPool_uninspected (fun _ => by rfl) s p)
      split
      · exact hlogged
      · exact hlogged

@[simp] theorem examineLater_uninspected (p stripe : Nat) (s : Part) : (examineLater p stripe s).uninspected = s.uninspected :=
  Part.modPool_uninspected (fun _ => by rfl) s p

@[simp] theorem recheckLater_uninspected (p stripe bo : Nat) (blocked : Bool) (s : Part) :
    (recheckLater p stripe bo blocked s).uninspected = s.uninspected :=
  Part.modPool_uninspected (fun x => by split <;> rfl) s p

@[simp] theorem recordDiverged_uninspected (p : Nat) (d : DivEntry) (s : Part) :
    (recordDiverged p d s).uninspected = s.uninspected := by
  unfold recordDiverged
  split
  · rfl
  · split
    · rfl
    · rw [raiseDeferred_uninspected, log_uninspected]
      exact Part.modPool_uninspected (fun _ => by rfl) s p

@[simp] theorem settledByRank_uninspected (p vol lba : Nat) (covered : Bool) (s : Part) :
    (settledByRank p vol lba covered s).uninspected = s.uninspected := by
  unfold settledByRank
  simp only []
  split <;> simp

@[simp] theorem blockDiverges_uninspected (ps : PoolSt) (g : Geo) (stripe i bo : Nat) (s : Part) :
    (blockDiverges ps g stripe i bo s).uninspected = s.uninspected := by
  unfold blockDiverges
  split
  · split <;> simp
  · simp

@[simp] theorem repairedAt_uninspected (ps : PoolSt) (g : Geo) (stripe i bo : Nat) (s : Part) :
    (repairedAt ps g stripe i bo s).uninspected = s.uninspected := by
  have hcount : ∀ vol lba member, (countRepaired ps.id vol lba member s).uninspected = s.uninspected := fun vol lba member =>
    (log_uninspected ..).trans (Part.modPool_uninspected (fun _ => by rfl) s ps.id)
  unfold repairedAt
  split <;> exact hcount _ _ _

@[simp] theorem settleRank_uninspected (ps : PoolSt) (g : Geo) (stripe bo : Nat) (reads : List StripRead) (units : List (Option Bytes))
    (low : List Bytes) (s : Part) : (settleRank ps g stripe bo reads units low s).part.uninspected = s.uninspected := by
  unfold settleRank
  split <;> simp

theorem settle_uninspected (s : Part) (ps : PoolSt) (g : Geo) (stripe bo : Nat) (reads : List StripRead) (units : List (Option Bytes))
    (d : Decoded) : (settle s ps g stripe bo reads units d).part.uninspected = s.uninspected := by
  cases d with
  | beyond => rfl
  | clean u => rfl
  | wrong i u low =>
    unfold settle
    simp only []
    split
    · rfl
    · split
      · rfl
      · rfl
      · split <;> simp
      · simp
  | unsettled u =>
    have hall : ((List.range g.h.k).foldl (fun st i => blockDiverges ps g stripe i bo st) s).uninspected = s.uninspected :=
      foldl_uninspected (fun st i => blockDiverges_uninspected ps g stripe i bo st) _ s
    unfold settle
    simp only []
    split
    · rw [settleRank_uninspected, hall]
    · exact hall

theorem restoreBlock_uninspected (ps : PoolSt) (g : Geo) (bad : BadReads) (stripe i bo : Nat) (s : Part) :
    (restoreBlock ps g bad stripe i bo s).part.uninspected = s.uninspected := by
  have hlost : ∀ l : List (Nat × LostEntry), (l.foldl (fun t e => enterLost ps.id e.2 t) s).uninspected = s.uninspected :=
    fun l => foldl_uninspected (fun t e => enterLost_uninspected ps.id e.2 t) l s
  have hrestored : (restoreOffset s ps g bad stripe bo).2.part.uninspected = s.uninspected := settle_uninspected ..
  unfold restoreBlock
  split
  · simp only []
    split
    · simp only []
      split <;> simp
    · simp
  · split
    · simp only []
      split
      · exact hlost _
      · exact (recheckLater_uninspected ..).trans (hlost _)
    · next r _ heq =>
      rw [heq] at hrestored
      exact (foldl_uninspected (fun t j => repairedAt_uninspected ps g stripe j bo t) _ r.part).trans hrestored

theorem restoreStrip_uninspected (ps : PoolSt) (g : Geo) (bad : BadReads) (stripe i : Nat) (s : Part) :
    (restoreStrip ps g bad stripe i s).part.uninspected = s.uninspected := by
  have hblock : ∀ bo st, (laneBlock ps g bad stripe i bo st).part.uninspected = st.uninspected := fun bo st => by
    unfold laneBlock
    split
    · rfl
    · exact restoreBlock_uninspected ..
  have hall : ∀ (l : List Nat) (acc : Restored), (l.foldl (fun (acc : Restored) bo =>
      let r := laneBlock ps g bad stripe i bo acc.part
      { blocks := acc.blocks ++ r.blocks, rewrites := acc.rewrites ++ r.rewrites, part := r.part }) acc).part.uninspected =
        acc.part.uninspected := fun l => by
    induction l with
    | nil => exact fun _ => rfl
    | cons bo l ih => exact fun acc => (ih _).trans (hblock bo acc.part)
  exact hall _ _

/-- What the commands of a write-through stripe and its resolutions put on record (R80, R139). -/
@[simp] theorem coverAll_uninspected (l : List (Nat × Nat × Nat × Nat)) (s : Part) : (coverAll l s).uninspected = s.uninspected := by
  refine foldl_uninspected (fun st a => ?_) l s
  have hcleared : (clearDiverged a.1 a.2.1 a.2.2.1 a.2.2.2 (clearLost a.1 a.2.1 a.2.2.1 a.2.2.2 st)).uninspected = st.uninspected :=
    (Part.modPool_uninspected (fun _ => by rfl) _ _).trans (Part.modPool_uninspected (fun _ => by rfl) _ _)
  unfold coverBlock
  simp only []
  split
  · exact (examineLater_uninspected ..).trans hcleared
  · exact hcleared

@[simp] theorem ackThrough_uninspected (done : List (Nat × BitVec 32)) (s : Part) : (ackThrough done s).uninspected = s.uninspected := by
  refine foldl_uninspected (fun st ch => ?_) _ s
  split
  · rfl
  · split
    · split <;> simp
    · rfl

@[simp] theorem resolutionsDone_uninspected (p stripe : Nat) (s : Part) : (resolutionsDone p stripe s).uninspected = s.uninspected := by
  unfold resolutionsDone
  split
  · rfl
  · exact Part.modPool_uninspected (fun _ => by rfl) s p

/-! ### Work on one stripe -/

/-- A pool but for its integrity records, its stale map and what the rebuild record has of stripe `stripe`. -/
def PoolSt.elsewhere (stripe : Nat) (x : PoolSt) : PoolSt × List Nat × List Nat × List (Nat × Nat) × List LaneWrite :=
  (x.standing, x.reb.failing, x.reb.staleAll, x.reb.rebuilt.filter (fun r => r.2 != stripe),
    x.reb.writing.filter (fun w => w.stripe != stripe))

/-- `y` is `x` after work on stripe `stripe`: no stale bit is cleared, no lane write is taken back. -/
structure PoolSt.Onward (stripe : Nat) (x y : PoolSt) : Prop where
  elsewhere : y.elsewhere stripe = x.elsewhere stripe
  stale : x.reb.stale ⊆ y.reb.stale
  writing : x.reb.writing ⊆ y.reb.writing

theorem PoolSt.Onward.refl (stripe : Nat) (x : PoolSt) : x.Onward stripe x := ⟨rfl, fun _ h => h, fun _ h => h⟩

theorem PoolSt.Onward.trans {stripe : Nat} {x y z : PoolSt} (h : x.Onward stripe y) (h' : y.Onward stripe z) : x.Onward stripe z :=
  ⟨h'.elsewhere.trans h.elsewhere, fun _ hx => h'.stale (h.stale hx), fun _ hx => h'.writing (h.writing hx)⟩

theorem PoolSt.Onward.standing {stripe : Nat} {x y : PoolSt} (h : x.Onward stripe y) : y.standing = x.standing :=
  congrArg Prod.fst h.elsewhere

theorem PoolSt.Onward.of_uninspected {stripe : Nat} {x y : PoolSt} (h : y.uninspected = x.uninspected) : x.Onward stripe y := by
  have hreb : y.reb = x.reb := (congrArg PoolSt.reb h :)
  have hstanding : y.standing = x.standing := (congrArg PoolSt.standing h :)
  refine ⟨?_, ?_, ?_⟩
  · simp only [PoolSt.elsewhere, hreb, hstanding]
  · simp [hreb]
  · simp [hreb]

/-- The entries of all stripes but one. -/
def Part.entriesBeside (s : Part) (p stripe : Nat) : List MEntry :=
  s.man.entries.filter (fun e => !(e.pool == p && e.stripe == stripe))

/-- `t` is `s` after work on a stripe of pool `p`. -/
structure StripeWork (p stripe : Nat) (s t : Part) : Prop where
  entries : t.entriesBeside p stripe = s.entriesBeside p stripe
  pools : ∀ q x, s.pool? q = some x → ∃ y, t.pool? q = some y ∧ x.Onward stripe y
  members : t.members.map MemberSt.bare = s.members.map MemberSt.bare

section
variable {p stripe : Nat} {s t u : Part}

theorem StripeWork.refl (p stripe : Nat) (s : Part) : StripeWork p stripe s s := ⟨rfl, fun _ x h => ⟨x, h, .refl stripe x⟩, rfl⟩

theorem StripeWork.trans (h : StripeWork p stripe s t) (h' : StripeWork p stripe t u) : StripeWork p stripe s u := by
  refine ⟨h'.entries.trans h.entries, fun q x hx => ?_, h'.members.trans h.members⟩
  obtain ⟨y, hy, hxy⟩ := h.pools q x hx
  obtain ⟨z, hz, hyz⟩ := h'.pools q y hy
  exact ⟨z, hz, hxy.trans hyz⟩

theorem StripeWork.foldl {α : Type} {op : Part → α → Part} {l : List α} (h : ∀ x ∈ l, ∀ s, StripeWork p stripe s (op s x)) :
    ∀ s, StripeWork p stripe s (l.foldl op s) := by
  induction l with
  | nil => exact .refl p stripe
  | cons x l ih => exact fun s => (h x List.mem_cons_self s).trans (ih (fun y hy => h y (List.mem_cons_of_mem x hy)) _)

/-- The entry of another stripe stays. -/
theorem StripeWork.entry? (h : StripeWork p stripe s t) {z : Nat} (hz : z ≠ stripe) : t.entry? p z = s.entry? p z := by
  have hfind : ∀ r : Part, r.entry? p z = (r.entriesBeside p stripe).find? (fun e => e.pool == p && e.stripe == z) := fun r => by
    rw [Part.entriesBeside, List.find?_filter]
    unfold Part.entry?
    congr 1
    funext e
    by_cases he : e.stripe = z
    · simp [he, hz, beq_eq_decide]
    · simp [he]
  rw [hfind, hfind, h.entries]

theorem StripeWork.of_uninspected (hentries : t.man.entries = s.man.entries) (hpools : t.uninspected = s.uninspected)
    (hmembers : t.members = s.members) : StripeWork p stripe s t := by
  refine ⟨congrArg (List.filter _) hentries, fun q x hx => ?_, congrArg (List.map _) hmembers⟩
  obtain ⟨y, hy, hyx⟩ := exists_of_map_eq_some (map_find?_of_map_eq (q := fun x => x.id == q) hpools (fun _ => rfl)) hx
  exact ⟨y, hy, .of_uninspected hyx⟩

theorem StripeWork.of_books (hbooks : t.books = s.books) (hpools : t.uninspected = s.uninspected) : StripeWork p stripe s t :=
  .of_uninspected (congrArg ManifestSt.entries (Part.man_of_books hbooks)) hpools (Part.members_of_books hbooks)

theorem StripeWork.of_recorded (h : Recorded s t) : StripeWork p stripe s t := by
  rw [h]
  exact .of_uninspected rfl rfl rfl

theorem StripeWork.modPool {g : PoolSt → PoolSt} (hg : ∀ x : PoolSt, x.Onward stripe (g x)) (s : Part) (q : Nat) :
    StripeWork p stripe s (s.modPool q g) := by
  have hid : ∀ x, (g x).id = x.id := fun x => (congrArg PoolSt.id (hg x).standing :)
  refine ⟨rfl, fun r x hx => ?_, rfl⟩
  by_cases hr : r = q
  · subst hr
    exact ⟨g x, Part.modPool_of_pool? hx g hid, hg x⟩
  · exact ⟨x, by rw [Part.modPool_pool?_ne s g hid hr, hx], .refl stripe x⟩

/-- What is done to the Manifest's records of the stripe's own entry. -/
theorem StripeWork.modMan {g : ManifestSt → ManifestSt}
    (hg : (g s.man).entries.filter (fun e => !(e.pool == p && e.stripe == stripe)) = s.entriesBeside p stripe) :
    StripeWork p stripe s (s.modMan g) := ⟨hg, fun _ x hx => ⟨x, hx, .refl stripe x⟩, rfl⟩

theorem filter_updBy_unpicked {α : Type} {f q : α → Bool} {g : α → α} (hg : ∀ x, f x = true → q (g x) = false)
    (hf : ∀ x, f x = true → q x = false) (l : List α) : (updBy f g l).filter q = l.filter q := by
  unfold updBy
  induction l with
  | nil => rfl
  | cons x l ih =>
    by_cases hx : f x = true
    · simp [hx, hg x hx, hf x hx, ih]
    · simp [hx, List.filter_cons, ih]

theorem StripeWork.modEntry {g : MEntry → MEntry} (hg : ∀ x, (g x).pool = x.pool ∧ (g x).stripe = x.stripe) (s : Part) :
    StripeWork p stripe s (s.modEntry p stripe g) := by
  refine .modMan (filter_updBy_unpicked (fun x hx => ?_) (fun x hx => ?_) _)
  · simpa [(hg x).1, (hg x).2] using hx
  · simpa using hx

theorem StripeWork.dropEntry (p stripe : Nat) (s : Part) : StripeWork p stripe s (dropEntry p stripe s) :=
  .modMan (by simp [Part.entriesBeside, List.filter_filter])

theorem StripeWork.addEntry (p stripe : Nat) (st : EntryState) (s : Part) : StripeWork p stripe s (addEntry p stripe st s) := by
  unfold Machine.addEntry
  split
  · exact .refl ..
  · exact .modMan (by simp [Part.entriesBeside, List.filter_append, MEntry.fresh])

theorem StripeWork.tellTwin (q : Nat) (n : TwinNews) (s : Part) : StripeWork p stripe s (tellTwin q n s) := by
  refine .of_uninspected (tellTwin_entries q n s) ?_ ?_
  · rw [tellTwin_only]
    rfl
  · rw [tellTwin_only]

theorem StripeWork.enqueueCmd (k : Nat) (op : MOp) (cls : Nat) (nonQueued fua : Bool) (mba count : Nat) (s : Part) :
    StripeWork p stripe s (enqueueCmd k op cls nonQueued fua mba count s) :=
  ⟨rfl, fun _ x hx => ⟨x, hx, .refl stripe x⟩, Part.members_of_structures (enqueueCmd_structures ..)⟩

/-! ### The retirement of its entry (R88) -/

theorem StripeWork.complete (c : Nat) (h : BitVec 32) (status : Nat) (info : BitVec 64) (s : Part) :
    StripeWork p stripe s (complete c h status info s) := .of_books (complete_books ..) (complete_uninspected ..)

theorem StripeWork.settleEntry (p stripe : Nat) (s : Part) : StripeWork p stripe s (settleEntry p stripe s) := by
  unfold Machine.settleEntry
  split
  · exact .refl ..
  · simp only []
    split
    · exact .dropEntry ..
    · exact .modEntry (fun _ => ⟨by rfl, by rfl⟩) s

theorem StripeWork.settleEntries {l : List Held} (hl : ∀ b ∈ l, b.pool = p ∧ b.stripe = stripe) (s : Part) :
    StripeWork p stripe s (settleEntries l s) := by
  refine .foldl (fun x hx st => ?_) s
  obtain ⟨b, hb, rfl⟩ := List.mem_map.mp (List.mem_eraseDups.mp hx)
  obtain ⟨rfl, rfl⟩ := hl b hb
  exact .settleEntry ..

theorem StripeWork.markStale (ps : PoolSt) (g : Geo) (i : Nat) (written : List (Nat × Nat)) (s : Part) :
    StripeWork p stripe s (markStale ps g stripe i written s) := by
  unfold Machine.markStale
  simp only []
  split
  · exact .refl ..
  · refine .modPool (fun x => ?_) s _
    split
    · exact .refl ..
    · exact ⟨rfl, List.subset_append_left _ _, fun _ h => h⟩

theorem StripeWork.failThrough (ps : PoolSt) (stripe : Nat) (s : Part) : StripeWork ps.id stripe s (failThrough ps stripe s) := by
  unfold Machine.failThrough
  extract_lets mine cmds s1 s2
  have hs1 : StripeWork ps.id stripe s s1 := .foldl (fun ch _ st => by
    simp only []
    split
    · exact .refl ..
    · exact .complete ..) s
  have hmine : ∀ b ∈ mine, b.pool = ps.id ∧ b.stripe = stripe := fun b hb => by
    have hheld := (List.mem_filter.mp (List.mem_filter.mp hb).1).2
    simpa using hheld
  have hs2 : StripeWork ps.id stripe s s2 := (hs1.trans (.modMan rfl)).trans (.settleEntries hmine _)
  split
  · split
    · exact hs2.trans (.dropEntry ..)
    · exact hs2.trans (.modEntry (fun _ => ⟨by rfl, by rfl⟩) _)
  · exact hs2

/-- A whole-stripe write that commits counts strips of its own stripe as rebuilt. -/
theorem wholeRebuilt_elsewhere (g : Geo) (e : MEntry) (acc : List (Nat × Nat)) :
    (wholeRebuilt g e acc).filter (fun r => r.2 != e.stripe) = acc.filter (fun r => r.2 != e.stripe) := by
  unfold wholeRebuilt
  induction e.done generalizing acc with
  | nil => rfl
  | cons x l ih =>
    rw [List.foldl_cons, ih]
    split
    simp only []
    split <;> simp

theorem StripeWork.retire (p stripe : Nat) (s : Part) : StripeWork p stripe s (retire p stripe s) := by
  unfold Machine.retire
  split
  · next ps e hps he =>
    obtain rfl := Part.pool?_id hps
    have hstripe : e.stripe = stripe := by
      have hfound := List.find?_some he
      simp only [Bool.and_eq_true, beq_iff_eq] at hfound
      exact hfound.2
    extract_lets g s1 isGone gone s2 s3 s4 s5 rest s6 s7
    have hs1 : StripeWork ps.id stripe s s1 := .foldl (fun i _ st => .markStale ps g i _ st) s
    have hs2 : StripeWork ps.id stripe s s2 := hs1.trans (.modPool (fun x => by
      split
      · refine ⟨?_, fun _ h => h, fun _ h => h⟩
        have hrebuilt := wholeRebuilt_elsewhere g e x.reb.rebuilt
        rw [hstripe] at hrebuilt
        simp only [PoolSt.elsewhere, hrebuilt]
        rfl
      · exact .of_uninspected rfl) s1 _)
    have hs5 : StripeWork ps.id stripe s s5 := ((hs2.trans (.modMan rfl)).trans (.of_uninspected (t := s4) rfl rfl rfl)).trans (.tellTwin ..)
    have hs6 : StripeWork ps.id stripe s s6 := by
      simp only [s6]
      split
      · exact hs5.trans (.dropEntry ..)
      · exact (hs5.trans (.modEntry (fun _ => ⟨by rfl, by rfl⟩) _)).trans (.modMan rfl)
    have hs7 : StripeWork ps.id stripe s s7 := by
      refine (hs6.trans (.modMan (g := fun m => { m with destagedTide := max m.destagedTide s6.destagedThrough }) rfl)).trans ?_
      simp only [s7, refreshAdmitState]
      split
      · exact .refl ..
      · exact .of_uninspected (by simp) (Part.uninspected_of_pools (by simp)) (by simp)
    split
    · split
      · exact hs1.trans (.failThrough ..)
      · exact (hs1.trans (.modEntry (fun _ => ⟨by rfl, by rfl⟩) _)).trans (.modMan rfl)
    · exact (hs7.trans (.of_books (resolutionsDone_books ..) (resolutionsDone_uninspected ..))).trans
        (.of_books (ackThrough_books ..) (ackThrough_uninspected ..))
  · exact .refl ..

/-! ### What is staged under it (R104, R107) -/

theorem StripeWork.promote (p stripe : Nat) (s : Part) : StripeWork p stripe s (promote p stripe s) := by
  have hissued : ∀ st, StripeWork p stripe st (issueStripWrites p stripe st) := fun st => by
    unfold issueStripWrites
    split
    · exact .foldl (fun _ _ _ => .enqueueCmd ..) st
    · exact .refl ..
  have hretired : ∀ st, StripeWork p stripe st (retireIfDone p stripe st) := fun st => by
    unfold retireIfDone
    split
    · split
      · exact .retire ..
      · exact .refl ..
    · exact .refl ..
  unfold Machine.promote
  split
  · split
    · exact .refl ..
    · refine StripeWork.trans (StripeWork.trans ?_ (hissued _)) (hretired _)
      split
      · exact (StripeWork.modEntry (fun _ => ⟨by rfl, by rfl⟩) s).trans (.modMan rfl)
      · exact .modEntry (fun _ => ⟨by rfl, by rfl⟩) s
  · exact .refl ..

theorem StripeWork.stageWrites (p stripe : Nat) (blocks : List (Nat × Nat × Block)) (s : Part) :
    StripeWork p stripe s (stageWrites p stripe blocks s) := by
  have hneeded : ∀ st, StripeWork p stripe st (needIntent p stripe st) := fun st => .modPool (fun x => by
    split
    · exact .refl ..
    · exact ⟨rfl, fun _ h => h, fun _ h => h⟩) st p
  exact (((StripeWork.modEntry (fun _ => ⟨by rfl, by rfl⟩) s).trans (.tellTwin ..)).trans (hneeded _)).trans (.promote ..)

theorem StripeWork.stageRepair (cls p stripe : Nat) (blocks : List (Nat × Nat × Block)) (s : Part) :
    StripeWork p stripe s (stageRepair cls p stripe blocks s) := by
  unfold Machine.stageRepair
  split
  · exact .refl ..
  · split
    · exact .of_books (examineLater_books ..) (examineLater_uninspected ..)
    · exact ((StripeWork.addEntry ..).trans (.modEntry (fun _ => ⟨by rfl, by rfl⟩) _)).trans (.stageWrites ..)

end

end Sys2Proof.Machine
end

section
/-! SUPPORT. Rebuild tasks (07: R154 to R156, R161; 08: R206): what a strip's rebuild rests on, and that the rebuild of another strip
leaves it. -/

namespace Sys2Proof.Machine

/-! ### What the rebuild of a strip rests on -/

theorem Part.member?_bare_of_members {s t : Part} (h : t.members.map MemberSt.bare = s.members.map MemberSt.bare) (k : Nat) :
    (t.member? k).map MemberSt.bare = (s.member? k).map MemberSt.bare := map_find?_of_map_eq (q := fun x => x.id == k) h (fun _ => rfl)

theorem Part.memberStates_of_members {s t : Part} (h : t.members.map MemberSt.bare = s.members.map MemberSt.bare) :
    t.memberStates = s.memberStates := by
  have hstates := congrArg (List.map fun m : MemberSt => (m.id, m.state)) h
  rwa [List.map_map, List.map_map] at hstates

theorem Part.serves_of_members {s t : Part} (h : t.members.map MemberSt.bare = s.members.map MemberSt.bare) (k : Nat) :
    t.serves k = s.serves k := by
  have heq : ∀ r : Part, r.serves k =
      ((r.member? k).map MemberSt.bare).any (fun m => m.linkUp && [2, 3, 5, 6, 7].contains m.state) := fun r => by
    unfold Part.serves
    cases r.member? k <;> rfl
  rw [heq, heq, Part.member?_bare_of_members h]

theorem Part.returned_of_states {s t : Part} (h : t.memberStates = s.memberStates) (g : Geo) (o : Nat) :
    t.returned g o = s.returned g o := by
  unfold Part.returned
  rw [Part.member_state_of_states h]

section
variable {p stripe z : Nat} {s t : Part} {x y : PoolSt}

theorem PoolSt.Onward.isRebuilt (h : x.Onward stripe y) (hz : z ≠ stripe) (e : Nat) : y.isRebuilt e z = x.isRebuilt e z := by
  have hrebuilt : y.reb.rebuilt.filter (fun r => r.2 != stripe) = x.reb.rebuilt.filter (fun r => r.2 != stripe) :=
    (congrArg (fun w => w.2.2.2.1) h.elsewhere :)
  have hmem : ∀ l : List (Nat × Nat), (e, z) ∈ l ↔ (e, z) ∈ l.filter (fun r => r.2 != stripe) := fun l => by simp [hz]
  unfold PoolSt.isRebuilt
  rw [Bool.eq_iff_iff, List.contains_iff_mem, List.contains_iff_mem, hmem, hrebuilt, ← hmem]

theorem PoolSt.Onward.laneWriting (h : x.Onward stripe y) (hz : z ≠ stripe) (e : Nat) :
    y.reb.writing.any (fun w => w.ordinal == e && w.stripe == z) = x.reb.writing.any (fun w => w.ordinal == e && w.stripe == z) := by
  have hwriting : y.reb.writing.filter (fun w => w.stripe != stripe) = x.reb.writing.filter (fun w => w.stripe != stripe) :=
    (congrArg (fun w => w.2.2.2.2) h.elsewhere :)
  have hany : ∀ l : List LaneWrite, l.any (fun w => w.ordinal == e && w.stripe == z) =
      (l.filter (fun w => w.stripe != stripe)).any (fun w => w.ordinal == e && w.stripe == z) := fun l => by
    rw [List.any_filter]
    congr 1
    funext w
    by_cases hw : w.stripe = z
    · simp [hw, hz]
    · simp [hw]
  rw [hany, hwriting, ← hany]

theorem PoolSt.Onward.readPlace (h : x.Onward stripe y) (hz : z ≠ stripe) (g : Geo) (i : Nat) : readPlace y g z i = readPlace x g z i := by
  have hfailing : y.reb.failing = x.reb.failing := (congrArg (fun w => w.2.1) h.elsewhere :)
  unfold Machine.readPlace
  simp only [hfailing, h.isRebuilt hz]

theorem PoolSt.Onward.rebuildWanted (h : x.Onward stripe y) (g : Geo) (z : Nat) : rebuildWanted y g z = rebuildWanted x g z := by
  have hcharter : y.charter = x.charter := (congrArg PoolSt.charter h.standing :)
  have hcross : y.cross = x.cross := (congrArg PoolSt.cross h.standing :)
  unfold Machine.rebuildWanted
  rw [hcharter, hcross]

/-- A stale bit is not cleared: no home strip comes to stand in for a lost one (R161). -/
theorem PoolSt.Onward.salvagePlace_none (h : x.Onward stripe y) (hstates : t.memberStates = s.memberStates) {g : Geo} {i : Nat}
    (hnone : salvagePlace s x g z i = none) : salvagePlace t y g z i = none := by
  have hstaleAll : y.reb.staleAll = x.reb.staleAll := (congrArg (fun w => w.2.2.1) h.elsewhere :)
  unfold salvagePlace at hnone ⊢
  simp only [Part.returned_of_states hstates, hstaleAll, ite_eq_right_iff, reduceCtorEq, imp_false, Bool.and_eq_true,
    Bool.not_eq_true', List.contains_eq_mem, decide_eq_false_iff_not, not_and, not_not] at hnone ⊢
  exact fun hreturned => h.stale (hnone hreturned)

/-- Where no home strip stands in for a lost one, work on another stripe leaves what the rebuild of stripe `z` rests on. -/
theorem StripeWork.canRebuild (h : StripeWork p stripe s t) (hxy : x.Onward stripe y) (hx : x.id = p) (hz : z ≠ stripe) {g : Geo} (o : Nat)
    (hsalvage : ∀ i, salvagePlace s x g z i = none) : canRebuild t y g o z = canRebuild s x g o z := by
  have hstates := Part.memberStates_of_members h.members
  have hid : y.id = p := ((congrArg PoolSt.id hxy.standing :) : y.id = x.id).trans hx
  have hplace := hxy.readPlace hz g
  have hlink : linkWaits t y g z = linkWaits s x g z := by
    unfold linkWaits
    simp only [hplace, Part.holds_of_states hstates, Part.serves_of_members h.members]
  have hbeyond : beyondRepair t y g z = beyondRepair s x g z := by
    unfold beyondRepair presenceSalvage presence
    simp only [hplace, Part.holds_of_states hstates, hsalvage, fun i => hxy.salvagePlace_none hstates (hsalvage i)]
  have hneeds : needsRebuild t y g o z = needsRebuild s x g o z := by
    unfold needsRebuild
    simp only [hxy.isRebuilt hz, hxy.laneWriting hz, hbeyond, hxy.rebuildWanted]
  unfold Machine.canRebuild
  rw [hneeds, hlink, hid, hx, h.entry? hz]

end

/-! ### A stripe of a task (R156) -/

section
variable {p o stripe : Nat} {g : Geo} {m : Int} {s : Part} {ps : PoolSt}

theorem rebuildStripe_stays (h : s.pool? p = some ps) (hcan : canRebuild s ps g o stripe = false) (bad : BadReads) :
    rebuildStripe p o g m bad stripe s = s := by
  have hid := Part.pool?_id h
  unfold rebuildStripe
  simp only [h]
  split
  · next hlink hentry hneeds => simp [canRebuild, hid, hlink, hentry, hneeds] at hcan
  · rfl

theorem needsRebuild_place {i : Nat} (h : needsRebuild s ps g o stripe = some i) :
    (g.braid.place (stripe - g.off) i).isSome = true := by
  unfold needsRebuild at h
  simp only [] at h
  split at h
  · split at h
    · next hall =>
      obtain rfl := Option.some.inj h
      simp only [Bool.and_eq_true] at hall
      exact hall.1.1.2
    · cases h
  · cases h

/-- A rebuild of the stripe puts its lane write on record, restores the strip, queues the lane write and stages what it rewrites. -/
theorem rebuildStripe_eq (h : s.pool? p = some ps) (hcan : canRebuild s ps g o stripe = true) (bad : BadReads) :
    ∃ (i : Nat) (pl : Nat × Nat) (r : Restored), r = restoreStrip ps g bad stripe i s ∧ rebuildStripe p o g m bad stripe s =
      stageRepair (rebuildClass m) p stripe r.rewrites
        (enqueueCmd pl.1 (.laneWrite p stripe (g.entries.getD o 0)) (rebuildClass m) false true pl.2 g.h.sb
          (modReb p (fun x => { x with writing := x.writing ++
            [{ ordinal := g.entries.getD o 0, stripe := stripe, place := pl, blocks := r.blocks }] }) r.part)) := by
  have hid := Part.pool?_id h
  simp only [canRebuild, hid, Bool.and_eq_true, Bool.not_eq_true', Option.isNone_iff_eq_none, Option.isSome_iff_exists] at hcan
  obtain ⟨⟨⟨i, hneeds⟩, hentry⟩, hlink⟩ := hcan
  obtain ⟨⟨z, row⟩, hplace⟩ := Option.isSome_iff_exists.mp (needsRebuild_place hneeds)
  refine ⟨i, (g.ids.getD z 16384, g.braid.rowMba row), _, rfl, ?_⟩
  unfold rebuildStripe
  simp only [h, hlink, hentry, hneeds, hplace]

theorem rebuildStripe_backdrop (p o : Nat) (g : Geo) (m : Int) (bad : BadReads) (stripe : Nat) (s : Part) :
    (rebuildStripe p o g m bad stripe s).backdrop = s.backdrop := by
  cases h : s.pool? p with
  | none =>
    unfold rebuildStripe
    rw [h]
  | some ps =>
    cases hcan : canRebuild s ps g o stripe with
    | false => rw [rebuildStripe_stays h hcan]
    | true =>
      obtain ⟨i, pl, r, rfl, heq⟩ := rebuildStripe_eq (m := m) h hcan bad
      rw [heq, stageRepair_backdrop, Part.backdrop_of_structures (enqueueCmd_structures ..)]
      exact (Part.modPool_backdrop (fun _ => by rfl) _ p).trans (Part.backdrop_of_books (restoreStrip_books ..))

/-- The lane write of a strip stands in the pool's rebuild record. -/
def PoolSt.LaneWritten (x : PoolSt) (e stripe : Nat) : Prop := ∃ w ∈ x.reb.writing, w.ordinal = e ∧ w.stripe = stripe

theorem PoolSt.Onward.laneWritten {z e : Nat} {x y : PoolSt} (h : x.Onward z y) (hx : x.LaneWritten e stripe) : y.LaneWritten e stripe :=
  hx.imp fun _ hw => ⟨h.writing hw.1, hw.2⟩

theorem rebuildStripe_work (p o : Nat) (g : Geo) (m : Int) (bad : BadReads) (stripe : Nat) (s : Part) :
    StripeWork p stripe s (rebuildStripe p o g m bad stripe s) ∧
      ∀ ps, s.pool? p = some ps → canRebuild s ps g o stripe = true →
        ∃ x, (rebuildStripe p o g m bad stripe s).pool? p = some x ∧ x.LaneWritten (g.entries.getD o 0) stripe := by
  cases h : s.pool? p with
  | none =>
    unfold rebuildStripe
    rw [h]
    exact ⟨.refl .., fun _ hnone => by cases hnone⟩
  | some ps =>
    cases hcan : canRebuild s ps g o stripe with
    | false =>
      rw [rebuildStripe_stays h hcan]
      exact ⟨.refl .., fun x hx hcan' => by obtain rfl := Option.some.inj hx; rw [hcan] at hcan'; cases hcan'⟩
    | true =>
      obtain ⟨i, pl, r, hr, heq⟩ := rebuildStripe_eq (m := m) h hcan bad
      let w : LaneWrite := { ordinal := g.entries.getD o 0, stripe := stripe, place := pl, blocks := r.blocks }
      let noted := modReb p (fun x => { x with writing := x.writing ++ [w] }) r.part
      have hrestored : StripeWork p stripe s r.part := by
        rw [hr]
        exact .of_books (restoreStrip_books ..) (restoreStrip_uninspected ..)
      have hnoted : StripeWork p stripe r.part noted := .modPool (fun x => by
        refine ⟨?_, fun _ h => h, List.subset_append_left _ _⟩
        have hw : (x.reb.writing ++ [w]).filter (fun w => w.stripe != stripe) = x.reb.writing.filter (fun w => w.stripe != stripe) := by
          simp [w]
        simp only [PoolSt.elsewhere, hw]
        rfl) _ p
      obtain ⟨x, hx, -⟩ := hrestored.pools p ps h
      have hafter : StripeWork p stripe noted (rebuildStripe p o g m bad stripe s) := by
        rw [heq]
        exact (StripeWork.enqueueCmd ..).trans (.stageRepair ..)
      have hw : noted.pool? p = some { x with reb := { x.reb with writing := x.reb.writing ++ [w] } } :=
        Part.modPool_of_pool? hx _ (fun _ => rfl)
      refine ⟨(hrestored.trans hnoted).trans hafter, fun _ _ _ => ?_⟩
      obtain ⟨y, hy, hxy⟩ := hafter.pools p _ hw
      exact ⟨y, hy, hxy.laneWritten ⟨w, List.mem_append_right _ List.mem_cons_self, rfl, rfl⟩⟩

end

/-! ### A task (R154, R156) -/

/-- The stripes `l` of a task, one after the other. -/
def rebuildStripes (p o : Nat) (g : Geo) (m : Int) (bad : BadReads) (l : List Nat) (s : Part) : Part :=
  l.foldl (fun st x => rebuildStripe p o g m bad x st) s

section
variable {p o : Nat} {g : Geo} {m : Int} {bad : BadReads}

theorem rebuildStripes_backdrop (l : List Nat) (s : Part) : (rebuildStripes p o g m bad l s).backdrop = s.backdrop :=
  foldl_backdrop (op := fun st x => rebuildStripe p o g m bad x st) (fun st x => rebuildStripe_backdrop p o g m bad x st) l s

/-- A lane write on record stays there. -/
theorem rebuildStripes_keeps {e z : Nat} (l : List Nat) : ∀ {s : Part} {x : PoolSt}, s.pool? p = some x → x.LaneWritten e z →
    ∃ y, (rebuildStripes p o g m bad l s).pool? p = some y ∧ y.LaneWritten e z := by
  induction l with
  | nil => exact fun hx hw => ⟨_, hx, hw⟩
  | cons a l ih =>
    intro s x hx hw
    obtain ⟨y, hy, hxy⟩ := (rebuildStripe_work p o g m bad a s).1.pools p x hx
    exact ih hy (hxy.laneWritten hw)

/-- The first strip that can be rebuilt is: the stripes before it are left. -/
theorem rebuildStripes_first {st : Nat} (l : List Nat) {s : Part} {ps : PoolSt} (h : s.pool? p = some ps)
    (hfirst : l.find? (canRebuild s ps g o) = some st) :
    ∃ x, (rebuildStripes p o g m bad l s).pool? p = some x ∧ x.LaneWritten (g.entries.getD o 0) st := by
  induction l with
  | nil => cases hfirst
  | cons a l ih =>
    cases hcan : canRebuild s ps g o a with
    | true =>
      obtain rfl : a = st := by simpa [List.find?_cons, hcan] using hfirst
      obtain ⟨x, hx, hw⟩ := (rebuildStripe_work p o g m bad a s).2 ps h hcan
      exact rebuildStripes_keeps l hx hw
    | false =>
      have hskip : rebuildStripes p o g m bad (a :: l) s = rebuildStripes p o g m bad l s :=
        congrArg (rebuildStripes p o g m bad l) (rebuildStripe_stays h hcan bad)
      rw [hskip]
      exact ih (by simpa [List.find?_cons, hcan] using hfirst)

/-- Where no home strip stands in for a lost one, each strip that can be rebuilt is. -/
theorem rebuildStripes_each {z : Nat} (l : List Nat) : ∀ {s : Part} {ps : PoolSt}, s.pool? p = some ps → z ∈ l →
    (∀ i, salvagePlace s ps g z i = none) → canRebuild s ps g o z = true →
    ∃ x, (rebuildStripes p o g m bad l s).pool? p = some x ∧ x.LaneWritten (g.entries.getD o 0) z := by
  induction l with
  | nil => exact fun _ hz => absurd hz List.not_mem_nil
  | cons a l ih =>
    intro s ps h hz hsalvage hcan
    obtain ⟨hwork, hwritten⟩ := rebuildStripe_work p o g m bad a s
    by_cases ha : z = a
    · subst ha
      obtain ⟨x, hx, hw⟩ := hwritten ps h hcan
      exact rebuildStripes_keeps l hx hw
    · obtain ⟨y, hy, hxy⟩ := hwork.pools p ps h
      exact ih hy ((List.mem_cons.mp hz).resolve_left ha)
        (fun i => hxy.salvagePlace_none (Part.memberStates_of_members hwork.members) (hsalvage i))
        ((hwork.canRebuild hxy (Part.pool?_id h) ha o hsalvage).trans hcan)

end

/-- The unit, the pool or the part may not rebuild. -/
def rebuildHeld (s : Part) (ps : PoolSt) : Bool :=
  ps.life == 0 || !ps.owned || ps.pair.state == 4 || s.sched.frozen || s.dump.state == 3

theorem rebuildTaskEff_eq {p : Nat} {s : Part} {ps : PoolSt} (h : s.pool? p = some ps) (bad : BadReads) : rebuildTaskEff p bad s =
    if rebuildHeld s ps then s
    else
      match firstTask s ps with
      | none => s
      | some (g, m, grp, o) => countMedium bad (rebuildStripes p o g m bad (g.groupStripes grp) (active s)) := by
  unfold rebuildTaskEff
  rw [h]
  rfl

theorem rebuildTask_stays {p : PoolId} {s : State} {ps : PoolSt} (h : s.part.pool? p.val = some ps)
    (hnot : firstTask s.part ps = none ∨ ps.owned = false ∨ s.part.sched.frozen = true ∨ s.part.dump.state = 3) (bad : BadReads) :
    Stays (.rebuildTask p bad) s := by
  refine stays_onPart (g := rebuildTaskEff p.val bad) rfl ?_
  rw [rebuildTaskEff_eq h]
  by_cases hheld : rebuildHeld s.part ps = true
  · rw [if_pos hheld]
  · simp only [rebuildHeld, Bool.or_eq_true, Bool.not_eq_true', beq_iff_eq, not_or] at hheld
    obtain ⟨⟨⟨⟨-, howned⟩, -⟩, hfrozen⟩, hdump⟩ := hheld
    have hnone : firstTask s.part ps = none := by simpa [howned, hfrozen, hdump] using hnot
    rw [hnone]
    exact ite_self _

theorem rebuildTask_writes {p : PoolId} {s : State} {ps : PoolSt} (h : s.part.pool? p.val = some ps) (g : Geo) (m : Int) (gr o : Nat)
    (hlife : ps.life ≠ 0) (howned : ps.owned = true) (hpair : ps.pair.state ≠ 4) (hfrozen : s.part.sched.frozen = false)
    (hdump : s.part.dump.state ≠ 3) (htask : firstTask s.part ps = some (g, m, gr, o)) :
    Runs (.rebuildTask p []) s (fun t => ∃ x, t.pool? p.val = some x ∧ x.charter = ps.charter ∧
      (∀ st, (g.groupStripes gr).find? (canRebuild s.part ps g o) = some st → x.LaneWritten (g.entries.getD o 0) st) ∧
      ((∀ st i, salvagePlace s.part ps g st i = none) → ∀ st ∈ g.groupStripes gr, canRebuild s.part ps g o st = true →
        x.LaneWritten (g.entries.getD o 0) st) ∧ WithinStripes s.part t) := by
  have hheld : rebuildHeld s.part ps = false := by simp [rebuildHeld, hlife, howned, hpair, hfrozen, hdump]
  have heq : rebuildTaskEff p.val [] s.part = rebuildStripes p.val o g m [] (g.groupStripes gr) (active s.part) := by
    rw [rebuildTaskEff_eq h, hheld, htask]
    rfl
  refine runs_onPart (g := rebuildTaskEff p.val []) rfl ?_
  rw [heq]
  have hbackdrop := (rebuildStripes_backdrop (p := p.val) (o := o) (g := g) (m := m) (bad := []) (g.groupStripes gr)
    (active s.part)).trans (Part.backdrop_of_books (active_books s.part))
  obtain ⟨x, hx, hstanding⟩ := Part.pool?_of_backdrop hbackdrop h
  have hwritten : ∀ {z}, (∃ y, (rebuildStripes p.val o g m [] (g.groupStripes gr) (active s.part)).pool? p.val = some y ∧
      y.LaneWritten (g.entries.getD o 0) z) → x.LaneWritten (g.entries.getD o 0) z := fun ⟨y, hy, hw⟩ => by
    rwa [Option.some.inj (hx.symm.trans hy)]
  exact ⟨x, hx, (congrArg PoolSt.charter hstanding :),
    fun st hfirst => hwritten (rebuildStripes_first (s := active s.part) _ h hfirst),
    fun hsalvage st hst hcan => hwritten (rebuildStripes_each (s := active s.part) _ h hst (hsalvage st) hcan),
    .of_backdrop hbackdrop⟩

end Sys2Proof.Machine
end

section
/-! SUPPORT. The absent hold, lane writes that commit and groups that are abandoned (03: R64; 07: R153, R156, R160, R162), with the
statement of `RebuildRestoresStrips`. -/

namespace Sys2Proof.Machine

/-! ### The absent hold (R153) -/

theorem rebuildAbsentHold_stays {k : MemberId} {s : State} {m : MemberSt} (hm : s.part.member? k.val = some m) (hstate : m.state ≠ 0) :
    Stays (.rebuildAbsentHold k) s := by
  refine stays_onPart (g := rebuildAbsentHoldEff k.val) rfl ?_
  unfold rebuildAbsentHoldEff
  rw [hm]
  split
  · next hsome _ =>
    obtain rfl := Option.some.inj hsome
    exact if_neg (fun hboth => hstate hboth.1)
  · rfl

theorem rebuildAbsentHold_asks {p : PoolId} {k : MemberId} {s : State} {m : MemberSt} {ps : PoolSt} {o : Nat}
    (h : s.part.pool? p.val = some ps) (hm : s.part.member? k.val = some m) (hof : s.part.poolOfMember k.val = some (p.val, o))
    (hstate : m.state = 0) (hcharter : (ps.charter.memberAt o).map (·.state) ≠ some 0) :
    Runs (.rebuildAbsentHold k) s (fun t =>
      ∃ x, t.pool? p.val = some x ∧ .memberState o 0 ∈ x.queue ∧ x.charter = ps.charter ∧ t = { s.part with pools := t.pools }) := by
  have heq : rebuildAbsentHoldEff k.val s.part = queueDelta p.val (.memberState o 0) s.part := by
    unfold rebuildAbsentHoldEff
    simp only [hm, hof, Part.charter?, h, Option.map_some, Option.bind_some]
    exact if_pos ⟨hstate, hcharter⟩
  refine runs_onPart (g := rebuildAbsentHoldEff k.val) rfl ?_
  obtain ⟨x, hx, hasked, hxeq⟩ := queueDelta_pool? h (.memberState o 0)
  rw [heq]
  exact ⟨x, hx, hasked, by rw [hxeq], queueDelta_only ..⟩

/-! ### The lane write commits (R64, R156) -/

theorem stripeRebuilt_stays {p : PoolId} {stripe e : Nat} {s : State} {ps : PoolSt} (h : s.part.pool? p.val = some ps)
    (hnone : ps.reb.writing.find? (fun w => w.ordinal == e && w.stripe == stripe) = none) : Stays (.stripeRebuilt p stripe e) s := by
  refine stays_onPart (g := stripeRebuilt p.val stripe e) rfl ?_
  unfold stripeRebuilt
  simp only [h, hnone]

/-- The member once strip `i`'s blocks are put on it from `mba` on. -/
def MemberSt.withBlocks (ps : PoolSt) (g : Geo) (mba i : Nat) (blocks : List (Nat × Block)) (m : MemberSt) : MemberSt :=
  let stored := blocks.foldl (fun (m : MemberSt) x =>
    m.store (mba + x.1) (stampBlock (g.isCheck i) g.fmt i ps.id (mba + x.1) x.2)) m
  { stored with recentWrites := (mba :: stored.recentWrites).take 4096 }

theorem putStrip_eq (ps : PoolSt) (g : Geo) (k mba i : Nat) (blocks : List (Nat × Block)) (s : Part) :
    putStrip ps g k mba i blocks s = s.modMember k (MemberSt.withBlocks ps g mba i blocks) := rfl

theorem MemberSt.withBlocks_id (ps : PoolSt) (g : Geo) (mba i : Nat) (blocks : List (Nat × Block)) (m : MemberSt) :
    (m.withBlocks ps g mba i blocks).id = m.id := by
  have hall : ∀ m : MemberSt, (blocks.foldl (fun (m : MemberSt) x =>
      m.store (mba + x.1) (stampBlock (g.isCheck i) g.fmt i ps.id (mba + x.1) x.2)) m).id = m.id := by
    induction blocks with
    | nil => exact fun _ => rfl
    | cons x l ih => exact fun m => ih (m.store ..)
  exact hall m

theorem putStrip_member?_ne {j k : Nat} (h : j ≠ k) (ps : PoolSt) (g : Geo) (mba i : Nat) (blocks : List (Nat × Block)) (s : Part) :
    (putStrip ps g k mba i blocks s).member? j = s.member? j := by
  rw [putStrip_eq]
  exact Part.modMember_member?_ne s _ (fun _ => MemberSt.withBlocks_id ..) h

/-- The place a strip is put at is the last its member was written at. -/
theorem putStrip_recentWrites {ps : PoolSt} {g : Geo} {k mba i : Nat} {blocks : List (Nat × Block)} {s : Part} {y : MemberSt}
    (h : (putStrip ps g k mba i blocks s).member? k = some y) : mba ∈ y.recentWrites := by
  rw [putStrip_eq, Part.modMember_member? s k _ (fun _ => MemberSt.withBlocks_id ..)] at h
  obtain ⟨m, -, rfl⟩ := Option.map_eq_some_iff.mp h
  exact List.mem_cons_self

/-- A pool but for when its rebuilds started. -/
def PoolSt.unstarted (x : PoolSt) : PoolSt := { x with reb := { x.reb with started := [] } }

theorem rebuildDone_spec (p e : Nat) (s : Part) {x : PoolSt} (h : s.pool? p = some x) :
    (∃ y, (rebuildDone p e s).pool? p = some y ∧ y.unstarted = x.unstarted) ∧
      rebuildDone p e s = { s with pools := (rebuildDone p e s).pools, tow := (rebuildDone p e s).tow, dict := (rebuildDone p e s).dict
                                   log := (rebuildDone p e s).log, out := (rebuildDone p e s).out } := by
  have hstays : (∃ y, s.pool? p = some y ∧ y.unstarted = x.unstarted) ∧
      s = { s with pools := s.pools, tow := s.tow, dict := s.dict, log := s.log, out := s.out } := ⟨⟨x, h, rfl⟩, rfl⟩
  unfold rebuildDone
  simp only [h]
  split
  · exact hstays
  · split
    · exact hstays
    · next t0 _ _ =>
      let done := modReb p (fun r => { r with started := alDel e r.started }) s
      have hdone : done.pool? p = some { x with reb := { x.reb with started := alDel e x.reb.started } } :=
        Part.modPool_of_pool? h _ (fun _ => rfl)
      have hlogged := log_recorded 0x0F02 p (leBytes 2 e ++ leBytes 4 ((s.timeUs - t0) / 1000000)) done
      have hpools : ∀ q, (log 0x0F02 p (leBytes 2 e ++ leBytes 4 ((s.timeUs - t0) / 1000000)) done).pool? q = done.pool? q := fun q => by
        rw [hlogged]
        rfl
      refine ⟨⟨_, (hpools p).trans hdone, rfl⟩, ?_⟩
      rw [hlogged]
      rfl

theorem stripeRebuilt_counts {p : PoolId} {stripe e : Nat} {s : State} {ps : PoolSt} (h : s.part.pool? p.val = some ps) (w : LaneWrite)
    (o i : Nat) (hw : ps.reb.writing.find? (fun w => w.ordinal == e && w.stripe == stripe) = some w)
    (ho : (ps.charter.geoOf stripe).entries.idxOf? e = some o) (hi : (ps.charter.geoOf stripe).stripAt stripe o = some i) :
    let g := ps.charter.geoOf stripe
    let lane := (g.braid.place (stripe - g.off) i).map (fun z => (g.ids.getD z.1 16384, g.braid.rowMba z.2))
    Runs (.stripeRebuilt p stripe e) s (fun t => ∃ x, t.pool? p.val = some x ∧
      x.reb.rebuilt = ps.reb.rebuilt ++ (if lane = some w.place then [(e, stripe)] else []) ∧
      (∀ y ∈ x.reb.writing, ¬ (y.ordinal = e ∧ y.stripe = stripe)) ∧ x.charter = ps.charter ∧
      (∀ j, j ≠ w.place.1 → t.member? j = s.part.member? j) ∧
      (∀ y, t.member? w.place.1 = some y → w.place.2 ∈ y.recentWrites) ∧
      t = { s.part with man := t.man, pools := t.pools, members := t.members, tow := t.tow, dict := t.dict, log := t.log, out := t.out }) := by
  intro g lane
  let taken := modReb p.val (fun r => { r with writing := r.writing.filter (fun x => !(x.ordinal == e && x.stripe == stripe)) }) s.part
  let stored := putStrip ps g w.place.1 w.place.2 i w.blocks taken
  let counted := modReb p.val (fun r => { r with rebuilt := r.rebuilt ++ [(e, stripe)] }) stored
  let told := tellTwin p.val (.rebuilt p.val e stripe) counted
  have heq : stripeRebuilt p.val stripe e s.part = if lane = some w.place then rebuildDone p.val e told else stored := by
    unfold stripeRebuilt
    simp only [h, hw, ho, Option.bind_some, hi]
    rfl
  have hstored : stored.pool? p.val = some { ps with reb := { ps.reb with
      writing := ps.reb.writing.filter (fun x => !(x.ordinal == e && x.stripe == stripe)) } } :=
    Part.modPool_of_pool? h _ (fun _ => rfl)
  have hgone : ∀ y ∈ ps.reb.writing.filter (fun x => !(x.ordinal == e && x.stripe == stripe)), ¬ (y.ordinal = e ∧ y.stripe = stripe) :=
    fun y hy => by simpa [imp_iff_not_or] using (List.mem_filter.mp hy).2
  have hothers : ∀ j, j ≠ w.place.1 → stored.member? j = s.part.member? j := fun j hj => putStrip_member?_ne hj ..
  have hhere : ∀ y, stored.member? w.place.1 = some y → w.place.2 ∈ y.recentWrites := fun y hy => putStrip_recentWrites hy
  refine runs_onPart (g := stripeRebuilt p.val stripe e) rfl ?_
  rw [heq]
  split
  · have htold := tellTwin_only p.val (.rebuilt p.val e stripe) counted
    have hcounted : told.pool? p.val = some { ps with reb := { ps.reb with
        writing := ps.reb.writing.filter (fun x => !(x.ordinal == e && x.stripe == stripe))
        rebuilt := ps.reb.rebuilt ++ [(e, stripe)] } } := by
      simp only [told]
      rw [htold]
      exact Part.modPool_of_pool? hstored _ (fun _ => rfl)
    obtain ⟨⟨y, hy, hreb⟩, hdone⟩ := rebuildDone_spec p.val e told hcounted
    have hmember : ∀ j, (rebuildDone p.val e told).member? j = stored.member? j := fun j => by
      rw [hdone]
      simp only [told]
      rw [htold]
      rfl
    have hrebuilt : y.reb.rebuilt = ps.reb.rebuilt ++ [(e, stripe)] := (congrArg (fun z => z.reb.rebuilt) hreb :)
    have hwriting : y.reb.writing = ps.reb.writing.filter (fun x => !(x.ordinal == e && x.stripe == stripe)) :=
      (congrArg (fun z => z.reb.writing) hreb :)
    refine ⟨y, hy, hrebuilt, by rwa [hwriting], (congrArg PoolSt.charter hreb :),
      fun j hj => (hmember j).trans (hothers j hj), fun z hz => hhere z ((hmember _).symm.trans hz), ?_⟩
    rw [hdone]
    simp only [told]
    rw [htold]
    rfl
  · exact ⟨_, hstored, (List.append_nil _).symm, hgone, rfl, hothers, hhere, rfl⟩

/-! ### A group is abandoned (R160, R162) -/

/-- The part with its encoding done, no pipeline failing, and the entry's record of it. -/
def encodedGood (p stripe : Nat) (mirror : Bool) (s : Part) : Part :=
  if mirror then s
  else (encodeFailures p stripe 0 (useIsland .c s)).modEntry p stripe (fun e => { e with synd := 0, syndFail := false })

theorem stageEncoded_good (p stripe : Nat) (mirror : Bool) (writes : List (Nat × Nat × Block)) (s : Part) :
    stageEncoded p stripe mirror 0 writes s = stageWrites p stripe writes (encodedGood p stripe mirror s) := by
  cases mirror <;> rfl

theorem encodeFailures_good_only (p stripe : Nat) (s : Part) :
    encodeFailures p stripe 0 (useIsland .c s) = { s with
      islands := (encodeFailures p stripe 0 (useIsland .c s)).islands, tow := (encodeFailures p stripe 0 (useIsland .c s)).tow
      dict := (encodeFailures p stripe 0 (useIsland .c s)).dict, log := (encodeFailures p stripe 0 (useIsland .c s)).log
      out := (encodeFailures p stripe 0 (useIsland .c s)).out } := by
  rw [encodeFailures_none, useIsland_only]

section
variable (p stripe : Nat) (mirror : Bool) (s : Part)

theorem encodedGood_work : StripeWork p stripe s (encodedGood p stripe mirror s) := by
  cases mirror with
  | true => exact .refl ..
  | false =>
    refine StripeWork.trans (t := encodeFailures p stripe 0 (useIsland .c s)) ?_ (.modEntry (fun _ => ⟨by rfl, by rfl⟩) _)
    rw [encodeFailures_good_only]
    exact .of_uninspected rfl rfl rfl

theorem encodedGood_within : WithinDestage s (encodedGood p stripe mirror s) := by
  cases mirror with
  | true => rfl
  | false =>
    unfold WithinDestage encodedGood
    rw [encodeFailures_good_only]
    rfl

theorem encodedGood_entry? {s : Part} {e : MEntry} (he : s.entry? p stripe = some e) :
    ∃ y, (encodedGood p stripe mirror s).entry? p stripe = some y ∧ y.whole = e.whole := by
  cases mirror with
  | true => exact ⟨e, he, rfl⟩
  | false =>
    have hsame : (encodeFailures p stripe 0 (useIsland .c s)).entry? p stripe = some e := by
      rw [encodeFailures_good_only]
      exact he
    exact ⟨_, Part.modEntry_entry? hsame _ fun _ => ⟨rfl, rfl⟩, rfl⟩

end

section
variable {ps : PoolSt} {g : Geo} {stripe : Nat} {rmw : Bool} {snap : List Held} {writes : List (Nat × Nat × Block)} {s : Part}

/-- A stripe's writes are staged with the encoding that follows, from an entry that has what the destage is on its record. -/
theorem stageDestage_good (ps : PoolSt) (g : Geo) (stripe : Nat) (rmw : Bool) (snap : List Held) (writes : List (Nat × Nat × Block))
    (s : Part) : ∃ (taken : Part) (f : MEntry → MEntry),
      stageDestage ps g stripe rmw snap writes 0 s = stageWrites ps.id stripe writes (encodedGood ps.id stripe g.mirror taken) ∧
      (∀ e, (f e).pool = e.pool ∧ (f e).stripe = e.stripe ∧ (f e).whole = e.whole) ∧
      taken.man.entries = (s.modEntry ps.id stripe f).man.entries ∧ taken = { s with man := taken.man } := by
  unfold stageDestage
  extract_lets checks through fit cls snapped counted
  refine ⟨counted, fun e => { e with
    rmw := rmw, chkOut := !fit, cls := cls, genLo := ps.charter.gen % 65536, tried := false, stalledAt := none
    snap := snap.map (fun b => (b.strip, b.bo, b.gen)) }, stageEncoded_good .., fun _ => ⟨rfl, rfl, rfl⟩, ?_, ?_⟩
  · simp only [counted]
    split <;> rfl
  · simp only [counted]
    split <;> rfl

theorem stageDestage_work : StripeWork ps.id stripe s (stageDestage ps g stripe rmw snap writes 0 s) := by
  obtain ⟨taken, f, heq, hf, hentries, htaken⟩ := stageDestage_good ps g stripe rmw snap writes s
  have hsnapped : StripeWork ps.id stripe s (s.modEntry ps.id stripe f) := .modEntry (fun e => ⟨(hf e).1, (hf e).2.1⟩) s
  have hsame : StripeWork ps.id stripe (s.modEntry ps.id stripe f) taken := by
    refine .of_uninspected hentries ?_ ?_
    · rw [htaken]
      rfl
    · rw [htaken]
      rfl
  rw [heq]
  exact ((hsnapped.trans hsame).trans (encodedGood_work ..)).trans (.stageWrites ..)

theorem stageDestage_within : WithinDestage s (stageDestage ps g stripe rmw snap writes 0 s) := by
  obtain ⟨taken, -, heq, -, -, htaken⟩ := stageDestage_good ps g stripe rmw snap writes s
  have hwithin : WithinDestage s taken := by
    unfold WithinDestage
    rw [htaken]
  rw [heq]
  exact (hwithin.trans (encodedGood_within ..)).trans (.stageWrites ..)

/-- What is staged for a stripe that the intent set does not name stays under its entry. -/
theorem stageDestage_builds {x : PoolSt} {e : MEntry} (hx : s.pool? ps.id = some x) (hin : x.inIntent stripe = false)
    (he : s.entry? ps.id stripe = some e) :
    ∃ y, (stageDestage ps g stripe rmw snap writes 0 s).entry? ps.id stripe = some y ∧ y.whole = e.whole ∧ y.built = true := by
  obtain ⟨taken, f, heq, hf, hentries, htaken⟩ := stageDestage_good ps g stripe rmw snap writes s
  have hentry : taken.entry? ps.id stripe = some (f e) :=
    (Part.entry?_congr hentries ..).trans (Part.modEntry_entry? he f (fun e => ⟨(hf e).1, (hf e).2.1⟩))
  have hpool : taken.pool? ps.id = some x := by
    rw [htaken]
    exact hx
  obtain ⟨y, hy, hwhole⟩ := encodedGood_entry? ps.id stripe g.mirror hentry
  obtain ⟨z, hz, hxz⟩ := (encodedGood_work ps.id stripe g.mirror taken).pools ps.id x hpool
  rw [heq]
  exact ⟨_, (stageWrites_waits hz hy ((PoolSt.inIntent_of_standing hxz.standing stripe).trans hin) writes).1,
    hwhole.trans (hf e).2.2, rfl⟩

end

/-- The whole-stripe write of an abandonment is under way. -/
def Part.GivenUp (s : Part) (p stripe : Nat) : Prop := ∃ y, s.entry? p stripe = some y ∧ y.whole = true ∧ y.built = true

theorem addEntry_entry? (p stripe : Nat) (st : EntryState) (s : Part) : ∃ e, (addEntry p stripe st s).entry? p stripe = some e := by
  unfold addEntry
  split
  · next e he => exact ⟨e, he⟩
  · next hnone =>
    refine ⟨MEntry.fresh s.freeSlot p stripe st s.sched.tideNow (((s.charter? p).map (·.gen)).getD 0), ?_⟩
    simp only [Part.entry?, Part.modMan] at hnone ⊢
    rw [List.find?_append, hnone]
    simp [MEntry.fresh]

/-- An abandonment of a stripe in pool `ps` is the staging of a whole-stripe write, from a part where the lost blocks are on record. -/
theorem abandonStripe_eq {p : Nat} {s : Part} {ps : PoolSt} (h : s.pool? p = some ps) (cause fails stripe : Nat) :
    ∃ (lost : Part) (st : EntryState) (writes : List (Nat × Nat × Block)), lost.books = s.books ∧ lost.uninspected = s.uninspected ∧
      abandonStripe p cause fails stripe s = stageDestage ps (ps.charter.geoOf stripe) stripe false (snapshot s p stripe) writes fails
        ((addEntry p stripe st lost).modEntry p stripe
          (fun e => { e with whole := true, stalledAt := none, replay := false, built := false, state := st })) := by
  have hoffset : ∀ new bo st, (abandonOffset ps (ps.charter.geoOf stripe) cause stripe new bo st).2.books = st.books ∧
      (abandonOffset ps (ps.charter.geoOf stripe) cause stripe new bo st).2.uninspected = st.uninspected := fun new bo st => by
    have hlost : ∀ l : List (Nat × LostEntry), (l.foldl (fun t e => enterLost ps.id e.2 t) st).books = st.books ∧
        (l.foldl (fun t e => enterLost ps.id e.2 t) st).uninspected = st.uninspected := fun l =>
      ⟨foldl_books (fun t e => enterLost_books ps.id e.2 t) l st, foldl_uninspected (fun t e => enterLost_uninspected ps.id e.2 t) l st⟩
    unfold abandonOffset
    simp only []
    split <;> exact hlost _
  have hall : ∀ new (l : List Nat) (acc : List (Nat × Nat × Block) × Part), (l.foldl (fun (acc : List (Nat × Nat × Block) × Part) bo =>
      let x := abandonOffset ps (ps.charter.geoOf stripe) cause stripe new bo acc.2
      (acc.1 ++ x.1, x.2)) acc).2.books = acc.2.books ∧ (l.foldl (fun (acc : List (Nat × Nat × Block) × Part) bo =>
      let x := abandonOffset ps (ps.charter.geoOf stripe) cause stripe new bo acc.2
      (acc.1 ++ x.1, x.2)) acc).2.uninspected = acc.2.uninspected := fun new l => by
    induction l with
    | nil => exact fun _ => ⟨rfl, rfl⟩
    | cons bo l ih => exact fun acc => ⟨(ih _).1.trans (hoffset new bo acc.2).1, (ih _).2.trans (hoffset new bo acc.2).2⟩
  unfold abandonStripe
  simp only [h]
  exact ⟨_, _, _, (hall _ _ _).1, (hall _ _ _).2, rfl⟩

section
variable {p stripe : Nat} {s : Part}

theorem abandonStripe_work (p cause stripe : Nat) (s : Part) : StripeWork p stripe s (abandonStripe p cause 0 stripe s) := by
  cases h : s.pool? p with
  | none =>
    unfold abandonStripe
    rw [h]
    exact .refl ..
  | some ps =>
    obtain rfl := Part.pool?_id h
    obtain ⟨lost, st, writes, hbooks, hpools, heq⟩ := abandonStripe_eq h cause 0 stripe
    rw [heq]
    exact (((StripeWork.of_books hbooks hpools).trans (.addEntry ..)).trans (.modEntry (fun _ => ⟨by rfl, by rfl⟩) _)).trans stageDestage_work

theorem abandonStripe_within (p cause stripe : Nat) (s : Part) : WithinDestage s (abandonStripe p cause 0 stripe s) := by
  cases h : s.pool? p with
  | none =>
    unfold abandonStripe
    rw [h]
    rfl
  | some ps =>
    obtain ⟨lost, st, writes, hbooks, hpools, heq⟩ := abandonStripe_eq h cause 0 stripe
    rw [heq]
    exact (((WithinDestage.of_stripes (.of_books hbooks)).trans (.of_stripes (.of_structures (addEntry_structures ..)))).trans
      (.modMan ..)).trans stageDestage_within

/-- A stripe the intent set does not name is given up: its whole-stripe write is staged. -/
theorem abandonStripe_givesUp {ps : PoolSt} (h : s.pool? p = some ps) (hin : ps.inIntent stripe = false) (cause : Nat) :
    (abandonStripe p cause 0 stripe s).GivenUp p stripe := by
  obtain rfl := Part.pool?_id h
  obtain ⟨lost, st, writes, hbooks, hpools, heq⟩ := abandonStripe_eq h cause 0 stripe
  obtain ⟨x, hx, hpsx⟩ := ((StripeWork.of_books hbooks hpools).trans (.addEntry ps.id stripe st lost)).pools ps.id ps h
  obtain ⟨e, he⟩ := addEntry_entry? ps.id stripe st lost
  obtain ⟨y, hy, hwhole, hbuilt⟩ := stageDestage_builds (ps := ps) (g := ps.charter.geoOf stripe) (rmw := false)
    (snap := snapshot s ps.id stripe) (writes := writes) (s := (addEntry ps.id stripe st lost).modEntry ps.id stripe
      (fun e => { e with whole := true, stalledAt := none, replay := false, built := false, state := st })) hx
    ((PoolSt.inIntent_of_standing hpsx.standing stripe).trans hin) (Part.modEntry_entry? he _ fun _ => ⟨rfl, rfl⟩)
  rw [heq]
  exact ⟨y, hy, hwhole, hbuilt⟩

/-- A stripe of the list that the intent set does not name is given up, and stays so while the others are. -/
theorem abandonStripes_giveUp {x : Nat} (l : List Nat) : ∀ {s : Part} {ps : PoolSt}, s.pool? p = some ps → ps.inIntent x = false →
    x ∈ l ∨ s.GivenUp p x → (l.foldl (fun st z => abandonStripe p 2 0 z st) s).GivenUp p x := by
  induction l with
  | nil => exact fun _ _ hx => hx.resolve_left List.not_mem_nil
  | cons a l ih =>
    intro s ps h hin hx
    have hwork := abandonStripe_work p 2 a s
    obtain ⟨y, hy, hpsy⟩ := hwork.pools p ps h
    refine ih hy ((PoolSt.inIntent_of_standing hpsy.standing x).trans hin) ?_
    by_cases ha : x = a
    · exact .inr (ha ▸ abandonStripe_givesUp h (ha ▸ hin) 2)
    · refine hx.imp (fun hmem => (List.mem_cons.mp hmem).resolve_left ha) fun ⟨z, hz, hgiven⟩ => ⟨z, ?_, hgiven⟩
      rw [hwork.entry? ha, hz]

end

theorem poolGroupAbandon_refused {q : Req} {p : PoolId} {grp : Nat} {s : State} {ps : PoolSt} (h : s.part.pool? p.val = some ps)
    (hallowed : Allowed s.part q roleCustodian none) (hnone : beyondStripes s.part ps grp = []) :
    Runs (.poolGroupAbandon q p grp) s (fun t => Answers t stRule (ruleDetail 162 0) ∧
      t = { s.part with dict := t.dict, out := t.out, fn0 := t.fn0, fn1 := t.fn1 }) := by
  refine runs_onPart (g := poolGroupAbandonEff q p.val grp) rfl ?_
  have heq : poolGroupAbandonEff q p.val grp s.part = refuseRule q 162 0 s.part := by
    unfold poolGroupAbandonEff
    rw [checked_allowed hallowed]
    simp [h, hnone]
  rw [heq]
  exact ⟨refuseRule_answers .., refuseRule_only ..⟩

theorem poolGroupAbandon_givesUp {q : Req} {p : PoolId} {grp : Nat} {s : State} {ps : PoolSt} (h : s.part.pool? p.val = some ps)
    (hallowed : Allowed s.part q roleCustodian none) (hlife : ps.life ≠ 0) (howned : ps.owned = true)
    (hsome : beyondStripes s.part ps grp ≠ []) :
    Runs (.poolGroupAbandon q p grp) s (fun t => t.answer = some stOk ∧
      (∀ x ∈ beyondStripes s.part ps grp, ps.inIntent x = false → t.GivenUp p.val x) ∧ WithinDestage s.part t) := by
  let named := s.part.setObjNum (poolIdx p.val 0x15) 8 grp
  let abandoned := (beyondStripes s.part ps grp).foldl (fun st x => abandonStripe p.val 2 0 x st) named
  have heq : poolGroupAbandonEff q p.val grp s.part = ok q abandoned := by
    unfold poolGroupAbandonEff
    rw [checked_allowed hallowed]
    simp only [h, hlife, howned]
    simp [hsome, abandoned, named]
  have hwithin : WithinDestage s.part abandoned := by
    have hall : ∀ (l : List Nat) (st : Part), WithinDestage s.part st →
        WithinDestage s.part (l.foldl (fun st x => abandonStripe p.val 2 0 x st) st) := fun l => by
      induction l with
      | nil => exact fun _ hst => hst
      | cons x l ih => exact fun st hst => ih _ (hst.trans (abandonStripe_within ..))
    exact hall _ _ rfl
  refine runs_onPart (g := poolGroupAbandonEff q p.val grp) rfl ?_
  rw [heq]
  refine ⟨by simp [Part.answer], fun x hx hin => ?_, ?_⟩
  · obtain ⟨y, hy, hgiven⟩ := abandonStripes_giveUp (s := named) _ h hin (.inl hx)
    have hman : (ok q abandoned).man = abandoned.man := by simp
    exact ⟨y, (Part.entry?_congr (congrArg ManifestSt.entries hman) _ _).trans hy, hgiven⟩
  · refine hwithin.trans ?_
    unfold WithinDestage
    rw [ok_only]

/-- Settles O27: it holds, assembled from a lemma for each command and what it finds. -/
theorem rebuildRestoresStrips : Obligations.RebuildRestoresStrips := by
  unfold Obligations.RebuildRestoresStrips
  intro q p k stripe e grp s ps h
  exact ⟨fun m o hm hof => ⟨rebuildAbsentHold_stays hm, rebuildAbsentHold_asks h hm hof⟩, rebuildTask_stays h, rebuildTask_writes h,
    stripeRebuilt_stays h, stripeRebuilt_counts h,
    fun hallowed => ⟨poolGroupAbandon_refused h hallowed, poolGroupAbandon_givesUp h hallowed⟩⟩

end Sys2Proof.Machine
end

section
/-! SUPPORT. What discovery and the settling of a member reach, and what of the members they keep (08: R190 to R193, R206). -/

namespace Sys2Proof.Machine

/-! ### Members as they were, under a view -/

/-- `f` sees every member of `s` in `t` as it was. -/
def SameMembers {α : Type} (f : MemberSt → α) (s t : Part) : Prop := ∀ j, (t.member? j).map f = (s.member? j).map f

section
variable {α β : Type} {f : MemberSt → α} {s t u : Part}

theorem SameMembers.refl (s : Part) : SameMembers f s s := fun _ => rfl

theorem SameMembers.trans (h : SameMembers f s t) (h' : SameMembers f t u) : SameMembers f s u := fun j => (h' j).trans (h j)

theorem SameMembers.of_members (h : t.members = s.members) : SameMembers f s t := fun j => by
  simp only [Part.member?, h]

/-- A view of a view. -/
theorem SameMembers.coarsen (h : SameMembers f s t) (g : α → β) : SameMembers (fun m => g (f m)) s t := fun j => by
  simpa [Option.map_map, Function.comp_def] using congrArg (Option.map g) (h j)

theorem SameMembers.modMember {g : MemberSt → MemberSt} (hid : ∀ m, (g m).id = m.id) (hg : ∀ m, f (g m) = f m) (s : Part) (k : Nat) :
    SameMembers f s (s.modMember k g) := fun j => by
  by_cases hj : j = k
  · subst hj
    simp [Part.modMember_member? _ _ _ hid, Function.comp_def, hg]
  · rw [Part.modMember_member?_ne _ _ hid hj]

theorem SameMembers.of_queues (hf : ∀ m, f m.bare = f m) (h : Queues s t) : SameMembers f s t := fun j => by
  cases hm : s.member? j with
  | some m =>
    obtain ⟨y, hy, -, hqueued⟩ := h.of_member hm
    have hbare : y.bare = m.bare := by rw [hqueued]; rfl
    rw [hy, Option.map_some, Option.map_some, ← hf y, ← hf m, hbare]
  | none =>
    have hk := h.queued j
    rw [hm] at hk
    generalize t.member? j = o at hk ⊢
    cases hk
    rfl

theorem SameMembers.of_structures (hf : ∀ m, f m.bare = f m) (h : t.structures = s.structures) : SameMembers f s t := fun j => by
  have hbare := map_find?_of_map_eq (q := fun x => x.id == j) (Part.members_of_structures h) (p := fun x => x.id == j) (fun _ => rfl)
  simpa [Part.member?, Function.comp_def, hf] using congrArg (Option.map f) hbare

theorem SameMembers.of_member (h : SameMembers f s t) {j : Nat} {m : MemberSt} (hm : s.member? j = some m) :
    ∃ y, t.member? j = some y ∧ f y = f m := exists_of_map_eq_some (h j) hm

end

/-! ### The reach of discovery -/

/-- `t` differs from `s` at most in what a discovery reaches. -/
def WithinDiscovery (s t : Part) : Prop :=
  t = { s with sched := t.sched, man := t.man, chains := t.chains, fn0 := t.fn0, fn1 := t.fn1, pools := t.pools, vols := t.vols
               members := t.members, fabric := t.fabric, tow := t.tow, dict := t.dict, log := t.log, out := t.out }

/-- `t` differs from `s` at most in what work on stripes reaches and in the lanes. -/
def WithinSettling (s t : Part) : Prop :=
  t = { s with sched := t.sched, man := t.man, chains := t.chains, fn0 := t.fn0, fn1 := t.fn1, pools := t.pools, vols := t.vols
               members := t.members, fabric := { s.fabric with lanes := t.fabric.lanes }, tow := t.tow, dict := t.dict, log := t.log
               out := t.out }

theorem WithinSettling.of_stripes {s t : Part} (h : WithinStripes s t) : WithinSettling s t := by
  unfold WithinSettling
  rw [h]

theorem WithinSettling.trans {s t u : Part} (h : WithinSettling s t) (h' : WithinSettling t u) : WithinSettling s u :=
  calc u = _ := h'
    _ = _ := by rw [h]

theorem WithinSettling.fabric {s t : Part} (h : WithinSettling s t) : t.fabric = { s.fabric with lanes := t.fabric.lanes } :=
  congrArg Part.fabric h

theorem WithinDiscovery.of_settling {s t : Part} (h : WithinSettling s t) : WithinDiscovery s t := by
  unfold WithinDiscovery
  rw [h]

theorem WithinDiscovery.of_recorded {s t : Part} (h : Recorded s t) : WithinDiscovery s t := by
  unfold WithinDiscovery
  rw [h]

theorem WithinDiscovery.modFab (s : Part) (g : FabricSt → FabricSt) : WithinDiscovery s (s.modFab g) := rfl

theorem WithinDiscovery.trans {s t u : Part} (h : WithinDiscovery s t) (h' : WithinDiscovery t u) : WithinDiscovery s u :=
  calc u = _ := h'
    _ = _ := by rw [h]

/-! ### Where the members stand -/

/-- What discovery decides of a member: its state, its link, what it is. -/
def MemberSt.status (m : MemberSt) : Nat × Bool × MemberInfo := (m.state, m.linkUp, m.info)

/-- `t` differs from `s` within the reach of settling, and its members stand as they stood. -/
structure Settles (s t : Part) : Prop where
  within : WithinSettling s t
  same : SameMembers MemberSt.status s t

section
variable {s t u : Part}

theorem Settles.refl (s : Part) : Settles s s := ⟨rfl, .refl s⟩

theorem Settles.trans (h : Settles s t) (h' : Settles t u) : Settles s u := ⟨h.within.trans h'.within, h.same.trans h'.same⟩

theorem Settles.foldl {α : Type} {op : Part → α → Part} (h : ∀ s x, Settles s (op s x)) (l : List α) :
    ∀ s, Settles s (l.foldl op s) := by
  induction l with
  | nil => exact Settles.refl
  | cons x l ih => exact fun s => (h s x).trans (ih _)

theorem Settles.of_structures (h : t.structures = s.structures) : Settles s t :=
  ⟨.of_stripes (.of_structures h), .of_structures (fun _ => rfl) h⟩

theorem Settles.of_queues (h : Queues s t) : Settles s t := 
  ⟨.of_stripes (.of_members h.only), .of_queues (fun _ => rfl) h⟩

theorem Settles.log (code inst : Nat) (d : Bytes) (s : Part) : Settles s (log code inst d s) := .of_structures (log_structures ..)

theorem Settles.modPool (s : Part) (p : Nat) (g : PoolSt → PoolSt) : Settles s (s.modPool p g) := ⟨rfl, .of_members rfl⟩

theorem Settles.modCmd (s : Part) (c : Nat) (h : BitVec 32) (g : Cmd → Cmd) : Settles s (s.modCmd c h g) := ⟨rfl, .of_members rfl⟩

theorem Settles.modMember {g : MemberSt → MemberSt} (hid : ∀ m, (g m).id = m.id) (hg : ∀ m, (g m).status = m.status) (s : Part)
    (k : Nat) : Settles s (s.modMember k g) := ⟨rfl, .modMember hid hg s k⟩

end

/-! ### What a change of state draws after it (R65, R206) -/

theorem loseHome_settles (p o : Nat) (s : Part) : Settles s (loseHome p o s) := by
  unfold loseHome
  split
  · exact .refl s
  · extract_lets inForce s1 s2
    have hs1 : Settles s s1 := by
      simp only [s1]
      split
      · split
        · exact .modPool ..
        · exact .refl s
      · exact .refl s
    have hs2 : Settles s s2 := hs1.trans (.modPool ..)
    split
    · split
      · split
        · exact hs2.trans (.log ..)
        · exact hs2
      · exact hs2
    · exact hs1

theorem dropUnwritable_settles (p : Nat) (s : Part) : Settles s (dropUnwritable p s) := by
  unfold dropUnwritable
  exact .of_structures (foldl_structures (fun st stripe => (retireIfDone_structures ..).trans (Part.modEntry_structures ..)) _ s)

theorem dropMemberCmds_settles (k : Nat) (s : Part) : Settles s (dropMemberCmds k s) := by
  unfold dropMemberCmds
  split
  · exact .refl s
  · extract_lets s1
    have hs1 : Settles s s1 := Settles.foldl (fun st c => by
      split
      · exact .modCmd ..
      · exact .refl st) _ s
    exact hs1.trans (.modMember (fun _ => by rfl) (fun _ => by rfl) _ _)

theorem memberFailedInPool_settles (p o : Nat) (s : Part) : Settles s (memberFailedInPool p o s) := by
  unfold memberFailedInPool
  extract_lets s1 s2 s3
  have hs2 : Settles s s2 := (Settles.modPool s p _).trans (.modPool ..)
  have hs3 : Settles s s3 := (hs2.trans (loseHome_settles p o s2)).trans (.modPool ..)
  exact (hs3.trans (Settles.modPool s3 p _)).trans (dropUnwritable_settles ..)

theorem registerAgain_settles (k p : Nat) (s : Part) : Settles s (registerAgain k p s) := by
  unfold registerAgain
  split
  · refine .modMember (fun m => ?_) (fun m => ?_) s k
    · split <;> rfl
    · split <;> rfl
  · exact .refl s

/-- A member as the change of its state leaves it (R206). -/
def MemberSt.moveTo (new until_ now : Nat) (m : MemberSt) : MemberSt :=
  { m with state := new, suspectEnd := if new = 3 then some until_ else m.suspectEnd, presentAt := if new = 1 then now else m.presentAt }

/-- Beside the record and the new state, a change of state draws nothing after it that moves a member. -/
theorem setMemberState_settles {k new : Nat} {s : Part} {m : MemberSt} (hm : s.member? k = some m) (hnew : m.state ≠ new) (row : Nat) :
    ∃ t until_ now, Settles s t ∧ Settles (t.modMember k (MemberSt.moveTo new until_ now)) (setMemberState k new row s) := by
  unfold setMemberState
  split
  · next hnone => cases hnone.symm.trans hm
  next x hx =>
  cases hx.symm.trans hm
  rw [if_neg hnew]
  extract_lets t u failed gone
  have hfailed : Settles u failed := by
    simp only [failed]
    split
    · exact memberFailedInPool_settles ..
    · exact .refl u
  have hgone : Settles u gone := by
    simp only [gone]
    split
    · exact (loseHome_settles ..).trans (dropUnwritable_settles ..)
    · exact .refl u
  refine ⟨t, t.suspectUntil, t.timeUs, .log .., ?_⟩
  change Settles u _
  split
  · exact hfailed.trans (dropMemberCmds_settles k failed)
  · exact hgone.trans (dropMemberCmds_settles k gone)
  · split
    · extract_lets v st
      have hv : Settles u v := registerAgain_settles ..
      split
      · exact hv
      · exact hv.trans (.modPool ..)
    · exact .refl u
  · exact .refl u

end Sys2Proof.Machine
end

section
/-! SUPPORT. One member's state, link and identity after each step of its identification (08: R191, R193, R206). -/

namespace Sys2Proof.Machine

/-! ### One member stands anew -/

/-- Where member `j` stands. -/
def Part.statusAt (s : Part) (j : Nat) : Option (Nat × Bool × MemberInfo) := (s.member? j).map MemberSt.status

/-- Member `k` of `t` stands as `g` says of where it stood in `s`; every other member stands as it stood. -/
structure Restates (k : Nat) (g : Nat × Bool × MemberInfo → Nat × Bool × MemberInfo) (s t : Part) : Prop where
  within : WithinSettling s t
  own : t.statusAt k = (s.statusAt k).map g
  others : ∀ j, j ≠ k → t.statusAt j = s.statusAt j

section
variable {k : Nat} {g g' : Nat × Bool × MemberInfo → Nat × Bool × MemberInfo} {s t u : Part}

theorem Restates.of_settles (h : Settles s t) : Restates k (fun x => x) s t :=
  ⟨h.within, by simpa [Part.statusAt, Function.comp_def] using h.same k, fun j _ => h.same j⟩

theorem Restates.trans (h : Restates k g s t) (h' : Restates k g' t u) : Restates k (fun x => g' (g x)) s u :=
  ⟨h.within.trans h'.within, by rw [h'.own, h.own, Option.map_map]; rfl, fun j hj => (h'.others j hj).trans (h.others j hj)⟩

theorem Restates.settled (h : Restates k g s t) (h' : Settles t u) : Restates k g s u := h.trans (.of_settles h')

theorem Settles.restated (h : Settles s t) (h' : Restates k g t u) : Restates k g s u := (Restates.of_settles h).trans h'

theorem Restates.of_none (h : s.member? k = none) : Restates k g s s := ⟨rfl, by simp [Part.statusAt, h], fun _ _ => rfl⟩

theorem Restates.congr (h : Restates k g s t) (hg : ∀ m, s.member? k = some m → g m.status = g' m.status) : Restates k g' s t := by
  refine ⟨h.within, h.own.trans ?_, h.others⟩
  cases hm : s.member? k with
  | none => simp [Part.statusAt, hm]
  | some m => simp [Part.statusAt, hm, hg m hm]

theorem Restates.modMember {f : MemberSt → MemberSt} (hid : ∀ m, (f m).id = m.id) (hf : ∀ m, (f m).status = g m.status) (s : Part)
    (k : Nat) : Restates k g s (s.modMember k f) := by
  refine ⟨rfl, ?_, fun j hj => ?_⟩
  · simp [Part.statusAt, Part.modMember_member? _ _ _ hid, Function.comp_def, hf]
  · simp only [Part.statusAt, Part.modMember_member?_ne _ _ hid hj]

theorem Restates.of_member (h : Restates k g s t) {m : MemberSt} (hm : s.member? k = some m) :
    ∃ y, t.member? k = some y ∧ y.status = g m.status := by
  have hown := h.own
  simp only [Part.statusAt, hm, Option.map_some] at hown
  exact Option.map_eq_some_iff.mp hown

end

/-! ### Changes of state (R206) -/

theorem setMemberState_restates (k new row : Nat) (s : Part) : Restates k (fun x => (new, x.2)) s (setMemberState k new row s) := by
  cases hm : s.member? k with
  | none =>
    have hstays : setMemberState k new row s = s := by simp [setMemberState, hm]
    rw [hstays]
    exact .of_none hm
  | some m =>
    by_cases hnew : m.state = new
    · have hsame : Settles s (setMemberState k new row s) := by
        simp only [setMemberState, hm, hnew, if_true]
        split
        · exact .modMember (fun _ => by rfl) (fun _ => by rfl) s k
        · exact .refl s
      refine (Restates.of_settles hsame).congr fun y hy => ?_
      cases hm.symm.trans hy
      rw [← hnew]
      rfl
    · obtain ⟨t, until_, now, hst, htu⟩ := setMemberState_settles hm hnew row
      exact (hst.restated (.modMember (fun _ => by rfl) (fun _ => by rfl) t k)).settled htu

/-- A member that discovery does not find (Table 8.7). -/
def lostStatus (x : Nat × Bool × MemberInfo) : Nat × Bool × MemberInfo :=
  (if [1, 2, 3, 5, 6, 7].contains x.1 then 0 else x.1, false, x.2.2)

theorem lostStatus_idem (x : Nat × Bool × MemberInfo) : lostStatus (lostStatus x) = lostStatus x := by
  unfold lostStatus
  split <;> simp_all

theorem loseMember_restates (k : Nat) (s : Part) : Restates k lostStatus s (loseMember k s) := by
  unfold loseMember
  split
  · next hm => exact .of_none hm
  next m hm =>
  extract_lets s1
  have hs1 : Restates k (fun x => (x.1, false, x.2.2)) s s1 := .modMember (fun _ => by rfl) (fun _ => by rfl) s k
  split
  · next hused =>
    refine (hs1.trans (setMemberState_restates k 0 4 s1)).congr fun y hy => ?_
    cases hm.symm.trans hy
    simp only [lostStatus, MemberSt.status, hused, if_true]
  · next hunused =>
    refine hs1.congr fun y hy => ?_
    cases hm.symm.trans hy
    simp only [lostStatus, MemberSt.status, hunused, Bool.false_eq_true, if_false]

/-- A SUSPECT cause (Table 8.7). -/
def suspectStatus (x : Nat × Bool × MemberInfo) : Nat × Bool × MemberInfo := (if x.1 = 2 then 3 else x.1, x.2)

theorem suspect_restates (k : Nat) (s : Part) : Restates k suspectStatus s (suspect k s) := by
  unfold suspect
  split
  · next m hm =>
    split
    · next h2 =>
      refine (setMemberState_restates k 3 1 s).congr fun y hy => ?_
      cases hm.symm.trans hy
      simp [suspectStatus, MemberSt.status, h2]
    · next h2 =>
      have hsame : Settles s (if m.state = 3 then s.modMember k (fun x => { x with suspectEnd := some s.suspectUntil }) else s) := by
        split
        · exact .modMember (fun _ => by rfl) (fun _ => by rfl) s k
        · exact .refl s
      refine (Restates.of_settles hsame).congr fun y hy => ?_
      cases hm.symm.trans hy
      simp [suspectStatus, MemberSt.status, h2]
  · next hm => exact .of_none hm

/-- A FAILED cause (Table 8.7). -/
def failStatus (x : Nat × Bool × MemberInfo) : Nat × Bool × MemberInfo := (if [2, 3, 5, 6, 7].contains x.1 then 4 else x.1, x.2)

theorem failMember_restates (k : Nat) (s : Part) : Restates k failStatus s (failMember k s) := by
  unfold failMember
  split
  · next m hm =>
    split
    · next hused =>
      refine (setMemberState_restates k 4 3 s).congr fun y hy => ?_
      cases hm.symm.trans hy
      simp only [failStatus, MemberSt.status, hused, if_true]
    · next hunused =>
      refine (Restates.of_settles (.refl s)).congr fun y hy => ?_
      cases hm.symm.trans hy
      simp only [failStatus, MemberSt.status, hunused, Bool.false_eq_true, if_false]
  · next hm => exact .of_none hm

/-! ### Members that discovery does not find -/

theorem loseMembers_within (l : List Nat) : ∀ s : Part, WithinSettling s (l.foldl (fun st k => loseMember k st) s) := by
  induction l with
  | nil => exact fun _ => rfl
  | cons k l ih => exact fun s => (loseMember_restates k s).within.trans (ih _)

theorem loseMembers_statusAt (l : List Nat) (j : Nat) : ∀ s : Part,
    (l.foldl (fun st k => loseMember k st) s).statusAt j = if j ∈ l then (s.statusAt j).map lostStatus else s.statusAt j := by
  induction l with
  | nil => simp
  | cons k l ih =>
    intro s
    have hstep := loseMember_restates k s
    rw [List.foldl_cons, ih]
    by_cases hjk : j = k
    · subst hjk
      rw [hstep.own]
      by_cases hj : j ∈ l <;> simp [hj, Function.comp_def, lostStatus_idem]
    · rw [hstep.others j hjk]
      simp [hjk]

end Sys2Proof.Machine
end

section
/-! SUPPORT. What a member is sent when it enters or returns: fleet values, charter copies, its commands again (08: R181, R200,
R205, R206). -/

namespace Sys2Proof.Machine

/-! ### Fleet values (R181) -/

/-- A member but for its fleet values and its queue. -/
def MemberSt.unset (m : MemberSt) : MemberSt := { m with fleet := [], rateCap := 0, depthCap := 0, nextTag := 0, waiting := [] }

/-- `t` differs from `s` at most in the fleet values, the queues and the lanes. -/
structure FleetOnly (s t : Part) : Prop where
  within : t = { s with members := t.members, fabric := { s.fabric with lanes := t.fabric.lanes } }
  same : SameMembers MemberSt.unset s t

section
variable {s t u : Part}

theorem FleetOnly.refl (s : Part) : FleetOnly s s := ⟨rfl, .refl s⟩

theorem FleetOnly.trans (h : FleetOnly s t) (h' : FleetOnly t u) : FleetOnly s u :=
  ⟨calc u = _ := h'.within
    _ = _ := by rw [h.within], h.same.trans h'.same⟩

theorem FleetOnly.of_queues (h : Queues s t) : FleetOnly s t := by
  refine ⟨?_, .of_queues (fun _ => rfl) h⟩
  rw [h.only]

theorem FleetOnly.modMember {g : MemberSt → MemberSt} (hid : ∀ m, (g m).id = m.id) (hg : ∀ m, (g m).unset = m.unset) (s : Part)
    (k : Nat) : FleetOnly s (s.modMember k g) := ⟨rfl, .modMember hid hg s k⟩

theorem FleetOnly.foldl {α : Type} {op : Part → α → Part} (h : ∀ s x, FleetOnly s (op s x)) (l : List α) :
    ∀ s, FleetOnly s (l.foldl op s) := by
  induction l with
  | nil => exact FleetOnly.refl
  | cons x l ih => exact fun s => (h s x).trans (ih _)

theorem Settles.of_fleet (h : FleetOnly s t) : Settles s t := by
  refine ⟨?_, h.same.coarsen MemberSt.status⟩
  unfold WithinSettling
  rw [h.within]

end

theorem writeCache_queues (k value : Nat) (s : Part) : Queues s (writeCache k value s) := by
  unfold writeCache
  split
  · exact .refl s
  · extract_lets nq s1
    have hs1 : Queues s s1 := by
      simp only [s1]
      split
      · exact enqueueCmd_queues ..
      · exact .refl s
    exact hs1.trans (enqueueCmd_queues ..)

theorem capLink_fleetOnly (k value : Nat) (s : Part) : FleetOnly s (capLink k value s) := by
  unfold capLink
  split
  · exact .refl s
  · extract_lets s1
    have hs1 : FleetOnly s s1 := .modMember (fun _ => by rfl) (fun _ => by rfl) s k
    split
    · exact hs1
    · exact hs1.trans ⟨rfl, .of_members rfl⟩

theorem applySetting_fleetOnly (kind value k : Nat) (s : Part) : FleetOnly s (applySetting kind value k s) := by
  unfold applySetting
  split
  · exact .refl s
  · extract_lets nq
    split
    · exact .of_queues (writeCache_queues ..)
    · exact capLink_fleetOnly ..
    · exact .modMember (fun _ => by rfl) (fun _ => by rfl) s k
    · split
      · exact .refl s
      · exact .of_queues (enqueueCmd_queues ..)
    · exact .refl s

theorem beginSetting_fleetOnly (kind value k : Nat) (s : Part) : FleetOnly s (beginSetting kind value k s) :=
  (FleetOnly.modMember (fun _ => by rfl) (fun _ => by rfl) s k).trans (applySetting_fleetOnly ..)

theorem receiveCommitted_fleetOnly (k : Nat) (s : Part) : FleetOnly s (receiveCommitted k s) := by
  refine FleetOnly.foldl (fun st kind => ?_) _ s
  split
  · split
    · exact .refl st
    · exact beginSetting_fleetOnly ..
  · exact .refl st

theorem receiveCommitted_settles (k : Nat) (s : Part) : Settles s (receiveCommitted k s) := .of_fleet (receiveCommitted_fleetOnly k s)

/-! ### A member that starts anew (R200, R208) -/

/-- A member as every power-on, reset and link return leaves it. -/
def MemberSt.restarted (m : MemberSt) : MemberSt := { m with wce := 2, workDepth := m.depthLimit }

theorem memberRestarts_queues {k : Nat} {s : Part} {m : MemberSt} (hm : s.member? k = some m) :
    Queues (s.modMember k MemberSt.restarted) (memberRestarts k s) := by
  unfold memberRestarts
  split
  · next hnone => cases hnone.symm.trans hm
  · simp only []
    split
    · exact writeCache_queues ..
    · exact .refl _

theorem memberRestarts_only (k : Nat) (s : Part) : MembersOnly s (memberRestarts k s) := by
  cases hm : s.member? k with
  | none =>
    have hstays : memberRestarts k s = s := by simp [memberRestarts, hm]
    rw [hstays]
    exact .refl s
  | some m => exact (MembersOnly.modMember ..).trans (memberRestarts_queues hm).only

theorem memberRestarts_settles (k : Nat) (s : Part) : Settles s (memberRestarts k s) := by
  cases hm : s.member? k with
  | none =>
    have hstays : memberRestarts k s = s := by simp [memberRestarts, hm]
    rw [hstays]
    exact .refl s
  | some m => exact (Settles.modMember (fun _ => by rfl) (fun _ => by rfl) s k).trans (.of_queues (memberRestarts_queues hm))

/-- A member restarted is as it was, but for its cache setting, its depth and the commands that joined its queue. -/
theorem memberRestarts_member? {k : Nat} {s : Part} {m : MemberSt} (hm : s.member? k = some m) :
    ∃ y, (memberRestarts k s).member? k = some y ∧ m.restarted.QueuedTo y :=
  (memberRestarts_queues hm).of_member (by rw [Part.modMember_member? s k MemberSt.restarted (fun _ => rfl), hm, Option.map_some])

/-! ### A member that returns (R45, R53, R205, R206) -/

theorem updateCopies_settles (k : Nat) (s : Part) : Settles s (updateCopies k s) := by
  unfold updateCopies
  split
  · split
    · exact .refl s
    · extract_lets c
      split
      · exact .of_queues (sendCopyA_queues ..)
      · split
        · exact .of_queues (sendCopyB_queues ..)
        · exact .refl s
  · exact .refl s

theorem noteDomain_settles (k : Nat) (i : MemberInfo) (s : Part) : Settles s (noteDomain k i s) := by
  unfold noteDomain
  split
  · extract_lets encl
    split
    · exact .refl s
    · exact .log ..
  · exact .refl s

theorem endEscalation_settles (k : Nat) (s : Part) : Settles s (endEscalation k s) := by
  unfold endEscalation
  split
  · exact .refl s
  · split
    · exact .refl s
    · extract_lets timed others wasReset s1
      have hs1 : Settles s s1 := .modMember (fun _ => by rfl) (fun _ => by rfl) s k
      split
      · exact hs1.trans (memberRestarts_settles ..)
      · exact hs1

theorem reissueAll_settles (k : Nat) (s : Part) : Settles s (reissueAll k s) :=
  .modMember (fun _ => by rfl) (fun _ => by rfl) s k

/-- A link that is up, of a member that may be SUSPECT for having lost it. -/
def returnedStatus (x : Nat × Bool × MemberInfo) : Nat × Bool × MemberInfo :=
  if x.2.1 then x else suspectStatus (x.1, true, x.2.2)

theorem linkReturns_restates (k : Nat) (s : Part) : Restates k returnedStatus s (linkReturns k s) := by
  unfold linkReturns
  split
  · next hm => exact .of_none hm
  next m hm =>
  split
  · next hup =>
    refine (Restates.of_settles (.refl s)).congr fun y hy => ?_
    cases hm.symm.trans hy
    simp [returnedStatus, MemberSt.status, hup]
  next hdown =>
  extract_lets s1 s2
  have hs1 : Restates k (fun x => (x.1, true, x.2.2)) s s1 :=
    (Restates.modMember (fun _ => by rfl) (fun _ => by rfl) s k).settled (reissueAll_settles ..)
  have hs2 : Restates k (fun x => (x.1, true, x.2.2)) s s2 :=
    (hs1.settled (memberRestarts_settles ..)).settled (receiveCommitted_settles ..)
  refine Restates.settled ?_ (updateCopies_settles k _)
  split
  · refine (hs2.trans (suspect_restates k s2)).congr fun y hy => ?_
    cases hm.symm.trans hy
    simp [returnedStatus, MemberSt.status, hdown]
  · next hstate =>
    refine hs2.congr fun y hy => ?_
    cases hm.symm.trans hy
    have h2 : m.state ≠ 2 := fun h => hstate (.inl h)
    simp [returnedStatus, suspectStatus, MemberSt.status, hdown, h2]

end Sys2Proof.Machine
end

section
/-! SUPPORT. A device that is found: known again, new, or in conflict with another (08: R190, R191, R193, R206). -/

namespace Sys2Proof.Machine

/-! ### A member known again (R63, R193, R206) -/

/-- Where a member stands that is found again as `i`: an ABSENT one is PRESENT, a link that returns is counted. -/
def foundStatus (i : MemberInfo) (x : Nat × Bool × MemberInfo) : Nat × Bool × MemberInfo :=
  if x.1 = 0 then (1, true, i) else returnedStatus (x.1, x.2.1, i)

/-- Where a member known again stands: one whose capacity or format changed fails. -/
def knownStatus (i : MemberInfo) (x : Nat × Bool × MemberInfo) : Nat × Bool × MemberInfo :=
  if i.capacity != x.2.2.capacity || i.format != x.2.2.format then failStatus (foundStatus i x) else foundStatus i x

theorem knownMember_restates {k : Nat} {m : MemberSt} {s : Part} (hm : s.member? k = some m) (i : MemberInfo) :
    Restates k (knownStatus i) s (knownMember k m i s) := by
  have hown : ∀ y, s.member? k = some y → y = m := fun y hy => (Option.some.inj (hm.symm.trans hy)).symm
  unfold knownMember
  extract_lets changed s1 s2 s3 s4 s5 s6
  have hs1 : Settles s s1 := by
    simp only [s1]
    split
    · exact .modMember (fun _ => by rfl) (fun _ => by rfl) s k
    · exact .refl s
  have hs2 : Restates k (fun x => (x.1, x.2.1, i)) s s2 :=
    hs1.restated (.modMember (fun _ => by rfl) (fun _ => by rfl) s1 k)
  have hs4 : Restates k (foundStatus i) s s4 := by
    simp only [s4]
    split
    · next h0 =>
      have hs3 : Restates k (fun x => (x.1, true, i)) s s3 :=
        hs2.trans (.modMember (g := fun x => (x.1, true, x.2.2)) (fun _ => by rfl) (fun _ => by rfl) s2 k)
      refine ((hs3.settled (memberRestarts_settles ..)).trans (setMemberState_restates ..)).congr fun y hy => ?_
      simp [hown y hy, foundStatus, MemberSt.status, h0]
    · next h0 =>
      split
      · next hup =>
        refine hs2.congr fun y hy => ?_
        simp [hown y hy, foundStatus, returnedStatus, MemberSt.status, h0, hup]
      · refine (hs2.trans (linkReturns_restates k s2)).congr fun y hy => ?_
        simp [hown y hy, foundStatus, MemberSt.status, h0]
  have hs5 : Restates k (foundStatus i) s s5 := hs4.settled (endEscalation_settles ..)
  have hs6 : Restates k (knownStatus i) s s6 := by
    simp only [s6]
    split
    · next hchanged =>
      refine (hs5.trans (failMember_restates k s5)).congr fun y hy => ?_
      rw [hown y hy]
      exact (if_pos hchanged).symm
    · next hchanged =>
      refine hs5.congr fun y hy => ?_
      rw [hown y hy]
      exact (if_neg hchanged).symm
  exact ((hs6.settled (noteDomain_settles ..)).settled (updateCopies_settles ..)).settled (receiveCommitted_settles ..)

/-! ### A member not known so far (R191, R193) -/

/-- `t` differs from `s` at most in its members and its fabric. -/
def MembersAndFabric (s t : Part) : Prop := t = { s with fabric := t.fabric, members := t.members }

theorem MembersAndFabric.trans {s t u : Part} (h : MembersAndFabric s t) (h' : MembersAndFabric t u) : MembersAndFabric s u :=
  calc u = _ := h'
    _ = _ := by rw [h]

theorem MembersAndFabric.of_members {s t : Part} (h : MembersOnly s t) : MembersAndFabric s t := by
  unfold MembersAndFabric
  rw [h]

theorem MembersAndFabric.of_fleet {s t : Part} (h : FleetOnly s t) : MembersAndFabric s t := by
  unfold MembersAndFabric
  rw [h.within]

theorem WithinDiscovery.of_membersAndFabric {s t : Part} (h : MembersAndFabric s t) : WithinDiscovery s t := by
  unfold WithinDiscovery
  rw [h]

/-- The part with the device `i` as its member `k`, bound to its identity. -/
def enterMember (k : Nat) (i : MemberInfo) (s : Part) : Part :=
  recordBinding i.identity k { s with members := s.members ++ [MemberSt.fresh k i s.timeUs] }

theorem recordBinding_membersAndFabric (identity : Bytes) (k : Nat) (s : Part) : MembersAndFabric s (recordBinding identity k s) := by
  unfold recordBinding
  split <;> rfl

theorem recordBinding_members (identity : Bytes) (k : Nat) (s : Part) : (recordBinding identity k s).members = s.members := by
  unfold recordBinding
  split <;> rfl

theorem recordBinding_boundId (identity : Bytes) (k : Nat) (s : Part) : (boundId (recordBinding identity k s) identity).isSome := by
  unfold recordBinding
  split
  · assumption
  · simp [boundId, Part.modFab]

theorem enterMember_membersAndFabric (k : Nat) (i : MemberInfo) (s : Part) : MembersAndFabric s (enterMember k i s) :=
  have hadded : MembersAndFabric s { s with members := s.members ++ [MemberSt.fresh k i s.timeUs] } := rfl
  hadded.trans (recordBinding_membersAndFabric ..)

theorem enterMember_member? {k : Nat} {s : Part} (hk : s.member? k = none) (i : MemberInfo) :
    (enterMember k i s).member? k = some (MemberSt.fresh k i s.timeUs) := by
  unfold Part.member? at hk
  simp [enterMember, Part.member?, recordBinding_members, List.find?_append, hk, MemberSt.fresh]

theorem enterMember_statusAt {j k : Nat} (hj : j ≠ k) (i : MemberInfo) (s : Part) :
    (enterMember k i s).statusAt j = s.statusAt j := by
  have hne : ((MemberSt.fresh k i s.timeUs).id == j) = false := by simpa [MemberSt.fresh] using hj.symm
  simp [enterMember, Part.statusAt, Part.member?, recordBinding_members, List.find?_append, hne]

theorem enterMember_poolOfMember (k j : Nat) (i : MemberInfo) (s : Part) : (enterMember k i s).poolOfMember j = s.poolOfMember j := by
  rw [enterMember_membersAndFabric k i s]
  rfl

/-- A member that enters moves no other member. -/
theorem newMember_others (k : Nat) (i : MemberInfo) (s : Part) :
    WithinDiscovery s (newMember k i s) ∧ ∀ j, j ≠ k → (newMember k i s).statusAt j = s.statusAt j := by
  unfold newMember
  extract_lets s1 s2
  obtain ⟨hwithin, hothers⟩ : WithinDiscovery s1 s2 ∧ ∀ j, j ≠ k → s2.statusAt j = s1.statusAt j := by
    simp only [s2]
    split
    · split
      · split
        · refine ⟨rfl, fun j hj => ?_⟩
          simp only [Part.statusAt]
          rw [Part.modMember_member?_ne]
          · exact fun _ => rfl
          · exact hj
        · exact ⟨rfl, fun _ _ => rfl⟩
      · exact ⟨rfl, fun _ _ => rfl⟩
    · exact ⟨rfl, fun _ _ => rfl⟩
  have hrest : Settles s2 (receiveCommitted k (updateCopies k (noteDomain k i (memberRestarts k s2)))) :=
    (((memberRestarts_settles ..).trans (noteDomain_settles ..)).trans (updateCopies_settles ..)).trans (receiveCommitted_settles ..)
  exact ⟨((WithinDiscovery.of_membersAndFabric (enterMember_membersAndFabric k i s)).trans hwithin).trans (.of_settling hrest.within),
    fun j hj => ((hrest.same j).trans (hothers j hj)).trans (enterMember_statusAt hj i s)⟩

/-- A member of no pool the part holds draws nothing with it but its own restart and the committed values. -/
theorem newMember_outside {k : Nat} {s : Part} (hpool : s.poolOfMember k = none) (i : MemberInfo) :
    newMember k i s = receiveCommitted k (memberRestarts k (enterMember k i s)) := by
  have hentered : (enterMember k i s).poolOfMember k = none := (enterMember_poolOfMember ..).trans hpool
  have hrestarted : (memberRestarts k (enterMember k i s)).poolOfMember k = none := by
    rw [memberRestarts_only k (enterMember k i s)]
    exact hentered
  have hstands : newMember k i s = receiveCommitted k (updateCopies k (noteDomain k i (memberRestarts k (enterMember k i s)))) := by
    unfold newMember
    extract_lets s1 s2
    have hs2 : s2 = enterMember k i s := by
      simp only [s2]
      split
      · next hnamed => cases hentered.symm.trans hnamed
      · rfl
    rw [hs2]
  rw [hstands]
  simp [noteDomain, updateCopies, hrestarted]

/-- A device enters as it is found: PRESENT, its cache not yet read, its link up, its identity bound (R191, R193, R208). -/
theorem newMember_enters {k : Nat} {s : Part} (hk : s.member? k = none) (hpool : s.poolOfMember k = none) (i : MemberInfo) :
    MembersAndFabric s (newMember k i s) ∧ (boundId (newMember k i s) i.identity).isSome ∧
    ∃ y, (newMember k i s).member? k = some y ∧ y.state = 1 ∧ y.info = i ∧ y.linkUp = true ∧ y.wce = 2 ∧
      y.presentAt = s.timeUs := by
  rw [newMember_outside hpool]
  have hentered := enterMember_member? hk i
  have hrestart := memberRestarts_only k (enterMember k i s)
  have hfleet := receiveCommitted_fleetOnly k (memberRestarts k (enterMember k i s))
  refine ⟨((enterMember_membersAndFabric k i s).trans (.of_members hrestart)).trans (.of_fleet hfleet), ?_, ?_⟩
  · have hbindings : (receiveCommitted k (memberRestarts k (enterMember k i s))).fabric.bindings =
        (enterMember k i s).fabric.bindings := by
      rw [hfleet.within, hrestart]
    unfold boundId
    rw [hbindings]
    exact recordBinding_boundId ..
  · obtain ⟨x, hx, -, hqueued⟩ := memberRestarts_member? hentered
    obtain ⟨y, hy, hunset⟩ := hfleet.same.of_member hx
    have hfields : y.unset = (MemberSt.fresh k i s.timeUs).restarted.unset := by
      rw [hunset, hqueued]
      rfl
    exact ⟨y, hy, congrArg MemberSt.state hfields, congrArg MemberSt.info hfields, congrArg MemberSt.linkUp hfields,
      congrArg MemberSt.wce hfields, congrArg MemberSt.presentAt hfields⟩

end Sys2Proof.Machine
end

section
/-! SUPPORT. Discovery as a whole: the members it does not find, the enclosures it binds, the device it identifies (08: R190 to
R193). -/

namespace Sys2Proof.Machine

/-! ### Devices found (R191) -/

/-- Where a part has no other identity on the path of `i`, nothing is displaced. -/
theorem displace_eq_self {i : MemberInfo} {s : Part} (h : ∀ m ∈ s.members, m.info.path = i.path → m.info.identity = i.identity) :
    displace i s = s := by
  have hnone : s.members.filter (fun m => m.info.path == i.path && decide (m.info.identity ≠ i.identity)) = [] := by
    simpa [List.filter_eq_nil_iff] using h
  unfold displace
  rw [hnone]
  rfl

theorem displace_within (i : MemberInfo) (s : Part) : WithinSettling s (displace i s) := loseMembers_within _ s

/-- A member on whose path another identity is found is lost. -/
theorem displace_statusAt {i : MemberInfo} {s : Part} {j : Nat} {m : MemberSt} (hm : s.member? j = some m) (hpath : m.info.path = i.path)
    (hother : m.info.identity ≠ i.identity) : (displace i s).statusAt j = some (lostStatus m.status) := by
  have hmem : m ∈ s.members := List.mem_of_find?_eq_some hm
  have hid : m.id = j := by simpa using List.find?_some hm
  have hlisted : j ∈ (s.members.filter (fun m => m.info.path == i.path && decide (m.info.identity ≠ i.identity))).map (·.id) :=
    List.mem_map.mpr ⟨m, List.mem_filter.mpr ⟨hmem, by simp [hpath, hother]⟩, hid⟩
  rw [displace, loseMembers_statusAt, if_pos hlisted, Part.statusAt, hm]
  rfl

/-- A free id is no member's. -/
theorem freeId_member? {s : Part} {k : Nat} (h : freeId s = some k) : s.member? k = none := by
  have hfree := List.find?_some h
  simp only [idTaken, Bool.not_eq_true', Bool.or_eq_false_iff, Option.isSome_eq_false_iff, Option.isNone_iff_eq_none] at hfree
  obtain ⟨⟨-, hnone⟩, -⟩ := hfree
  exact hnone

/-- The part with one more device beyond its limit (R190). -/
def countBeyond (s : Part) : Part := noted 12 190 0 (leBytes 4 1) (s.modFab (fun f => { f with discoverOver := f.discoverOver + 1 }))

/-- The device is identified once what it displaces is gone (R191). -/
def identify (i : MemberInfo) (s : Part) : Part :=
  match memberIdFor s i with
  | none => countBeyond s
  | some k =>
    match s.member? k with
    | none => if boundElsewhere s k i then conflicting i s else newMember k i s
    | some m => if m.info.identity = i.identity then knownMember k m i s else conflicting i s

theorem memberPresentEff_eq (i : MemberInfo) (s : Part) : memberPresentEff i s = identify i (displace i s) := rfl

/-- A device held back as conflicting moves no member the part had. -/
theorem conflicting_others (i : MemberInfo) (s : Part) :
    WithinDiscovery s (conflicting i s) ∧ ∀ j x, s.statusAt j = some x → (conflicting i s).statusAt j = some x := by
  unfold conflicting
  split
  · next k hk =>
    extract_lets s1
    obtain ⟨hwithin, hothers⟩ := newMember_others k i s
    have hheld : Restates k (fun y => (0xFE, y.2)) s1 (s1.modMember k (fun y => { y with state := 0xFE })) :=
      .modMember (fun _ => by rfl) (fun _ => by rfl) s1 k
    refine ⟨hwithin.trans (.of_settling hheld.within), fun j x hj => ?_⟩
    have hjk : j ≠ k := fun h => by
      rw [h, Part.statusAt, freeId_member? hk] at hj
      cases hj
    rw [hheld.others j hjk, hothers j hjk, hj]
  · exact ⟨rfl, fun _ _ h => h⟩

/-- The identification of a device moves no member that is another. -/
theorem identify_others (i : MemberInfo) (s : Part) : WithinDiscovery s (identify i s) ∧
    ∀ j x, s.statusAt j = some x → x.2.2.identity ≠ i.identity → (identify i s).statusAt j = some x := by
  obtain ⟨hconflictWithin, hconflict⟩ := conflicting_others i s
  unfold identify
  split
  · refine ⟨(WithinDiscovery.modFab ..).trans (.of_recorded (noted_recorded ..)), fun j x hj _ => ?_⟩
    have hkept : SameMembers MemberSt.status s (countBeyond s) := .of_members (by simp [countBeyond])
    exact (hkept j).trans hj
  next k _ =>
  split
  · next hk =>
    split
    · exact ⟨hconflictWithin, fun j x hj _ => hconflict j x hj⟩
    · obtain ⟨hwithin, hothers⟩ := newMember_others k i s
      refine ⟨hwithin, fun j x hj _ => ?_⟩
      have hjk : j ≠ k := fun h => by
        rw [h, Part.statusAt, hk] at hj
        cases hj
      rw [hothers j hjk, hj]
  · next m hm =>
    split
    · next hsame =>
      have hknown := knownMember_restates hm i
      refine ⟨.of_settling hknown.within, fun j x hj hother => ?_⟩
      have hjk : j ≠ k := fun h => by
        rw [h, Part.statusAt, hm] at hj
        cases hj
        exact hother hsame
      rw [hknown.others j hjk, hj]
    · exact ⟨hconflictWithin, fun j x hj _ => hconflict j x hj⟩

/-! ### Enclosures (R192) -/

theorem bindEncl_fabric (e : Nat) (s : Part) :
    bindEncl s e = { s with fabric := { s.fabric with encls := (bindEncl s e).fabric.encls } } := by
  unfold bindEncl
  split <;> rfl

theorem bindEncl_keeps {s : Part} {x : Nat × Nat} (h : x ∈ s.fabric.encls) (e : Nat) : x ∈ (bindEncl s e).fabric.encls := by
  unfold bindEncl
  split
  · exact h
  · simp [Part.modFab, h]

theorem bindEncl_binds (e : Nat) (s : Part) : ∃ j, (j, e) ∈ (bindEncl s e).fabric.encls := by
  unfold bindEncl
  split
  · next hbound =>
    obtain ⟨⟨j, x⟩, hmem, hx⟩ := List.any_eq_true.mp hbound
    obtain rfl : x = e := by simpa using hx
    exact ⟨j, hmem⟩
  · exact ⟨freeEncl s, by simp [Part.modFab]⟩

theorem bindEncls_fabric (l : List Nat) : ∀ s : Part,
    l.foldl bindEncl s = { s with fabric := { s.fabric with encls := (l.foldl bindEncl s).fabric.encls } } := by
  induction l with
  | nil => exact fun _ => rfl
  | cons e l ih =>
    intro s
    rw [List.foldl_cons]
    calc _ = _ := ih (bindEncl s e)
      _ = _ := by rw [bindEncl_fabric e s]

theorem bindEncls_counts (l : List Nat) (s : Part) : (l.foldl bindEncl s).fabric.discoveries = s.fabric.discoveries ∧
    (l.foldl bindEncl s).fabric.discoverOver = s.fabric.discoverOver := by
  rw [bindEncls_fabric]
  exact ⟨rfl, rfl⟩

theorem bindEncls_keeps (l : List Nat) {x : Nat × Nat} :
    ∀ {s : Part}, x ∈ s.fabric.encls → x ∈ (l.foldl bindEncl s).fabric.encls := by
  induction l with
  | nil => exact fun h => h
  | cons e l ih => exact fun h => ih (bindEncl_keeps h e)

/-- Every logical identifier a discovery reports is bound. -/
theorem bindEncls_binds {e : Nat} (l : List Nat) (he : e ∈ l) : ∀ s : Part, ∃ j, (j, e) ∈ (l.foldl bindEncl s).fabric.encls := by
  induction l with
  | nil => cases he
  | cons x l ih =>
    intro s
    rcases List.mem_cons.mp he with rfl | he
    · obtain ⟨j, hj⟩ := bindEncl_binds e s
      exact ⟨j, bindEncls_keeps l hj⟩
    · exact ih he _

/-! ### A discovery (R190) -/

/-- Members in use that a discovery did not find are lost. -/
def loseUnfound (r : DiscoveryReport) (s : Part) : Part :=
  ((s.members.filter (fun m => !r.found.contains m.id)).map (·.id)).foldl (fun st k => loseMember k st) s

/-- The counts that a discovery leaves. -/
def countFound (r : DiscoveryReport) (s : Part) : Part :=
  s.modFab (fun f => { f with discoveries := f.discoveries + 1, membersFound := r.found.length, discoverOver := f.discoverOver + r.beyond })

theorem discovery_recorded (r : DiscoveryReport) (s : Part) :
    Recorded (countFound r (r.enclosures.foldl bindEncl (loseUnfound r s))) (discovery r s) := by
  unfold discovery loseUnfound
  rw [List.foldl_map]
  extract_lets s1 s2 s3
  split
  · rfl
  · exact noted_recorded ..

theorem loseUnfound_statusAt {r : DiscoveryReport} {s : Part} {j : Nat} {m : MemberSt} (hm : s.member? j = some m)
    (hj : j ∉ r.found) :
    (loseUnfound r s).statusAt j = some (lostStatus m.status) := by
  have hmem : m ∈ s.members := List.mem_of_find?_eq_some hm
  have hid : m.id = j := by simpa using List.find?_some hm
  have hlisted : j ∈ (s.members.filter (fun m => !r.found.contains m.id)).map (·.id) :=
    List.mem_map.mpr ⟨m, List.mem_filter.mpr ⟨hmem, by simp [hid, hj]⟩, hid⟩
  rw [loseUnfound, loseMembers_statusAt, if_pos hlisted, Part.statusAt, hm]
  rfl

theorem discovery_within (r : DiscoveryReport) (s : Part) : WithinDiscovery s (discovery r s) := by
  have hbound : WithinDiscovery (loseUnfound r s) (r.enclosures.foldl bindEncl (loseUnfound r s)) := by
    unfold WithinDiscovery
    rw [bindEncls_fabric]
  have hcounted := hbound.trans (.modFab _ (fun f => { f with
    discoveries := f.discoveries + 1, membersFound := r.found.length, discoverOver := f.discoverOver + r.beyond }))
  exact ((WithinDiscovery.of_settling (loseMembers_within _ s)).trans hcounted).trans (.of_recorded (discovery_recorded r s))

theorem discovery_fabric (r : DiscoveryReport) (s : Part) :
    (discovery r s).fabric = (countFound r (r.enclosures.foldl bindEncl (loseUnfound r s))).fabric := by
  rw [discovery_recorded r s]

theorem discovery_counts (r : DiscoveryReport) (s : Part) : (discovery r s).fabric.membersFound = r.found.length ∧
    (discovery r s).fabric.discoveries = s.fabric.discoveries + 1 ∧
    (discovery r s).fabric.discoverOver = s.fabric.discoverOver + r.beyond := by
  have hlost : WithinSettling s (loseUnfound r s) := loseMembers_within _ s
  obtain ⟨hruns, hover⟩ := bindEncls_counts r.enclosures (loseUnfound r s)
  have hruns' : (loseUnfound r s).fabric.discoveries = s.fabric.discoveries := by rw [hlost.fabric]
  have hover' : (loseUnfound r s).fabric.discoverOver = s.fabric.discoverOver := by rw [hlost.fabric]
  rw [discovery_fabric]
  exact ⟨rfl, congrArg (· + 1) (hruns.trans hruns'), congrArg (· + r.beyond) (hover.trans hover')⟩

theorem discovery_binds {r : DiscoveryReport} {e : Nat} (he : e ∈ r.enclosures) (s : Part) :
    ∃ j, (j, e) ∈ (discovery r s).fabric.encls := by
  rw [discovery_fabric]
  exact bindEncls_binds r.enclosures he (loseUnfound r s)

theorem discovery_loses {r : DiscoveryReport} {s : Part} {j : Nat} {m : MemberSt} (hm : s.member? j = some m) (hj : j ∉ r.found)
    (hused : m.state ∈ [1, 2, 3, 5, 6, 7]) : ∃ y, (discovery r s).member? j = some y ∧ y.state = 0 ∧ y.linkUp = false := by
  have hmembers : (discovery r s).members = (loseUnfound r s).members := by
    rw [discovery_recorded r s]
    simp only [countFound, Part.modFab]
    rw [bindEncls_fabric]
  have hstatus : (discovery r s).statusAt j = some (lostStatus m.status) := by
    rw [← loseUnfound_statusAt hm hj]
    simp only [Part.statusAt, Part.member?, hmembers]
  obtain ⟨y, hy, hlost⟩ := Option.map_eq_some_iff.mp hstatus
  have hcontains : [1, 2, 3, 5, 6, 7].contains m.state = true := by simpa using hused
  refine ⟨y, hy, ?_, ?_⟩
  · have hstate := congrArg Prod.fst hlost
    simpa only [lostStatus, MemberSt.status, hcontains, if_true] using hstate
  · exact congrArg (fun x => x.2.1) hlost

end Sys2Proof.Machine
end

section
/-! SUPPORT. The commands of discovery: what is identified, renumbered and reformatted, and what is refused (O33). -/

namespace Sys2Proof.Machine

/-! ### A discovery ordered or started (R190) -/

theorem discoverNowEff_allowed {q : Req} {s : Part} (h : Allowed s q roleOperator none) (r : DiscoveryReport) :
    discoverNowEff q r s = ok q (discovery r s) := checked_allowed h _

theorem WithinDiscovery.ok (q : Req) (s : Part) : WithinDiscovery s (ok q s) := by
  unfold WithinDiscovery
  rw [ok_only]

/-! ### A device found where no other identity was (R191) -/

section
variable {i : MemberInfo} {s : Part} {k : Nat}

/-- With no id free the device is counted. -/
theorem identify_uncounted (h : memberIdFor s i = none) :
    (identify i s).fabric = { s.fabric with discoverOver := s.fabric.discoverOver + 1 } ∧
    identify i s = { s with fabric := (identify i s).fabric, tow := (identify i s).tow, dict := (identify i s).dict
                            log := (identify i s).log, out := (identify i s).out } := by
  have hcounted : identify i s = countBeyond s := by simp [identify, h]
  rw [hcounted]
  have hnoted : Recorded (s.modFab (fun f => { f with discoverOver := f.discoverOver + 1 })) (countBeyond s) := noted_recorded ..
  refine ⟨by rw [hnoted]; rfl, ?_⟩
  rw [hnoted]
  rfl

theorem identify_new (h : memberIdFor s i = some k) (hk : s.member? k = none) (hfree : boundElsewhere s k i = false) :
    identify i s = newMember k i s := by
  simp [identify, h, hk, hfree]

theorem identify_bound (h : memberIdFor s i = some k) (hk : s.member? k = none) (hbound : boundElsewhere s k i = true) :
    identify i s = conflicting i s := by
  simp [identify, h, hk, hbound]

theorem identify_known {m : MemberSt} (h : memberIdFor s i = some k) (hm : s.member? k = some m) (hsame : m.info.identity = i.identity) :
    identify i s = knownMember k m i s := by
  simp [identify, h, hm, hsame]

/-- A device whose label's id is another's is held back under a free id (R191). -/
theorem conflicting_enters (h : freeId s = some k) (hpool : s.poolOfMember k = none) :
    (∃ y, (conflicting i s).member? k = some y ∧ y.state = 0xFE ∧ y.info = i) ∧ MembersAndFabric s (conflicting i s) := by
  obtain ⟨hframe, -, y, hy, -, hinfo, -⟩ := newMember_enters (freeId_member? h) hpool i
  unfold conflicting
  rw [h]
  simp only []
  refine ⟨⟨{ y with state := 0xFE }, ?_, rfl, hinfo⟩, ?_⟩
  · rw [Part.modMember_member?, hy]
    · rfl
    · exact fun _ => rfl
  · exact hframe.trans (.of_members (MembersOnly.modMember ..))

/-- A member found again: it bears what was found, is PRESENT where it was ABSENT, fails where its capacity or format changed. -/
theorem knownMember_stands {m : MemberSt} (hm : s.member? k = some m) (i : MemberInfo) :
    ∃ y, (knownMember k m i s).member? k = some y ∧ y.info = i ∧ (m.state = 0 → y.state = 1 ∧ y.linkUp = true) ∧
      (m.state = 2 → (i.capacity ≠ m.info.capacity ∨ i.format ≠ m.info.format) → y.state = 4) ∧
      (m.state = 2 → m.linkUp = true → i.capacity = m.info.capacity → i.format = m.info.format → y.state = 2) := by
  obtain ⟨y, hy, hstatus⟩ := (knownMember_restates hm i).of_member hm
  have hstate : y.state = (knownStatus i m.status).1 := congrArg Prod.fst hstatus
  have hlink : y.linkUp = (knownStatus i m.status).2.1 := congrArg (fun x => x.2.1) hstatus
  have hinfo : y.info = (knownStatus i m.status).2.2 := congrArg (fun x => x.2.2) hstatus
  have hfound : (foundStatus i m.status).2.2 = i := by
    unfold foundStatus returnedStatus suspectStatus
    split
    · rfl
    · split <;> rfl
  refine ⟨y, hy, ?_, fun h0 => ?_, fun h2 hchanged => ?_, fun h2 hup hcap hfmt => ?_⟩
  · rw [hinfo, knownStatus]
    split <;> exact hfound
  · have hpresent : foundStatus i m.status = (1, true, i) := if_pos h0
    rw [hstate, hlink, knownStatus, hpresent]
    split <;> exact ⟨rfl, rfl⟩
  · have hbad : (i.capacity != m.info.capacity || i.format != m.info.format) = true := by simpa using hchanged
    have hused : [2, 3, 5, 6, 7].contains (foundStatus i m.status).1 = true := by
      cases hup : m.linkUp <;> simp [foundStatus, returnedStatus, suspectStatus, MemberSt.status, h2, hup]
    rw [hstate]
    simp only [knownStatus, MemberSt.status] at hused ⊢
    simp only [hbad, if_true, failStatus, hused]
  · rw [hstate]
    simp [knownStatus, foundStatus, returnedStatus, MemberSt.status, h2, hup, hcap, hfmt]

end

/-! ### Another identity on a member's path (R191) -/

theorem memberPresentEff_displaces {i : MemberInfo} {s : Part} {j : Nat} {m : MemberSt} (hm : s.member? j = some m)
    (hpath : m.info.path = i.path) (hother : m.info.identity ≠ i.identity) (hused : m.state ∈ [1, 2, 3, 5, 6, 7]) :
    (∃ y, (memberPresentEff i s).member? j = some y ∧ y.state = 0) ∧ WithinDiscovery s (memberPresentEff i s) := by
  rw [memberPresentEff_eq]
  obtain ⟨hwithin, hkept⟩ := identify_others i (displace i s)
  have hstatus := hkept j _ (displace_statusAt hm hpath hother) hother
  obtain ⟨y, hy, hlost⟩ := Option.map_eq_some_iff.mp hstatus
  have hcontains : [1, 2, 3, 5, 6, 7].contains m.state = true := by simpa using hused
  refine ⟨⟨y, hy, ?_⟩, (WithinDiscovery.of_settling (displace_within i s)).trans hwithin⟩
  have hstate := congrArg Prod.fst hlost
  simpa only [lostStatus, MemberSt.status, hcontains, if_true] using hstate

/-! ### Enclosure numbers (R192) -/

/-- The enclosure binding a session has selected. -/
def Part.enclSelected (s : Part) (q : Req) : Nat := ((s.sess? q.session).map (·.enclSel)).getD 0

/-- The enclosure `old` is `new` from here on, in its binding and for the members found in it. -/
def renumberEncl (old new : Nat) (s : Part) : Part :=
  let s := s.modFab (fun f => { f with encls := f.encls.map (fun e => if e.1 = old then (new, e.2) else e) })
  { s with members := s.members.map (fun m =>
      if m.info.enclFound = old then { m with info := { m.info with enclFound := new } } else m) }

section
variable {q : Req} {s : Part} {new : Nat}

theorem enclNumberEff_refused (h : Allowed s q roleCustodian none)
    (hbad : (∀ e ∈ s.fabric.encls, e.1 ≠ s.enclSelected q) ∨ (∃ e ∈ s.fabric.encls, e.1 = new) ∨
      enclDeclared s (s.enclSelected q) = true) :
    enclNumberEff q new s = refuseRule q 192 0 s := by
  have hcond : (!s.fabric.encls.any (fun e => e.1 == s.enclSelected q) || s.fabric.encls.any (fun e => e.1 == new) ||
      enclDeclared s (s.enclSelected q)) = true := by
    rcases hbad with hunbound | hbound | hdeclared
    · have hnone : s.fabric.encls.any (fun e => e.1 == s.enclSelected q) = false := by simpa using hunbound
      rw [hnone]
      rfl
    · obtain ⟨e, he, heq⟩ := hbound
      have hsome : s.fabric.encls.any (fun e => e.1 == new) = true := List.any_eq_true.mpr ⟨e, he, by simpa using heq⟩
      rw [hsome, Bool.or_true, Bool.true_or]
    · rw [hdeclared, Bool.or_true]
  unfold enclNumberEff
  rw [checked_allowed h]
  simp only [Part.enclSelected] at hcond
  simp only [hcond, if_true, keepWritten_refuseRule]

theorem enclNumberEff_renumbers (h : Allowed s q roleCustodian none) {logical : Nat}
    (hbound : (s.enclSelected q, logical) ∈ s.fabric.encls) (hfree : ∀ e ∈ s.fabric.encls, e.1 ≠ new)
    (hdeclared : enclDeclared s (s.enclSelected q) = false) :
    enclNumberEff q new s = keepWritten 0x2108 3 new (ok q (renumberEncl (s.enclSelected q) new s)) := by
  have hcond : (!s.fabric.encls.any (fun e => e.1 == s.enclSelected q) || s.fabric.encls.any (fun e => e.1 == new) ||
      enclDeclared s (s.enclSelected q)) = false := by
    rw [List.any_eq_true.mpr ⟨_, hbound, by simp⟩, List.any_eq_false.mpr (fun e he => by simpa using hfree e he), hdeclared]
    rfl
  unfold enclNumberEff
  rw [checked_allowed h]
  simp only [Part.enclSelected] at hcond ⊢
  simp only [hcond, Bool.false_eq_true, if_false]
  rfl

theorem renumberEncl_binds {old logical : Nat} (h : (old, logical) ∈ s.fabric.encls) :
    (new, logical) ∈ (renumberEncl old new s).fabric.encls :=
  List.mem_map.mpr ⟨_, h, if_pos rfl⟩

theorem renumberEncl_keeps {old : Nat} {e : Nat × Nat} (h : e ∈ s.fabric.encls) (hne : e.1 ≠ old) :
    e ∈ (renumberEncl old new s).fabric.encls :=
  List.mem_map.mpr ⟨e, h, if_neg hne⟩

theorem renumberEncl_leaves {old : Nat} (hne : new ≠ old) : ∀ m ∈ (renumberEncl old new s).members, m.info.enclFound ≠ old := by
  intro m hm
  obtain ⟨x, -, rfl⟩ := List.mem_map.mp hm
  split
  · exact hne
  · assumption

end

/-! ### Reformatting (R195) -/

/-- A member as its reformatting to format `fmt` leaves it, before it starts anew. -/
def MemberSt.reformatted (fmt : Nat) (m : MemberSt) : MemberSt :=
  { m with info := { m.info with format := fmt, capacity := Config.reformatCapacity m.info.identity fmt }
           label := .absent, charterA := none, charterB := none, media := [], ckpts := [], exts := [], lostSlots := []
           logExport := none, fleet := [], waiting := [], outstanding := [] }

section
variable {q : Req} {s : Part} {k fmt : Nat} {m : MemberSt}

theorem memberReformatEff_refused (h : Allowed s q roleCustodian none) (hm : s.member? k = some m)
    (hbad : unlabelled m = false ∨ s.memberNamed k = true ∨ formatOf m.info.protocol fmt = false ∨
      m.info.reformats = false ∨ m.linkUp = false) :
    memberReformatEff q k fmt s = refuseRule q 195 0 s := by
  have hcond : !unlabelled m || s.memberNamed k || !formatOf m.info.protocol fmt || !m.info.reformats || !m.linkUp || m.state = 0 := by
    rcases hbad with h | h | h | h | h <;> simp [h]
  unfold memberReformatEff
  rw [checked_allowed h]
  simp only [hm, hcond, if_true, keepWritten_refuseRule]

theorem memberReformatEff_reformats (h : Allowed s q roleCustodian none) (hm : s.member? k = some m) (hlabel : unlabelled m = true)
    (hnamed : s.memberNamed k = false) (hformat : formatOf m.info.protocol fmt = true) (hable : m.info.reformats = true)
    (hup : m.linkUp = true) (hstate : m.state ≠ 0) : memberReformatEff q k fmt s =
      keepWritten (0x6000 + k) 0x0D fmt (ok q (memberRestarts k (s.modMember k (MemberSt.reformatted fmt)))) := by
  unfold memberReformatEff
  rw [checked_allowed h]
  simp only [hm, hlabel, hnamed, hformat, hable, hup, hstate, Bool.not_true, Bool.or_false, decide_false, Bool.false_eq_true, if_false]
  rfl

/-- A reformatted member holds nothing of what it held; its cache is not known again. -/
theorem reformatted_restarts (hm : s.member? k = some m) :
    ∃ y, (memberRestarts k (s.modMember k (MemberSt.reformatted fmt))).member? k = some y ∧
    y.bare = (m.reformatted fmt).restarted.bare := by
  have hnew : (s.modMember k (MemberSt.reformatted fmt)).member? k = some (m.reformatted fmt) := by
    rw [Part.modMember_member? s k (MemberSt.reformatted fmt) (fun _ => rfl), hm, Option.map_some]
  obtain ⟨y, hy, -, hqueued⟩ := memberRestarts_member? hnew
  refine ⟨y, hy, ?_⟩
  rw [hqueued]
  rfl

end

/-! ### The statement, clause by clause -/

/-- What a discovery comes to. -/
theorem discovery_finds (r : DiscoveryReport) (s : Part) : (discovery r s).fabric.membersFound = r.found.length ∧
    (discovery r s).fabric.discoveries = s.fabric.discoveries + 1 ∧
    (discovery r s).fabric.discoverOver = s.fabric.discoverOver + r.beyond ∧
    (∀ e ∈ r.enclosures, ∃ j, (j, e) ∈ (discovery r s).fabric.encls) ∧
    ∀ j m, s.member? j = some m → j ∉ r.found → m.state ∈ [1, 2, 3, 5, 6, 7] →
      ∃ y, (discovery r s).member? j = some y ∧ y.state = 0 ∧ y.linkUp = false :=
  have ⟨hfound, hruns, hover⟩ := discovery_counts r s
  ⟨hfound, hruns, hover, fun _ he => discovery_binds he s, fun _ _ hm hj hused => discovery_loses hm hj hused⟩

theorem runs_memberPresent {i : MemberInfo} {s : State} {P : Part → Prop} (h : P (identify i (displace i s.part))) :
    Runs (.memberPresent i) s P := runs_onPart (g := memberPresentEff i) rfl (by rwa [memberPresentEff_eq])

theorem enclNumber_refused {q : Req} {s : State} {n : Nat} (h : Allowed s.part q roleCustodian none)
    (hbad : (∀ e ∈ s.part.fabric.encls, e.1 ≠ s.part.enclSelected q) ∨ (∃ e ∈ s.part.fabric.encls, e.1 = n) ∨
      enclDeclared s.part (s.part.enclSelected q) = true) : Refused (.enclNumber q n) s stRule (ruleDetail 192 0) := by
  refine runs_onPart (g := enclNumberEff q n) rfl ?_
  rw [enclNumberEff_refused h hbad]
  exact ⟨refuseRule_answers .., refuseRule_only ..⟩

theorem enclNumber_renumbers {q : Req} {s : State} {n logical : Nat} (h : Allowed s.part q roleCustodian none)
    (hbound : (s.part.enclSelected q, logical) ∈ s.part.fabric.encls) (hfree : ∀ e ∈ s.part.fabric.encls, e.1 ≠ n)
    (hdeclared : enclDeclared s.part (s.part.enclSelected q) = false) :
    Runs (.enclNumber q n) s (fun t => t.answer = some stOk ∧ (n, logical) ∈ t.fabric.encls ∧
      (∀ e ∈ s.part.fabric.encls, e.1 ≠ s.part.enclSelected q → e ∈ t.fabric.encls) ∧
      (∀ m ∈ t.members, m.info.enclFound ≠ s.part.enclSelected q) ∧
      t = { s.part with fn0 := t.fn0, fn1 := t.fn1, members := t.members, fabric := t.fabric, dict := t.dict, out := t.out }) := by
  have hne : n ≠ s.part.enclSelected q := fun e => hfree _ hbound e.symm
  refine runs_onPart (g := enclNumberEff q n) rfl ?_
  rw [enclNumberEff_renumbers h hbound hfree hdeclared]
  refine ⟨by simp [Part.answer], by simpa using renumberEncl_binds hbound, fun e he hold => by simpa using renumberEncl_keeps he hold,
    by simpa using renumberEncl_leaves hne, ?_⟩
  rw [keepWritten_only, ok_only]
  rfl

theorem memberReformat_refused {q : Req} {s : State} {k : MemberId} {n : Nat} {m : MemberSt} (h : Allowed s.part q roleCustodian none)
    (hm : s.part.member? k.val = some m) (hbad : unlabelled m = false ∨ s.part.memberNamed k.val = true ∨
      formatOf m.info.protocol n = false ∨ m.info.reformats = false ∨ m.linkUp = false) :
    Refused (.memberReformat q k n) s stRule (ruleDetail 195 0) := by
  refine runs_onPart (g := memberReformatEff q k.val n) rfl ?_
  rw [memberReformatEff_refused h hm hbad]
  exact ⟨refuseRule_answers .., refuseRule_only ..⟩

theorem memberReformat_reformats {q : Req} {s : State} {k : MemberId} {n : Nat} {m : MemberSt} (h : Allowed s.part q roleCustodian none)
    (hm : s.part.member? k.val = some m) (hlabel : unlabelled m = true) (hnamed : s.part.memberNamed k.val = false)
    (hformat : formatOf m.info.protocol n = true) (hable : m.info.reformats = true) (hup : m.linkUp = true) (hstate : m.state ≠ 0) :
    Runs (.memberReformat q k n) s (fun t => t.answer = some stOk ∧ (∃ y, t.member? k.val = some y ∧ y.info.format = n ∧
      y.info.capacity = Config.reformatCapacity m.info.identity n ∧ y.label = .absent ∧ y.charterA = none ∧ y.charterB = none ∧
      y.media = [] ∧ y.ckpts = [] ∧ y.exts = [] ∧ y.lostSlots = [] ∧ y.fleet = [] ∧ y.outstanding = [] ∧ y.wce = 2) ∧
      t = { s.part with fn0 := t.fn0, fn1 := t.fn1, members := t.members, dict := t.dict, out := t.out }) := by
  refine runs_onPart (g := memberReformatEff q k.val n) rfl ?_
  rw [memberReformatEff_reformats h hm hlabel hnamed hformat hable hup hstate]
  obtain ⟨y, hy, hbare⟩ := reformatted_restarts (fmt := n) hm
  have hinfo := congrArg MemberSt.info hbare
  refine ⟨by simp [Part.answer], ⟨y, by simpa using hy, congrArg MemberInfo.format hinfo, congrArg MemberInfo.capacity hinfo,
    congrArg MemberSt.label hbare, congrArg MemberSt.charterA hbare, congrArg MemberSt.charterB hbare, congrArg MemberSt.media hbare,
    congrArg MemberSt.ckpts hbare, congrArg MemberSt.exts hbare, congrArg MemberSt.lostSlots hbare, congrArg MemberSt.fleet hbare,
    congrArg MemberSt.outstanding hbare, congrArg MemberSt.wce hbare⟩, ?_⟩
  rw [keepWritten_only, ok_only, memberRestarts_only]
  rfl

/-- Settles O33: a discovery restates where members stand, and each device found moves none but its own member. -/
theorem devicesAreDiscovered : Obligations.DevicesAreDiscovered := by
  unfold Obligations.DevicesAreDiscovered
  intro q r i k n s
  refine ⟨?_, ?_, ?_, ?_, ?_⟩
  · rintro P rfl
    have hfinds := discovery_finds r s.part
    have hwithin := discovery_within r s.part
    refine ⟨runs_onPart (g := discovery r) rfl ⟨hfinds, hwithin⟩, fun h => runs_onPart (g := discoverNowEff q r) rfl ?_⟩
    rw [discoverNowEff_allowed h]
    exact ⟨by simp [Part.answer], by simpa [Part.member?] using hfinds, hwithin.trans (.ok ..)⟩
  · intro hpath
    have hstays := displace_eq_self hpath
    refine ⟨fun hid => runs_memberPresent ?_, fun j hid hj hpool hfree => runs_memberPresent ?_,
      fun j k2 hid hj hbound hfree hpool => runs_memberPresent ?_, fun j m hid hm hsame => runs_memberPresent ?_⟩
    · rw [hstays]
      exact identify_uncounted hid
    · rw [hstays, identify_new hid hj hfree]
      obtain ⟨hframe, hbound, henters⟩ := newMember_enters hj hpool i
      exact ⟨henters, hbound, hframe⟩
    · rw [hstays, identify_bound hid hj hbound]
      exact conflicting_enters hfree hpool
    · rw [hstays, identify_known hid hm hsame]
      obtain ⟨y, hy, hinfo, hback, hfails, hstands⟩ := knownMember_stands hm i
      exact ⟨y, hy, hinfo, hback, hfails, fun h2 hup hcap hfmt _ => hstands h2 hup hcap hfmt,
        WithinDiscovery.of_settling (knownMember_restates hm i).within⟩
  · intro j m hm hpath hother hused
    exact runs_onPart (g := memberPresentEff i) rfl (memberPresentEff_displaces hm hpath hother hused)
  · rintro _ h rfl
    exact ⟨enclNumber_refused h, fun _ => enclNumber_renumbers h⟩
  · intro m h hm
    exact ⟨memberReformat_refused h hm, memberReformat_reformats h hm⟩

end Sys2Proof.Machine
end

section
/-! SUPPORT. Why the staging locks need one entry to a scope (15: R352, R367): the counterexample to
`CredentialsLocksAndImagesAreKept`. -/

namespace Sys2Proof.Machine

/-- A Custodian's session on CAN, its request in hand numbered 0xFFFF: the answer ends it (R352). -/
def lastRequest : SessSt where
  id := 1
  transport := .can0
  node := 0
  role := roleCustodian
  isOpen := true
  noAuth := true
  kMac := []
  kKt := []
  ctx := []
  nextSeq := 1
  devSeq := 1
  lastResp := none
  inHand := some (0x11, { rsvd := 0, status := 0, seq := 0xFFFF, session := 1, index := 0x1300, sub := 3, len := 0, offset := 0,
                          total := 0, last := true, twin := false, data := [], mac := [] })
  pageSel := 0
  enclSel := 0
  lostFrom := []
  partBlob := none
  snapshot := none

def lastRequester : Req := { transport := .can0, node := 0, session := 1 }

/-- A part whose table of locks lists one scope twice: first under that session, then under session 2. -/
def twiceLocked : State :=
  State.reset.onPart (fun s => s.modDict (fun d => { d with sessions := [lastRequest], locks := [((0, 1), 1), ((0, 1), 2)] }))

theorem lastRequester_allowed : Allowed twiceLocked.part lastRequester roleCustodian none := by
  refine ⟨lastRequest, rfl, Nat.le_refl _, fun sc hsc => ?_⟩
  cases hsc

/-- The answer to STAGE_BREAK of another scope ends the session, and with its lock gone the second entry shows. -/
theorem stageBreakEff_uncovers :
    twiceLocked.part.lockHolder (0, 1) = some 1 ∧
    (stageBreakEff lastRequester 0x01000000#32 twiceLocked.part).lockHolder (0, 1) = some 2 := by
  decide

/-- Refutes O57: where the table of locks lists a scope twice, breaking another scope's lock in a request numbered 0xFFFF ends
the session that holds the first entry, and the scope's holder becomes the session of the second. -/
theorem not_credentialsLocksAndImagesAreKept : ¬ Obligations.CredentialsLocksAndImagesAreKept := by
  unfold Obligations.CredentialsLocksAndImagesAreKept
  intro h
  obtain ⟨hcustodian, -⟩ := h lastRequester 0 [] [] 0x01000000#32 0 .f0 false twiceLocked _ rfl
  obtain ⟨-, -, -, -, hbreaks, -⟩ := hcustodian lastRequester_allowed
  obtain ⟨t, ht, -, -, hothers, -⟩ := hbreaks (by decide)
  obtain ⟨hbefore, hafter⟩ := stageBreakEff_uncovers
  obtain rfl : t = stageBreakEff lastRequester 0x01000000#32 twiceLocked.part := by
    injection ht with ht
    exact (congrArg State.part ht).symm
  have hsame := hothers (0, 1) (by decide) 2 hafter
  rw [hbefore] at hsame
  exact absurd hsame (by decide)

end Sys2Proof.Machine
end

section
/-! SUPPORT. One command of a chain (04: R81, R93; 11: R268, R280): what a change of it, the end of another and the end of a
transaction leave of it, and how the head of a chain's order is taken. -/

namespace Sys2Proof.Machine

/-! ### One command among the others of its chain -/

theorem Part.cmd?_hseq {s : Part} {c : Nat} {h : BitVec 32} {x : Cmd} (hx : s.cmd? c h = some x) : x.hseq = h := by
  simpa using List.find?_some hx

theorem Part.cmd?_congr {s t : Part} {c : Nat} (h : (t.chain c).cmds = (s.chain c).cmds) (k : BitVec 32) : t.cmd? c k = s.cmd? c k := by
  rw [Part.cmd?, h]
  rfl

theorem Part.modCmd_chain (s : Part) (c : Nat) (h : BitVec 32) (g : Cmd → Cmd) :
    (s.modCmd c h g).chain c = { s.chain c with cmds := updBy (fun y => y.hseq == h) g (s.chain c).cmds } :=
  Part.modChain_chain s c _ (by simp)

theorem Part.modCmd_cmd? (s : Part) (c : Nat) (h : BitVec 32) {g : Cmd → Cmd} (hg : ∀ y, (g y).hseq = y.hseq) :
    (s.modCmd c h g).cmd? c h = (s.cmd? c h).map g := by
  rw [Part.cmd?, Part.modCmd_chain]
  exact find?_updBy _ g _ (fun y hy => by simpa [hg] using hy)

@[simp] theorem Part.modCmd_tx? (s : Part) (c : Nat) (h : BitVec 32) (g : Cmd → Cmd) (tag : Nat) :
    (s.modCmd c h g).tx? c tag = s.tx? c tag := by
  simp only [Part.tx?, Part.modCmd_chain]

/-- The commands before `h` are not `h`. -/
theorem ChainSt.before_updBy (x : ChainSt) (h : BitVec 32) {g : Cmd → Cmd} (hg : ∀ y, (g y).hseq = y.hseq) :
    ChainSt.before { x with cmds := updBy (fun y => y.hseq == h) g x.cmds } h = x.before h := by
  show List.takeWhile _ (updBy _ g x.cmds) = List.takeWhile _ x.cmds
  induction x.cmds with
  | nil => rfl
  | cons y l ih =>
    by_cases hy : y.hseq = h
    · simp [updBy, hy, hg]
    · simpa [updBy, hy] using ih

/-! ### The end of a command, and the others -/

theorem ChainSt.advance_cmds (c : ChainSt) : c.advance.cmds = c.cmds.dropWhile (fun y => y.phase == .done) := by
  have happ := List.takeWhile_append_dropWhile (p := fun y : Cmd => y.phase == .done) (l := c.cmds)
  unfold ChainSt.advance
  simp only []
  split
  · calc c.cmds.drop (c.cmds.takeWhile (fun y => y.phase == .done)).length
        = (c.cmds.takeWhile (fun y => y.phase == .done) ++ c.cmds.dropWhile (fun y => y.phase == .done)).drop _ := by rw [happ]
      _ = _ := List.drop_left
  · next hnone => rwa [List.getLast?_eq_none_iff.mp hnone, List.nil_append, eq_comm] at happ

/-- A command that is not done stays where it stands when the leading ones leave the list. -/
theorem ChainSt.advance_find? {c : ChainSt} {p : Cmd → Bool} {x : Cmd} (hx : c.cmds.find? p = some x) (hlive : x.phase ≠ .done) :
    c.advance.cmds.find? p = some x := by
  rw [ChainSt.advance_cmds]
  generalize c.cmds = l at hx
  induction l with
  | nil => exact hx
  | cons y l ih =>
    by_cases hy : y.phase = .done
    · have hskip : p y = false := by
        by_contra hpy
        simp only [List.find?_cons, Bool.not_eq_false _ |>.mp hpy] at hx
        exact hlive (by rw [← Option.some.inj hx]; exact hy)
      simp only [List.find?_cons, hskip] at hx
      simpa [hy] using ih hx
    · simpa [hy] using hx

theorem Part.chain_congr {s t : Part} (h : t.chains = s.chains) (d : Nat) : t.chain d = s.chain d := by
  simp only [Part.chain, h]

/-- The end of a command leaves every chain as it is, or ends the command on its own chain. -/
theorem complete_chain_cases (c : Nat) (h : BitVec 32) (status : Nat) (info : BitVec 64) (s : Part) :
    (∀ d, (complete c h status info s).chain d = s.chain d) ∨
    ((complete c h status info s).chain c = (s.chain c).ended h ∧ ∀ d, d ≠ c → (complete c h status info s).chain d = s.chain d) := by
  unfold complete
  split
  · exact .inl fun _ => rfl
  · split
    · exact .inl fun _ => rfl
    · right
      simp only []
      refine ⟨?_, fun d hd => ?_⟩
      · split <;> simp [Part.modCmd_chain, ChainSt.ended]
      · have hother : ((s.modCmd c h (fun y => { y with phase := .done })).modChain c ChainSt.advance).chain d = s.chain d := by
          rw [Part.modChain_chain_ne _ _ (by simp) hd, Part.modCmd, Part.modChain_chain_ne _ _ (by simp) hd]
        split
        · simpa using hother
        · exact hother

@[simp] theorem complete_chain_keeps (c d : Nat) (h : BitVec 32) (status : Nat) (info : BitVec 64) (s : Part) :
    ((complete c h status info s).chain d).txs = (s.chain d).txs ∧ ((complete c h status info s).chain d).st = (s.chain d).st ∧
    ((complete c h status info s).chain d).halt = (s.chain d).halt := by
  rcases complete_chain_cases c h status info s with hsame | ⟨hend, hothers⟩
  · simp [hsame]
  · by_cases hd : d = c
    · subst hd
      simp [hend, ChainSt.ended]
    · simp [hothers d hd]

/-- The end of one command leaves another that is not done where it stands. -/
theorem complete_cmd?_other {c : Nat} {h k : BitVec 32} {s : Part} {x : Cmd} (status : Nat) (info : BitVec 64) (hk : k ≠ h)
    (hx : s.cmd? c k = some x) (hlive : x.phase ≠ .done) : (complete c h status info s).cmd? c k = some x := by
  have hseq := Part.cmd?_hseq hx
  rcases complete_chain_cases c h status info s with hsame | ⟨hend, -⟩
  · rw [Part.cmd?, hsame]
    exact hx
  · rw [Part.cmd?, hend]
    refine ChainSt.advance_find? ?_ hlive
    rw [← hx]
    exact find?_updBy_other _ _ _ _ (fun y hy => by simpa [beq_iff_eq.mp hy] using Ne.symm hk) (fun y hy => by simpa [beq_iff_eq.mp hy] using Ne.symm hk)

/-! ### A command that has yet to end -/

/-- `t` comes after `s` with chain `c` still at work: its function may write back as it could, and no dump has begun. -/
structure ChainGoesOn (c : Nat) (s t : Part) : Prop where
  fn : t.chainFn c = s.chainFn c
  bme : ∀ f, (t.fn f).bme = (s.fn f).bme
  halt : (t.chain c).halt = (s.chain c).halt
  dump : t.dump = s.dump

theorem ChainGoesOn.refl (c : Nat) (s : Part) : ChainGoesOn c s s := ⟨rfl, fun _ => rfl, rfl, rfl⟩

theorem ChainGoesOn.trans {c : Nat} {s t u : Part} (h : ChainGoesOn c s t) (h' : ChainGoesOn c t u) : ChainGoesOn c s u :=
  ⟨h'.fn.trans h.fn, fun f => (h'.bme f).trans (h.bme f), h'.halt.trans h.halt, h'.dump.trans h.dump⟩

theorem ChainGoesOn.complete (c d : Nat) (h : BitVec 32) (status : Nat) (info : BitVec 64) (s : Part) :
    ChainGoesOn c s (complete d h status info s) := ⟨by simp, by simp, by simp, by simp⟩

theorem ChainGoesOn.modMan (c : Nat) (s : Part) (g : ManifestSt → ManifestSt) : ChainGoesOn c s (s.modMan g) := ⟨rfl, fun _ => rfl, rfl, rfl⟩

theorem ChainGoesOn.of_man {c : Nat} {s t : Part} (h : t = { s with man := t.man }) : ChainGoesOn c s t := by
  rw [h]
  exact ⟨rfl, fun _ => rfl, rfl, rfl⟩

theorem ChainGoesOn.modChain {c : Nat} {s : Part} {g : ChainSt → ChainSt} (hid : (g (s.chain c)).id = c)
    (hhalt : (g (s.chain c)).halt = (s.chain c).halt) : ChainGoesOn c s (s.modChain c g) :=
  ⟨by simp, by simp, by simp [hid, hhalt], by simp⟩

/-- Every command listed under the number `h` is done. -/
def Part.HasEnded (s : Part) (c : Nat) (h : BitVec 32) : Prop := ∀ z ∈ (s.chain c).cmds, z.hseq = h → z.phase = .done

theorem Part.HasEnded.complete {s : Part} {c : Nat} {h : BitVec 32} (hs : s.HasEnded c h) (d : Nat) (k : BitVec 32) (status : Nat)
    (info : BitVec 64) : (complete d k status info s).HasEnded c h := by
  intro z hz hseq
  rcases complete_chain_cases d k status info s with hsame | ⟨hend, hothers⟩
  · exact hs z (hsame c ▸ hz) hseq
  · by_cases hd : c = d
    · subst hd
      rw [hend] at hz
      rcases ChainSt.mem_ended_cmds hz with ⟨-, hdone⟩ | ⟨-, hbefore⟩
      · exact hdone
      · exact hs z hbefore hseq
    · exact hs z (hothers c hd ▸ hz) hseq

/-- Where no dump runs, a command that is told to end has ended. -/
theorem complete_hasEnded (c : Nat) {h : BitVec 32} (status : Nat) (info : BitVec 64) {s : Part} {x : Cmd} (hx : s.cmd? c h = some x)
    (hlive : x.phase ≠ .done) (hdump : s.dump.state ≠ 3) : (complete c h status info s).HasEnded c h := by
  intro z hz hseq
  rw [(complete_spec status info hx hlive hdump).1] at hz
  rcases ChainSt.mem_ended_cmds hz with ⟨-, hdone⟩ | ⟨hne, -⟩
  · exact hdone
  · exact absurd hseq hne

/-- `Completed`, with every command of the number done. -/
structure Finished (c : Nat) (h : BitVec 32) (status : Nat) (info : BitVec 64) (s t : Part) : Prop where
  ended : t.HasEnded c h
  written : (s.fn (s.chainFn c)).bme = true → (s.chain c).halt ≠ 0x80 →
    ∃ dfl dseq, .writeBack (s.chainFn c) c h status dfl dseq info ∈ t.out

theorem Finished.completed {c : Nat} {h : BitVec 32} {status : Nat} {info : BitVec 64} {s t : Part}
    (hend : Finished c h status info s t) : Completed c h status info s t :=
  ⟨fun z hz => hend.ended z (List.mem_of_find?_eq_some hz) (Part.cmd?_hseq hz), hend.written⟩

theorem complete_finished {c : Nat} {h : BitVec 32} {s : Part} {x : Cmd} (status : Nat) (info : BitVec 64)
    (hx : s.cmd? c h = some x) (hlive : x.phase ≠ .done) (hdump : s.dump.state ≠ 3) :
    Finished c h status info s (complete c h status info s) :=
  ⟨complete_hasEnded c status info hx hlive hdump, (complete_spec status info hx hlive hdump).2⟩

/-- A command that ends later ends for the part it was taken in. -/
theorem Finished.before {c : Nat} {h : BitVec 32} {status : Nat} {info : BitVec 64} {s t u : Part} (hgo : ChainGoesOn c s t)
    (hend : Finished c h status info t u) : Finished c h status info s u := by
  obtain ⟨hended, hback⟩ := hend
  rw [hgo.fn, hgo.bme, hgo.halt] at hback
  exact ⟨hended, hback⟩

theorem Finished.complete {c : Nat} {h : BitVec 32} {status : Nat} {info : BitVec 64} {s t : Part}
    (hend : Finished c h status info s t) (d : Nat) (k : BitVec 32) (st : Nat) (i : BitVec 64) :
    Finished c h status info s (complete d k st i t) :=
  ⟨hend.ended.complete d k st i, fun hbme hhalt =>
    have ⟨dfl, dseq, hmem⟩ := hend.written hbme hhalt
    ⟨dfl, dseq, (complete_out_prefix ..).subset hmem⟩⟩

theorem Finished.later {c : Nat} {h : BitVec 32} {status : Nat} {info : BitVec 64} {s t u : Part}
    (hend : Finished c h status info s t) (hcmds : (u.chain c).cmds = (t.chain c).cmds) (hout : t.out <+: u.out) :
    Finished c h status info s u :=
  ⟨by simpa only [Part.HasEnded, hcmds] using hend.ended, fun hbme hhalt =>
    have ⟨dfl, dseq, hmem⟩ := hend.written hbme hhalt
    ⟨dfl, dseq, hout.subset hmem⟩⟩

/-- A command on its way to the end: it stands in its chain, or it has ended. -/
def Ending (c : Nat) (h : BitVec 32) (status : Nat) (info : BitVec 64) (x : Cmd) (s t : Part) : Prop :=
  (t.cmd? c h = some x ∧ ChainGoesOn c s t) ∨ Finished c h status info s t

/-- Others end, and this one among them only with the status it is about to end with. -/
theorem Ending.completeAll {c : Nat} {h : BitVec 32} {status st : Nat} {info : BitVec 64} {x : Cmd} {s : Part} (hlive : x.phase ≠ .done)
    (hdump : s.dump.state ≠ 3) (l : List Cmd) : (∀ y ∈ l, y.hseq = h → st = status) → ∀ t, Ending c h status info x s t →
      Ending c h status info x s (l.foldl (fun u y => complete c y.hseq st info u) t) := by
  induction l with
  | nil => exact fun _ t ht => ht
  | cons y l ih =>
    refine fun hown t ht => ih (fun z hz => hown z (List.mem_cons_of_mem _ hz)) _ ?_
    rcases ht with ⟨hx, hgo⟩ | hend
    · by_cases hy : y.hseq = h
      · obtain rfl := hown y List.mem_cons_self hy
        subst hy
        exact .inr ((complete_finished st info hx hlive (hgo.dump ▸ hdump)).before hgo)
      · exact .inl ⟨complete_cmd?_other st info (Ne.symm hy) hx hlive, hgo.trans (.complete ..)⟩
    · exact .inr (hend.complete ..)

theorem Ending.finish {c : Nat} {h : BitVec 32} {status : Nat} {info : BitVec 64} {x : Cmd} {s t : Part} (hlive : x.phase ≠ .done)
    (hdump : s.dump.state ≠ 3) (ht : Ending c h status info x s t) : Finished c h status info s (complete c h status info t) := by
  rcases ht with ⟨hx, hgo⟩ | hend
  · exact (complete_finished status info hx hlive (hgo.dump ▸ hdump)).before hgo
  · exact hend.complete ..

/-! ### Transactions -/

theorem Part.tx?_congr {s t : Part} {c : Nat} (h : (t.chain c).txs = (s.chain c).txs) (tag : Nat) : t.tx? c tag = s.tx? c tag := by
  rw [Part.tx?, h]
  rfl

@[simp] theorem complete_tx? (c d : Nat) (h : BitVec 32) (status : Nat) (info : BitVec 64) (s : Part) (tag : Nat) :
    (complete c h status info s).tx? d tag = s.tx? d tag := Part.tx?_congr (by simp) tag

theorem Part.modTx_chain (s : Part) (c tag : Nat) (g : TxSt → TxSt) :
    (s.modTx c tag g).chain c = { s.chain c with txs := updBy (fun t => t.tag == tag) g (s.chain c).txs } :=
  Part.modChain_chain s c _ (by simp)

theorem Part.modTx_tx? (s : Part) (c tag : Nat) {g : TxSt → TxSt} (hg : ∀ t, (g t).tag = t.tag) :
    (s.modTx c tag g).tx? c tag = (s.tx? c tag).map g := by
  rw [Part.tx?, Part.modTx_chain]
  exact find?_updBy _ g _ (fun t ht => by simpa [hg] using ht)

theorem Part.dropTx_chain (s : Part) (c tag : Nat) :
    (s.dropTx c tag).chain c = { s.chain c with txs := (s.chain c).txs.filter (fun t => t.tag != tag) } :=
  Part.modChain_chain s c _ (by simp)

@[simp] theorem Part.dropTx_tx? (s : Part) (c tag : Nat) : (s.dropTx c tag).tx? c tag = none := by
  simp [Part.tx?, Part.dropTx_chain]

/-- A command that ends and then takes its transaction's tag with it. -/
theorem Finished.dropTx {c : Nat} {h : BitVec 32} {status : Nat} {info : BitVec 64} {s t : Part}
    (hend : Finished c h status info s t) (tag : Nat) : Finished c h status info s (t.dropTx c tag) :=
  hend.later (by rw [Part.dropTx_chain]) (by simp [Part.dropTx])

/-! ### The head of a chain's order -/

theorem takeable_eq_some {s : Part} {c : Nat} {h : BitVec 32} {ph : CmdPhase} {x : Cmd} (hx : takeable s c h ph = some x) :
    s.cmd? c h = some x ∧ x.hseq = h ∧ x.phase = ph ∧ s.dump.state ≠ 3 := by
  unfold takeable at hx
  split at hx
  · next y hy =>
    split at hx
    · next hguard =>
      obtain rfl := Option.some.inj hx
      simp only [Bool.and_eq_true, decide_eq_true_eq, chainRuns, bne_iff_ne, ne_eq] at hguard
      exact ⟨hy, Part.cmd?_hseq hy, hguard.1.1, by simp [hguard]⟩
    · exact absurd hx (by simp)
  · exact absurd hx (by simp)

section
variable {s : Part} {c : Nat} {h : BitVec 32} {x : Cmd} (hx : takeable s c h .accepted = some x) (op : Nat → Bool) (k : Cmd → Part → Part)
include hx

theorem withTaken_other (hop : op (dOpcode x.desc) = false) : withTaken s c h op k = s := by
  simp [withTaken, hx, hop]

theorem withTaken_waits (hcheck : commandCheck s x.desc = .wait) : withTaken s c h op k = s := by
  unfold withTaken
  simp only [hx, hcheck]
  split <;> rfl

theorem withTaken_stops {st : Nat} {info : BitVec 64} (hop : op (dOpcode x.desc) = true) (hcheck : commandCheck s x.desc = .stop st info) :
    withTaken s c h op k = endFailed c x st info s := by
  simp [withTaken, hx, hop, hcheck]

theorem withTaken_runs (hop : op (dOpcode x.desc) = true) (hcheck : commandCheck s x.desc = .run) : withTaken s c h op k = k x s := by
  simp [withTaken, hx, hop, hcheck]

/-- A command at the head of its chain's order ends with its completion alone. -/
theorem taken_completes (status : Nat) (info : BitVec 64) : Finished c h status info s (complete c x.hseq status info s) ∧
    WithinCompletion s (complete c x.hseq status info s) := by
  obtain ⟨hcmd, hseq, hphase, hdump⟩ := takeable_eq_some hx
  rw [hseq]
  exact ⟨complete_finished status info hcmd (by simp [hphase]) hdump, complete_within ..⟩

end

end Sys2Proof.Machine
end

section
/-! SUPPORT. Transactions begin, commit and abort (04: R89 to R93; 11: R279), with the statement of
`TransactionsBeginCommitAndAbort`. -/

namespace Sys2Proof.Machine

/-! ### The blocks and the writes of a transaction that ends -/

/-- `t` differs from `s` in the Manifest alone. -/
def ManifestOnly (s t : Part) : Prop := t = { s with man := t.man }

theorem ManifestOnly.trans {s t u : Part} (h : ManifestOnly s t) (h' : ManifestOnly t u) : ManifestOnly s u :=
  calc u = _ := h'
    _ = _ := by rw [h]

theorem Part.modMan_only (s : Part) (g : ManifestSt → ManifestSt) : ManifestOnly s (s.modMan g) := rfl

theorem ManifestOnly.chainGoesOn {s t : Part} (h : ManifestOnly s t) (c : Nat) : ChainGoesOn c s t := .of_man h

theorem tellTwin_keepsHeld (p : Nat) (n : TwinNews) (s : Part) : KeepsHeld s (tellTwin p n s) := ⟨tellTwin_only p n s, tellTwin_held p n s⟩

theorem settleEntries_keepsHeld (l : List Held) (s : Part) : KeepsHeld s (settleEntries l s) :=
  KeepsHeld.foldl (fun st (x : Nat × Nat) => settleEntry_keepsHeld x.1 x.2 st) _ s

theorem releaseTxBlocks_releases (c tag : Nat) (s : Part) : ManifestOnly s (releaseTxBlocks c tag s) ∧
    (releaseTxBlocks c tag s).man.held = s.man.held.filter (fun b => !decide (b.tx = some (c, tag))) := by
  unfold releaseTxBlocks
  simp only []
  obtain ⟨htold, hheld⟩ := KeepsHeld.foldl (fun st p => tellTwin_keepsHeld p (.txEnded p c tag) st)
    (((s.man.held.filter (fun b : Held => decide (b.tx = some (c, tag)))).map (·.pool)).eraseDups) s
  have hsettled := settleEntries_keepsHeld (s.man.held.filter (fun b : Held => decide (b.tx = some (c, tag))))
  exact ⟨(ManifestOnly.trans htold (Part.modMan_only _ _)).trans (hsettled _).1, (hsettled _).2.trans (congrArg _ hheld)⟩

/-- The blocks held are those of `s` but for the transaction's. -/
def TxReleased (c tag : Nat) (s t : Part) : Prop :=
  (∀ b ∈ t.man.held, b.tx ≠ some (c, tag)) ∧ ∀ b ∈ s.man.held, b.tx ≠ some (c, tag) → b ∈ t.man.held

theorem TxReleased.of_held {c tag : Nat} {s t : Part} (h : t.man.held = s.man.held.filter (fun b => !decide (b.tx = some (c, tag)))) :
    TxReleased c tag s t := by
  simp only [TxReleased, h, List.mem_filter]
  exact ⟨fun b hb => by simpa using hb.2, fun b hb hother => ⟨hb, by simpa using hother⟩⟩

theorem WithinCompletion.foldl_complete (c status : Nat) (l : List Cmd) (s : Part) :
    WithinCompletion s (l.foldl (fun st x => complete c x.hseq status 0 st) s) := by
  induction l generalizing s with
  | nil => rfl
  | cons x l ih => exact (complete_within ..).trans (ih _)

/-- What ends a transaction with its command: its blocks released, its writes ended, its tag free. -/
def endTx (c tag : Nat) (h : BitVec 32) (status : Nat) (s : Part) : Part :=
  (complete c h status 0 (endTxWrites c tag 0x42 (releaseTxBlocks c tag s))).dropTx c tag

/-- `t` differs from `s` at most in what the end of a transaction reaches. -/
def WithinTx (s t : Part) : Prop :=
  t = { s with man := t.man, chains := t.chains, fn0 := t.fn0, fn1 := t.fn1, vols := t.vols, out := t.out }

theorem WithinTx.trans {s t u : Part} (h : WithinTx s t) (h' : WithinTx t u) : WithinTx s u :=
  calc u = _ := h'
    _ = _ := by rw [h]

theorem ManifestOnly.withinTx {s t : Part} (h : ManifestOnly s t) : WithinTx s t :=
  calc t = _ := h
    _ = _ := by rw [h]

theorem WithinCompletion.withinTx {s t : Part} (h : WithinCompletion s t) : WithinTx s t :=
  calc t = _ := h
    _ = _ := by rw [h]

/-- After the release of its blocks, the end of a transaction leaves the Manifest alone. -/
theorem endTx_afterRelease (c tag : Nat) (h : BitVec 32) (status : Nat) (s : Part) :
    WithinCompletion (releaseTxBlocks c tag s) (endTx c tag h status s) :=
  (WithinCompletion.foldl_complete c 0x42 _ _).trans ((complete_within ..).trans rfl)

theorem endTx_within (c tag : Nat) (h : BitVec 32) (status : Nat) (s : Part) : WithinTx s (endTx c tag h status s) :=
  (releaseTxBlocks_releases c tag s).1.withinTx.trans (endTx_afterRelease c tag h status s).withinTx

theorem endTx_releases (c tag : Nat) (h : BitVec 32) (status : Nat) (s : Part) :
    TxReleased c tag s (endTx c tag h status s) ∧ (endTx c tag h status s).tx? c tag = none := by
  refine ⟨.of_held ?_, Part.dropTx_tx? ..⟩
  rw [endTx_afterRelease c tag h status s]
  exact (releaseTxBlocks_releases c tag s).2

section
variable {s : Part} {c : Nat} {h : BitVec 32} {x : Cmd} (hx : takeable s c h .accepted = some x)
include hx

theorem taken_ending (tag status : Nat) (info : BitVec 64) : Ending c h status info x s (releaseTxBlocks c tag s) := by
  obtain ⟨hcmd, -, -, -⟩ := takeable_eq_some hx
  obtain ⟨honly, -⟩ := releaseTxBlocks_releases c tag s
  refine .inl ⟨?_, honly.chainGoesOn c⟩
  rw [honly]
  exact hcmd

/-- The command that ends a transaction: none of the transaction's writes bears its number, or it ends as they do. -/
theorem endTx_finished (tag : Nat) {status : Nat}
    (hown : ∀ y ∈ (s.chain c).cmds, [2, 4].contains (descField y.desc 23 16) → y.hseq = h → 0x42 = status) :
    Finished c h status 0 s (endTx c tag h status s) := by
  obtain ⟨-, -, hphase, hdump⟩ := takeable_eq_some hx
  have hlive : x.phase ≠ .done := by simp [hphase]
  have hchain : (releaseTxBlocks c tag s).chain c = s.chain c := by
    rw [(releaseTxBlocks_releases c tag s).1]
    rfl
  refine (Ending.finish hlive hdump (Ending.completeAll hlive hdump _ (fun y hy => ?_) _ (taken_ending hx tag status 0))).dropTx tag
  rw [hchain, List.mem_filter] at hy
  obtain ⟨hmem, hwrites⟩ := hy
  simp only [Bool.and_eq_true] at hwrites
  exact hown y hmem hwrites.1.2

end

/-- Numbers that are all different tell a command from the others of its chain. -/
theorem eq_of_nodup_hseq {l : List Cmd} (hl : (l.map (·.hseq)).Nodup) {x y : Cmd} (hx : x ∈ l) (hy : y ∈ l) (h : y.hseq = x.hseq) :
    y = x := List.inj_on_of_nodup_map hl hy hx h

/-! ### TX_BEGIN -/

section
variable {s : State} {c : ChainId} {h : BitVec 32} {x : Cmd} (hx : takeable s.part c.val h .accepted = some x)
  (hcheck : commandCheck s.part x.desc = .run)
include hx hcheck

theorem runs_txBegin (hop : dOpcode x.desc = 0x10) {P : Part → Prop} (hP : P (txBeginRun c.val x s.part)) : Runs (.txBegin c h) s P :=
  runs_onPart rfl (by rwa [withTaken_runs hx _ _ (by simp [hop]) hcheck])

theorem runs_txCommit (hop : dOpcode x.desc = 0x11) {P : Part → Prop} (hP : P (txCommitRun c.val x s.part)) : Runs (.txCommit c h) s P :=
  runs_onPart rfl (by rwa [withTaken_runs hx _ _ (by simp [hop]) hcheck])

theorem runs_txAbort (hop : dOpcode x.desc = 0x12) {P : Part → Prop} (hP : P (txAbortRun c.val x s.part)) : Runs (.txAbort c h) s P :=
  runs_onPart rfl (by rwa [withTaken_runs hx _ _ (by simp [hop]) hcheck])

end

/-- What the statement says of a command that has ended with its completion alone. -/
def EndsAlone (c : Nat) (h : BitVec 32) (status : Nat) (info : BitVec 64) (s t : Part) : Prop :=
  Completed c h status info s t ∧ t = { s with chains := t.chains, fn0 := t.fn0, fn1 := t.fn1, vols := t.vols, out := t.out }

section
variable {s : Part} {c : Nat} {h : BitVec 32} {x : Cmd} (hx : takeable s c h .accepted = some x)
include hx

theorem taken_endsAlone (status : Nat) (info : BitVec 64) : EndsAlone c h status info s (complete c x.hseq status info s) :=
  have ⟨hend, hwithin⟩ := taken_completes hx status info
  ⟨hend.completed, hwithin⟩

/-- A command that ends with the tag of its transaction freed, the blocks and the writes of the transaction left as they are. -/
theorem taken_endsTag (tag status : Nat) (info : BitVec 64) :
    EndsAlone c h status info s ((complete c x.hseq status info s).dropTx c tag) :=
  have ⟨hend, hwithin⟩ := taken_completes hx status info
  ⟨(hend.dropTx tag).completed, hwithin.trans rfl⟩

end

/-! ### TX_BEGIN (R89, R279) -/

theorem txBeginRun_taken {s : Part} {c : Nat} {x : Cmd} {p : PoolSt} {v : CVol} (hv : s.volume? (dVol x.desc) = some (p, v)) (htag : s.tx? c (dTag x.desc) ≠ none) :
    txBeginRun c x s = complete c x.hseq 0x44 0 s := by
  simp [txBeginRun, Part.poolOfVol, hv, Option.isSome_iff_ne_none.mpr htag]

section
variable {s : Part} {c : Nat} {x : Cmd} {p : PoolSt} {v : CVol} (hv : s.volume? (dVol x.desc) = some (p, v)) (htag : s.tx? c (dTag x.desc) = none)
include hv htag

theorem txBeginRun_waits (h : poolServes p = false ∨ (p.writeState = 0 ∧ maxTxs ≤ s.openTxs)) : txBeginRun c x s = s := by
  rcases h with hserves | ⟨hstate, hfull⟩
  · simp [txBeginRun, Part.poolOfVol, hv, htag, hserves]
  · simp [txBeginRun, Part.poolOfVol, hv, htag, hstate, hfull]

theorem txBeginRun_unprotected (hserves : poolServes p = true) (hstate : p.writeState ≠ 0) :
    txBeginRun c x s = complete c x.hseq 0x41 0 s := by
  simp [txBeginRun, Part.poolOfVol, hv, htag, hserves, hstate]

end

/-- A transaction as TX_BEGIN opens it. -/
def TxSt.opened (tag p : Nat) : TxSt :=
  { tag := tag, pool := p, extents := 0, blocks := 0, failed := false, timedOut := false, noProtect := false, commitTide := none }

theorem Part.modChain_withinCompletion (s : Part) (c : Nat) (g : ChainSt → ChainSt) : WithinCompletion s (s.modChain c g) := rfl

theorem openTx_tx? {s : Part} {c tag : Nat} (p : Nat) (htag : s.tx? c tag = none) :
    (s.modChain c (fun y => { y with txs := y.txs ++ [TxSt.opened tag p] })).tx? c tag = some (TxSt.opened tag p) := by
  rw [Part.tx?] at htag ⊢
  rw [Part.modChain_chain _ _ _ (by simp)]
  simp [htag, TxSt.opened]

theorem txBeginRun_opens {s : Part} {c : Nat} {h : BitVec 32} {x : Cmd} (hx : takeable s c h .accepted = some x) {p : PoolSt} {v : CVol}
    (hv : s.volume? (dVol x.desc) = some (p, v)) (htag : s.tx? c (dTag x.desc) = none) (hserves : poolServes p = true)
    (hstate : p.writeState = 0) (hroom : s.openTxs < maxTxs) :
    EndsAlone c h 0x00 0 s (txBeginRun c x s) ∧ (txBeginRun c x s).tx? c (dTag x.desc) = some (TxSt.opened (dTag x.desc) p.id) := by
  obtain ⟨hcmd, hseq, hphase, hdump⟩ := takeable_eq_some hx
  have hrun : txBeginRun c x s =
      complete c x.hseq 0x00 0 (s.modChain c (fun y => { y with txs := y.txs ++ [TxSt.opened (dTag x.desc) p.id] })) := by
    simp [txBeginRun, Part.poolOfVol, hv, htag, hserves, hstate, Nat.not_le.mpr hroom, TxSt.opened]
  rw [hrun, hseq]
  have hgo : ChainGoesOn c s (s.modChain c (fun y => { y with txs := y.txs ++ [TxSt.opened (dTag x.desc) p.id] })) := .modChain (by simp) rfl
  refine ⟨⟨(Finished.before hgo (complete_finished _ _ (x := x) ?_ (by simp [hphase]) (by simpa using hdump))).completed,
    WithinCompletion.trans (Part.modChain_withinCompletion ..) (complete_within ..)⟩, by rw [complete_tx?, openTx_tx? _ htag]⟩
  rw [Part.cmd?_congr (s := s) (by simp)]
  exact hcmd

/-! ### TX_COMMIT and TX_ABORT (R92, R93, R279) -/

theorem txCommitRun_none {s : Part} {c : Nat} {x : Cmd} (htx : s.tx? c (dTag x.desc) = none) :
    txCommitRun c x s = complete c x.hseq 0x44 0 s := by
  simp [txCommitRun, htx]

theorem txAbortRun_none {s : Part} {c : Nat} {x : Cmd} (htx : s.tx? c (dTag x.desc) = none) :
    txAbortRun c x s = complete c x.hseq 0x44 0 s := by
  simp [txAbortRun, htx]

section
variable {s : Part} {c : Nat} {x : Cmd} {tx : TxSt} (htx : s.tx? c (dTag x.desc) = some tx)
include htx

theorem txCommitRun_timedOut (hout : tx.timedOut = true) : txCommitRun c x s = (complete c x.hseq 0x43 0 s).dropTx c (dTag x.desc) := by
  simp [txCommitRun, htx, hout]

theorem txAbortRun_timedOut (hout : tx.timedOut = true) : txAbortRun c x s = (complete c x.hseq 0x43 0 s).dropTx c (dTag x.desc) := by
  simp [txAbortRun, htx, hout]

variable (hout : tx.timedOut = false)
include hout

theorem txCommitRun_unprotected (hprot : tx.noProtect = true) :
    txCommitRun c x s = (complete c x.hseq 0x41 0 s).dropTx c (dTag x.desc) := by
  simp [txCommitRun, htx, hout, hprot]

theorem txAbortRun_committing (h : tx.commitTide ≠ none ∨ placedCommit s c (dTag x.desc) ≠ none) :
    txAbortRun c x s = complete c x.hseq 0x44 0 s := by
  have hsome : (tx.commitTide.isSome || (placedCommit s c (dTag x.desc)).isSome) = true := by
    simpa [Option.isSome_iff_ne_none] using h
  simp [txAbortRun, htx, hout, hsome]

theorem txAbortRun_ends (hopen : tx.commitTide = none) (hplaced : placedCommit s c (dTag x.desc) = none) :
    txAbortRun c x s = endTx c (dTag x.desc) x.hseq 0x00 s := by
  simp [txAbortRun, htx, hout, hopen, hplaced, endTx]

variable (hprot : tx.noProtect = false)
include hprot

theorem txCommitRun_taken (hplaced : placedCommit s c (dTag x.desc) ≠ none) : txCommitRun c x s = complete c x.hseq 0x44 0 s := by
  simp [txCommitRun, htx, hout, hprot, Option.isSome_iff_ne_none.mpr hplaced]

variable (hplaced : placedCommit s c (dTag x.desc) = none)
include hplaced

theorem txCommitRun_failed (hfailed : tx.failed = true) : txCommitRun c x s = endTx c (dTag x.desc) x.hseq 0x42 s := by
  simp [txCommitRun, htx, hout, hprot, hplaced, hfailed, endTx]

theorem txCommitRun_open (hfailed : tx.failed = false) :
    txCommitRun c x s = placeCommit c x (s.modCmd c x.hseq (fun y => { y with phase := .admitted })) := by
  simp [txCommitRun, htx, hout, hprot, hplaced, hfailed]

end

/-- The earlier commands of the transaction a TX_COMMIT commits. -/
def Part.earlierOf (s : Part) (c : Nat) (x : Cmd) : List Cmd :=
  ((s.chain c).before x.hseq).filter (fun y => isTx y.desc && dTag y.desc == dTag x.desc)

theorem Part.earlierOf_modCmd (s : Part) (c : Nat) (x : Cmd) {g : Cmd → Cmd} (hg : ∀ y, (g y).hseq = y.hseq) :
    (s.modCmd c x.hseq g).earlierOf c x = s.earlierOf c x := by
  rw [Part.earlierOf, Part.modCmd_chain, ChainSt.before_updBy _ _ hg]
  rfl

theorem tellTwin_news (p : Nat) (n : TwinNews) (s : Part) :
    tellTwin p n s = { s with man := { s.man with news := (tellTwin p n s).man.news } } := by
  unfold tellTwin
  split
  · split <;> rfl
  · rfl

section
variable {s : Part} {c : Nat} {x : Cmd} {tx : TxSt} (htx : s.tx? c (dTag x.desc) = some tx)
include htx

theorem placeCommit_waits (h : ∃ y ∈ s.earlierOf c x, y.phase ≠ .done) : placeCommit c x s = s := by
  have hnot : (s.earlierOf c x).all (fun y => y.phase == .done) = false := by simpa using h
  unfold Part.earlierOf at hnot
  simp [placeCommit, htx, hnot]

/-- A TX_COMMIT as it is placed in the open tide, its transaction committing. -/
theorem placeCommit_eq (h : ∀ y ∈ s.earlierOf c x, y.phase = .done) (hfailed : tx.failed = false) :
    placeCommit c x s = ((tellTwin tx.pool (.txPlaced tx.pool c (dTag x.desc))
      (s.modTx c (dTag x.desc) (fun t => { t with commitTide := some s.sched.tideNow }))).modMan
        (fun m => { m with nCommits := m.nCommits + 1 })).modCmd c x.hseq (fun y => { y with phase := .placed, tide := s.sched.tideNow }) := by
  have hall : (s.earlierOf c x).all (fun y => y.phase == .done) = true := by simpa using h
  unfold Part.earlierOf at hall
  simp only [placeCommit, htx, hall, hfailed]
  rw [tellTwin_only]
  rfl

theorem placeCommit_places (h : ∀ y ∈ s.earlierOf c x, y.phase = .done) (hfailed : tx.failed = false) :
    (placeCommit c x s).cmd? c x.hseq = (s.cmd? c x.hseq).map (fun y => { y with phase := .placed, tide := s.sched.tideNow }) ∧
    (placeCommit c x s).tx? c (dTag x.desc) = some { tx with commitTide := some s.sched.tideNow } ∧
    placeCommit c x s = { s with chains := (placeCommit c x s).chains
                                 man := { s.man with nCommits := s.man.nCommits + 1, news := (placeCommit c x s).man.news } } := by
  have htold (t : Part) : (tellTwin tx.pool (.txPlaced tx.pool c (dTag x.desc)) t).chain c = t.chain c := by
    rw [tellTwin_only]
    rfl
  have hcmds (t : Part) (g : TxSt → TxSt) (f : ManifestSt → ManifestSt) :
      ((tellTwin tx.pool (.txPlaced tx.pool c (dTag x.desc)) (t.modTx c (dTag x.desc) g)).modMan f).chain c = (t.modTx c (dTag x.desc) g).chain c := by
    simpa using htold _
  rw [placeCommit_eq htx h hfailed]
  refine ⟨?_, ?_, ?_⟩
  · rw [Part.modCmd_cmd?]
    · rw [Part.cmd?_congr (s := s) (by rw [hcmds, Part.modTx_chain])]
    · exact fun _ => rfl
  · rw [Part.modCmd_tx?, Part.tx?_congr (congrArg ChainSt.txs (hcmds ..)), Part.modTx_tx?, htx]
    · rfl
    · exact fun _ => rfl
  · rw [tellTwin_news]
    rfl

end

/-- Settles O46: each outcome of TX_BEGIN, TX_COMMIT and TX_ABORT is what the run of its row comes to. -/
theorem transactionsBeginCommitAndAbort : Obligations.TransactionsBeginCommitAndAbort := by
  unfold Obligations.TransactionsBeginCommitAndAbort
  rintro c h s x _ hx hcheck rfl
  obtain ⟨hcmd, rfl, hphase, hdump⟩ := takeable_eq_some hx
  refine ⟨fun hop p v hv => ⟨fun htag => ?_, fun htag => ⟨fun hwait => ?_, fun hserves hstate => ?_, fun hserves hstate hroom => ?_⟩⟩,
    fun i hi => ?_, fun tx htx hout => ⟨fun hop => ?_, fun hop => ?_⟩⟩
  · exact runs_txBegin hx hcheck hop (txBeginRun_taken hv htag ▸ taken_endsAlone hx 0x44 0)
  · have hstays : Runs (.txBegin c x.hseq) s (fun t => t = s.part) := runs_txBegin hx hcheck hop (txBeginRun_waits hv htag hwait)
    obtain ⟨t, ht, rfl⟩ := hstays
    exact ht
  · exact runs_txBegin hx hcheck hop (txBeginRun_unprotected hv htag hserves hstate ▸ taken_endsAlone hx 0x41 0)
  · obtain ⟨⟨hend, hwithin⟩, hopened⟩ := txBeginRun_opens hx hv htag hserves hstate hroom
    exact runs_txBegin hx hcheck hop ⟨hend, hopened, hwithin⟩
  · rcases hi with ⟨rfl, hop⟩ | ⟨rfl, hop⟩
    · refine ⟨fun htx => runs_txCommit hx hcheck hop (txCommitRun_none htx ▸ taken_endsAlone hx 0x44 0), fun tx htx hout => ?_⟩
      obtain ⟨hend, hwithin⟩ := taken_endsTag hx (dTag x.desc) 0x43 0
      exact runs_txCommit hx hcheck hop (txCommitRun_timedOut htx hout ▸ ⟨hend, Part.dropTx_tx? .., hwithin⟩)
    · refine ⟨fun htx => runs_txAbort hx hcheck hop (txAbortRun_none htx ▸ taken_endsAlone hx 0x44 0), fun tx htx hout => ?_⟩
      obtain ⟨hend, hwithin⟩ := taken_endsTag hx (dTag x.desc) 0x43 0
      exact runs_txAbort hx hcheck hop (txAbortRun_timedOut htx hout ▸ ⟨hend, Part.dropTx_tx? .., hwithin⟩)
  · have hrun : ∀ {P : Part → Prop}, P (txCommitRun c.val x s.part) → Runs (.txCommit c x.hseq) s P := runs_txCommit hx hcheck hop
    refine ⟨fun hprot => ?_, fun hprot hplaced => ?_, fun hprot hplaced hfailed => ?_, fun hprot hplaced hfailed earlier hearlier => ?_⟩
    · obtain ⟨hend, hwithin⟩ := taken_endsTag hx (dTag x.desc) 0x41 0
      exact hrun (txCommitRun_unprotected htx hout hprot ▸ ⟨hend, Part.dropTx_tx? .., hwithin⟩)
    · exact hrun (txCommitRun_taken htx hout hprot hplaced ▸ taken_endsAlone hx 0x44 0)
    · obtain ⟨⟨hgone, hkept⟩, hfree⟩ := endTx_releases c.val (dTag x.desc) x.hseq 0x42 s.part
      exact hrun (txCommitRun_failed htx hout hprot hplaced hfailed ▸
        ⟨(endTx_finished hx (dTag x.desc) (fun _ _ _ _ => rfl)).completed, hfree, hgone, hkept, endTx_within ..⟩)
    · obtain rfl : earlier = s.part.earlierOf c.val x := hearlier
      rw [← Part.earlierOf_modCmd s.part c.val x (g := fun y => { y with phase := .admitted }) (fun _ => rfl)]
      have hadmitted : (s.part.modCmd c.val x.hseq (fun y => { y with phase := .admitted })).cmd? c.val x.hseq =
          some { x with phase := .admitted } := by
        rw [Part.modCmd_cmd? _ _ _ (g := fun y => { y with phase := .admitted }) (fun _ => rfl), hcmd]
        rfl
      have htx' : (s.part.modCmd c.val x.hseq (fun y => { y with phase := .admitted })).tx? c.val (dTag x.desc) = some tx := by
        rwa [Part.modCmd_tx?]
      refine ⟨fun hlate => hrun ?_, fun hdone => hrun ?_⟩
      · rw [txCommitRun_open htx hout hprot hplaced hfailed, placeCommit_waits htx' hlate]
        exact ⟨hadmitted, rfl⟩
      · rw [txCommitRun_open htx hout hprot hplaced hfailed]
        obtain ⟨hcmd', htx'', honly⟩ := placeCommit_places htx' hdone hfailed
        rw [hadmitted] at hcmd'
        exact ⟨hcmd', htx'', honly⟩
  · refine ⟨fun h => runs_txAbort hx hcheck hop (txAbortRun_committing htx hout h ▸ taken_endsAlone hx 0x44 0), fun hopen hplaced hnodup => ?_⟩
    obtain ⟨⟨hgone, hkept⟩, hfree⟩ := endTx_releases c.val (dTag x.desc) x.hseq 0x00 s.part
    refine runs_txAbort hx hcheck hop (txAbortRun_ends htx hout hopen hplaced ▸
      ⟨(endTx_finished hx (dTag x.desc) (fun y hy hwrites hseq => ?_)).completed, hfree, hgone, hkept, endTx_within ..⟩)
    obtain rfl := eq_of_nodup_hseq hnodup (List.mem_of_find?_eq_some hcmd) hy hseq
    exact absurd hop (by
      have : dOpcode y.desc = 2 ∨ dOpcode y.desc = 4 := by simpa [dOpcode] using hwrites
      omega)

end Sys2Proof.Machine
end

section
/-! SUPPORT. A record of the Logbook, and a change of what protection depends on (04: R69, R70, R75, R93; 16: R363, R378): what each
reaches, and the write states it leaves. -/

namespace Sys2Proof.Machine

/-! ### A record -/

/-- `t` differs from `s` at most in what a record reaches: the Logbook, the notifications of the last second, the decisions that the
Towpath holds, the trace. -/
def Logged (s t : Part) : Prop :=
  t = { s with log := t.log, dict := { s.dict with notified := t.dict.notified }, out := t.out
               tow := { s.tow with heldLog := t.tow.heldLog, heldOver := t.tow.heldOver } }

theorem Logged.refl (s : Part) : Logged s s := rfl

theorem Logged.trans {s t u : Part} (h : Logged s t) (h' : Logged t u) : Logged s u :=
  calc u = _ := h'
    _ = _ := by rw [h]

theorem notify_logged (r : LogRec) (s : Part) : Logged s (notify r s) := by
  unfold notify
  simp only []
  split
  · split <;> split <;> rfl
  · rfl

theorem Logged.setLog (s : Part) (g : LogSt) : Logged s { s with log := g } := rfl

theorem logEvent_logged (e : LogEv) (s : Part) : Logged s (logEvent e s) := by
  have haccept : ∀ late, Logged s (logAccept late e s) := fun late => by
    unfold logAccept
    simp only []
    split
    · exact (Logged.setLog s _).trans (notify_logged _ _)
    · rfl
  unfold logEvent holdLog
  split
  · exact haccept _
  · split
    · split <;> rfl
    · rfl

theorem log_logged (code inst : Nat) (d : Bytes) (s : Part) : Logged s (log code inst d s) := logEvent_logged _ s

theorem noted_logged (ss rule item : Nat) (d : Bytes) (s : Part) : Logged s (noted ss rule item d s) := logEvent_logged _ s

/-! ### The transactions that a pool's protection takes with it -/

theorem WithinTx.refl (s : Part) : WithinTx s s := rfl

theorem WithinTx.foldl {α : Type} {op : Part → α → Part} (h : ∀ s x, WithinTx s (op s x)) (l : List α) :
    ∀ s, WithinTx s (l.foldl op s) := by
  induction l with
  | nil => exact WithinTx.refl
  | cons x l ih => exact fun s => (h s x).trans (ih _)

theorem txLosesProtection_withinTx (c tag : Nat) (s : Part) : WithinTx s (txLosesProtection c tag s) := by
  have hends : WithinTx s (endTxWrites c tag 0x42 (releaseTxBlocks c tag s)) :=
    (releaseTxBlocks_releases c tag s).1.withinTx.trans (WithinCompletion.foldl_complete c 0x42 _ _).withinTx
  unfold txLosesProtection
  simp only []
  split
  · exact (hends.trans (complete_within ..).withinTx).trans (Part.modChain_withinCompletion ..).withinTx
  · exact hends.trans (Part.modChain_withinCompletion ..).withinTx

theorem poolTxsLose_withinTx (p : Nat) (s : Part) : WithinTx s (poolTxsLose p s) :=
  WithinTx.foldl (fun st (x : Nat × Nat) => txLosesProtection_withinTx x.1 x.2 st) _ s

/-! ### Protection is decided anew -/

/-- `t` differs from `s` at most in what a fresh decision on protection reaches: ADMIT_STATE, the Manifest and the transactions
that lose protection with their completions, the pools, and the record of it. -/
def Reprotected (s t : Part) : Prop :=
  t = { s with sched := { s.sched with admitState := t.sched.admitState }, man := t.man, chains := t.chains, fn0 := t.fn0, fn1 := t.fn1
               pools := t.pools, vols := t.vols, log := t.log, dict := { s.dict with notified := t.dict.notified }, out := t.out
               tow := { s.tow with heldLog := t.tow.heldLog, heldOver := t.tow.heldOver } }

theorem Reprotected.refl (s : Part) : Reprotected s s := rfl

theorem Reprotected.trans {s t u : Part} (h : Reprotected s t) (h' : Reprotected t u) : Reprotected s u :=
  calc u = _ := h'
    _ = _ := by rw [h]

theorem Reprotected.foldl {α : Type} {op : Part → α → Part} (h : ∀ s x, Reprotected s (op s x)) (l : List α) :
    ∀ s, Reprotected s (l.foldl op s) := by
  induction l with
  | nil => exact Reprotected.refl
  | cons x l ih => exact fun s => (h s x).trans (ih _)

theorem Logged.reprotected {s t : Part} (h : Logged s t) : Reprotected s t :=
  calc t = _ := h
    _ = _ := by rw [h]

theorem WithinTx.reprotected {s t : Part} (h : WithinTx s t) : Reprotected s t :=
  calc t = _ := h
    _ = _ := by rw [h]

theorem Reprotected.modPool (s : Part) (p : Nat) (g : PoolSt → PoolSt) : Reprotected s (s.modPool p g) := rfl

theorem Reprotected.admitState (s : Part) (n : Nat) : Reprotected s (s.modSched (fun x => { x with admitState := n })) := rfl

theorem refreshAdmitState_reprotected (s : Part) : Reprotected s (refreshAdmitState s) := by
  unfold refreshAdmitState
  simp only []
  split
  · rfl
  · exact (Reprotected.admitState s _).trans (log_logged _ _ _ _).reprotected

theorem setWriteState_reprotected (p new row : Nat) (s : Part) : Reprotected s (setWriteState p new row s) := by
  unfold setWriteState
  split
  · rfl
  · split
    · rfl
    · simp only []
      have hlogged := fun g d => (Reprotected.modPool s p g).trans (log_logged 0x0501 p d _).reprotected
      split
      · exact (hlogged _ _).trans (poolTxsLose_withinTx p _).reprotected
      · exact hlogged _ _

theorem loseProtection_reprotected (p : Nat) (s : Part) : Reprotected s (loseProtection p s) := rfl

/-- One pool's write state follows what protection it has. -/
def refreshWriteState (st : Part) (p : PoolSt) : Part :=
  match st.pool? p.id with
  | some ps =>
    let w := wantedWriteState st ps
    let st := setWriteState p.id w.1 w.2 st
    if protected? st ps then st else loseProtection p.id st
  | none => st

theorem refreshWriteStates_eq (s : Part) :
    refreshWriteStates s = (s.pools.filter (fun p => p.life != 0)).foldl refreshWriteState s := rfl

theorem refreshWriteState_reprotected (s : Part) (p : PoolSt) : Reprotected s (refreshWriteState s p) := by
  unfold refreshWriteState
  split
  · simp only []
    split
    · exact setWriteState_reprotected ..
    · exact (setWriteState_reprotected ..).trans (loseProtection_reprotected ..)
  · rfl

theorem refreshWriteStates_reprotected (s : Part) : Reprotected s (refreshWriteStates s) :=
  Reprotected.foldl refreshWriteState_reprotected _ s

theorem refreshProtection_reprotected (s : Part) : Reprotected s (refreshProtection s) :=
  (refreshAdmitState_reprotected s).trans (refreshWriteStates_reprotected _)

/-! ### The write states it leaves -/

theorem Part.pool?_congr {s t : Part} (h : t.pools = s.pools) (k : Nat) : t.pool? k = s.pool? k := by
  rw [Part.pool?, h]
  rfl

theorem setWriteState_pools {p : Nat} {s : Part} {ps : PoolSt} (h : s.pool? p = some ps) {new : Nat} (hnew : ps.writeState ≠ new)
    (row : Nat) : (setWriteState p new row s).pools = (s.modPool p (fun x => { x with
      writeState := new, ckpt := if new = 2 ∨ x.writeState = 2 then x.ckpt else x.ckpt.addDue 5 })).pools := by
  unfold setWriteState
  simp only [h, hnew, if_false]
  split
  · rw [poolTxsLose_withinTx]
    simp
  · simp

theorem setWriteState_pool? {p : Nat} {s : Part} {ps : PoolSt} (h : s.pool? p = some ps) (new row : Nat) :
    (∃ z, (setWriteState p new row s).pool? p = some z ∧ z.writeState = new) ∧
    ∀ k, k ≠ p → (setWriteState p new row s).pool? k = s.pool? k := by
  by_cases hnew : ps.writeState = new
  · have hsame : setWriteState p new row s = s := by simp [setWriteState, h, hnew]
    rw [hsame]
    exact ⟨⟨ps, h, hnew⟩, fun _ _ => rfl⟩
  · refine ⟨?_, fun k hk => ?_⟩
    · rw [Part.pool?_congr (setWriteState_pools h hnew row), Part.modPool_pool?, h]
      · exact ⟨_, rfl, rfl⟩
      · exact fun _ => rfl
    · rw [Part.pool?_congr (setWriteState_pools h hnew row), Part.modPool_pool?_ne]
      · exact fun _ => rfl
      · exact hk

theorem refreshWriteState_pool? {s : Part} {p ps : PoolSt} (h : s.pool? p.id = some ps) :
    (∃ z, (refreshWriteState s p).pool? p.id = some z ∧ z.writeState = (wantedWriteState s ps).1) ∧
    ∀ k, k ≠ p.id → (refreshWriteState s p).pool? k = s.pool? k := by
  have hpools : (refreshWriteState s p).pools = (setWriteState p.id (wantedWriteState s ps).1 (wantedWriteState s ps).2 s).pools := by
    unfold refreshWriteState
    simp only [h]
    split <;> rfl
  simp only [Part.pool?_congr hpools]
  exact setWriteState_pool? h _ _

/-- Where every decision that may come gives a write state in `P`, each pool in use is in one. -/
theorem refreshWriteStates_reach {s : Part} {P : Nat → Prop} (hwant : ∀ t ps, Reprotected s t → P (wantedWriteState t ps).1) {k : Nat}
    {y : PoolSt} (hy : s.pool? k = some y) (hlife : y.life ≠ 0) :
    ∃ z, (refreshWriteStates s).pool? k = some z ∧ P z.writeState := by
  have hfold : ∀ (l : List PoolSt) (t : Part), Reprotected s t → (∃ z, t.pool? k = some z ∧ (k ∈ l.map (·.id) ∨ P z.writeState)) →
      ∃ z, (l.foldl refreshWriteState t).pool? k = some z ∧ P z.writeState := by
    intro l
    induction l with
    | nil =>
      rintro t - ⟨z, hz, hstate⟩
      exact ⟨z, hz, by simpa using hstate⟩
    | cons p l ih =>
      rintro t ht ⟨z, hz, hstate⟩
      refine ih _ (ht.trans (refreshWriteState_reprotected t p)) ?_
      by_cases hk : k = p.id
      · subst hk
        obtain ⟨⟨w, hw, hnew⟩, -⟩ := refreshWriteState_pool? hz
        exact ⟨w, hw, .inr (hnew ▸ hwant t z ht)⟩
      · cases hp : t.pool? p.id with
        | none =>
          have hsame : refreshWriteState t p = t := by simp [refreshWriteState, hp]
          exact ⟨z, by rw [hsame]; exact hz, by simpa [hk] using hstate⟩
        | some ps => exact ⟨z, ((refreshWriteState_pool? hp).2 k hk).trans hz, by simpa [hk] using hstate⟩
  rw [refreshWriteStates_eq]
  refine hfold _ s rfl ⟨y, hy, .inl (List.mem_map.mpr ⟨y, ?_, Part.pool?_id hy⟩)⟩
  exact List.mem_filter.mpr ⟨List.mem_of_find?_eq_some hy, by simpa using hlife⟩

theorem refreshAdmitState_pools (s : Part) : (refreshAdmitState s).pools = s.pools := by
  by_cases h : admitStateOf s = s.sched.admitState
  · rw [refreshAdmitState, if_pos h]
  · rw [refreshAdmitState, if_neg h]
    simp

theorem refreshProtection_reach {s : Part} {P : Nat → Prop} (hwant : ∀ t ps, Reprotected s t → P (wantedWriteState t ps).1) {k : Nat}
    {y : PoolSt} (hy : s.pool? k = some y) (hlife : y.life ≠ 0) :
    ∃ z, (refreshProtection s).pool? k = some z ∧ P z.writeState :=
  refreshWriteStates_reach (fun t ps ht => hwant t ps ((refreshAdmitState_reprotected s).trans ht))
    ((Part.pool?_congr (refreshAdmitState_pools s) k).trans hy) hlife

end Sys2Proof.Machine
end

section
/-! SUPPORT. Brace, dumps and the thresholds (04: R69, R70; 13: R316, R319, R327 to R333), with the statement of
`BracesAndDumpsFollowTheInput`. -/

namespace Sys2Proof.Machine

/-! ### What these steps reach -/

/-- `t` differs from `s` at most in what a decision on admission and protection reaches. -/
def WithinDecision (s t : Part) : Prop :=
  t = { s with sched := t.sched, man := t.man, chains := t.chains, fn0 := t.fn0, fn1 := t.fn1, pools := t.pools, vols := t.vols
               tow := t.tow, dict := t.dict, log := t.log, out := t.out }

/-- … and the calibration that ends with it. -/
def WithinBrace (s t : Part) : Prop :=
  t = { s with sched := t.sched, man := t.man, chains := t.chains, fn0 := t.fn0, fn1 := t.fn1, pools := t.pools, vols := t.vols
               tow := t.tow, cal := t.cal, dict := t.dict, log := t.log, out := t.out }

/-- … or the dump path. -/
def WithinDumpPath (s t : Part) : Prop :=
  t = { s with sched := t.sched, man := t.man, chains := t.chains, fn0 := t.fn0, fn1 := t.fn1, pools := t.pools, vols := t.vols
               pair := t.pair, tow := t.tow, dump := t.dump, dict := t.dict, log := t.log, out := t.out }

/-- All that the start of a dump reaches. -/
def WithinDump (s t : Part) : Prop :=
  t = { s with islands := t.islands, sched := t.sched, man := t.man, chains := t.chains, fn0 := t.fn0, fn1 := t.fn1, pools := t.pools
               vols := t.vols, toll := t.toll, pair := t.pair, tow := t.tow, dump := t.dump, cal := t.cal, dict := t.dict, log := t.log
               out := t.out }

theorem WithinDecision.trans {s t u : Part} (h : WithinDecision s t) (h' : WithinDecision t u) : WithinDecision s u :=
  calc u = _ := h'
    _ = _ := by rw [h]

theorem WithinBrace.trans {s t u : Part} (h : WithinBrace s t) (h' : WithinBrace t u) : WithinBrace s u :=
  calc u = _ := h'
    _ = _ := by rw [h]

theorem WithinDumpPath.trans {s t u : Part} (h : WithinDumpPath s t) (h' : WithinDumpPath t u) : WithinDumpPath s u :=
  calc u = _ := h'
    _ = _ := by rw [h]

theorem WithinDump.trans {s t u : Part} (h : WithinDump s t) (h' : WithinDump t u) : WithinDump s u :=
  calc u = _ := h'
    _ = _ := by rw [h]

theorem Reprotected.withinDecision {s t : Part} (h : Reprotected s t) : WithinDecision s t :=
  calc t = _ := h
    _ = _ := by rw [h]

theorem WithinDecision.withinBrace {s t : Part} (h : WithinDecision s t) : WithinBrace s t :=
  calc t = _ := h
    _ = _ := by rw [h]

theorem WithinDecision.withinDumpPath {s t : Part} (h : WithinDecision s t) : WithinDumpPath s t :=
  calc t = _ := h
    _ = _ := by rw [h]

theorem WithinBrace.withinDump {s t : Part} (h : WithinBrace s t) : WithinDump s t :=
  calc t = _ := h
    _ = _ := by rw [h]

theorem WithinDumpPath.withinDump {s t : Part} (h : WithinDumpPath s t) : WithinDump s t :=
  calc t = _ := h
    _ = _ := by rw [h]

theorem Part.modTow_withinDecision (s : Part) (g : TowSt → TowSt) : WithinDecision s (s.modTow g) := rfl
theorem Part.modSched_withinDecision (s : Part) (g : SchedSt → SchedSt) : WithinDecision s (s.modSched g) := rfl
theorem Part.modMan_withinDecision (s : Part) (g : ManifestSt → ManifestSt) : WithinDecision s (s.modMan g) := rfl

theorem Part.modDump_withinDumpPath (s : Part) (g : DumpSt → DumpSt) : WithinDumpPath s (s.modDump g) := rfl

/-- What a fresh decision on protection keeps of the scheduler, the Towpath and the paths. -/
theorem Reprotected.keeps {s t : Part} (h : Reprotected s t) :
    t.sched = { s.sched with admitState := t.sched.admitState } ∧
    t.tow = { s.tow with heldLog := t.tow.heldLog, heldOver := t.tow.heldOver } ∧ t.cal = s.cal ∧ t.dump = s.dump ∧ t.pair = s.pair ∧
    t.islands = s.islands := by
  refine ⟨?_, ?_, ?_, ?_, ?_, ?_⟩ <;> rw [h]

theorem Reprotected.objs {s t : Part} (h : Reprotected s t) : t.dict.objs = s.dict.objs := by
  rw [h]

/-! ### What brace and a dump end (R326, R343) -/

/-- `t` differs from `s` at most in what the end of a calibration and of a capacity test reaches. -/
def WithinTests (s t : Part) : Prop :=
  t = { s with cal := t.cal, log := t.log, dict := { s.dict with notified := t.dict.notified }, out := t.out
               tow := { s.tow with flags := t.tow.flags, storeTest := t.tow.storeTest, chgEn := t.tow.chgEn, testDue := t.tow.testDue
                                   store := t.tow.store, heldLog := t.tow.heldLog, heldOver := t.tow.heldOver } }

theorem WithinTests.trans {s t u : Part} (h : WithinTests s t) (h' : WithinTests t u) : WithinTests s u :=
  calc u = _ := h'
    _ = _ := by rw [h]

theorem Logged.withinTests {s t : Part} (h : Logged s t) : WithinTests s t :=
  calc t = _ := h
    _ = _ := by rw [h]

theorem Part.modCal_withinTests (s : Part) (g : CalSt → CalSt) : WithinTests s (s.modCal g) := rfl

theorem clearStale_withinTests (s : Part) : WithinTests s (clearStale s) := rfl

theorem recordCal_withinTests (outcome : Nat) (runs : Option CalRuns) (s : Part) : WithinTests s (recordCal outcome runs s) :=
  (Part.modCal_withinTests s _).trans (log_logged ..).withinTests

theorem recordCal_storeTest (outcome : Nat) (runs : Option CalRuns) (s : Part) :
    (recordCal outcome runs s).tow.storeTest = s.tow.storeTest := by
  unfold recordCal
  simp only []
  rw [log_logged]
  rfl

theorem abandonCal_ends (s : Part) : WithinTests s (abandonCal s) ∧ (abandonCal s).cal.state ≠ 1 ∧
    (abandonCal s).tow.storeTest = s.tow.storeTest := by
  unfold abandonCal
  split
  · next hrun =>
    refine ⟨((recordCal_withinTests 7 none s).trans (Part.modCal_withinTests ..)).trans (clearStale_withinTests _), ?_,
      recordCal_storeTest 7 none s⟩
    simp only [clearStale, Part.modTow_fields, Part.modCal_fields]
    split <;> decide
  · next hrest => exact ⟨rfl, hrest, rfl⟩

theorem endStoreTest_ends (s : Part) : WithinTests s (endStoreTest s) ∧ (endStoreTest s).cal = s.cal ∧
    (endStoreTest s).tow.storeTest = false := by
  unfold endStoreTest
  split
  · exact ⟨rfl, rfl, rfl⟩
  · next hidle => exact ⟨rfl, rfl, by simpa using fun h => hidle (.inr h)⟩

/-- Before a brace or a dump, the calibration and the capacity test are over. -/
theorem testsEnd (s : Part) : WithinTests s (endStoreTest (abandonCal s)) ∧ (endStoreTest (abandonCal s)).cal.state ≠ 1 ∧
    (endStoreTest (abandonCal s)).tow.storeTest = false := by
  obtain ⟨hcal, hrest, -⟩ := abandonCal_ends s
  obtain ⟨htest, hsame, hidle⟩ := endStoreTest_ends (abandonCal s)
  exact ⟨hcal.trans htest, hsame ▸ hrest, hidle⟩

theorem WithinTests.withinBrace {s t : Part} (h : WithinTests s t) : WithinBrace s t :=
  calc t = _ := h
    _ = _ := by rw [h]

theorem WithinTests.keeps {s t : Part} (h : WithinTests s t) : t.tow.sense = s.tow.sense ∧ t.tow.braceCount = s.tow.braceCount ∧
    t.tow.power = s.tow.power ∧ t.pools = s.pools ∧ t.sched = s.sched ∧ t.dump = s.dump ∧ t.pair = s.pair ∧ t.islands = s.islands ∧
    t.man = s.man ∧ t.dict.objs = s.dict.objs ∧ t.chains = s.chains := by
  refine ⟨?_, ?_, ?_, ?_, ?_, ?_, ?_, ?_, ?_, ?_, ?_⟩ <;> rw [h]

/-! ### Brace (R327) -/

theorem wantedWriteState_braced {s t : Part} (h : Reprotected s t) (hbrace : s.sched.brace = true) (ps : PoolSt) :
    (wantedWriteState t ps).1 = 2 := by
  have hsched : t.sched.brace = true := by rw [h.keeps.1]; exact hbrace
  simp [wantedWriteState, hsched]

theorem wantedWriteState_free {s t : Part} (h : Reprotected s t) (hbrace : s.sched.brace = false) (hthaw : s.sched.frozen = false)
    (ps : PoolSt) : (wantedWriteState t ps).1 = if protectionRow t ps = 0 then 0 else 1 := by
  have hsched : t.sched.brace = false ∧ t.sched.frozen = false := by rw [h.keeps.1]; exact ⟨hbrace, hthaw⟩
  simp [wantedWriteState, hsched]

/-- The part as brace is decided, before the pools follow. -/
def braceBegun (mv : Nat) (s : Part) : Part :=
  (endStoreTest (abandonCal ((log 0x1301 0 (leBytes 1 0 ++ leBytes 4 mv) s).modTow (fun t => { t with
    braceCount := t.braceCount + 1, power := if t.power ≤ 2 then 2 else t.power })))).modSched (fun x => { x with brace := true })

theorem enterBrace_eq (mv : Nat) {s : Part} (h : s.sched.brace = false) : enterBrace mv s = refreshProtection (braceBegun mv s) := by
  simp [enterBrace, h, braceBegun]

/-- What brace makes of a part. -/
structure Braced (s t : Part) : Prop where
  brace : t.sched.brace = true
  sense : t.tow.sense = s.tow.sense
  counted : t.tow.braceCount = s.tow.braceCount + 1
  power : t.tow.power = if s.tow.power ≤ 2 then 2 else s.tow.power
  storeTest : t.tow.storeTest = false
  cal : t.cal.state ≠ 1
  held : ∀ k y, s.pool? k = some y → y.life ≠ 0 → ∃ z, t.pool? k = some z ∧ z.writeState = 2
  objs : t.dict.objs = s.dict.objs
  within : WithinBrace s t

theorem braceBegun_braces (mv : Nat) (s : Part) : (braceBegun mv s).sched.brace = true ∧
    (braceBegun mv s).tow.sense = s.tow.sense ∧ (braceBegun mv s).tow.braceCount = s.tow.braceCount + 1 ∧
    (braceBegun mv s).tow.power = (if s.tow.power ≤ 2 then 2 else s.tow.power) ∧ (braceBegun mv s).pools = s.pools ∧
    (braceBegun mv s).dict.objs = s.dict.objs := by
  have hlog := log_logged 0x1301 0 (leBytes 1 0 ++ leBytes 4 mv) s
  revert hlog
  unfold braceBegun
  generalize log 0x1301 0 (leBytes 1 0 ++ leBytes 4 mv) s = u
  intro hlog
  obtain ⟨hsense, hcount, hpower, hpools, -, -, -, -, -, hobjs, -⟩ := (testsEnd (u.modTow (fun t => { t with
    braceCount := t.braceCount + 1, power := if t.power ≤ 2 then 2 else t.power }))).1.keeps
  simp only [Part.modSched_fields, hsense, hcount, hpower, hpools, hobjs, Part.modTow_fields]
  refine ⟨trivial, ?_, ?_, ?_, ?_, ?_⟩ <;> rw [hlog]

theorem braceBegun_ends (mv : Nat) (s : Part) : (braceBegun mv s).tow.storeTest = false ∧ (braceBegun mv s).cal.state ≠ 1 ∧
    WithinBrace s (braceBegun mv s) := by
  obtain ⟨htests, hcal, hidle⟩ := testsEnd ((log 0x1301 0 (leBytes 1 0 ++ leBytes 4 mv) s).modTow (fun t => { t with
    braceCount := t.braceCount + 1, power := if t.power ≤ 2 then 2 else t.power }))
  have hlog : WithinDecision s (log 0x1301 0 (leBytes 1 0 ++ leBytes 4 mv) s) := (log_logged ..).reprotected.withinDecision
  exact ⟨hidle, hcal, ((hlog.trans (Part.modTow_withinDecision ..)).withinBrace.trans htests.withinBrace).trans
    (Part.modSched_withinDecision ..).withinBrace⟩

theorem enterBrace_braced (mv : Nat) {s : Part} (h : s.sched.brace = false) : Braced s (enterBrace mv s) := by
  rw [enterBrace_eq mv h]
  obtain ⟨hbrace, hsense, hcount, hpower, hpools, hobjs⟩ := braceBegun_braces mv s
  obtain ⟨htest, hcal, hwithin⟩ := braceBegun_ends mv s
  have hre := refreshProtection_reprotected (braceBegun mv s)
  obtain ⟨hsched, htow, hcals, -, -, -⟩ := hre.keeps
  exact {
    brace := by rw [hsched]; exact hbrace
    sense := by rw [htow]; exact hsense
    counted := by rw [htow]; exact hcount
    power := by rw [htow]; exact hpower
    storeTest := by rw [htow]; exact htest
    cal := by rw [hcals]; exact hcal
    held := fun k y hy hlife => refreshProtection_reach (P := (· = 2)) (fun t ps ht => wantedWriteState_braced ht hbrace ps)
      ((Part.pool?_congr hpools k).trans hy) hlife
    objs := hre.objs.trans hobjs
    within := hwithin.trans hre.withinDecision.withinBrace }

/-- The part as brace is given up, before the pools follow. -/
def braceEnded (mv : Nat) (s : Part) : Part :=
  ((log 0x1301 0 (leBytes 1 1 ++ leBytes 4 mv) s).modTow (fun t => { t with power := if t.power = 2 then 0 else t.power })).modSched
    (fun x => { x with brace := false })

theorem leaveBrace_eq (mv : Nat) {s : Part} (h : s.sched.brace = true) : leaveBrace mv s = refreshProtection (braceEnded mv s) := by
  simp [leaveBrace, h, braceEnded]

theorem braceEnded_ends (mv : Nat) (s : Part) : (braceEnded mv s).sched = { s.sched with brace := false } ∧
    (braceEnded mv s).tow.sense = s.tow.sense ∧ (braceEnded mv s).tow.power = (if s.tow.power = 2 then 0 else s.tow.power) ∧
    (braceEnded mv s).pools = s.pools := by
  have hlog := log_logged 0x1301 0 (leBytes 1 1 ++ leBytes 4 mv) s
  revert hlog
  unfold braceEnded
  generalize log 0x1301 0 (leBytes 1 1 ++ leBytes 4 mv) s = u
  intro hlog
  simp only [Part.modSched_fields, Part.modTow_fields]
  refine ⟨?_, ?_, ?_, ?_⟩ <;> rw [hlog]

theorem leaveBrace_releases (mv : Nat) {s : Part} (h : s.sched.brace = true) : (leaveBrace mv s).tow.sense = s.tow.sense ∧
    (leaveBrace mv s).sched.brace = false ∧ (leaveBrace mv s).tow.power = (if s.tow.power = 2 then 0 else s.tow.power) ∧
    (s.sched.frozen = false → ∀ k y, s.pool? k = some y → y.life ≠ 0 → ∃ z, (leaveBrace mv s).pool? k = some z ∧ z.writeState ≠ 2) ∧
    WithinDecision s (leaveBrace mv s) := by
  rw [leaveBrace_eq mv h]
  obtain ⟨hsched, hsense, hpower, hpools⟩ := braceEnded_ends mv s
  have hre := refreshProtection_reprotected (braceEnded mv s)
  obtain ⟨hscheds, htow, -, -, -, -⟩ := hre.keeps
  have hbrace : (braceEnded mv s).sched.brace = false := by rw [hsched]
  refine ⟨?_, ?_, ?_, fun hthaw k y hy hlife => ?_, ?_⟩
  · rw [htow]
    exact hsense
  · rw [hscheds]
    exact hbrace
  · rw [htow]
    exact hpower
  · have hfrozen : (braceEnded mv s).sched.frozen = false := by rw [hsched]; exact hthaw
    refine refreshProtection_reach (P := (· ≠ 2)) (fun t ps ht => ?_) ((Part.pool?_congr hpools k).trans hy) hlife
    rw [wantedWriteState_free ht hbrace hfrozen]
    split <;> decide
  · have hlog : WithinDecision s (log 0x1301 0 (leBytes 1 1 ++ leBytes 4 mv) s) := (log_logged ..).reprotected.withinDecision
    exact ((hlog.trans (Part.modTow_withinDecision ..)).trans (Part.modSched_withinDecision ..)).trans hre.withinDecision

theorem protectionRow_unhealthy {s : Part} (h : s.sched.badChannels ≠ []) (p : PoolSt) : protectionRow s p = 1 := by
  simp [protectionRow, h]

/-! ### A dump starts (R329, Table 13.5) -/

theorem advanceUnpaired_only (s : Part) : advanceUnpaired s = { s with man := (advanceUnpaired s).man } := by
  have hfold : ∀ (n : Nat) (l : List PoolSt) (u : Part), ManifestOnly u (l.foldl (fun st p => st.setMark p.id n) u) := by
    intro n l
    induction l with
    | nil => exact fun _ => rfl
    | cons p l ih =>
      intro u
      have hmark : ManifestOnly u (u.setMark p.id n) := by
        unfold Part.setMark
        split <;> rfl
      exact hmark.trans (ih _)
  exact hfold ..

theorem sealEarly_only (s : Part) : sealEarly s =
    { s with man := (sealEarly s).man, sched := { s.sched with tideNow := s.sched.tideNow + 1 } } := by
  unfold sealEarly
  rw [advanceUnpaired_only]
  rfl

theorem useIsland_withinDump (i : Island) (s : Part) : WithinDump s (useIsland i s) := by
  rw [useIsland_only]
  rfl

theorem sealEarly_withinDecision (s : Part) : WithinDecision s (sealEarly s) := by
  rw [sealEarly_only]
  rfl

theorem changePaths_only (g : PairSt → PairSt) (s : Part) : changePaths g s = { s with
    pair := (changePaths g s).pair, log := (changePaths g s).log, out := (changePaths g s).out
    dict := { s.dict with notified := (changePaths g s).dict.notified }
    tow := { s.tow with heldLog := (changePaths g s).tow.heldLog, heldOver := (changePaths g s).tow.heldOver } } := by
  unfold changePaths
  extract_lets old new state alarm renewed s1
  split
  · rfl
  · have hlog := log_logged 0x1101 0 (leBytes 1 renewed.pathBits ++ leBytes 1 renewed.state) s1
    revert hlog
    generalize log 0x1101 0 (leBytes 1 renewed.pathBits ++ leBytes 1 renewed.state) s1 = u
    intro hlog
    calc u = _ := hlog
      _ = _ := by rw [hlog]

theorem changePaths_lost (g : PairSt → PairSt) (s : Part) : (changePaths g s).pair.path1Lost = (g s.pair).path1Lost ∧
    (changePaths g s).pair.path2Lost = (g s.pair).path2Lost := by
  unfold changePaths
  extract_lets old new state alarm renewed s1
  split
  · exact ⟨rfl, rfl⟩
  · rw [log_logged]
    exact ⟨rfl, rfl⟩

theorem powerDowns_withinDump (l : List Island) : ∀ s : Part, WithinDump s (l.foldl (fun st i => powerDown i st) s) := by
  induction l with
  | nil => exact fun _ => rfl
  | cons i l ih =>
    intro s
    have hdown : WithinDump s (powerDown i s) := by
      rw [powerDown_only]
      rfl
    exact hdown.trans (ih _)

/-- The part with its admission stopped and the store under load (Table 13.5 step 1). -/
def dumpStopped (cause : Nat) (s : Part) : Part :=
  ((useIsland .d (log 0x1302 0 (leBytes 1 cause ++ leBytes 4 (s.senseAt 0).toNat ++ leBytes 4 s.tow.energyMj)
    (endStoreTest (abandonCal s)))).modTow (fun t => { t with dumpActive := true, chgEn := false, power := 3 })).modSched
    (fun x => { x with stopped := true, resetting := false })

/-- … with the tide sealed and the chains recorded (step 2). -/
def dumpSealed (cause : Nat) (s : Part) : Part :=
  let u := sealEarly (dumpStopped cause s)
  u.modMan (fun m => { m with chainRecs := chainRecords u, txRecs := u.chains.flatMap (fun c => c.txs.map (fun t => (c.id, t))) })

/-- … with the image numbered (step 3). -/
def dumpImaged (cause : Nat) (s : Part) : Part :=
  let i := newImage cause (dumpSealed cause s)
  (dumpSealed cause s).modDump (fun d => { d with state := 3, seq := i.seq, running := some i, lostNow := [] })

def PairSt.down (x : PairSt) : PairSt := { x with path1Lost := true, path2Lost := true, txIdle := true }

/-- … and both paths down. -/
def dumpNumbered (cause : Nat) (s : Part) : Part := changePaths PairSt.down (dumpImaged cause s)

theorem startDump_eq (cause : Nat) (s : Part) : startDump cause s =
    refreshProtection (dumpSleepers.foldl (fun st i => powerDown i st) (dumpNumbered cause s)) := rfl

theorem dumpStopped_stops (cause : Nat) (s : Part) : (dumpStopped cause s).dump = s.dump ∧ (dumpStopped cause s).tow.power = 3 ∧
    (dumpStopped cause s).tow.dumpActive = true ∧ (dumpStopped cause s).tow.chgEn = false ∧
    (dumpStopped cause s).sched.stopped = true ∧ (dumpStopped cause s).sched.resetting = false ∧
    (dumpStopped cause s).dict.objs = s.dict.objs ∧ (dumpStopped cause s).sched.brace = s.sched.brace ∧ WithinDump s (dumpStopped cause s) := by
  obtain ⟨htests, -, -⟩ := testsEnd s
  obtain ⟨-, -, -, -, hsched, hdump, -, -, -, hobjs, -⟩ := htests.keeps
  have hlog := log_logged 0x1302 0 (leBytes 1 cause ++ leBytes 4 (s.senseAt 0).toNat ++ leBytes 4 s.tow.energyMj)
    (endStoreTest (abandonCal s))
  revert hlog
  unfold dumpStopped
  generalize log 0x1302 0 (leBytes 1 cause ++ leBytes 4 (s.senseAt 0).toNat ++ leBytes 4 s.tow.energyMj)
    (endStoreTest (abandonCal s)) = u
  intro hlog
  have hu : u.dump = s.dump ∧ u.dict.objs = s.dict.objs ∧ u.sched = s.sched := by
    rw [hlog]
    exact ⟨hdump, hobjs, hsched⟩
  have hwithin : WithinDump s u := htests.withinBrace.withinDump.trans hlog.reprotected.withinDecision.withinBrace.withinDump
  have hlast := (Part.modTow_withinDecision (useIsland .d u) (fun t => { t with dumpActive := true, chgEn := false, power := 3 })).trans
    (Part.modSched_withinDecision _ (fun x => { x with stopped := true, resetting := false }))
  have hd : (useIsland .d u).dump = u.dump ∧ (useIsland .d u).dict = u.dict ∧ (useIsland .d u).sched = u.sched := by
    rw [useIsland_only]
    exact ⟨rfl, rfl, rfl⟩
  refine ⟨?_, rfl, rfl, rfl, rfl, rfl, ?_, ?_, (hwithin.trans (useIsland_withinDump .d u)).trans hlast.withinBrace.withinDump⟩
  · exact hd.1.trans hu.1
  · exact (congrArg DictSt.objs hd.2.1).trans hu.2.1
  · exact (congrArg SchedSt.brace hd.2.2).trans (congrArg SchedSt.brace hu.2.2)

theorem dumpSealed_only (cause : Nat) (s : Part) : dumpSealed cause s = { dumpStopped cause s with
    man := (dumpSealed cause s).man, sched := { (dumpStopped cause s).sched with tideNow := (dumpStopped cause s).sched.tideNow + 1 } } := by
  unfold dumpSealed
  simp only []
  rw [sealEarly_only]
  rfl

/-- What the start of a dump makes of a part. -/
structure DumpStarted (cause : Nat) (s t : Part) : Prop where
  state : t.dump.state = 3
  seq : t.dump.seq = s.dump.seq + 1
  lost : t.dump.lostNow = []
  image : ∃ g, t.dump.running = some g ∧ g.seq = s.dump.seq + 1 ∧ g.cause = cause ∧ g.complete = false
  power : t.tow.power = 3
  active : t.tow.dumpActive = true
  charger : t.tow.chgEn = false
  stopped : t.sched.stopped = true
  resetting : t.sched.resetting = false
  path1 : t.pair.path1Lost = true
  path2 : t.pair.path2Lost = true
  asleep : ∀ n ∈ dumpSleepers, (t.island n).powered = false
  brace : t.sched.brace = s.sched.brace
  objs : t.dict.objs = s.dict.objs
  within : WithinDump s t

theorem dumpSealed_seals (cause : Nat) (s : Part) : (dumpSealed cause s).dump = s.dump ∧ (dumpSealed cause s).tow.power = 3 ∧
    (dumpSealed cause s).tow.dumpActive = true ∧ (dumpSealed cause s).tow.chgEn = false ∧
    (dumpSealed cause s).sched.stopped = true ∧ (dumpSealed cause s).sched.resetting = false ∧
    (dumpSealed cause s).dict.objs = s.dict.objs ∧ (dumpSealed cause s).sched.brace = s.sched.brace ∧ WithinDump s (dumpSealed cause s) := by
  obtain ⟨hdump, hpower, hactive, hcharger, hstop, hreset, hobjs, hbrace, hwithin⟩ := dumpStopped_stops cause s
  have hsealed := (sealEarly_withinDecision (dumpStopped cause s)).trans (Part.modMan_withinDecision _ (fun m => { m with
    chainRecs := chainRecords (sealEarly (dumpStopped cause s))
    txRecs := (sealEarly (dumpStopped cause s)).chains.flatMap (fun c => c.txs.map (fun t => (c.id, t))) }))
  refine ⟨?_, ?_, ?_, ?_, ?_, ?_, ?_, ?_, hwithin.trans hsealed.withinBrace.withinDump⟩ <;> rw [dumpSealed_only]
  · exact hdump
  · exact hpower
  · exact hactive
  · exact hcharger
  · exact hstop
  · exact hreset
  · exact hobjs
  · exact hbrace

theorem changePaths_withinDump (g : PairSt → PairSt) (s : Part) : WithinDump s (changePaths g s) :=
  calc changePaths g s = _ := changePaths_only g s
    _ = _ := by rw [changePaths_only]

theorem dumpNumbered_starts (cause : Nat) (s : Part) : ∃ i : DumpImage, i.seq = s.dump.seq + 1 ∧ i.cause = cause ∧ i.complete = false ∧
    (dumpNumbered cause s).dump = { s.dump with state := 3, seq := i.seq, running := some i, lostNow := [] } := by
  obtain ⟨hdump, -⟩ := dumpSealed_seals cause s
  refine ⟨newImage cause (dumpSealed cause s), congrArg (·.seq + 1) hdump, rfl, rfl, ?_⟩
  rw [dumpNumbered, changePaths_only, ← hdump]
  rfl

theorem changePaths_keeps (g : PairSt → PairSt) (s : Part) : (changePaths g s).sched = s.sched ∧
    (changePaths g s).tow = { s.tow with heldLog := (changePaths g s).tow.heldLog, heldOver := (changePaths g s).tow.heldOver } ∧
    (changePaths g s).dict.objs = s.dict.objs := by
  refine ⟨?_, ?_, ?_⟩ <;> rw [changePaths_only]

theorem dumpImaged_withinDump (cause : Nat) (s : Part) : WithinDump (dumpSealed cause s) (dumpImaged cause s) := by
  rw [dumpImaged]
  exact (Part.modDump_withinDumpPath ..).withinDump

theorem dumpNumbered_keeps (cause : Nat) (s : Part) : (dumpNumbered cause s).sched = (dumpSealed cause s).sched ∧
    (dumpNumbered cause s).tow = { (dumpSealed cause s).tow with
      heldLog := (dumpNumbered cause s).tow.heldLog, heldOver := (dumpNumbered cause s).tow.heldOver } ∧
    (dumpNumbered cause s).dict.objs = (dumpSealed cause s).dict.objs ∧ WithinDump s (dumpNumbered cause s) := by
  obtain ⟨-, -, -, -, -, -, -, -, hwithin⟩ := dumpSealed_seals cause s
  have himage : WithinDump s (dumpImaged cause s) := hwithin.trans (dumpImaged_withinDump cause s)
  rw [dumpNumbered]
  obtain ⟨hsched, htow, hobjs⟩ := changePaths_keeps PairSt.down (dumpImaged cause s)
  exact ⟨hsched, htow, hobjs, himage.trans (changePaths_withinDump ..)⟩

/-- What the islands going down leave of a part that dumps. -/
theorem dumpSleeps_keeps (s : Part) : (dumpSleepers.foldl (fun st i => powerDown i st) s).dump = s.dump ∧
    (dumpSleepers.foldl (fun st i => powerDown i st) s).tow = s.tow ∧
    (dumpSleepers.foldl (fun st i => powerDown i st) s).sched = s.sched ∧
    (dumpSleepers.foldl (fun st i => powerDown i st) s).pair = s.pair ∧
    (dumpSleepers.foldl (fun st i => powerDown i st) s).dict = s.dict ∧
    ∀ n ∈ dumpSleepers, ((dumpSleepers.foldl (fun st i => powerDown i st) s).island n).powered = false :=
  ⟨powerDowns_keeps (π := Part.dump) (fun _ _ _ => rfl) _ s, powerDowns_keeps (π := Part.tow) (fun _ _ _ => rfl) _ s,
    powerDowns_keeps (π := Part.sched) (fun _ _ _ => rfl) _ s, powerDowns_keeps (π := Part.pair) (fun _ _ _ => rfl) _ s,
    powerDowns_keeps (π := Part.dict) (fun _ _ _ => rfl) _ s, fun n hn => by simp [powerDowns_powered, hn]⟩

theorem startDump_started (cause : Nat) (s : Part) : DumpStarted cause s (startDump cause s) := by
  rw [startDump_eq]
  obtain ⟨-, hpower, hactive, hcharger, hstop, hreset, hobjs, hbrace, -⟩ := dumpSealed_seals cause s
  obtain ⟨hsched₁, htow₁, hobjs₁, hwithin⟩ := dumpNumbered_keeps cause s
  obtain ⟨i, hseq, hcause, hopen, hdump₁⟩ := dumpNumbered_starts cause s
  obtain ⟨hdump₂, htow₂, hsched₂, hpair₂, hdict₂, hdown⟩ := dumpSleeps_keeps (dumpNumbered cause s)
  have hre := refreshProtection_reprotected (dumpSleepers.foldl (fun st i => powerDown i st) (dumpNumbered cause s))
  obtain ⟨hsched, htow, -, hdump, hpair, hislands⟩ := hre.keeps
  have hdumps := (hdump.trans hdump₂).trans hdump₁
  obtain ⟨hpath1, hpath2⟩ := changePaths_lost PairSt.down (dumpImaged cause s)
  exact {
    state := by rw [hdumps]
    seq := by rw [hdumps]; exact hseq
    lost := by rw [hdumps]
    image := ⟨i, by rw [hdumps], hseq, hcause, hopen⟩
    power := by rw [htow, htow₂, htow₁]; exact hpower
    active := by rw [htow, htow₂, htow₁]; exact hactive
    charger := by rw [htow, htow₂, htow₁]; exact hcharger
    stopped := by rw [hsched, hsched₂, hsched₁]; exact hstop
    resetting := by rw [hsched, hsched₂, hsched₁]; exact hreset
    path1 := by rw [hpair, hpair₂]; exact hpath1
    path2 := by rw [hpair, hpair₂]; exact hpath2
    asleep := fun n hn => by rw [Part.island_congr hislands]; exact hdown n hn
    brace := by rw [hsched, hsched₂, hsched₁]; exact hbrace
    objs := by rw [hre.objs, hdict₂, hobjs₁]; exact hobjs
    within := (hwithin.trans (powerDowns_withinDump ..)).trans hre.withinDecision.withinBrace.withinDump }

/-! ### The dump path and its targets (R328, R333) -/

theorem WithinProtection.withinDumpPath {s t : Part} (h : WithinProtection s t) : WithinDumpPath s t :=
  calc t = _ := h
    _ = _ := by rw [h]

/-- The part with DUMP_STATE decided, before the pools follow. -/
def dumpDecided (s : Part) : Part :=
  (s.modDump (fun d => { d with state := dumpReadiness s })).modPair (fun p => { p with
    health := if dumpReadiness s = 2 then p.health ||| BitVec.twoPow 32 3 else p.health &&& ~~~ (BitVec.twoPow 32 3) })

theorem refreshDump_eq {s : Part} (h : ¬ 3 ≤ s.dump.state) : refreshDump s = refreshProtection (dumpDecided s) := by
  rw [refreshDump, if_neg h]
  rfl

/-- A fresh look at the dump path changes DUMP_STATE alone of what the dump path keeps. -/
theorem refreshDump_dump (s : Part) : (refreshDump s).dump = { s.dump with state := (refreshDump s).dump.state } := by
  by_cases h : 3 ≤ s.dump.state
  · rw [refreshDump, if_pos h]
  · have hdecided : (dumpDecided s).dump = { s.dump with state := (dumpDecided s).dump.state } := rfl
    rw [refreshDump_eq h, (refreshProtection_reprotected _).keeps.2.2.2.1]
    exact hdecided

theorem updBy_find? {α : Type} (p : α → Bool) (g : α → α) (hg : ∀ x, p (g x) = p x) (l : List α) :
    (updBy p g l).find? p = (l.find? p).map g := by
  induction l with
  | nil => rfl
  | cons x l ih =>
    have ih' : (l.map (fun x => if p x then g x else x)).find? p = (l.find? p).map g := ih
    cases hx : p x <;> simp [updBy, hx, hg, ih']

/-- The loss of a target whose record says that it is not live. -/
theorem loseTarget_drops (x : Nat) (g : DumpTarget → DumpTarget) (s : Part)
    (hg : ∀ y, (g y).idx = y.idx ∧ (g y).live = false ∧ (g y).label = y.label) :
    (∀ y, s.dump.targets.find? (fun z => z.idx == x) = some y → ∃ z,
      (loseTarget x (s.modTarget x g)).dump.targets.find? (fun z => z.idx == x) = some z ∧ z.live = false ∧ z.label = y.label) ∧
    (s.dump.state = 3 → x ∈ (loseTarget x (s.modTarget x g)).dump.lostNow ∧
      (loseTarget x (s.modTarget x g)).dump.running = s.dump.running) ∧
    WithinDumpPath s (loseTarget x (s.modTarget x g)) := by
  have hfound : ∀ y, s.dump.targets.find? (fun z => z.idx == x) = some y →
      (updBy (fun t => t.idx == x) g s.dump.targets).find? (fun z => z.idx == x) = some (g y) := fun y hy => by
    rw [updBy_find? _ _ (fun z => by rw [(hg z).1]), hy]
    rfl
  have hframe : ∀ u : Part, WithinDumpPath s u → WithinDumpPath s (refreshDump u) := fun u hu =>
    hu.trans (refreshDump_withinProtection u).withinDumpPath
  unfold loseTarget
  simp only []
  split
  · next hnew =>
    have hdump := refreshDump_dump ((s.modTarget x g).modDump (fun d => { d with lostNow := d.lostNow ++ [x] }))
    refine ⟨fun y hy => ⟨g y, ?_, (hg y).2⟩, fun _ => ?_, ?_⟩
    · rw [hdump]
      exact hfound y hy
    · rw [hdump]
      exact ⟨List.mem_append_right _ (List.mem_singleton.mpr rfl), rfl⟩
    · exact hframe _ rfl
  · next hold =>
    have hdump := refreshDump_dump (s.modTarget x g)
    refine ⟨fun y hy => ⟨g y, ?_, (hg y).2⟩, fun hdumping => ?_, ?_⟩
    · rw [hdump]
      exact hfound y hy
    · rw [hdump]
      have hlost : s.dump.lostNow.contains x = true := by
        by_contra hc
        exact hold ⟨hdumping, hc⟩
      exact ⟨List.contains_iff_mem.mp hlost, rfl⟩
    · exact hframe _ rfl

/-! ### A dump ends (R330, Table 13.5) -/

/-- `t` differs from `s` at most in what the end of a dump reaches. -/
def WithinDumpEnd (s t : Part) : Prop :=
  t = { s with islands := t.islands, toll := t.toll, tow := t.tow, dump := t.dump, dict := t.dict, log := t.log, out := t.out }

theorem WithinDumpEnd.trans {s t u : Part} (h : WithinDumpEnd s t) (h' : WithinDumpEnd t u) : WithinDumpEnd s u :=
  calc u = _ := h'
    _ = _ := by rw [h]

theorem Logged.withinDumpEnd {s t : Part} (h : Logged s t) : WithinDumpEnd s t :=
  calc t = _ := h
    _ = _ := by rw [h]

theorem powerDowns_withinDumpEnd (l : List Island) : ∀ s : Part, WithinDumpEnd s (l.foldl (fun st i => powerDown i st) s) := by
  induction l with
  | nil => exact fun _ => rfl
  | cons i l ih =>
    intro s
    have hdown : WithinDumpEnd s (powerDown i s) := by
      rw [powerDown_only]
      rfl
    exact hdown.trans (ih _)

theorem afterDump_off (s : Part) : (afterDump s).dump = { s.dump with state := 2 } ∧ (afterDump s).tow.power = 6 ∧
    (afterDump s).tow.coreEn = false ∧ (afterDump s).tow.dumpActive = false ∧ (afterDump s).tow.afterDump = true ∧
    (afterDump s).out = s.out ∧ WithinDumpEnd s (afterDump s) := by
  have hdown := powerDowns_withinDumpEnd [.m, .d, .g] (flushLog s)
  have hdump := powerDowns_keeps (π := Part.dump) (fun _ _ _ => rfl) [.m, .d, .g] (flushLog s)
  have hout := powerDowns_keeps (π := Part.out) (fun _ _ _ => rfl) [.m, .d, .g] (flushLog s)
  have hlog : WithinDumpEnd s (flushLog s) := rfl
  have hlast : ∀ u : Part, WithinDumpEnd u ((u.modTow (fun t => { t with
    dumpActive := false, coreEn := false, power := 6, afterDump := true })).modDump (fun d => { d with state := 2 })) := fun _ => rfl
  exact ⟨congrArg (fun d : DumpSt => { d with state := 2 }) hdump, rfl, rfl, rfl, rfl, hout, (hlog.trans hdown).trans (hlast _)⟩

/-- The part with a dump's image in its slot and its result, before it is recorded. -/
def dumpWritten (ms : Nat) (i : DumpImage) (lost : List Nat) (s : Part) : Part :=
  (putImage (finishImage i lost true) s).modDump (fun d => { d with
    lastMs := ms, lastResult := if decide (i.rows.length = 4) && lost.isEmpty then 1 else 2 })

theorem finishImage_rows (i : DumpImage) (lost : List Nat) (c : Bool) : (finishImage i lost c).rows.length = i.rows.length := by
  simp [finishImage]

theorem dumpCompleteEff_eq {ms : Nat} {s : Part} {i : DumpImage} (h : s.dump.running = some i) :
    ∃ d, dumpCompleteEff ms s = afterDump (emit (.dumpImage i.slot i.seq) (log 0x0A01 0 d (dumpWritten ms i s.dump.lostNow s))) := by
  unfold dumpCompleteEff
  simp only [h, finishImage_rows]
  exact ⟨_, rfl⟩

theorem dumpWritten_writes (ms : Nat) (i : DumpImage) (s : Part) :
    finishImage i s.dump.lostNow true ∈ (dumpWritten ms i s.dump.lostNow s).dump.images ∧
    (dumpWritten ms i s.dump.lostNow s).dump.running = none ∧ (dumpWritten ms i s.dump.lostNow s).dump.lastMs = ms ∧
    (dumpWritten ms i s.dump.lostNow s).dump.lastResult = (if i.rows.length = 4 ∧ s.dump.lostNow = [] then 1 else 2) := by
  refine ⟨List.mem_append_right _ (List.mem_singleton.mpr rfl), rfl, rfl, ?_⟩
  simp [dumpWritten, List.isEmpty_iff]

theorem dumpComplete_ends (ms : Nat) {s : Part} {g : DumpImage} (h : s.dump.running = some g) :
    finishImage g s.dump.lostNow true ∈ (dumpCompleteEff ms s).dump.images ∧ (dumpCompleteEff ms s).dump.running = none ∧
    (dumpCompleteEff ms s).dump.lastMs = ms ∧
    (dumpCompleteEff ms s).dump.lastResult = (if g.rows.length = 4 ∧ s.dump.lostNow = [] then 1 else 2) ∧
    (dumpCompleteEff ms s).dump.state = 2 ∧ (dumpCompleteEff ms s).tow.power = 6 ∧ (dumpCompleteEff ms s).tow.coreEn = false ∧
    (dumpCompleteEff ms s).tow.dumpActive = false ∧ (dumpCompleteEff ms s).tow.afterDump = true ∧
    .dumpImage g.slot g.seq ∈ (dumpCompleteEff ms s).out ∧ WithinDumpEnd s (dumpCompleteEff ms s) := by
  obtain ⟨d, heq⟩ := dumpCompleteEff_eq (ms := ms) h
  obtain ⟨himage, hrun, hms, hresult⟩ := dumpWritten_writes ms g s
  have hlog := log_logged 0x0A01 0 d (dumpWritten ms g s.dump.lostNow s)
  rw [heq]
  revert hlog
  generalize log 0x0A01 0 d (dumpWritten ms g s.dump.lostNow s) = u
  intro hlog
  have hdumps : u.dump = (dumpWritten ms g s.dump.lostNow s).dump := by rw [hlog]
  obtain ⟨hdump, hpower, hcore, hactive, hafter, hout, hwithin⟩ := afterDump_off (emit (.dumpImage g.slot g.seq) u)
  have hwritten : WithinDumpEnd s (dumpWritten ms g s.dump.lostNow s) := rfl
  have hemit : WithinDumpEnd u (emit (.dumpImage g.slot g.seq) u) := rfl
  refine ⟨?_, ?_, ?_, ?_, ?_, hpower, hcore, hactive, hafter, ?_, ((hwritten.trans hlog.withinDumpEnd).trans hemit).trans hwithin⟩
  · rw [hdump]
    exact hdumps ▸ himage
  · rw [hdump]
    exact hdumps ▸ hrun
  · rw [hdump]
    exact hdumps ▸ hms
  · rw [hdump]
    exact hdumps ▸ hresult
  · rw [hdump]
  · rw [hout]
    exact List.mem_append_right _ (List.mem_singleton.mpr rfl)

/-! ### The rows -/

@[simp] theorem setInput_working (mv : Nat) (s : Part) : (setInput mv s).working = s.working := rfl
@[simp] theorem setInput_warnMv (mv : Nat) (s : Part) : (setInput mv s).warnMv = s.warnMv := rfl
@[simp] theorem setInput_dumpMv (mv : Nat) (s : Part) : (setInput mv s).dumpMv = s.dumpMv := rfl
@[simp] theorem setInput_sched (mv : Nat) (s : Part) : (setInput mv s).sched = s.sched := rfl
@[simp] theorem setInput_mayDump (mv : Nat) (s : Part) : mayDump (setInput mv s) = mayDump s := rfl

theorem braceEff_eq (mv : Nat) (s : Part) : braceEff mv s =
    if s.working && decide (mv < s.warnMv) then enterBrace mv (setInput mv s) else setInput mv s := rfl

theorem braceReleaseEff_eq (mv : Nat) (s : Part) : braceReleaseEff mv s =
    if decide (s.warnMv + 200 ≤ mv) && decide (s.sched.admitState < 2) then leaveBrace mv (setInput mv s) else setInput mv s := rfl

theorem enterBrace_of_braced (mv : Nat) {s : Part} (h : s.sched.brace = true) : enterBrace mv s = s := by
  rw [enterBrace, if_pos h]

theorem leaveBrace_of_free (mv : Nat) {s : Part} (h : s.sched.brace = false) : leaveBrace mv s = s := by
  rw [leaveBrace, if_neg (by simp [h])]

theorem brace_stays {mv : Nat} {s : State} (h : s.part.working = false ∨ s.part.warnMv ≤ mv ∨ s.part.sched.brace = true) :
    Runs (.brace mv) s (fun t => t.tow.sense = s.part.tow.sense.set 0 mv ∧
      t = { s.part with tow := { s.part.tow with sense := t.tow.sense } }) := by
  have hsame : braceEff mv s.part = setInput mv s.part := by
    rw [braceEff_eq]
    split
    · next hgo =>
      simp only [Bool.and_eq_true, decide_eq_true_eq] at hgo
      obtain hidle | hhigh | hbrace := h
      · simp [hidle] at hgo
      · omega
      · exact enterBrace_of_braced mv hbrace
    · rfl
  exact runs_onPart rfl (by rw [hsame]; exact ⟨rfl, rfl⟩)

theorem brace_braces {mv : Nat} {s : State} (hwork : s.part.working = true) (hlow : mv < s.part.warnMv)
    (hbrace : s.part.sched.brace = false) : Runs (.brace mv) s (Braced (setInput mv s.part)) := by
  refine runs_onPart rfl ?_
  have heq : braceEff mv s.part = enterBrace mv (setInput mv s.part) := by simp [braceEff, hwork, hlow]
  rw [heq]
  exact enterBrace_braced mv hbrace

theorem braceRelease_stays {mv : Nat} {s : State}
    (h : s.part.sched.brace = false ∨ mv < s.part.warnMv + 200 ∨ 2 ≤ s.part.sched.admitState) :
    Runs (.braceRelease mv) s (fun t => t.tow.sense = s.part.tow.sense.set 0 mv ∧
      t = { s.part with tow := { s.part.tow with sense := t.tow.sense } }) := by
  have hsame : braceReleaseEff mv s.part = setInput mv s.part := by
    rw [braceReleaseEff_eq]
    split
    · next hgo =>
      simp only [Bool.and_eq_true, decide_eq_true_eq] at hgo
      obtain hfree | hlow | hadmit := h
      · exact leaveBrace_of_free mv hfree
      · omega
      · omega
    · rfl
  exact runs_onPart rfl (by rw [hsame]; exact ⟨rfl, rfl⟩)

/-- A trigger: a dump where one is due, else nothing. -/
theorem dumpTrigger_runs {mv : Nat} {i : Instr} {cause : Nat} {go : Bool} {s : State}
    (h : (i = .dumpTriggerLow mv ∧ cause = 0 ∧ go = (mayDump s.part && decide (mv < s.part.dumpMv))) ∨
      (i = .comparatorTrip ∧ cause = 1 ∧ go = mayDump s.part)) :
    ∃ u : Part, u = { s.part with tow := { s.part.tow with sense := u.tow.sense } } ∧
      (i = .dumpTriggerLow mv → u.tow.sense = s.part.tow.sense.set 0 mv) ∧ Runs i s (fun t => t = if go = true then startDump cause u else u) := by
  rcases h with ⟨rfl, rfl, rfl⟩ | ⟨rfl, rfl, rfl⟩
  · exact ⟨setInput mv s.part, rfl, fun _ => rfl, runs_onPart rfl rfl⟩
  · exact ⟨s.part, rfl, fun h => (nomatch h), runs_onPart rfl rfl⟩

/-- A target whose link is down, and one that warns. -/
def DumpTarget.cut (t : DumpTarget) : DumpTarget := { t with linkUp := false, width := 0, tier := 0 }
def DumpTarget.warned (t : DumpTarget) : DumpTarget := { t with warning := true }

theorem dumpTarget_runs {x : Fin 4} {i : Instr} (hi : i ∈ [Instr.dumpTargetLost x, .dumpLinkDown x, .dumpTargetWarning x]) (s : State) :
    ∃ g : DumpTarget → DumpTarget, (∀ y, (g y).idx = y.idx ∧ (g y).live = false ∧ (g y).label = y.label) ∧
      Runs i s (fun t => t = loseTarget x.val (s.part.modTarget x.val g)) := by
  have hcut : ∀ y : DumpTarget, y.cut.live = false := fun y => by simp [DumpTarget.live, DumpTarget.cut]
  have hwarned : ∀ y : DumpTarget, y.warned.live = false := fun y => by simp [DumpTarget.live, DumpTarget.warned]
  simp only [List.mem_cons, List.not_mem_nil, or_false] at hi
  obtain rfl | rfl | rfl := hi
  · exact ⟨DumpTarget.cut, fun y => ⟨rfl, hcut y, rfl⟩, runs_onPart rfl rfl⟩
  · exact ⟨DumpTarget.cut, fun y => ⟨rfl, hcut y, rfl⟩, runs_onPart rfl rfl⟩
  · exact ⟨DumpTarget.warned, fun y => ⟨rfl, hwarned y, rfl⟩, runs_onPart rfl rfl⟩

/-! ### The thresholds (R319) -/

theorem ok_answers (q : Req) (s : Part) : Answers (ok q s) stOk 0 := ⟨_, (respondValue_frame q stOk 0 [] _ s).1, rfl, rfl⟩

theorem refuse_answers (q : Req) (st detail : Nat) (s : Part) : Answers (refuse q st detail s) st detail :=
  ⟨_, (respondValue_frame q st detail [] _ s).1, rfl, rfl⟩

theorem refuse_only (q : Req) (st detail : Nat) (s : Part) : refuse q st detail s =
    { s with dict := (refuse q st detail s).dict, out := (refuse q st detail s).out
             fn0 := (refuse q st detail s).fn0, fn1 := (refuse q st detail s).fn1 } := by
  apply Part.ext_fields <;> simp

theorem ok_withinDump (q : Req) (s : Part) : WithinDump s (ok q s) := by
  rw [WithinDump, ok_only]

theorem setObjNum_withinDump (i j v : Nat) (s : Part) : WithinDump s (s.setObjNum i j v) := rfl

/-- The part once a reading beyond WARN_MV braced it. -/
def inputBraced (s : Part) : Part :=
  if s.working && decide (s.senseAt 0 < (s.warnMv : Int)) then enterBrace (s.senseAt 0).toNat s else s

theorem decideInput_eq (s : Part) : decideInput s =
    if mayDump (inputBraced s) && decide (s.senseAt 0 < ((inputBraced s).dumpMv : Int)) then startDump 0 (inputBraced s)
    else inputBraced s := rfl

theorem inputBraced_braces (s : Part) : (inputBraced s).dict.objs = s.dict.objs ∧ WithinDump s (inputBraced s) ∧
    (s.working = true → s.senseAt 0 < (s.warnMv : Int) → (inputBraced s).sched.brace = true) ∧
    ((s.warnMv : Int) ≤ s.senseAt 0 → inputBraced s = s) := by
  unfold inputBraced
  split
  · next hlow =>
    simp only [Bool.and_eq_true, decide_eq_true_eq] at hlow
    refine and_assoc.mp ⟨?_, ?_⟩
    · by_cases hbrace : s.sched.brace = true
      · rw [enterBrace_of_braced _ hbrace]
        exact ⟨rfl, rfl⟩
      · have hbraced := enterBrace_braced (s.senseAt 0).toNat (Bool.eq_false_of_not_eq_true hbrace)
        exact ⟨hbraced.objs, hbraced.within.withinDump⟩
    · refine ⟨fun _ _ => ?_, fun hhigh => absurd hlow.2 (by omega)⟩
      by_cases hbrace : s.sched.brace = true
      · rw [enterBrace_of_braced _ hbrace]
        exact hbrace
      · exact (enterBrace_braced _ (Bool.eq_false_of_not_eq_true hbrace)).brace
  · next hnot =>
    simp only [Bool.and_eq_true, decide_eq_true_eq, not_and] at hnot
    exact ⟨rfl, rfl, fun hwork hlow => absurd hlow (hnot hwork), fun _ => rfl⟩

/-- What a threshold that moved has decided. -/
theorem decideInput_decides (s : Part) : (decideInput s).dict.objs = s.dict.objs ∧ WithinDump s (decideInput s) ∧
    (s.working = true → s.senseAt 0 < (s.warnMv : Int) → (decideInput s).sched.brace = true) ∧
    (mayDump s = false → (s.warnMv : Int) ≤ s.senseAt 0 → decideInput s = s) := by
  obtain ⟨hobjs, hwithin, hbrace, hsame⟩ := inputBraced_braces s
  rw [decideInput_eq]
  split
  · next hdump =>
    have hstart := startDump_started 0 (inputBraced s)
    refine ⟨hstart.objs.trans hobjs, hwithin.trans hstart.within, fun hwork hlow => hstart.brace.trans (hbrace hwork hlow),
      fun hnone hhigh => ?_⟩
    rw [hsame hhigh, hnone] at hdump
    exact absurd hdump (by simp)
  · exact ⟨hobjs, hwithin, hbrace, fun _ hhigh => hsame hhigh⟩

theorem Part.objNum_congr {s t : Part} (h : t.dict.objs = s.dict.objs) (i j : Nat) : t.objNum i j = s.objNum i j := by
  simp [Part.objNum, Part.objInt, h]

theorem ofLe_leBytes : ∀ n v : Nat, v < 256 ^ n → ofLe (leBytes n v) = v
  | 0, v, h => by simp at h; simp [h, leBytes, ofLe]
  | n + 1, v, h => by
    have hrest := ofLe_leBytes n (v / 256) (by rw [Nat.div_lt_iff_lt_mul (by decide), ← Nat.pow_succ]; exact h)
    simp only [leBytes, ofLe, hrest, BitVec.toNat_ofNat]
    omega

/-- A number below 2^31 reads back as written, whatever type its row gives it. -/
theorem setObjNum_objNum (i j : Nat) {v : Nat} (h : v < 2 ^ 31) (s : Part) : (s.setObjNum i j v).objNum i j = v := by
  have hbytes : ofLe (leBytes 8 v) = v := ofLe_leBytes 8 v (by omega)
  have hdecode : ∀ ty, decodeNum ty (leBytes 8 v) = v := fun ty => by
    rw [decodeNum, hbytes, if_neg (by omega)]
  have hget : alGet (i, j) (s.setObjNum i j v).dict.objs = some (.num v) := alGet_alSet ..
  unfold Part.objNum Part.objInt
  rw [hget]
  cases objRow? i j with
  | none => rfl
  | some r => exact congrArg Int.toNat (hdecode r.ty)

theorem setObjNum_objNum_ne {i j k l : Nat} (h : (k, l) ≠ (i, j)) (v : Nat) (s : Part) : (s.setObjNum i j v).objNum k l = s.objNum k l := by
  have hget : alGet (k, l) (s.setObjNum i j v).dict.objs = alGet (k, l) s.dict.objs := alGet_alSet_ne _ _ h
  unfold Part.objNum Part.objInt
  rw [hget]

theorem ok_mayDump (q : Req) (s : Part) : mayDump (ok q s) = mayDump s := by
  simp [mayDump, Part.heldBlocks, stagedChecks]

theorem setObjNum_mayDump (i j v : Nat) (s : Part) : mayDump (s.setObjNum i j v) = mayDump s := rfl

/-- A threshold that is taken: it stands, and the reading is held against it at once. -/
theorem threshold_taken (q : Req) (sub : Nat) {v : Nat} (hv : v < 2 ^ 31) (s : Part) :
    (decideInput (ok q (s.setObjNum 0x2700 sub v))).objNum 0x2700 sub = v ∧
    WithinDump s (decideInput (ok q (s.setObjNum 0x2700 sub v))) ∧
    (mayDump s = false → ((s.setObjNum 0x2700 sub v).warnMv : Int) ≤ s.senseAt 0 →
      Answers (decideInput (ok q (s.setObjNum 0x2700 sub v))) stOk 0 ∧
      (decideInput (ok q (s.setObjNum 0x2700 sub v))).sched = s.sched ∧
      (decideInput (ok q (s.setObjNum 0x2700 sub v))).dump = s.dump) ∧
    (s.working = true → s.senseAt 0 < ((s.setObjNum 0x2700 sub v).warnMv : Int) →
      (decideInput (ok q (s.setObjNum 0x2700 sub v))).sched.brace = true) := by
  obtain ⟨hobjs, hwithin, hbrace, hsame⟩ := decideInput_decides (ok q (s.setObjNum 0x2700 sub v))
  have hwarn : (ok q (s.setObjNum 0x2700 sub v)).warnMv = (s.setObjNum 0x2700 sub v).warnMv := by simp [Part.warnMv]
  have hsense : (ok q (s.setObjNum 0x2700 sub v)).senseAt 0 = s.senseAt 0 := by simp [Part.senseAt]
  have hwork : (ok q (s.setObjNum 0x2700 sub v)).working = s.working := by simp [Part.working]
  rw [hwarn, hsense] at hbrace hsame
  refine ⟨?_, ((setObjNum_withinDump ..).trans (ok_withinDump ..)).trans hwithin, fun hnone hhigh => ?_,
    fun hworks => hbrace (hwork.trans hworks)⟩
  · have hok : (ok q (s.setObjNum 0x2700 sub v)).dict.objs = (s.setObjNum 0x2700 sub v).dict.objs := by simp
    rw [Part.objNum_congr (hobjs.trans hok)]
    exact setObjNum_objNum 0x2700 sub hv s
  · rw [hsame ((ok_mayDump ..).trans hnone) hhigh]
    exact ⟨ok_answers .., by simp, by simp⟩

theorem warnMv_takes {q : Req} {v : Nat} {s : State} (h : Allowed s.part q roleOperator none) (hlow : 10200 ≤ v) (hhigh : v ≤ 13000)
    (happart : s.part.dumpMv + 400 ≤ v) :
    Runs (.warnMv q v) s (fun t => t = decideInput (ok q (s.part.setObjNum 0x2700 9 v))) := by
  refine runs_onPart rfl ?_
  rw [warnMvEff, checked_allowed h, if_neg (by omega), if_neg (by omega)]

theorem dumpMv_takes {q : Req} {v : Nat} {s : State} (h : Allowed s.part q roleOperator none) (hlow : 9800 ≤ v) (hhigh : v ≤ 12600)
    (happart : v + 400 ≤ s.part.warnMv) :
    Runs (.dumpMv q v) s (fun t => t = decideInput (ok q (s.part.setObjNum 0x2700 0xA v))) := by
  refine runs_onPart rfl ?_
  rw [dumpMvEff, checked_allowed h, if_neg (by omega), if_neg (by omega)]

/-- A threshold out of its range, or too near the other one. -/
theorem threshold_refused {q : Req} {v : Nat} {s : State} (h : Allowed s.part q roleOperator none) {i : Instr} {st d : Nat}
    (hi : (i = .warnMv q v ∧ (v < 10200 ∨ 13000 < v) ∧ st = stRange ∧ d = 0) ∨
      (i = .warnMv q v ∧ 10200 ≤ v ∧ v ≤ 13000 ∧ v < s.part.dumpMv + 400 ∧ st = stRule ∧ d = ruleDetail 319 0) ∨
      (i = .dumpMv q v ∧ (v < 9800 ∨ 12600 < v) ∧ st = stRange ∧ d = 0) ∨
      (i = .dumpMv q v ∧ 9800 ≤ v ∧ v ≤ 12600 ∧ s.part.warnMv < v + 400 ∧ st = stRule ∧ d = ruleDetail 319 0)) :
    Refused i s st d := by
  obtain ⟨rfl, hrange, rfl, rfl⟩ | ⟨rfl, hlow, hhigh, hnear, rfl, rfl⟩ | ⟨rfl, hrange, rfl, rfl⟩ |
    ⟨rfl, hlow, hhigh, hnear, rfl, rfl⟩ := hi
  · refine runs_onPart rfl ?_
    rw [warnMvEff, checked_allowed h, if_pos hrange]
    exact ⟨refuse_answers .., refuse_only ..⟩
  · refine runs_onPart rfl ?_
    rw [warnMvEff, checked_allowed h, if_neg (by omega), if_pos hnear]
    exact ⟨refuseRule_answers .., refuseRule_only ..⟩
  · refine runs_onPart rfl ?_
    rw [dumpMvEff, checked_allowed h, if_pos hrange]
    exact ⟨refuse_answers .., refuse_only ..⟩
  · refine runs_onPart rfl ?_
    rw [dumpMvEff, checked_allowed h, if_neg (by omega), if_pos hnear]
    exact ⟨refuseRule_answers .., refuseRule_only ..⟩

/-! ### Targets adopted, channels that fail (R69, R328) -/

def adopted (mask : BitVec 8) (t : DumpTarget) : DumpTarget := if mask.getLsbD t.idx then { t with label := some deviceUuid } else t

theorem keepWritten_answers {index sub v : Nat} {s : Part} {st d : Nat} (h : Answers s st d) : Answers (keepWritten index sub v s) st d := by
  unfold keepWritten
  split
  · exact h
  · exact h

theorem dumpAdopt_adopts {q : Req} {mask : BitVec 8} {s : State} (h : Allowed s.part q roleCustodian none) (hmask : mask.toNat < 16) :
    Runs (.dumpAdopt q mask) s (fun t => Answers t stOk 0 ∧
      t.dump.targets = s.part.dump.targets.map (adopted mask) ∧ WithinDumpPath s.part t) := by
  have heq : dumpAdoptEff q mask s.part =
      keepWritten 0x2702 8 mask.toNat (ok q (refreshDump (s.part.modDump (fun d => { d with targets := d.targets.map (adopted mask) })))) := by
    rw [dumpAdoptEff, checked_allowed h, if_neg (by omega)]
    rfl
  refine runs_onPart rfl ?_
  rw [heq]
  have htargets := refreshDump_dump (s.part.modDump (fun d => { d with targets := d.targets.map (adopted mask) }))
  have hwithin := (Part.modDump_withinDumpPath s.part (fun d => { d with targets := d.targets.map (adopted mask) })).trans
    (refreshDump_withinProtection _).withinDumpPath
  revert htargets hwithin
  generalize refreshDump (s.part.modDump (fun d => { d with targets := d.targets.map (adopted mask) })) = u
  intro htargets hwithin
  have hok : WithinDumpPath u (ok q u) := by
    rw [WithinDumpPath, ok_only]
  have hkept : WithinDumpPath (ok q u) (keepWritten 0x2702 8 mask.toNat (ok q u)) := by
    rw [WithinDumpPath, keepWritten_only]
  refine ⟨keepWritten_answers (ok_answers q u), ?_, (hwithin.trans hok).trans hkept⟩
  have hdump : (keepWritten 0x2702 8 mask.toNat (ok q u)).dump = u.dump := by
    rw [keepWritten_only, ok_only]
  rw [hdump, htargets]
  rfl

theorem dumpAdopt_refuses {q : Req} {mask : BitVec 8} {s : State} (h : Allowed s.part q roleCustodian none) (hmask : 16 ≤ mask.toNat) :
    Refused (.dumpAdopt q mask) s stRange 0 := by
  refine runs_onPart rfl ?_
  rw [dumpAdoptEff, checked_allowed h, if_pos hmask, keepWritten_refused _ _ _ _ _ _ _ (by decide) (by decide)]
  exact ⟨refuse_answers .., refuse_only ..⟩

/-- The part once the channel counts as failed, before the pools follow. -/
def channelFailed (ch : Nat) (s : Part) : Part := s.modSched (fun x => { x with badChannels := x.badChannels ++ [ch] })

theorem protChannelUnhealthyEff_eq {ch : Nat} {s : Part} (h : ch ∉ s.sched.badChannels) :
    protChannelUnhealthyEff ch s = noted 4 69 1 (leBytes 1 ch) (refreshProtection (channelFailed ch s)) := by
  rw [protChannelUnhealthyEff, if_neg (by simpa using h)]
  rfl

theorem Logged.keeps {s t : Part} (h : Logged s t) : t.sched = s.sched ∧ t.pools = s.pools := by
  rw [h]
  exact ⟨rfl, rfl⟩

theorem channelFailed_writeStates {ch : Nat} {s : Part} (hbrace : s.sched.brace = false) (hthaw : s.sched.frozen = false) {k : Nat}
    {y : PoolSt} (hy : s.pool? k = some y) (hlife : y.life ≠ 0) :
    ∃ z, (refreshProtection (channelFailed ch s)).pool? k = some z ∧ z.writeState = 1 := by
  refine refreshProtection_reach (P := (· = 1)) (s := channelFailed ch s) (fun t ps ht => ?_) hy hlife
  have hbad : t.sched.badChannels ≠ [] := by
    rw [ht.keeps.1]
    simp [channelFailed]
  rw [wantedWriteState_free (s := channelFailed ch s) ht hbrace hthaw, protectionRow_unhealthy hbad]
  rfl

theorem channelFailed_badChannels (ch : Nat) (s : Part) :
    (refreshProtection (channelFailed ch s)).sched.badChannels = s.sched.badChannels ++ [ch] :=
  congrArg SchedSt.badChannels (refreshProtection_reprotected (channelFailed ch s)).keeps.1

theorem channelFailed_withinDecision (ch : Nat) (s : Part) : WithinDecision s (refreshProtection (channelFailed ch s)) :=
  (Part.modSched_withinDecision s (fun x => { x with badChannels := x.badChannels ++ [ch] })).trans
    (refreshProtection_reprotected (channelFailed ch s)).withinDecision

theorem protChannel_fails {ch : Fin 12} {s : State} (h : ch.val ∉ s.part.sched.badChannels) :
    Runs (.protChannelUnhealthy ch) s (fun t => t.sched.badChannels = s.part.sched.badChannels ++ [ch.val] ∧
      (s.part.sched.brace = false → s.part.sched.frozen = false →
        ∀ k y, s.part.pool? k = some y → y.life ≠ 0 → ∃ z, t.pool? k = some z ∧ z.writeState = 1) ∧ WithinDecision s.part t) := by
  have hnote := noted_logged 4 69 1 (leBytes 1 ch.val) (refreshProtection (channelFailed ch.val s.part))
  rw [← protChannelUnhealthyEff_eq h] at hnote
  refine runs_onPart (g := protChannelUnhealthyEff ch.val) rfl ?_
  revert hnote
  generalize protChannelUnhealthyEff ch.val s.part = t
  intro hnote
  obtain ⟨hsched, hpools⟩ := hnote.keeps
  refine ⟨?_, fun hbrace hthaw k y hy hlife => ?_,
    (channelFailed_withinDecision ch.val s.part).trans hnote.reprotected.withinDecision⟩
  · rw [hsched]
    exact channelFailed_badChannels ch.val s.part
  · rw [Part.pool?_congr hpools]
    exact channelFailed_writeStates hbrace hthaw hy hlife

/-- Settles O50, from what a decision on protection reaches: brace and its release each end in one, and so does the start of a dump,
whose own steps are followed one by one. -/
theorem bracesAndDumpsFollowTheInput : Obligations.BracesAndDumpsFollowTheInput := by
  unfold Obligations.BracesAndDumpsFollowTheInput
  rintro q mv ms v x ch mask s reads rfl
  refine ⟨brace_stays, fun hwork hlow hbrace => ?_, braceRelease_stays, fun hbrace hhigh hadmit => ?_, fun i cause go hi => ?_,
    fun i hi => ?_, fun hnone => ?_, fun g hg => ?_, fun hallowed => ⟨fun i st d hi => threshold_refused hallowed hi,
      fun hlow hhigh happart => ?_, fun hlow hhigh happart => ?_⟩,
    fun hallowed => ⟨dumpAdopt_refuses hallowed, dumpAdopt_adopts hallowed⟩, fun hbad => ?_, protChannel_fails⟩
  · obtain ⟨t, hstep, hbraced⟩ := brace_braces hwork hlow hbrace
    have hset : WithinBrace s.part (setInput mv s.part) := rfl
    exact ⟨t, hstep, hbraced.sense, hbraced.brace, hbraced.counted, hbraced.power, hbraced.storeTest, hbraced.cal, hbraced.held,
      hset.trans hbraced.within⟩
  · refine runs_onPart rfl ?_
    rw [braceReleaseEff_eq, if_pos (by simp [hhigh, hadmit])]
    have hset : WithinDecision s.part (setInput mv s.part) := rfl
    obtain ⟨hsense, hfree, hpower, hpools, hwithin⟩ := leaveBrace_releases mv (s := setInput mv s.part) hbrace
    exact ⟨hsense, hfree, hpower, hpools, hset.trans hwithin⟩
  · obtain ⟨u, honly, hsense, t, hstep, ht⟩ := dumpTrigger_runs hi
    refine ⟨fun hgo => ⟨t, hstep, ?_⟩, fun hgo => ⟨t, hstep, ?_⟩⟩
    · rw [ht, if_neg (by simp [hgo])]
      exact ⟨hsense, honly⟩
    · rw [ht, if_pos hgo]
      have hu : WithinDump s.part u := by
        rw [WithinDump, honly]
      have hnext : u.dump.seq + 1 = s.part.dump.seq + 1 := by rw [honly]
      have h := startDump_started cause u
      obtain ⟨g, hrun, hseq, hcause, hopen⟩ := h.image
      exact ⟨h.state, h.seq.trans hnext, h.lost, ⟨g, hrun, hseq.trans hnext, hcause, hopen⟩, h.power, h.active, h.charger, h.stopped,
        h.resetting, h.path1, h.path2, h.asleep, hu.trans h.within⟩
  · obtain ⟨g, hg, t, hstep, rfl⟩ := dumpTarget_runs hi s
    exact ⟨_, hstep, loseTarget_drops x.val g s.part hg⟩
  · exact stays_onPart rfl (by rw [dumpCompleteEff, hnone])
  · exact runs_onPart rfl (dumpComplete_ends ms hg)
  · obtain ⟨t, hstep, rfl⟩ := warnMv_takes hallowed hlow hhigh happart
    obtain ⟨hset, hwithin, hsame, hbrace⟩ := threshold_taken q 9 (v := v) (by omega) s.part
    have hwarn : (s.part.setObjNum 0x2700 9 v).warnMv = v := setObjNum_objNum _ _ (by omega) _
    rw [hwarn] at hsame hbrace
    exact ⟨_, hstep, hset, hsame, hbrace, hwithin⟩
  · obtain ⟨t, hstep, rfl⟩ := dumpMv_takes hallowed hlow hhigh happart
    obtain ⟨hset, hwithin, hsame, -⟩ := threshold_taken q 0xA (v := v) (by omega) s.part
    have hwarn : (s.part.setObjNum 0x2700 0xA v).warnMv = s.part.warnMv := setObjNum_objNum_ne (by decide) _ _
    rw [hwarn] at hsame
    exact ⟨_, hstep, hset, hsame, hwithin⟩
  · exact stays_onPart rfl (by rw [protChannelUnhealthyEff, if_pos (by simpa using hbad)])

end Sys2Proof.Machine
end

section
/-! SUPPORT. The frames of the twin: tides, seals and shadow blocks (04: R78; 12: R293, R300), with the statement of
`TheTwinsFramesArrive`. -/

namespace Sys2Proof.Machine

/-- `t` differs from `s` at most in what a seal of the twin reaches. -/
def WithinSeal (s t : Part) : Prop :=
  t = { s with sched := t.sched, pools := t.pools, pair := t.pair, tow := t.tow, dict := t.dict, log := t.log, out := t.out }

theorem WithinSeal.refl (s : Part) : WithinSeal s s := rfl

theorem WithinSeal.trans {s t u : Part} (h : WithinSeal s t) (h' : WithinSeal t u) : WithinSeal s u :=
  calc u = _ := h'
    _ = _ := by rw [h]

theorem Logged.withinSeal {s t : Part} (h : Logged s t) : WithinSeal s t :=
  calc t = _ := h
    _ = _ := by rw [h]

theorem Part.modPair_withinSeal (s : Part) (g : PairSt → PairSt) : WithinSeal s (s.modPair g) := rfl
theorem Part.modSched_withinSeal (s : Part) (g : SchedSt → SchedSt) : WithinSeal s (s.modSched g) := rfl
theorem Part.modPool_withinSeal (s : Part) (p : Nat) (g : PoolSt → PoolSt) : WithinSeal s (s.modPool p g) := rfl

/-! ### ADMIT_STATE is decided anew -/

/-- What the decision of ADMIT_STATE leaves as it was. -/
structure AdmitDecided (s t : Part) : Prop where
  pools : t.pools = s.pools
  pair : t.pair = s.pair
  islands : t.islands = s.islands
  tideNow : t.sched.tideNow = s.sched.tideNow
  out : s.out <+: t.out
  within : WithinSeal s t

theorem Logged.decided {s t : Part} (h : Logged s t) (hout : s.out <+: t.out) : AdmitDecided s t where
  pools := by rw [h]
  pair := by rw [h]
  islands := by rw [h]
  tideNow := by rw [h]
  out := hout
  within := h.withinSeal

theorem AdmitDecided.trans {s t u : Part} (h : AdmitDecided s t) (h' : AdmitDecided t u) : AdmitDecided s u where
  pools := h'.pools.trans h.pools
  pair := h'.pair.trans h.pair
  islands := h'.islands.trans h.islands
  tideNow := h'.tideNow.trans h.tideNow
  out := h.out.trans h'.out
  within := h.within.trans h'.within

theorem admitState_decided (s : Part) (n : Nat) : AdmitDecided s (s.modSched (fun x => { x with admitState := n })) :=
  ⟨rfl, rfl, rfl, rfl, List.prefix_refl _, rfl⟩

theorem refreshAdmitState_decides (s : Part) : AdmitDecided s (refreshAdmitState s) := by
  unfold refreshAdmitState
  simp only []
  split
  · exact ⟨rfl, rfl, rfl, rfl, List.prefix_refl _, rfl⟩
  · exact (admitState_decided s _).trans ((log_logged ..).decided (log_out_prefix ..))

/-! ### The owner's news -/

/-- A pool after news of its shadow: how far the shadow reaches is as before, and a pool this unit does not stand by for is
untouched. -/
def Heard (x y : PoolSt) : Prop :=
  y.pair.owner = x.pair.owner ∧ y.pair.coverage = x.pair.coverage ∧ y.pair.shadowTide = x.pair.shadowTide ∧ (x.pair.owner ≠ 1 → y = x)

theorem Heard.refl (x : PoolSt) : Heard x x := ⟨rfl, rfl, rfl, fun _ => rfl⟩

theorem Heard.trans {x y z : PoolSt} (h : Heard x y) (h' : Heard y z) : Heard x z := by
  obtain ⟨howner, hcover, htide, hsame⟩ := h
  obtain ⟨howner', hcover', htide', hsame'⟩ := h'
  exact ⟨howner'.trans howner, hcover'.trans hcover, htide'.trans htide,
    fun hx => (hsame' (howner ▸ hx)).trans (hsame hx)⟩

/-- What news of the owner reaches: the shadows alone. -/
def HearsOnly (s t : Part) : Prop :=
  t = { s with pools := t.pools } ∧ ∀ k x, s.pool? k = some x → ∃ y, t.pool? k = some y ∧ Heard x y

theorem HearsOnly.refl (s : Part) : HearsOnly s s := ⟨rfl, fun _ x hx => ⟨x, hx, .refl x⟩⟩

theorem HearsOnly.trans {s t u : Part} (h : HearsOnly s t) (h' : HearsOnly t u) : HearsOnly s u := by
  refine ⟨h'.1.trans (by rw [h.1]), fun k x hx => ?_⟩
  obtain ⟨y, hy, hheard⟩ := h.2 k x hx
  obtain ⟨z, hz, hheard'⟩ := h'.2 k y hy
  exact ⟨z, hz, hheard.trans hheard'⟩

theorem HearsOnly.foldl {α : Type} {op : Part → α → Part} (h : ∀ s x, HearsOnly s (op s x)) (l : List α) :
    ∀ s, HearsOnly s (l.foldl op s) := by
  induction l with
  | nil => exact HearsOnly.refl
  | cons x l ih => exact fun s => (h s x).trans (ih _)

theorem modShadow_hears (p : Nat) {g : PoolPairSt → PoolPairSt} (hg : ∀ x, (g x).owner = x.owner ∧ (g x).coverage = x.coverage ∧
    (g x).shadowTide = x.shadowTide) (s : Part) : HearsOnly s (modShadow p g s) := by
  have hid : ∀ x : PoolSt, (if x.pair.owner = 1 then { x with pair := g x.pair } else x).id = x.id := fun x => by split <;> rfl
  refine ⟨rfl, fun k x hx => ?_⟩
  by_cases hk : k = p
  · subst hk
    refine ⟨_, (Part.modPool_pool? s k _ hid).trans (by rw [hx]; rfl), ?_⟩
    dsimp only
    split
    · next howner => exact ⟨(hg _).1, (hg _).2.1, (hg _).2.2, fun h => absurd howner h⟩
    · exact .refl x
  · exact ⟨x, (Part.modPool_pool?_ne s _ hid hk).trans hx, .refl x⟩

theorem hearNews_hears (s : Part) (n : TwinNews) : HearsOnly s (hearNews s n) := by
  cases n <;>
  · rw [hearNews]
    apply modShadow_hears
    exact fun x => ⟨rfl, rfl, rfl⟩

/-! ### Seals (R78) -/

/-- A shadow that a confirmed seal carries through its tide. -/
def PoolSt.sealedTo (tide : Nat) (p : PoolSt) : PoolSt :=
  if p.pair.owner = 1 ∧ p.pair.coverage ≠ 0 then { p with pair := { p.pair with shadowTide := max p.pair.shadowTide tide } } else p

theorem PoolSt.sealedTo_id (tide : Nat) (p : PoolSt) : (p.sealedTo tide).id = p.id := by
  unfold PoolSt.sealedTo
  split <;> rfl

theorem Part.pools_map_pool? (s : Part) {g : PoolSt → PoolSt} (hg : ∀ x, (g x).id = x.id) (k : Nat) :
    ({ s with pools := s.pools.map g } : Part).pool? k = (s.pool? k).map g := by
  have hcomp : (fun y : PoolSt => y.id == k) ∘ g = fun y => y.id == k := by
    funext x
    simp [hg]
  simp only [Part.pool?, List.find?_map, hcomp]

theorem confirmSeal_eq (f : SealFrame) (s : Part) : confirmSeal f s = refreshAdmitState (emit (.hawserConfirm f.tide)
    { f.news.foldl hearNews s with pools := (f.news.foldl hearNews s).pools.map (PoolSt.sealedTo f.tide) }) := rfl

theorem confirmSeal_confirms (f : SealFrame) (s : Part) : .hawserConfirm f.tide ∈ (confirmSeal f s).out ∧
    (confirmSeal f s).pair = s.pair ∧ (confirmSeal f s).islands = s.islands ∧ (confirmSeal f s).sched.tideNow = s.sched.tideNow ∧
    (∀ k x, s.pool? k = some x → ∃ y, (confirmSeal f s).pool? k = some y ∧
      (x.pair.owner = 1 → x.pair.coverage ≠ 0 → y.pair.shadowTide = max x.pair.shadowTide f.tide) ∧
      (x.pair.owner ≠ 1 → y = x)) ∧ WithinSeal s (confirmSeal f s) := by
  obtain ⟨honly, hpools⟩ := HearsOnly.foldl hearNews_hears f.news s
  rw [confirmSeal_eq]
  revert honly hpools
  generalize f.news.foldl hearNews s = u
  intro honly hpools
  have hdecided := refreshAdmitState_decides (emit (.hawserConfirm f.tide) { u with pools := u.pools.map (PoolSt.sealedTo f.tide) })
  have hsame : u.pair = s.pair ∧ u.islands = s.islands ∧ u.sched = s.sched := by rw [honly]; exact ⟨rfl, rfl, rfl⟩
  have hwithin : WithinSeal s (emit (.hawserConfirm f.tide) { u with pools := u.pools.map (PoolSt.sealedTo f.tide) }) := by
    rw [honly]
    rfl
  refine ⟨hdecided.out.subset (List.mem_append_right _ (List.mem_singleton.mpr rfl)), hdecided.pair.trans hsame.1,
    hdecided.islands.trans hsame.2.1, hdecided.tideNow.trans (congrArg SchedSt.tideNow hsame.2.2), fun k x hx => ?_,
    hwithin.trans hdecided.within⟩
  obtain ⟨y, hy, howner, hcover, htide, hsame⟩ := hpools k x hx
  refine ⟨y.sealedTo f.tide, ?_, fun h1 h0 => ?_, fun hother => ?_⟩
  · rw [Part.pool?_congr hdecided.pools]
    exact (Part.pools_map_pool? u (PoolSt.sealedTo_id f.tide) k).trans (by rw [hy]; rfl)
  · rw [PoolSt.sealedTo, if_pos ⟨howner.trans h1, hcover ▸ h0⟩, htide]
  · rw [PoolSt.sealedTo, if_neg (fun h => hother (howner ▸ h.1))]
    exact hsame hother

theorem confirmSeals_within (l : List SealFrame) : ∀ s, WithinSeal s (confirmSeals l s).2 ∧
    (confirmSeals l s).2.pair = s.pair ∧ (confirmSeals l s).2.islands = s.islands ∧
    (confirmSeals l s).2.sched.tideNow = s.sched.tideNow := by
  induction l with
  | nil => exact fun _ => ⟨rfl, rfl, rfl, rfl⟩
  | cons f l ih =>
    intro s
    rw [confirmSeals]
    split
    · obtain ⟨-, hpair, hislands, htide, -, hwithin⟩ := confirmSeal_confirms f s
      obtain ⟨hwithin', hpair', hislands', htide'⟩ := ih (confirmSeal f s)
      exact ⟨hwithin.trans hwithin', hpair'.trans hpair, hislands'.trans hislands, htide'.trans htide⟩
    · exact ⟨rfl, rfl, rfl, rfl⟩

theorem confirmWaiting_within (s : Part) : WithinSeal s (confirmWaiting s) ∧
    (confirmWaiting s).pair = { s.pair with sealsWaiting := (confirmWaiting s).pair.sealsWaiting } ∧
    (confirmWaiting s).islands = s.islands ∧ (confirmWaiting s).sched.tideNow = s.sched.tideNow := by
  obtain ⟨hwithin, hpair, hislands, htide⟩ := confirmSeals_within s.pair.sealsWaiting s
  rw [confirmWaiting]
  refine ⟨hwithin.trans (Part.modPair_withinSeal ..), ?_, hislands, htide⟩
  simp only [Part.modPair_fields, hpair]

theorem confirmWaiting_one {s : Part} {f : SealFrame} (h : s.pair.sealsWaiting = [f]) : confirmWaiting s =
    if sealHeld s f then (confirmSeal f s).modPair (fun x => { x with sealsWaiting := [] })
    else s.modPair (fun x => { x with sealsWaiting := [f] }) := by
  rw [confirmWaiting, h]
  simp only [confirmSeals]
  split <;> rfl

theorem confirmWaiting_none {s : Part} (h : s.pair.sealsWaiting = []) : confirmWaiting s = s := by
  rw [confirmWaiting, h]
  simp only [confirmSeals]
  rw [← h]
  rfl

/-! ### The frame -/

/-- The part once a frame has come in: path 1 lives, and a follower knows the leader's tide. -/
def frameHeard (f : SealFrame) (s : Part) : Part :=
  let s := s.modPair (fun x => { x with missed := 0 })
  if f.fromLeader && s.pair.role == 0 then s.modSched (fun x => { x with tideNow := max x.tideNow f.tide }) else s

theorem sealFrameReceivedEff_eq {s : Part} (hpair : s.pair.state ≠ 0) (hpath : s.pair.path1Lost = false) (f : SealFrame) :
    sealFrameReceivedEff f s = if f.keepalive then frameHeard f s
      else confirmWaiting ((frameHeard f s).modPair (fun x => { x with sealsWaiting := x.sealsWaiting ++ [f] })) := by
  rw [sealFrameReceivedEff, if_neg (by simp [hpair, hpath])]
  rfl

/-- What hearing a frame changes. -/
structure FrameHeard (f : SealFrame) (s t : Part) : Prop where
  pair : t.pair = { s.pair with missed := 0 }
  follows : f.fromLeader = true → s.pair.role = 0 → t.sched.tideNow = max s.sched.tideNow f.tide
  stays : f.fromLeader = false ∨ s.pair.role ≠ 0 → t.sched.tideNow = s.sched.tideNow
  pools : t.pools = s.pools
  out : t.out = s.out
  within : WithinSeal s t

theorem frameHeard_hears (f : SealFrame) (s : Part) : FrameHeard f s (frameHeard f s) := by
  unfold frameHeard
  simp only []
  split
  · next h =>
    simp only [Part.modPair_fields, Bool.and_eq_true, beq_iff_eq] at h
    exact ⟨rfl, fun _ _ => rfl, fun hnot => absurd hnot (by simp [h.1, h.2]), rfl, rfl, rfl⟩
  · next h =>
    simp only [Part.modPair_fields, Bool.and_eq_true, beq_iff_eq, not_and] at h
    exact ⟨rfl, fun hlead hrole => absurd hrole (h hlead), fun _ => rfl, rfl, rfl, rfl⟩

theorem sealHeld_congr {s t : Part} (h : t.pools = s.pools) (f : SealFrame) : sealHeld t f = sealHeld s f := by
  simp only [sealHeld, Part.pool?_congr h]

theorem sealFrame_arrives (f : SealFrame) {s : State} (hpair : s.part.pair.state ≠ 0) (hpath : s.part.pair.path1Lost = false) :
    Runs (.sealFrameReceived f) s (fun t => t.pair = { s.part.pair with missed := 0, sealsWaiting := t.pair.sealsWaiting } ∧
      (f.fromLeader = true → s.part.pair.role = 0 → t.sched.tideNow = max s.part.sched.tideNow f.tide) ∧
      (f.fromLeader = false ∨ s.part.pair.role ≠ 0 → t.sched.tideNow = s.part.sched.tideNow) ∧ WithinSeal s.part t) := by
  have heard := frameHeard_hears f s.part
  refine runs_onPart rfl ?_
  rw [sealFrameReceivedEff_eq hpair hpath]
  split
  · exact ⟨by rw [heard.pair], heard.follows, heard.stays, heard.within⟩
  · obtain ⟨hwithin, hpairs, -, htide⟩ := confirmWaiting_within
      ((frameHeard f s.part).modPair (fun x => { x with sealsWaiting := x.sealsWaiting ++ [f] }))
    refine ⟨?_, fun hlead hrole => htide.trans (heard.follows hlead hrole), fun hnot => htide.trans (heard.stays hnot),
      (heard.within.trans (Part.modPair_withinSeal ..)).trans hwithin⟩
    rw [hpairs]
    simp only [Part.modPair_fields, heard.pair]

theorem keepalive_unanswered {f : SealFrame} {s : Part} (hpair : s.pair.state ≠ 0) (hpath : s.pair.path1Lost = false)
    (h : f.keepalive = true) : (sealFrameReceivedEff f s).out = s.out ∧ (sealFrameReceivedEff f s).pools = s.pools ∧
      (sealFrameReceivedEff f s).pair.sealsWaiting = s.pair.sealsWaiting := by
  have heard := frameHeard_hears f s
  rw [sealFrameReceivedEff_eq hpair hpath, if_pos h]
  exact ⟨heard.out, heard.pools, by rw [heard.pair]⟩

/-- A seal that finds none waiting is decided alone. -/
theorem seal_alone {f : SealFrame} {s v : Part} (heard : FrameHeard f s v) (hnone : s.pair.sealsWaiting = []) :
    ∃ u : Part, u.pools = s.pools ∧ u.out = s.out ∧
      confirmWaiting (v.modPair (fun x => { x with sealsWaiting := x.sealsWaiting ++ [f] })) =
        if sealHeld s f then (confirmSeal f u).modPair (fun x => { x with sealsWaiting := [] })
        else u.modPair (fun x => { x with sealsWaiting := [f] }) := by
  have hone : (v.modPair (fun x => { x with sealsWaiting := x.sealsWaiting ++ [f] })).pair.sealsWaiting = [f] := by
    simp [heard.pair, hnone]
  refine ⟨v.modPair (fun x => { x with sealsWaiting := x.sealsWaiting ++ [f] }), heard.pools, heard.out, ?_⟩
  rw [confirmWaiting_one hone, sealHeld_congr (t := v.modPair (fun x => { x with sealsWaiting := x.sealsWaiting ++ [f] })) heard.pools]

theorem seal_decided {f : SealFrame} {s : Part} (hpair : s.pair.state ≠ 0) (hpath : s.pair.path1Lost = false)
    (hseal : f.keepalive = false) (hnone : s.pair.sealsWaiting = []) : ∃ u : Part, u.pools = s.pools ∧ u.out = s.out ∧
      sealFrameReceivedEff f s = if sealHeld s f then (confirmSeal f u).modPair (fun x => { x with sealsWaiting := [] })
        else u.modPair (fun x => { x with sealsWaiting := [f] }) := by
  rw [sealFrameReceivedEff_eq hpair hpath, if_neg (by simp [hseal])]
  exact seal_alone (frameHeard_hears f s) hnone

theorem Part.modPair_out (s : Part) (g : PairSt → PairSt) : (s.modPair g).out = s.out := rfl

theorem Part.modPair_pool? (s : Part) (g : PairSt → PairSt) (k : Nat) : (s.modPair g).pool? k = s.pool? k := rfl

theorem seal_confirmed {f : SealFrame} {s : Part} (hpair : s.pair.state ≠ 0) (hpath : s.pair.path1Lost = false)
    (hseal : f.keepalive = false) (hnone : s.pair.sealsWaiting = []) (hheld : sealHeld s f = true) :
    (sealFrameReceivedEff f s).pair.sealsWaiting = [] ∧ .hawserConfirm f.tide ∈ (sealFrameReceivedEff f s).out ∧
    ∀ k x, s.pool? k = some x → ∃ y, (sealFrameReceivedEff f s).pool? k = some y ∧
      (x.pair.owner = 1 → x.pair.coverage ≠ 0 → y.pair.shadowTide = max x.pair.shadowTide f.tide) ∧
      (x.pair.owner ≠ 1 → y = x) := by
  obtain ⟨u, hpools, -, heq⟩ := seal_decided hpair hpath hseal hnone
  obtain ⟨hout, -, -, -, hshadows, -⟩ := confirmSeal_confirms f u
  rw [if_pos hheld] at heq
  refine ⟨?_, ?_, fun k x hx => ?_⟩
  · rw [heq]
    simp only [Part.modPair_fields]
  · rw [heq, Part.modPair_out]
    exact hout
  · rw [heq, Part.modPair_pool?]
    exact hshadows k x ((Part.pool?_congr hpools k).trans hx)

theorem seal_waits {f : SealFrame} {s : Part} (hpair : s.pair.state ≠ 0) (hpath : s.pair.path1Lost = false)
    (hseal : f.keepalive = false) (hnone : s.pair.sealsWaiting = []) (hheld : sealHeld s f = false) :
    (sealFrameReceivedEff f s).pair.sealsWaiting = [f] ∧ (sealFrameReceivedEff f s).out = s.out ∧
      (sealFrameReceivedEff f s).pools = s.pools := by
  obtain ⟨u, hpools, hout, heq⟩ := seal_decided hpair hpath hseal hnone
  rw [heq, if_neg (by simp [hheld])]
  exact ⟨rfl, hout, hpools⟩

/-! ### A block of the owner (R300) -/

theorem orderUp_only (i : Island) (s : Part) : orderUp i s = { s with islands := (orderUp i s).islands } := by
  unfold orderUp
  split <;> rfl

theorem orderUp_powered (i : Island) (s : Part) : ((orderUp i s).island i).powered = true := by
  unfold orderUp
  split
  · next h => exact h
  · rw [Part.modIsland_island]
    exact fun _ => rfl

/-- A pool's shadow with a block in it, in place of the same generation of it. -/
def PoolSt.withShadowBlock (b : MirrorBlock) (x : PoolSt) : PoolSt :=
  if x.pair.owner = 1 then { x with pair := { x.pair with
    shadow := x.pair.shadow.filter (fun y => !(y.stripe == b.stripe && y.strip == b.strip && y.bo == b.bo && y.gen == b.gen)) ++ [b]
    coverage := if x.pair.coverage = 0 then 1 else x.pair.coverage } }
  else x

theorem PoolSt.withShadowBlock_id (b : MirrorBlock) (x : PoolSt) : (x.withShadowBlock b).id = x.id := by
  unfold PoolSt.withShadowBlock
  split <;> rfl

theorem shadowBlockEff_eq {s : Part} (hpath : s.pair.path1Lost = false) (p : Nat) (b : MirrorBlock) : shadowBlockEff p b s =
    confirmWaiting (refreshAdmitState ((orderUp .d s).modPool p (PoolSt.withShadowBlock b))) := by
  rw [shadowBlockEff, if_neg (by simp [hpath])]
  rfl

/-- `t` differs from `s` at most in what a block of the owner reaches. -/
def WithinShadow (s t : Part) : Prop :=
  t = { s with islands := t.islands, sched := t.sched, pools := t.pools, pair := t.pair, tow := t.tow, dict := t.dict, log := t.log
               out := t.out }

theorem WithinShadow.trans {s t u : Part} (h : WithinShadow s t) (h' : WithinShadow t u) : WithinShadow s u :=
  calc u = _ := h'
    _ = _ := by rw [h]

theorem WithinSeal.withinShadow {s t : Part} (h : WithinSeal s t) : WithinShadow s t :=
  calc t = _ := h
    _ = _ := by rw [h]

theorem orderUp_withinShadow (i : Island) (s : Part) : WithinShadow s (orderUp i s) := by
  rw [orderUp_only]
  rfl

theorem shadowBlock_enters {p : Nat} {s : Part} {ps : PoolSt} (b : MirrorBlock) (h : s.pool? p = some ps)
    (hpath : s.pair.path1Lost = false) : ((shadowBlockEff p b s).island .d).powered = true ∧
      (s.pair.sealsWaiting = [] → (shadowBlockEff p b s).pool? p = some (ps.withShadowBlock b) ∧
        ∀ k, k ≠ p → (shadowBlockEff p b s).pool? k = s.pool? k) ∧ WithinShadow s (shadowBlockEff p b s) := by
  have hdecided := refreshAdmitState_decides ((orderUp .d s).modPool p (PoolSt.withShadowBlock b))
  rw [shadowBlockEff_eq hpath]
  revert hdecided
  generalize refreshAdmitState ((orderUp .d s).modPool p (PoolSt.withShadowBlock b)) = u
  intro hdecided
  obtain ⟨hwithin, -, hislands, -⟩ := confirmWaiting_within u
  have hpools : (orderUp .d s).pools = s.pools := by rw [orderUp_only]
  have hpair : u.pair = s.pair := hdecided.pair.trans (by rw [orderUp_only]; rfl)
  refine ⟨?_, fun hnone => ⟨?_, fun k hk => ?_⟩,
    (orderUp_withinShadow .d s).trans ((Part.modPool_withinSeal ..).trans (hdecided.within.trans hwithin)).withinShadow⟩
  · rw [Part.island_congr (hislands.trans hdecided.islands)]
    exact orderUp_powered .d s
  · rw [confirmWaiting_none (hpair ▸ hnone), Part.pool?_congr hdecided.pools, Part.modPool_pool? _ _ _ (PoolSt.withShadowBlock_id b),
      Part.pool?_congr hpools, h]
    rfl
  · rw [confirmWaiting_none (hpair ▸ hnone), Part.pool?_congr hdecided.pools,
      Part.modPool_pool?_ne _ _ (PoolSt.withShadowBlock_id b) hk, Part.pool?_congr hpools]

/-- Settles O18: a frame is heard, then the seals that wait are decided in order, each confirmation one decision of ADMIT_STATE. -/
theorem theTwinsFramesArrive : Obligations.TheTwinsFramesArrive := by
  unfold Obligations.TheTwinsFramesArrive
  intro f p b s
  refine ⟨fun hnone => ?_, fun hpair hpath => ?_, fun hpath => ?_, fun ps hp hpath howner => ?_⟩
  · exact stays_onPart rfl (by rw [sealFrameReceivedEff, if_pos hnone])
  · obtain ⟨t, hstep, hpairs, hfollows, hstays, hwithin⟩ := sealFrame_arrives f hpair hpath
    have ht : t = sealFrameReceivedEff f s.part := by
      cases hstep
      rfl
    subst ht
    exact ⟨_, hstep, hpairs, hfollows, hstays, keepalive_unanswered hpair hpath, seal_confirmed hpair hpath, seal_waits hpair hpath,
      hwithin⟩
  · exact stays_onPart rfl (by rw [shadowBlockEff, if_pos hpath])
  · obtain ⟨hpower, henters, hwithin⟩ := shadowBlock_enters b hp hpath
    rw [PoolSt.withShadowBlock, if_pos howner] at henters
    exact runs_onPart rfl ⟨hpower, henters, hwithin⟩

end Sys2Proof.Machine
end

section
/-! SUPPORT. What work on stripes reaches of the commands (04: R80, R87, R88; 06: R131 to R145), and what a read reaches of the part
(06: R134 to R137; 09: R224 to R230). -/

namespace Sys2Proof.Machine

/-! ### The commands of a chain -/

/-- Command `y` is command `x` some time later: as it stood, or ended, or no longer waiting. -/
def Cmd.Becomes (x y : Cmd) : Prop :=
  y.hseq = x.hseq ∧ { y with phase := x.phase } = x ∧ (y.phase = x.phase ∨ y.phase = .done ∨ (x.phase = .waiting ∧ y.phase = .accepted))

theorem Cmd.Becomes.refl (x : Cmd) : x.Becomes x := ⟨rfl, rfl, .inl rfl⟩

theorem Cmd.Becomes.trans {x y z : Cmd} (h : x.Becomes y) (h' : y.Becomes z) : x.Becomes z := by
  obtain ⟨hseq, hbut, hphase⟩ := h
  obtain ⟨hseq', hbut', hphase'⟩ := h'
  have hboth : { z with phase := x.phase } = x :=
    calc { z with phase := x.phase } = { ({ z with phase := y.phase } : Cmd) with phase := x.phase } := rfl
      _ = { y with phase := x.phase } := by rw [hbut']
      _ = x := hbut
  refine ⟨hseq'.trans hseq, hboth, ?_⟩
  obtain hsame' | hdone' | ⟨hwait', hacc'⟩ := hphase'
  · rw [hsame']
    exact hphase
  · exact .inr (.inl hdone')
  · obtain hsame | hdone | ⟨-, hacc⟩ := hphase
    · exact .inr (.inr ⟨hsame ▸ hwait', hacc'⟩)
    · exact absurd (hdone.symm.trans hwait') (by decide)
    · exact absurd (hacc.symm.trans hwait') (by decide)

/-- A chain some time later: it runs or stands halted as before, and lists no command it did not list. -/
structure ChainSt.Onward (a b : ChainSt) : Prop where
  st : b.st = a.st
  halt : b.halt = a.halt
  cmds : ∀ y ∈ b.cmds, ∃ x ∈ a.cmds, x.Becomes y
  numbers : (b.cmds.map (·.hseq)).Sublist (a.cmds.map (·.hseq))

theorem ChainSt.Onward.refl (a : ChainSt) : a.Onward a := ⟨rfl, rfl, fun y hy => ⟨y, hy, .refl y⟩, List.Sublist.refl _⟩

theorem ChainSt.Onward.trans {a b c : ChainSt} (h : a.Onward b) (h' : b.Onward c) : a.Onward c := by
  refine ⟨h'.st.trans h.st, h'.halt.trans h.halt, fun z hz => ?_, h'.numbers.trans h.numbers⟩
  obtain ⟨y, hy, hyz⟩ := h'.cmds z hz
  obtain ⟨x, hx, hxy⟩ := h.cmds y hy
  exact ⟨x, hx, hxy.trans hyz⟩

/-- Every chain of `t` is its chain of `s` some time later, and no sleep has been asked for since. -/
structure Steady (s t : Part) : Prop where
  chain : ∀ c, (s.chain c).Onward (t.chain c)
  sleeping : t.tow.sleeping = s.tow.sleeping

theorem Steady.refl (s : Part) : Steady s s := ⟨fun _ => .refl _, rfl⟩

theorem Steady.trans {s t u : Part} (h : Steady s t) (h' : Steady t u) : Steady s u := ⟨fun c => (h.chain c).trans (h'.chain c), h'.sleeping.trans h.sleeping⟩

theorem Steady.foldl {α : Type} {op : Part → α → Part} (h : ∀ s x, Steady s (op s x)) (l : List α) : ∀ s, Steady s (l.foldl op s) := by
  induction l with
  | nil => exact Steady.refl
  | cons x l ih => exact fun s => (h s x).trans (ih _)

theorem Part.sleeping_of_footing {s t : Part} (h : t.footing = s.footing) : t.tow.sleeping = s.tow.sleeping :=
  (congrArg TowSt.sleeping (Part.footing_eq_iff.mp h).2.2.2.2 :)

theorem Steady.of_chains {s t : Part} (h : t.chains = s.chains) (h' : t.tow.sleeping = s.tow.sleeping) : Steady s t where
  chain c := by
    rw [Part.chain_congr h]
    exact .refl _
  sleeping := h'

/-- A change of the commands of one number, each to what it may become. -/
theorem Steady.modCmd {g : Cmd → Cmd} (hg : ∀ x : Cmd, x.Becomes (g x)) (s : Part) (c : Nat) (h : BitVec 32) : Steady s (s.modCmd c h g) := by
  refine ⟨fun d => ?_, by simp⟩
  by_cases hd : d = c
  · subst hd
    rw [Part.modCmd_chain]
    refine ⟨rfl, rfl, fun y hy => ?_, by rw [map_updBy (fun x => (hg x).1)]⟩
    obtain ⟨x, hx, rfl⟩ := List.mem_map.mp hy
    refine ⟨x, hx, ?_⟩
    split
    · exact hg x
    · exact .refl x
  · rw [Part.modCmd, Part.modChain_chain_ne _ _ (by simp) hd]
    exact .refl _

theorem Steady.complete (c : Nat) (h : BitVec 32) (status : Nat) (info : BitVec 64) (s : Part) :
    Steady s (complete c h status info s) := by
  refine ⟨fun d => ?_, by simp⟩
  obtain ⟨-, hst, hhalt⟩ := complete_chain_keeps c d h status info s
  have hstands : ∀ x : ChainSt, x = s.chain d → (∀ y ∈ x.cmds, ∃ z ∈ (s.chain d).cmds, z.Becomes y) ∧
      (x.cmds.map (·.hseq)).Sublist ((s.chain d).cmds.map (·.hseq)) := by
    rintro x rfl
    exact ⟨fun y hy => ⟨y, hy, .refl y⟩, List.Sublist.refl _⟩
  have hcmds : (∀ y ∈ ((Machine.complete c h status info s).chain d).cmds, ∃ z ∈ (s.chain d).cmds, z.Becomes y) ∧
      (((Machine.complete c h status info s).chain d).cmds.map (·.hseq)).Sublist ((s.chain d).cmds.map (·.hseq)) := by
    obtain hsame | ⟨hend, hothers⟩ := complete_chain_cases c h status info s
    · exact hstands _ (hsame d)
    · by_cases hd : d = c
      · subst hd
        rw [hend]
        have hnum := map_updBy (f := Cmd.hseq) (p := fun y => y.hseq == h) (g := fun y : Cmd => { y with phase := .done }) (fun _ => rfl)
          (s.chain d).cmds
        refine ⟨fun y hy => ?_, ((ChainSt.advance_cmds_suffix _).sublist.map _).trans (by rw [hnum])⟩
        obtain ⟨x, hx, rfl⟩ := List.mem_map.mp ((ChainSt.advance_cmds_suffix _).subset hy)
        refine ⟨x, hx, ?_⟩
        split
        · exact ⟨rfl, rfl, .inr (.inl rfl)⟩
        · exact .refl x
      · exact hstands _ (hothers d hd)
  exact ⟨hst, hhalt, hcmds.1, hcmds.2⟩

/-- A change of a chain that touches neither its commands nor whether it runs. -/
theorem Steady.modChain {g : ChainSt → ChainSt} (hg : ∀ x, (g x).id = x.id ∧ (g x).st = x.st ∧ (g x).halt = x.halt ∧ (g x).cmds = x.cmds)
    (s : Part) (c : Nat) : Steady s (s.modChain c g) := by
  refine ⟨fun d => ?_, by simp⟩
  by_cases hd : d = c
  · subst hd
    rw [Part.modChain_chain _ _ _ (by simp [(hg _).1])]
    exact ⟨(hg _).2.1, (hg _).2.2.1, fun y hy => ⟨y, (hg _).2.2.2 ▸ hy, .refl y⟩, by rw [(hg _).2.2.2]⟩
  · rw [Part.modChain_chain_ne _ _ (by simp [(hg _).1]) hd]
    exact .refl _

/-- Where every command of a number has ended, it has later. -/
theorem Part.HasEnded.onward {s t : Part} {c : Nat} {h : BitVec 32} (hs : s.HasEnded c h) (hst : Steady s t) : t.HasEnded c h := by
  intro y hy hseq
  obtain ⟨x, hx, hxseq, -, hphase⟩ := (hst.chain c).cmds y hy
  have hdone := hs x hx (hxseq ▸ hseq)
  obtain hsame | hended | ⟨hwait, -⟩ := hphase
  · exact hsame.trans hdone
  · exact hended
  · exact absurd (hdone.symm.trans hwait) (by decide)

/-! ### Records about blocks (R139 to R147) -/

/-- `t` differs from `s` at most in what a record about a block reaches. -/
def Notes (s t : Part) : Prop :=
  t = { s with pools := t.pools, vols := t.vols, dict := t.dict, log := t.log, out := t.out
               tow := { s.tow with heldLog := t.tow.heldLog, heldOver := t.tow.heldOver } }

theorem Notes.refl (s : Part) : Notes s s := rfl

theorem Notes.trans {s t u : Part} (h : Notes s t) (h' : Notes t u) : Notes s u :=
  calc u = _ := h'
    _ = _ := by rw [h]

theorem Notes.foldl {α : Type} {op : Part → α → Part} (h : ∀ s x, Notes s (op s x)) (l : List α) : ∀ s, Notes s (l.foldl op s) := by
  induction l with
  | nil => exact Notes.refl
  | cons x l ih => exact fun s => (h s x).trans (ih _)

theorem Logged.notes {s t : Part} (h : Logged s t) : Notes s t :=
  calc t = _ := h
    _ = _ := by rw [h]

theorem Notes.log (code inst : Nat) (d : Bytes) (s : Part) : Notes s (log code inst d s) := (log_logged ..).notes
theorem Notes.noted (ss rule item : Nat) (d : Bytes) (s : Part) : Notes s (noted ss rule item d s) := (noted_logged ..).notes
theorem Notes.modPool (s : Part) (p : Nat) (g : PoolSt → PoolSt) : Notes s (s.modPool p g) := rfl
theorem Notes.raiseDeferred (vol lba cause : Nat) (s : Part) : Notes s (raiseDeferred vol lba cause s) := rfl
theorem Notes.examineLater (p stripe : Nat) (s : Part) : Notes s (examineLater p stripe s) := rfl
theorem Notes.recheckLater (p stripe bo : Nat) (blocked : Bool) (s : Part) : Notes s (recheckLater p stripe bo blocked s) := rfl
theorem Notes.clearLost (p stripe i bo : Nat) (s : Part) : Notes s (clearLost p stripe i bo s) := rfl
theorem Notes.clearDiverged (p stripe i bo : Nat) (s : Part) : Notes s (clearDiverged p stripe i bo s) := rfl
theorem Notes.offsetSettled (p stripe bo : Nat) (diverged : List Nat) (s : Part) : Notes s (offsetSettled p stripe bo diverged s) := rfl

theorem Notes.enterLost (p : Nat) (e : LostEntry) (s : Part) : Notes s (enterLost p e s) := by
  unfold Machine.enterLost
  split
  · exact .refl s
  · split
    · exact .refl s
    · have hlogged := fun g => (Notes.modPool s p g).trans (.log 0x0802 p e.bytes _)
      split
      · exact hlogged _
      · exact (hlogged _).trans (.raiseDeferred ..)

theorem Notes.settledByRank (p vol lba : Nat) (covered : Bool) (s : Part) : Notes s (settledByRank p vol lba covered s) := by
  unfold Machine.settledByRank
  simp only []
  split
  · exact (Notes.log ..).trans (.raiseDeferred ..)
  · exact .log ..

theorem Notes.recordDiverged (p : Nat) (d : DivEntry) (s : Part) : Notes s (recordDiverged p d s) := by
  unfold Machine.recordDiverged
  split
  · exact .refl s
  · split
    · exact .refl s
    · exact ((Notes.modPool s p _).trans (.log ..)).trans (.raiseDeferred ..)

theorem Notes.blockDiverges (ps : PoolSt) (g : Geo) (stripe i bo : Nat) (s : Part) : Notes s (blockDiverges ps g stripe i bo s) := by
  unfold Machine.blockDiverges
  split
  · split
    · exact .settledByRank ..
    · exact .recordDiverged ..
  · exact .settledByRank ..

theorem Notes.repairedAt (ps : PoolSt) (g : Geo) (stripe i bo : Nat) (s : Part) : Notes s (repairedAt ps g stripe i bo s) := by
  have hcount : ∀ vol lba member, Notes s (countRepaired ps.id vol lba member s) := fun _ _ _ => (Notes.modPool s _ _).trans (.log ..)
  unfold Machine.repairedAt
  split <;> exact hcount ..

theorem Notes.settleRank (ps : PoolSt) (g : Geo) (stripe bo : Nat) (reads : List StripRead) (units : List (Option Bytes))
    (low : List Bytes) (s : Part) : Notes s (settleRank ps g stripe bo reads units low s).part := by
  unfold Machine.settleRank
  split
  · exact .recheckLater ..
  · exact .refl s

theorem Notes.settle (s : Part) (ps : PoolSt) (g : Geo) (stripe bo : Nat) (reads : List StripRead) (units : List (Option Bytes))
    (d : Decoded) : Notes s (settle s ps g stripe bo reads units d).part := by
  cases d with
  | beyond => exact .refl s
  | clean u => exact .refl s
  | wrong i u low =>
    unfold Machine.settle
    simp only []
    split
    · exact .refl s
    · split
      · exact .refl s
      · exact .refl s
      · split
        · exact (Notes.blockDiverges ..).trans (.settleRank ..)
        · exact .blockDiverges ..
      · exact .noted ..
  | unsettled u =>
    have hall : Notes s ((List.range g.h.k).foldl (fun st i => Machine.blockDiverges ps g stripe i bo st) s) :=
      .foldl (fun st i => .blockDiverges ps g stripe i bo st) _ s
    unfold Machine.settle
    simp only []
    split
    · exact hall.trans (.settleRank ..)
    · exact hall

theorem Notes.restoreOffset (s : Part) (ps : PoolSt) (g : Geo) (bad : BadReads) (stripe bo : Nat) :
    Notes s (restoreOffset s ps g bad stripe bo).2.part := .settle ..

theorem Notes.coverAll (l : List (Nat × Nat × Nat × Nat)) (s : Part) : Notes s (coverAll l s) := by
  refine .foldl (fun st a => ?_) l s
  have hcleared := (Notes.clearLost a.1 a.2.1 a.2.2.1 a.2.2.2 st).trans (.clearDiverged a.1 a.2.1 a.2.2.1 a.2.2.2 _)
  unfold coverBlock
  simp only []
  split
  · exact hcleared.trans (.examineLater ..)
  · exact hcleared

theorem Notes.resolutionsDone (p stripe : Nat) (s : Part) : Notes s (resolutionsDone p stripe s) := by
  unfold Machine.resolutionsDone
  split
  · exact .refl s
  · exact .modPool ..

theorem Notes.loseHome (p o : Nat) (s : Part) : Notes s (loseHome p o s) := by
  unfold Machine.loseHome
  split
  · exact .refl s
  · extract_lets inForce s1 s2
    have hs1 : Notes s s1 := by
      simp only [s1]
      split
      · split
        · exact .modPool ..
        · exact .refl s
      · exact .refl s
    have hs2 : Notes s s2 := hs1.trans (.modPool ..)
    split
    · split
      · split
        · exact hs2.trans (.log ..)
        · exact hs2
      · exact hs2
    · exact hs1

theorem Notes.steady {s t : Part} (h : Notes s t) : Steady s t := .of_chains (by rw [h]) (by rw [h])

theorem Notes.withinStripes {s t : Part} (h : Notes s t) : WithinStripes s t :=
  calc t = _ := h
    _ = _ := by rw [h]

/-! ### Work on stripes (R80, R85 to R88, R104) -/

theorem Steady.modMan (s : Part) (g : ManifestSt → ManifestSt) : Steady s (s.modMan g) := .of_chains rfl rfl
theorem Steady.modPool (s : Part) (p : Nat) (g : PoolSt → PoolSt) : Steady s (s.modPool p g) := .of_chains rfl rfl
theorem Steady.modMember (s : Part) (k : Nat) (g : MemberSt → MemberSt) : Steady s (s.modMember k g) := .of_chains rfl rfl
theorem Steady.modEntry (p stripe : Nat) (g : MEntry → MEntry) (s : Part) : Steady s (s.modEntry p stripe g) := .of_chains rfl rfl
theorem Steady.dropEntry (p stripe : Nat) (s : Part) : Steady s (dropEntry p stripe s) := .of_chains rfl rfl
theorem Steady.enqueueCmd (k : Nat) (op : MOp) (cls : Nat) (nonQueued fua : Bool) (mba count : Nat) (s : Part) :
    Steady s (enqueueCmd k op cls nonQueued fua mba count s) := .of_chains rfl rfl

theorem ManifestOnly.steady {s t : Part} (h : ManifestOnly s t) : Steady s t := .of_chains (by rw [h]) (by rw [h])

theorem KeepsHeld.steady {s t : Part} (h : KeepsHeld s t) : Steady s t := .of_chains (by rw [h.1]) (by rw [h.1])

theorem Steady.tellTwin (p : Nat) (n : TwinNews) (s : Part) : Steady s (tellTwin p n s) := (tellTwin_keepsHeld p n s).steady

theorem Steady.settleEntries (l : List Held) (s : Part) : Steady s (settleEntries l s) := (settleEntries_keepsHeld l s).steady

theorem Reprotected.steadyTow {s t : Part} (h : Reprotected s t) : t.tow.sleeping = s.tow.sleeping := by
  rw [h]

theorem WithinSeal.chains {s t : Part} (h : WithinSeal s t) : t.chains = s.chains := by
  rw [h]

theorem Steady.refreshAdmitState (s : Part) : Steady s (refreshAdmitState s) :=
  .of_chains (refreshAdmitState_decides s).within.chains (refreshAdmitState_reprotected s).steadyTow

theorem Steady.markStale (ps : PoolSt) (g : Geo) (stripe i : Nat) (written : List (Nat × Nat)) (s : Part) :
    Steady s (markStale ps g stripe i written s) := by
  unfold Machine.markStale
  simp only []
  split
  · exact .refl s
  · exact .modPool ..

theorem Steady.failThrough (ps : PoolSt) (stripe : Nat) (s : Part) : Steady s (failThrough ps stripe s) := by
  unfold Machine.failThrough
  extract_lets mine cmds s1 s2
  have hs1 : Steady s s1 := .foldl (fun st ch => by
    simp only []
    split
    · exact .refl st
    · exact .complete ..) _ s
  have hs2 : Steady s s2 := (hs1.trans (.modMan ..)).trans (.settleEntries ..)
  split
  · split
    · exact hs2.trans (.dropEntry ..)
    · exact hs2.trans (.modEntry ..)
  · exact hs2

theorem Steady.ackThrough (done : List (Nat × BitVec 32)) (s : Part) : Steady s (ackThrough done s) := by
  refine .foldl (fun st ch => ?_) _ s
  split
  · exact .refl st
  · split
    · split
      · exact (Notes.coverAll ..).steady.trans (.complete ..)
      · exact .refl st
    · exact .refl st

theorem Steady.retire (p stripe : Nat) (s : Part) : Steady s (retire p stripe s) := by
  unfold Machine.retire
  split
  · next ps e hps he =>
    extract_lets g s1 isGone gone s2 s3 s4 s5 rest s6 s7
    have hs1 : Steady s s1 := .foldl (fun st i => .markStale ps g stripe i _ st) _ s
    have hs4 : Steady s s4 := hs1.trans (.of_chains rfl rfl)
    have hs6 : Steady s s6 := by
      simp only [s6]
      split
      · exact (hs4.trans (.tellTwin ..)).trans (.dropEntry ..)
      · exact ((hs4.trans (.tellTwin ..)).trans (.modEntry ..)).trans (.modMan ..)
    have hs7 : Steady s s7 := (hs6.trans (.modMan ..)).trans (.refreshAdmitState _)
    split
    · split
      · exact hs1.trans (.failThrough ..)
      · exact (hs1.trans (.modEntry ..)).trans (.modMan ..)
    · exact (hs7.trans (Notes.resolutionsDone ..).steady).trans (.ackThrough ..)
  · exact .refl s

theorem Steady.retireIfDone (p stripe : Nat) (s : Part) : Steady s (retireIfDone p stripe s) := by
  unfold Machine.retireIfDone
  split
  · split
    · exact .retire ..
    · exact .refl s
  · exact .refl s

theorem Steady.promote (p stripe : Nat) (s : Part) : Steady s (promote p stripe s) := by
  have hissued : ∀ st, Steady st (issueStripWrites p stripe st) := fun st => by
    unfold issueStripWrites
    split
    · exact .foldl (fun _ _ => .enqueueCmd ..) _ st
    · exact .refl st
  unfold Machine.promote
  split
  · split
    · exact .refl s
    · refine Steady.trans (Steady.trans ?_ (hissued _)) (.retireIfDone ..)
      split
      · exact (Steady.modEntry ..).trans (.modMan ..)
      · exact .modEntry ..
  · exact .refl s

theorem Steady.promoteAll (p : Nat) (s : Part) : Steady s (promoteAll p s) := .foldl (fun st x => .promote p x st) _ s

theorem Steady.stageWrites (p stripe : Nat) (blocks : List (Nat × Nat × Block)) (s : Part) :
    Steady s (stageWrites p stripe blocks s) :=
  (((Steady.modEntry ..).trans (.tellTwin ..)).trans (.modPool ..)).trans (.promote ..)

theorem addEntry_manifestOnly (p stripe : Nat) (st : EntryState) (s : Part) : ManifestOnly s (addEntry p stripe st s) := by
  unfold addEntry
  split <;> rfl

theorem Steady.stageRepair (cls p stripe : Nat) (blocks : List (Nat × Nat × Block)) (s : Part) :
    Steady s (stageRepair cls p stripe blocks s) := by
  unfold Machine.stageRepair
  split
  · exact .refl s
  · split
    · exact (Notes.examineLater ..).steady
    · exact ((addEntry_manifestOnly ..).steady.trans (.modEntry ..)).trans (.stageWrites ..)

/-! ### A member that changes state (R65, R206) -/

/-- `t` is `s` after work on stripes: its reach, and the chains some time later. -/
structure StripeReach (s t : Part) : Prop where
  within : WithinStripes s t
  steady : Steady s t

theorem StripeReach.refl (s : Part) : StripeReach s s := ⟨rfl, .refl s⟩

theorem StripeReach.trans {s t u : Part} (h : StripeReach s t) (h' : StripeReach t u) : StripeReach s u :=
  ⟨h.within.trans h'.within, h.steady.trans h'.steady⟩

theorem StripeReach.foldl {α : Type} {op : Part → α → Part} (h : ∀ s x, StripeReach s (op s x)) (l : List α) :
    ∀ s, StripeReach s (l.foldl op s) := by
  induction l with
  | nil => exact StripeReach.refl
  | cons x l ih => exact fun s => (h s x).trans (ih _)

theorem Notes.reach {s t : Part} (h : Notes s t) : StripeReach s t := ⟨h.withinStripes, h.steady⟩

theorem StripeReach.modMember (s : Part) (k : Nat) (g : MemberSt → MemberSt) : StripeReach s (s.modMember k g) := ⟨rfl, .modMember ..⟩
theorem StripeReach.modMan (s : Part) (g : ManifestSt → ManifestSt) : StripeReach s (s.modMan g) := ⟨rfl, .modMan ..⟩

theorem StripeReach.stageRepair (cls p stripe : Nat) (blocks : List (Nat × Nat × Block)) (s : Part) :
    StripeReach s (stageRepair cls p stripe blocks s) := ⟨.of_backdrop (stageRepair_backdrop ..), .stageRepair ..⟩

theorem StripeReach.dropUnwritable (p : Nat) (s : Part) : StripeReach s (dropUnwritable p s) := by
  unfold Machine.dropUnwritable
  exact .foldl (fun st stripe => ⟨.of_structures ((retireIfDone_structures ..).trans (Part.modEntry_structures ..)),
    (Steady.modEntry ..).trans (.retireIfDone ..)⟩) _ s

theorem StripeReach.memberFailedInPool (p o : Nat) (s : Part) : StripeReach s (memberFailedInPool p o s) := by
  unfold Machine.memberFailedInPool
  extract_lets s1 s2 s3
  have hs2 : Notes s s2 := (Notes.modPool s p _).trans (.modPool ..)
  have hs3 : Notes s s3 := (hs2.trans (.loseHome p o s2)).trans (.modPool ..)
  exact (hs3.trans (.modPool s3 p _)).reach.trans (.dropUnwritable ..)

theorem StripeReach.dropMemberCmds (k : Nat) (s : Part) : StripeReach s (dropMemberCmds k s) := by
  have hone : ∀ (st : Part) (c : MCmd), StripeReach st (match c.op with
      | .readStrip _ _ _ ch h => st.modCmd ch h (fun x => if x.phase = .waiting then { x with phase := .accepted } else x)
      | _ => st) := fun st c => by
    split
    · refine ⟨rfl, .modCmd (fun x => ?_) ..⟩
      split
      · next hwait => exact ⟨rfl, rfl, .inr (.inr ⟨hwait, rfl⟩)⟩
      · exact .refl x
    · exact .refl st
  unfold Machine.dropMemberCmds
  split
  · exact .refl s
  · exact (StripeReach.foldl hone _ s).trans (.modMember ..)

theorem StripeReach.setMemberState (k new row : Nat) (s : Part) : StripeReach s (setMemberState k new row s) := by
  unfold Machine.setMemberState
  split
  · exact .refl s
  · split
    · split
      · exact .modMember ..
      · exact .refl s
    · extract_lets t u failed gone
      have hu : StripeReach s u := (Notes.log ..).reach.trans (.modMember ..)
      have hfailed : StripeReach u failed := by
        simp only [failed]
        split
        · exact .memberFailedInPool ..
        · exact .refl u
      have hgone : StripeReach u gone := by
        simp only [gone]
        split
        · exact (Notes.loseHome ..).reach.trans (.dropUnwritable ..)
        · exact .refl u
      split
      · exact (hu.trans hfailed).trans (.dropMemberCmds ..)
      · exact (hu.trans hgone).trans (.dropMemberCmds ..)
      · split
        · next p o _ =>
          extract_lets again st
          have hagain : StripeReach u again := by
            simp only [again, registerAgain]
            split
            · exact .modMember ..
            · exact .refl u
          split
          · exact hu.trans hagain
          · exact (hu.trans hagain).trans (Notes.modPool again p _).reach
        · exact hu
      · exact hu

theorem StripeReach.failMember (k : Nat) (s : Part) : StripeReach s (failMember k s) := by
  unfold Machine.failMember
  split
  · split
    · exact .setMemberState ..
    · exact .refl s
  · exact .refl s

theorem StripeReach.suspect (k : Nat) (s : Part) : StripeReach s (suspect k s) := by
  unfold Machine.suspect
  split
  · split
    · exact .setMemberState ..
    · split
      · exact .modMember ..
      · exact .refl s
  · exact .refl s

theorem StripeReach.mediumError (k : Nat) (s : Part) : StripeReach s (mediumError k s) := by
  unfold Machine.mediumError
  split
  · exact .refl s
  · extract_lets l s1
    have hs1 : StripeReach s s1 := .modMember ..
    split
    · exact hs1.trans (.failMember ..)
    · split
      · exact hs1.trans (.suspect ..)
      · exact hs1

theorem StripeReach.countMedium (bad : BadReads) (s : Part) : StripeReach s (countMedium bad s) :=
  .foldl (fun st (x : Nat × Nat) => .mediumError x.1 st) bad s

end Sys2Proof.Machine
end

section
/-! SUPPORT. What a read reaches (06: R119, R131 to R137, R145; 08: R206; 09: R224 to R230; 11: R275, R276). -/

namespace Sys2Proof.Machine

/-! ### The reach of a read -/

/-- `t` differs from `s` at most in what a read of blocks reaches. -/
def WithinRead (s t : Part) : Prop :=
  t = { s with sched := t.sched, man := t.man, chains := t.chains, fn0 := t.fn0, fn1 := t.fn1, pools := t.pools, vols := t.vols
               members := t.members, toll := t.toll, pair := t.pair, tow := t.tow, dict := t.dict, log := t.log, out := t.out }

theorem WithinRead.trans {s t u : Part} (h : WithinRead s t) (h' : WithinRead t u) : WithinRead s u :=
  calc u = _ := h'
    _ = _ := by rw [h]

theorem WithinStripes.withinRead {s t : Part} (h : WithinStripes s t) : WithinRead s t :=
  calc t = _ := h
    _ = _ := by rw [h]

/-- `t` is `s` after a read: its reach, and the chains some time later. -/
structure ReadReach (s t : Part) : Prop where
  within : WithinRead s t
  steady : Steady s t

theorem ReadReach.refl (s : Part) : ReadReach s s := ⟨rfl, .refl s⟩

theorem ReadReach.trans {s t u : Part} (h : ReadReach s t) (h' : ReadReach t u) : ReadReach s u :=
  ⟨h.within.trans h'.within, h.steady.trans h'.steady⟩

theorem ReadReach.foldl {α : Type} {op : Part → α → Part} (h : ∀ s x, ReadReach s (op s x)) (l : List α) :
    ∀ s, ReadReach s (l.foldl op s) := by
  induction l with
  | nil => exact ReadReach.refl
  | cons x l ih => exact fun s => (h s x).trans (ih _)

/-- A step whose result carries more than the part. -/
theorem ReadReach.foldl_snd {α β : Type} {op : β × Part → α → β × Part} (h : ∀ acc x, ReadReach acc.2 (op acc x).2) (l : List α) :
    ∀ acc, ReadReach acc.2 (l.foldl op acc).2 := by
  induction l with
  | nil => exact fun acc => .refl acc.2
  | cons x l ih => exact fun acc => (h acc x).trans (ih _)

theorem StripeReach.reads {s t : Part} (h : StripeReach s t) : ReadReach s t := ⟨h.within.withinRead, h.steady⟩

theorem Notes.reads {s t : Part} (h : Notes s t) : ReadReach s t := h.reach.reads

theorem ReadReach.modToll (s : Part) (g : TollSt → TollSt) : ReadReach s (s.modToll g) := ⟨rfl, .of_chains rfl rfl⟩
theorem ReadReach.modMember (s : Part) (k : Nat) (g : MemberSt → MemberSt) : ReadReach s (s.modMember k g) := ⟨rfl, .of_chains rfl rfl⟩
theorem ReadReach.modMan (s : Part) (g : ManifestSt → ManifestSt) : ReadReach s (s.modMan g) := ⟨rfl, .of_chains rfl rfl⟩
theorem ReadReach.emit (o : Output) (s : Part) : ReadReach s (emit o s) := ⟨rfl, .of_chains rfl rfl⟩

theorem ReadReach.complete (c : Nat) (h : BitVec 32) (status : Nat) (info : BitVec 64) (s : Part) :
    ReadReach s (complete c h status info s) := by
  refine ⟨?_, .complete ..⟩
  rw [WithinRead, complete_within]

/-! ### Tollgate (R224, R227, R230) -/

theorem ReadReach.partFaulty (subsystem : Nat) (s : Part) : ReadReach s (partFaulty subsystem s) := by
  refine ⟨?_, .of_chains (by simp [Machine.partFaulty]) (Part.sleeping_of_footing (faultyBy_footing ..))⟩
  rw [WithinRead, partFaulty_withinFault]

theorem ReadReach.tollFaultCheck (s : Part) : ReadReach s (tollFaultCheck s) := by
  unfold Machine.tollFaultCheck
  split
  · exact .partFaulty ..
  · exact .refl s

theorem ReadReach.retireUnit (u : Nat) (bySelfTest : Bool) (s : Part) : ReadReach s (retireUnit u bySelfTest s) := by
  unfold Machine.retireUnit
  split
  · exact .refl s
  · exact (ReadReach.modToll ..).trans (Notes.log ..).reads

theorem ReadReach.checkMismatch (u : Nat) (s : Part) : ReadReach s (checkMismatch u s) := by
  unfold Machine.checkMismatch
  extract_lets again s1
  have hs1 : ReadReach s s1 := .modToll ..
  split
  · exact (hs1.trans (.retireUnit ..)).trans (.tollFaultCheck _)
  · exact hs1

theorem ReadReach.selfTestEnd (failed : BitVec 64) (s : Part) : ReadReach s (selfTestEnd failed s) := by
  unfold Machine.selfTestEnd
  extract_lets s1 s2 s3 s4
  have hs2 : ReadReach s1 s2 := .foldl (fun st u => by
    split
    · exact .retireUnit ..
    · exact .refl st) _ s1
  have hs3 : ReadReach s2 s3 := by
    simp only [s3]
    split
    · exact .modToll ..
    · exact .refl s2
  exact ((((ReadReach.modToll s _).trans hs2).trans hs3).trans (.modToll ..)).trans (.tollFaultCheck _)

theorem ReadReach.integrityFault (v lba lane : Nat) (s : Part) : ReadReach s (integrityFault v lba lane s) := by
  unfold Machine.integrityFault
  extract_lets s1 again s2
  have hs2 : ReadReach s s2 := (Notes.log ..).reads.trans (.modToll ..)
  split
  · exact hs2.trans (.selfTestEnd 0 s2)
  · exact hs2

theorem ReadReach.countAuthFail (p v lba member : Nat) (s : Part) : ReadReach s (countAuthFail p v lba member s) := by
  unfold Machine.countAuthFail
  extract_lets s1 recent
  have hs1 : ReadReach s s1 := .modToll ..
  split
  · exact hs1
  · exact (hs1.trans (.modToll ..)).trans (Notes.log ..).reads

theorem ReadReach.finishBlock (lf : LaneFaults) (v : CVol) (lba copy : Nat) (pt hpi : Bytes) (s : Part) :
    ReadReach s (finishBlock lf v lba copy pt hpi s).2 := by
  unfold Machine.finishBlock
  split
  · exact .integrityFault ..
  · split
    · exact .integrityFault ..
    · exact (Notes.noted ..).reads
    · exact .refl s

/-- A judged block: the part after it. -/
theorem ReadReach.judge {lf : LaneFaults} {p : PoolSt} {g : Geo} {v : CVol} {lba copy : Nat} {b : Block} {s : Part} {x : BlockEnd × Part}
    (h : judge lf p g v lba copy b s = some x) : ReadReach s x.2 := by
  unfold Machine.judge at h
  split at h
  · obtain rfl := Option.some.inj h
    exact .refl s
  · split at h
    · obtain rfl := Option.some.inj h
      exact .refl s
    · obtain ⟨y, -, rfl⟩ := Option.map_eq_some_iff.mp h
      exact .finishBlock ..

/-! ### Blocks that need more than their strip (R119, R131, R136, R145) -/

theorem ReadReach.stageRepair (cls p stripe : Nat) (blocks : List (Nat × Nat × Block)) (s : Part) :
    ReadReach s (stageRepair cls p stripe blocks s) := (StripeReach.stageRepair ..).reads

theorem ReadReach.unreadable (cls : Nat) (bad : BadReads) (p : PoolSt) (g : Geo) (stripe bo : Nat) (s : Part) :
    ReadReach s (unreadable cls bad p g stripe bo s) := by
  unfold Machine.unreadable
  split
  · exact .refl s
  · extract_lets reads there lost ws s1 s2
    have hs1 : ReadReach s s1 := (Notes.foldl (fun t (e : Nat × LostEntry) => .enterLost p.id e.2 t) lost s).reads
    have hs2 : ReadReach s1 s2 := by
      simp only [s2]
      split
      · exact (Notes.recheckLater ..).reads
      · exact .refl s1
    exact (hs1.trans hs2).trans (.stageRepair ..)

theorem ReadReach.rebuildBlock (cls : Nat) (bad : BadReads) (lf : LaneFaults) (p : PoolSt) (g : Geo) (v : CVol)
    (lba stripe i bo : Nat) (own : Option StripRead) (s : Part) :
    ReadReach s (rebuildBlock cls bad lf p g v lba stripe i bo own s).2 := by
  unfold Machine.rebuildBlock
  extract_lets reads units authFail nothing
  have hauth : ∀ st, ReadReach st (authFail st).2 := fun st => .countAuthFail ..
  have hnothing : ReadReach s nothing.2 := by
    simp only [nothing]
    split
    · exact hauth s
    · exact .unreadable ..
  split
  · exact hnothing
  · split
    · split
      · split
        · next x hx => exact .judge hx
        · exact hauth s
      · exact hnothing
    · next d _ =>
      extract_lets r b others
      have hr : ReadReach s r.part := (Notes.settle ..).reads
      split
      · exact hr.trans (.stageRepair ..)
      · split
        · next x hx =>
          have hx' := hr.trans (.judge hx)
          split
          · dsimp only
            exact (hx'.trans (Notes.repairedAt ..).reads).trans (.stageRepair ..)
          · exact hx'.trans (.stageRepair ..)
        · exact (hr.trans (.stageRepair ..)).trans (hauth _)

theorem ReadReach.stallStripe (p stripe : Nat) (s : Part) : ReadReach s (stallStripe p stripe s) := by
  unfold Machine.stallStripe
  have hentry : ManifestOnly s (addEntry p stripe .stalled s) := addEntry_manifestOnly ..
  have hreach : ReadReach s (addEntry p stripe .stalled s) := by
    refine ⟨?_, hentry.steady⟩
    rw [WithinRead, hentry]
  exact (hreach.trans (.modMan ..)).trans (Notes.log ..).reads

theorem ReadReach.reconcileCopies (p : PoolSt) (g : Geo) (bad : BadReads) (stripe bo : Nat) (s : Part) :
    ReadReach s (reconcileCopies p g bad stripe bo s).2 := by
  unfold Machine.reconcileCopies
  extract_lets x
  split
  · exact (Notes.enterLost ..).reads
  · split
    · exact (Notes.blockDiverges ..).reads
    · exact .refl s

theorem ReadReach.reconcileParity (p : PoolSt) (g : Geo) (bad : BadReads) (stripe bo : Nat) (s : Part) :
    ReadReach s (reconcileParity p g bad stripe bo s).2 := by
  unfold Machine.reconcileParity
  exact (Notes.foldl (fun t (e : Nat × LostEntry) => .enterLost p.id e.2 t) _ s).reads

theorem ReadReach.writeStripe (ps : PoolSt) (g : Geo) (stripe : Nat) (blocks : List (Nat × Nat × Block)) (s : Part) :
    ReadReach s (writeStripe ps g stripe blocks s) := by
  unfold Machine.writeStripe
  exact (ReadReach.modMan s _).trans (.foldl (fun st i => .foldl (fun st2 pl => .modMember ..) _ st) _ _)

theorem ReadReach.reconcileStripe (p : Nat) (bad : BadReads) (stripe : Nat) (s : Part) :
    ReadReach s (reconcileStripe p bad stripe s).2 := by
  unfold Machine.reconcileStripe
  split
  · exact .refl s
  · next ps _ =>
    extract_lets g
    split
    · exact .stallStripe ..
    · refine ReadReach.trans (ReadReach.foldl_snd (fun acc bo => ?_) _ ([], s)) (.writeStripe ..)
      dsimp only
      split
      · exact .reconcileCopies ..
      · exact .reconcileParity ..

theorem ReadReach.reconcileOne (p : Nat) (bad : BadReads) (stripe : Nat) (s : Part) : ReadReach s (reconcileOne p bad stripe s) := by
  have hends : ∀ st, ReadReach st (reconcileEnds p st) := fun st => by
    unfold reconcileEnds
    split
    · exact .refl st
    · split
      · exact (Notes.log ..).reads
      · exact .refl st
  unfold Machine.reconcileOne
  split
  · exact .refl s
  · exact ((ReadReach.reconcileStripe ..).trans (Notes.modPool ..).reads).trans (hends _)

theorem ReadReach.readParity (cls : Nat) (bad : BadReads) (lf : LaneFaults) (p : PoolSt) (g : Geo) (v : CVol)
    (lba stripe i bo : Nat) (s : Part) : ReadReach s (readParity cls bad lf p g v lba stripe i bo s).2 := by
  unfold Machine.readParity
  extract_lets direct well s1
  have hdirect : ∀ bad p st, ReadReach st (direct bad p st).2 := fun bad p st => by
    simp only [direct]
    split
    · exact .rebuildBlock ..
    · exact .rebuildBlock ..
    · split
      · next x hx => exact .judge hx
      · exact .rebuildBlock ..
  split
  · exact hdirect ..
  · exact (ReadReach.reconcileOne ..).trans (hdirect ..)

theorem ReadReach.readCopy (bad : BadReads) (lf : LaneFaults) (p : PoolSt) (g : Geo) (v : CVol) (lba stripe bo c : Nat) (s : Part) :
    ReadReach s (readCopy bad lf p g v lba stripe bo c s).2 := by
  unfold Machine.readCopy
  split
  · split
    · next x hx => exact .judge hx
    · exact .countAuthFail ..
  · exact .refl s

theorem ReadReach.actOnMirror (cls : Nat) (p : PoolSt) (g : Geo) (stripe bo : Nat) (x : MirrorExam) (s : Part) :
    ReadReach s (actOnMirror cls p g stripe bo x s) := by
  unfold Machine.actOnMirror
  split
  · extract_lets s1
    have hs1 : ReadReach s s1 := (Notes.blockDiverges ..).reads
    split
    · exact hs1.trans (.stageRepair ..)
    · exact hs1
  · exact (Notes.foldl (fun st (r : Nat × Nat × Block) => .repairedAt p g stripe r.1 bo st) _ s).reads.trans (.stageRepair ..)

theorem ReadReach.readAll (cls : Nat) (bad : BadReads) (lf : LaneFaults) (p : PoolSt) (g : Geo) (v : CVol) (lba stripe bo : Nat)
    (s : Part) : ReadReach s (readAll cls bad lf p g v lba stripe bo s).2 := by
  unfold Machine.readAll
  extract_lets reads x st
  have hst : ReadReach s st := .actOnMirror ..
  split
  · exact hst
  · split
    · split
      · next y hy => exact hst.trans (.judge hy)
      · exact hst.trans (.countAuthFail ..)
    · split
      · exact hst.trans (.countAuthFail ..)
      · exact hst.trans (.unreadable ..)

theorem ReadReach.readMirror (cls : Nat) (bad : BadReads) (lf : LaneFaults) (p : PoolSt) (g : Geo) (v : CVol) (lba stripe bo : Nat)
    (s : Part) : ReadReach s (readMirror cls bad lf p g v lba stripe bo s).2 := by
  unfold Machine.readMirror
  split
  · split
    · next x hx => exact .judge hx
    · exact .readAll ..
  · exact .readAll ..

/-! ### Blocks and commands -/

theorem ReadReach.readBlock (cls copySel : Nat) (bad : BadReads) (lf : LaneFaults) (p : PoolSt) (v : CVol) (lba : Nat) (s : Part) :
    ReadReach s (readBlock cls copySel bad lf p v lba s).2 := by
  unfold Machine.readBlock
  split
  split
  · split
    · next x hx => exact .judge hx
    · exact .countAuthFail ..
  · split
    · exact .refl s
    · split
      · exact .readParity ..
      · split
        · exact .readCopy ..
        · split
          · exact .readAll ..
          · exact .readMirror ..

theorem ReadReach.readBlocks (cls copySel : Nat) (bad : BadReads) (lf : LaneFaults) (v : Nat) (lbas : List Nat) :
    ∀ s, ReadReach s (readBlocks cls copySel bad lf v lbas s).2 := by
  induction lbas with
  | nil => exact ReadReach.refl
  | cons lba rest ih =>
    intro s
    unfold Machine.readBlocks
    split
    · exact .refl s
    · exact (ReadReach.readBlock ..).trans (ih _)

theorem ReadReach.countMedium (bad : BadReads) (s : Part) : ReadReach s (countMedium bad s) := (StripeReach.countMedium bad s).reads

theorem ReadReach.checkMismatches (l : List Nat) (s : Part) : ReadReach s (l.foldl (fun st u => Machine.checkMismatch u st) s) :=
  .foldl (fun st u => .checkMismatch u st) l s

/-- What a READ sends on the host port (R251, R272). -/
def hostBytes (x : Cmd) (v : CVol) (l : List (Nat × BlockEnd)) : List (Nat × Byte) :=
  (if dPeer x.desc then [] else deliverCells x.desc l) ++ deliverPi x.desc v.hostPi l

def readDelivered (c : Nat) (x : Cmd) (v : CVol) (l : List (Nat × BlockEnd)) (s : Part) : Part :=
  if (s.fn (s.chainFn c)).bme && !(hostBytes x v l).isEmpty then
    emit (.hostData (s.chainFn c) c (x.noSnoop && (s.fn (s.chainFn c)).noSnoopEn) (s.fn (s.chainFn c)).relaxedEn (hostBytes x v l)) s
  else s

theorem ReadReach.readDelivered (c : Nat) (x : Cmd) (v : CVol) (l : List (Nat × BlockEnd)) (s : Part) :
    ReadReach s (readDelivered c x v l s) := by
  unfold Machine.readDelivered
  split
  · exact .emit ..
  · exact .refl s

/-- How a READ that is neither held nor stopped ends. -/
theorem readRun_eq {c : Nat} {bad : BadReads} {lf : LaneFaults} {x : Cmd} {s : Part} {p : PoolSt} {v : CVol}
    (hv : s.volume? (dVol x.desc) = some (p, v)) (hheld : readHeld s p v (deviceLbas x.desc) = false) (hgood : s.toll.faulty = false)
    {l : List (Nat × BlockEnd)} {w : Part}
    (hl : readBlocks 5 (dCopySel x.desc) bad lf v.id (deviceLbas x.desc) (lf.mismatch.foldl (fun y u => checkMismatch u y) s) = (l, w)) :
    readRun c bad lf x s =
      (complete c x.hseq (firstFailure v.id (dCopySel x.desc != 0) l).1 (firstFailure v.id (dCopySel x.desc != 0) l).2
        (readDelivered c x v l (countMedium bad w)), if dPeer x.desc then deliverCells x.desc l else []) := by
  unfold readRun
  rw [hv]
  simp only [hheld, hgood, Bool.false_eq_true, if_false, hl]
  rfl

theorem ReadReach.readRun (c : Nat) (bad : BadReads) (lf : LaneFaults) (x : Cmd) (s : Part) : ReadReach s (readRun c bad lf x s).1 := by
  cases hv : s.volume? (dVol x.desc) with
  | none =>
    simp only [Machine.readRun, hv]
    exact .complete ..
  | some pv =>
    obtain ⟨p, v⟩ := pv
    cases hheld : readHeld s p v (deviceLbas x.desc) with
    | true =>
      simp only [Machine.readRun, hv, hheld, if_true]
      exact .refl s
    | false =>
      cases hfault : s.toll.faulty with
      | true =>
        simp only [Machine.readRun, hv, hheld, hfault, Bool.false_eq_true, if_false, if_true]
        exact .complete ..
      | false =>
        have hblocks := ReadReach.readBlocks 5 (dCopySel x.desc) bad lf v.id (deviceLbas x.desc)
          (lf.mismatch.foldl (fun y u => Machine.checkMismatch u y) s)
        rw [readRun_eq hv hheld hfault rfl]
        exact ((((ReadReach.checkMismatches ..).trans hblocks).trans (.countMedium ..)).trans (.readDelivered ..)).trans (.complete ..)

end Sys2Proof.Machine
end

section
/-! SUPPORT. Member commands: issue, completion, draining and NCQ errors (04: R87; 08: R185, R198 to R206), with the statement of
`MemberCommandsRun`. -/

namespace Sys2Proof.Machine

/-! ### Issue (R198 to R202) -/

theorem Part.modMember_of_member? {s : Part} {k : Nat} {m : MemberSt} (hm : s.member? k = some m) (g : MemberSt → MemberSt)
    (hg : ∀ x, (g x).id = x.id) : (s.modMember k g).member? k = some (g m) := by
  rw [Part.modMember_member? s k g hg, hm]
  rfl

theorem issueCmd_issues {k : Nat} {s : Part} {m : MemberSt} (hm : s.member? k = some m) (c : MCmd) :
    (issueCmd k c s).member? k = some { m with waiting := m.waiting.filter (fun x => x.id != c.id)
                                               outstanding := m.outstanding ++ [{ c with lane := laneFor s m c.id }] } ∧
    (issueCmd k c s).out = s.out ++ [.memberCmd k c.id] ∧
    issueCmd k c s = { s with members := (issueCmd k c s).members, out := (issueCmd k c s).out } := by
  exact ⟨Part.modMember_of_member? hm (fun m => { m with
    waiting := m.waiting.filter (fun x => x.id != c.id), outstanding := m.outstanding ++ [{ c with lane := laneFor s m c.id }] })
    (fun _ => rfl), rfl, rfl⟩

section
variable {k : MemberId} {s : State} {m : MemberSt} (hm : s.part.member? k.val = some m)
include hm

theorem memberCmdIssue_stays (h : nextCmd s.part m = none ∨ mayIssue s.part m = false ∨ m.draining = true ∨
    m.depth ≤ m.outstanding.length) : Stays (.memberCmdIssue k) s := by
  refine stays_onPart rfl ?_
  simp only [memberCmdIssueEff, hm]
  split
  · rfl
  · next c hc =>
    obtain hnone | hmay | hdrain | hdepth := h
    · exact absurd (hc.symm.trans hnone) (by simp)
    · rw [if_pos (by simp [hmay])]
    · rw [if_pos (by simp [hdrain])]
    · rw [if_pos (by simp [hdepth])]

theorem memberCmdIssueEff_eq {c : MCmd} (hc : nextCmd s.part m = some c) (hmay : mayIssue s.part m = true)
    (hdrain : m.draining = false) (hdepth : m.outstanding.length < m.depth) (hfree : memberContextFree s.part m = true) :
    memberCmdIssueEff k.val s.part =
      if c.nonQueued && !m.outstanding.isEmpty then s.part.modMember k.val (fun x => { x with draining := true })
      else issueCmd k.val c s.part := by
  simp only [memberCmdIssueEff, hm, hc]
  rw [if_neg (by simp [hmay, hdrain, hfree, hdepth])]

theorem memberCmdIssue_issues {c : MCmd} (hc : nextCmd s.part m = some c) (hmay : mayIssue s.part m = true)
    (hdrain : m.draining = false) (hdepth : m.outstanding.length < m.depth) (hfree : memberContextFree s.part m = true)
    (hgo : c.nonQueued = false ∨ m.outstanding = []) : Runs (.memberCmdIssue k) s (fun t =>
      t.member? k.val = some { m with waiting := m.waiting.filter (fun x => x.id != c.id)
                                      outstanding := m.outstanding ++ [{ c with lane := laneFor s.part m c.id }] } ∧
      t.out = s.part.out ++ [.memberCmd k.val c.id] ∧ t = { s.part with members := t.members, out := t.out }) := by
  refine runs_onPart rfl ?_
  have hissue : (c.nonQueued && !m.outstanding.isEmpty) = false := by
    obtain h | h := hgo <;> simp [h]
  rw [memberCmdIssueEff_eq hm hc hmay hdrain hdepth hfree, hissue]
  exact issueCmd_issues hm c

theorem memberCmdIssue_drains {c : MCmd} (hc : nextCmd s.part m = some c) (hmay : mayIssue s.part m = true)
    (hdrain : m.draining = false) (hdepth : m.outstanding.length < m.depth) (hfree : memberContextFree s.part m = true)
    (hqueued : c.nonQueued = true) (hbusy : m.outstanding ≠ []) : Runs (.memberCmdIssue k) s (fun t =>
      t.member? k.val = some { m with draining := true } ∧ t = { s.part with members := t.members }) := by
  refine runs_onPart rfl ?_
  rw [memberCmdIssueEff_eq hm hc hmay hdrain hdepth hfree, if_pos (by simp [hqueued, hbusy])]
  exact ⟨Part.modMember_of_member? hm (fun x => { x with draining := true }) (fun _ => rfl), rfl⟩

end

/-! ### A command that ends leaves its lane -/

/-- The member once its command `id` has ended. -/
def MemberSt.tookOut (id : Nat) (m : MemberSt) : MemberSt := { m with outstanding := m.outstanding.filter (fun x => x.id != id) }

/-- The member, draining no longer where nothing that is not queued is left. -/
def MemberSt.drained (m : MemberSt) : MemberSt :=
  if m.draining && !(m.outstanding ++ m.waiting).any (·.nonQueued) then { m with draining := false } else m

theorem takeOut_eq (k id : Nat) (s : Part) : takeOut k id s = s.modMember k (MemberSt.tookOut id) := rfl
theorem endDrain_eq (k : Nat) (s : Part) : endDrain k s = s.modMember k MemberSt.drained := rfl

theorem MemberSt.drained_keeps (m : MemberSt) : m.drained.id = m.id ∧ m.drained.state = m.state ∧ m.drained.waiting = m.waiting ∧
    m.drained.outstanding = m.outstanding ∧ m.drained.workDepth = m.workDepth := by
  unfold MemberSt.drained
  split <;> exact ⟨rfl, rfl, rfl, rfl, rfl⟩

theorem takeOut_member? {k : Nat} {s : Part} {m : MemberSt} (hm : s.member? k = some m) (id : Nat) :
    (takeOut k id s).member? k = some (m.tookOut id) :=
  Part.modMember_of_member? hm (MemberSt.tookOut id) (fun _ => rfl)

theorem endDrain_member? {k : Nat} {s : Part} {m : MemberSt} (hm : s.member? k = some m) :
    (endDrain k s).member? k = some m.drained :=
  Part.modMember_of_member? hm MemberSt.drained (fun x => x.drained_keeps.1)

theorem MemberSt.tookOut_gone {id : Nat} {m y : MemberSt} (h : y.outstanding = (m.tookOut id).outstanding) :
    ∀ x ∈ y.outstanding, x.id ≠ id := fun x hx => by
  rw [h] at hx
  simpa using (List.mem_filter.mp hx).2

/-- A completion whose work is done on the part alone. -/
theorem memberCmdComplete_runs {k : MemberId} {id : Nat} {s : State} {m : MemberSt} {c : MCmd} {r : CmdResult} {g : Part → Part}
    (hm : s.part.member? k.val = some m) (hc : m.outstanding.find? (fun x => x.id == id) = some c) (hlive : c.timedOut = false)
    (hends : ∀ st : State, cmdEnds k.val c r st = st.onPart g)
    (hawake : (g (takeOut k.val id s.part)).tow.sleeping = false) :
    Runs (.memberCmdComplete k id r) s (fun t => t = endDrain k.val (g (takeOut k.val id s.part))) := by
  refine ⟨_, ?_, rfl⟩
  have hbind : (s.part.member? k.val).bind (fun m => m.outstanding.find? (fun x => x.id == id)) = some c := by
    rw [hm]
    exact hc
  have hdone : memberCmdComplete k.val id r s = s.onPart (fun p => endDrain k.val (g (takeOut k.val id p))) := by
    simp only [memberCmdComplete, hbind, hlive, Bool.false_eq_true, if_false, hends]
    rfl
  have hstep : exec (.memberCmdComplete k id r) s = .next ((memberCmdComplete k.val id r s).onPart sleepIfReady) := rfl
  have hsleep := sleepIfReady_awake (s := endDrain k.val (g (takeOut k.val id s.part))) hawake
  rw [hstep, hdone]
  simp only [State.onPart, hsleep]

/-! ### Strips (R87) -/

theorem Part.entry?_modEntry_left {s : Part} {p stripe : Nat} {g : MEntry → MEntry} {e : MEntry}
    (he : (s.modEntry p stripe g).entry? p stripe = some e) (hg : ∀ x, (g x).pool = x.pool ∧ (g x).stripe = x.stripe)
    (hleft : ∀ x, (g x).left = []) : e.left = [] := by
  cases hs : s.entry? p stripe with
  | some x =>
    rw [Part.modEntry_entry? hs g hg] at he
    exact Option.some.inj he ▸ hleft x
  | none =>
    have hnone : (s.modEntry p stripe g).entry? p stripe = none := by
      rw [Part.entry?] at hs ⊢
      simp only [Part.modEntry, Part.modMan, List.find?_eq_none, updBy, List.mem_map] at hs ⊢
      rintro _ ⟨x, hx, rfl⟩
      have hother := hs x hx
      simp [hother]
    exact absurd (he.symm.trans hnone) (by simp)

/-- Once a write-through stripe is given up, nothing of it is left to write. -/
theorem failThrough_left (ps : PoolSt) (stripe : Nat) (s : Part) :
    ∀ e, (failThrough ps stripe s).entry? ps.id stripe = some e → e.left = [] := by
  intro e he
  unfold failThrough at he
  extract_lets mine cmds s1 s2 at he
  split at he
  · next e2 he2 =>
    split at he
    · rw [dropEntry_entry?] at he
      cases he
    · exact Part.entry?_modEntry_left he (fun _ => ⟨rfl, rfl⟩) (fun _ => rfl)
  · next hnone => exact absurd (he.symm.trans hnone) (by simp)

/-- A stripe's entry that retires, or rests, or is given up has nothing left to write. -/
theorem retire_left {p stripe : Nat} {s : Part} {ps : PoolSt} (h : s.pool? p = some ps) {e0 : MEntry} (he0 : s.entry? p stripe = some e0) :
    ∀ e, (retire p stripe s).entry? p stripe = some e → e.left = [] := by
  have hrest : ∀ (u : Part) (l : List Held), ∀ e, (u.modEntry p stripe (fun x => x.resting l)).entry? p stripe = some e → e.left = [] :=
    fun u l e he => Part.entry?_modEntry_left he (fun _ => ⟨rfl, rfl⟩) (fun _ => rfl)
  unfold retire
  split
  · next ps' e' hps' he' =>
    obtain rfl : ps' = ps := Option.some.inj (hps'.symm.trans h)
    extract_lets g s1 isGone gone s2 s3 s4 s5 rest s6 s7
    split
    · split
      · exact Part.pool?_id h ▸ failThrough_left ps' stripe s1
      · exact hrest s1 _
    · have hend : ∀ l, (ackThrough l (resolutionsDone p stripe s7)).man = s7.man := fun l =>
        Part.man_of_books ((ackThrough_books ..).trans (resolutionsDone_books ..))
      have hs7 : s7.man = { s6.man with destagedTide := max s6.man.destagedTide s6.destagedThrough } := by
        have hadmit : s7 = refreshAdmitState (s6.modMan (fun m => { m with destagedTide := max m.destagedTide s6.destagedThrough })) := rfl
        rw [hadmit]
        exact refreshAdmitState_man _
      intro e he
      rw [Part.entry?_congr ((congrArg ManifestSt.entries ((hend _).trans hs7) :))] at he
      by_cases hnone : rest.isEmpty = true
      · rw [show s6 = dropEntry p stripe s5 from if_pos hnone] at he
        exact absurd ((dropEntry_entry? p stripe s5).symm.trans he) (by simp)
      · rw [show s6 = _ from if_neg hnone] at he
        exact hrest s5 rest e he
  · next hnone => exact (hnone ps e0 h he0).elim

theorem MemberSt.withStrip_outstanding (ps : PoolSt) (g : Geo) (i base : Nat) (blocks : List (Nat × Nat × Block)) (m : MemberSt) :
    (m.withStrip ps g i base blocks).outstanding = m.outstanding := by
  have hall : ∀ m : MemberSt, (blocks.foldl (fun (m : MemberSt) x =>
      m.store (base + x.2.1) (stampBlock (g.isCheck i) g.fmt i ps.id (base + x.2.1) x.2.2)) m).outstanding = m.outstanding := by
    induction blocks with
    | nil => exact fun _ => rfl
    | cons x blocks ih => exact fun m => ih (m.store (base + x.2.1) _)
  exact hall m

/-- No command of a member ends by what becomes of a strip. -/
theorem stripStored_outstanding (p stripe strip : Nat) (ps : PoolSt) (e : MEntry) (s : Part) :
    SameMembers MemberSt.outstanding s (stripStored p stripe strip ps e s) := by
  have hstore : ∀ (l : List (Nat × Nat)) (st : Part), SameMembers MemberSt.outstanding st (l.foldl (fun st pl =>
      st.modMember pl.1 (fun m => m.withStrip ps (ps.charter.geoOf stripe) strip pl.2 (e.staged.filter (fun x => x.1 == strip)))) st) := by
    intro l
    induction l with
    | nil => exact .refl
    | cons pl l ih => exact fun st => (SameMembers.modMember (fun m => (m.withStrip_stands ..).1)
        (fun m => m.withStrip_outstanding ..) st pl.1).trans (ih _)
  exact (hstore _ s).trans (.of_members rfl)

/-- A strip the entry waits for no more is not written again. -/
theorem commitStrip_passed {p stripe strip : Nat} {s : Part} {e : MEntry} (he : s.entry? p stripe = some e) (hleft : strip ∉ e.left) :
    commitStrip p stripe strip s = s := by
  unfold commitStrip
  split
  · next e' _ he' =>
    obtain rfl : e' = e := Option.some.inj (he'.symm.trans he)
    exact if_neg (by simp [hleft])
  · rfl

/-- What a strip written does (R87): its entry waits for it no more; the members' commands stand. -/
structure StripGone (p stripe strip : Nat) (s t : Part) : Prop where
  left : ∀ e, t.entry? p stripe = some e → strip ∉ e.left
  outstanding : SameMembers MemberSt.outstanding s t
  within : WithinStripes s t
  sleeping : t.tow.sleeping = s.tow.sleeping

theorem commitStrip_gone {p stripe strip : Nat} {s : Part} {ps : PoolSt} {e : MEntry} (h : s.pool? p = some ps)
    (he : s.entry? p stripe = some e) (hstate : e.state = .writing ∨ e.state = .through) :
    StripGone p stripe strip s (commitStrip p stripe strip s) := by
  by_cases hleft : strip ∈ e.left
  · have hentry := stripStored_entry? p stripe strip ps he
    have honly := stripStored_only p stripe strip ps e s
    have hpool : (stripStored p stripe strip ps e s).pool? p = some ps := by
      rw [honly]
      exact h
    rw [commitStrip_eq h he hstate hleft]
    refine ⟨?_, SameMembers.trans (stripStored_outstanding p stripe strip ps e s) (.of_structures (fun _ => rfl) (retireIfDone_structures ..)), ?_, ?_⟩
    · unfold retireIfDone
      rw [hentry]
      dsimp only
      split
      · exact fun e' he' => by simp [retire_left hpool hentry e' he']
      · exact fun e' he' => by
          obtain rfl := Option.some.inj (hentry.symm.trans he')
          simp [MEntry.without]
    · refine WithinStripes.trans ?_ (.of_structures (retireIfDone_structures ..))
      unfold WithinStripes
      rw [honly]
    · refine (Part.sleeping_of_footing (retireIfDone_footing ..)).trans ?_
      rw [honly]
  · rw [commitStrip_passed he hleft]
    refine ⟨fun e' he' => ?_, .refl s, rfl, rfl⟩
    exact Option.some.inj (he.symm.trans he') ▸ hleft

/-! ### What a completion leaves of its member (R199) -/

/-- A command that has ended is not outstanding any more, where its work leaves what is outstanding as it is. -/
theorem outstanding_gone {k id : Nat} {s t : Part} {m : MemberSt} (hm : s.member? k = some m)
    (ht : SameMembers MemberSt.outstanding (takeOut k id s) t) :
    ∃ y, (endDrain k t).member? k = some y ∧ ∀ x ∈ y.outstanding, x.id ≠ id := by
  obtain ⟨y, hy, hyout⟩ := ht.of_member (takeOut_member? hm id)
  refine ⟨_, endDrain_member? hy, ?_⟩
  exact MemberSt.tookOut_gone (y.drained_keeps.2.2.2.1.trans hyout)

theorem completed_within {k id : Nat} {s t : Part} (h : WithinStripes (takeOut k id s) t) : WithinStripes s (endDrain k t) :=
  ((WithinStripes.of_members (MembersOnly.modMember ..)).trans h).trans (.of_members (MembersOnly.modMember ..))

theorem cmdFails_write {k : Nat} {c : MCmd} (hwrite : c.op.isWrite = true) (hzero : ∀ p, c.op ≠ .zeroSlot p) (st : State) :
    cmdFails k c st = st.onPart (writeFails k c) := by
  unfold cmdFails
  split
  · next hop => simp [hop, MOp.isWrite] at hwrite
  · next p hop => exact absurd hop (hzero p)
  · next hop => simp [hop, MOp.isWrite] at hwrite
  · exact if_pos hwrite

theorem writeFails_first {k : Nat} {c : MCmd} (hfirst : c.retried = false) (s : Part) :
    writeFails k c s = s.modMember k (fun m => { m with waiting := { c with retried := true } :: m.waiting }) := if_neg (by simp [hfirst])

theorem writeFails_again {k : Nat} {c : MCmd} (hagain : c.retried = true) (s : Part) : writeFails k c s = failMember k s := if_pos hagain

/-! ### A member that fails (R206) -/

/-- A member whose commands have all been given up. -/
def MemberSt.emptied (m : MemberSt) : MemberSt := { m with waiting := [], outstanding := [], draining := false, escStep := 0 }

theorem dropMemberCmds_emptied {k : Nat} {s : Part} {y : MemberSt} (hy : (dropMemberCmds k s).member? k = some y) :
    y.waiting = [] ∧ y.outstanding = [] := by
  unfold dropMemberCmds at hy
  split at hy
  · next hnone => exact absurd (hnone.symm.trans hy) (by simp)
  · extract_lets s1 at hy
    have hmember := Part.modMember_member? s1 k MemberSt.emptied (fun _ => rfl)
    obtain ⟨x, -, rfl⟩ := Option.map_eq_some_iff.mp (hmember.symm.trans hy)
    exact ⟨rfl, rfl⟩

theorem setMemberState_failed {k row : Nat} {s : Part} {m : MemberSt} (hm : s.member? k = some m) (hnew : m.state ≠ 4) :
    ∃ u, setMemberState k 4 row s = dropMemberCmds k u := by
  unfold setMemberState
  split
  · next hnone => exact absurd (hnone.symm.trans hm) (by simp)
  · next x hx =>
    obtain rfl := Option.some.inj (hx.symm.trans hm)
    rw [if_neg hnew]
    exact ⟨_, rfl⟩

/-- A member in use that fails: state 4, and no command of it is left. -/
theorem failMember_fails {k : Nat} {s : Part} {m : MemberSt} (hm : s.member? k = some m) (huse : m.state ∈ [2, 3, 5, 6, 7]) :
    ∃ y, (failMember k s).member? k = some y ∧ y.state = 4 ∧ y.outstanding = [] ∧ y.waiting = [] := by
  have hused : [2, 3, 5, 6, 7].contains m.state = true := by simpa using huse
  obtain ⟨y, hy, hstatus⟩ := (failMember_restates k s).of_member hm
  have hstate : y.state = 4 := by
    have hfst := congrArg Prod.fst hstatus
    simpa only [MemberSt.status, failStatus, hused, if_true] using hfst
  have heq : failMember k s = setMemberState k 4 3 s := by
    unfold failMember
    rw [hm]
    exact if_pos hused
  obtain ⟨u, hu⟩ := setMemberState_failed (row := 3) hm (fun h4 => by simp [h4] at huse)
  rw [heq, hu] at hy
  obtain ⟨hwait, hout⟩ := dropMemberCmds_emptied hy
  exact ⟨y, (heq.trans hu) ▸ hy, hstate, hout, hwait⟩

/-! ### Completions (R87, R196, R202, R205) -/

section
variable {k : MemberId} {id : Nat} {s : State} {m : MemberSt} {c : MCmd} (hm : s.part.member? k.val = some m)
  (hc : m.outstanding.find? (fun x => x.id == id) = some c) (hlive : c.timedOut = false) (hawake : s.part.tow.sleeping = false)
include hm hc hlive hawake

/-- A strip write that ends good: the stripe waits for the strip no more. -/
theorem memberCmdComplete_strip {p stripe strip : Nat} {ps : PoolSt} {e : MEntry} (hop : c.op = .writeStrip p stripe strip)
    (h : s.part.pool? p = some ps) (he : s.part.entry? p stripe = some e) (hstate : e.state = .writing ∨ e.state = .through) :
    Runs (.memberCmdComplete k id .good) s (fun t => (∃ y, t.member? k.val = some y ∧ ∀ x ∈ y.outstanding, x.id ≠ id) ∧
      (∀ e', t.entry? p stripe = some e' → strip ∉ e'.left) ∧ WithinStripes s.part t) := by
  have hgone := commitStrip_gone (strip := strip) (s := takeOut k.val id s.part) h he hstate
  obtain ⟨t, hrun, rfl⟩ := memberCmdComplete_runs hm hc hlive (r := .good) (g := commitStrip p stripe strip)
    (fun st => by simp only [cmdEnds, cmdGood, hop]) (hgone.sleeping.trans hawake)
  exact ⟨_, hrun, outstanding_gone hm hgone.outstanding, hgone.left, completed_within hgone.within⟩

/-- A completion that touches members alone, and leaves this one as `y`. -/
theorem memberCmdComplete_member {r : CmdResult} {g : Part → Part} {y : MemberSt} (hends : ∀ st : State, cmdEnds k.val c r st = st.onPart g)
    (honly : MembersOnly (takeOut k.val id s.part) (g (takeOut k.val id s.part)))
    (hy : (g (takeOut k.val id s.part)).member? k.val = some y) :
    Runs (.memberCmdComplete k id r) s (fun t => t.member? k.val = some y.drained ∧ MembersOnly s.part t) := by
  have hsleeping : (g (takeOut k.val id s.part)).tow.sleeping = false := by
    rw [honly]
    exact hawake
  obtain ⟨t, hrun, rfl⟩ := memberCmdComplete_runs hm hc hlive hends hsleeping
  exact ⟨_, hrun, endDrain_member? hy, ((MembersOnly.modMember ..).trans honly).trans (.modMember ..)⟩

/-- A zeroing command that fails gives way to ordinary writes. -/
theorem memberCmdComplete_zero {p : Nat} {ps : PoolSt} (hop : c.op = .zeroSlot p) (h : s.part.pool? p = some ps) (hinit : k.val ∈ ps.initLeft) :
    Runs (.memberCmdComplete k id .failed) s (fun t =>
      (∃ y, t.member? k.val = some y ∧ (∃ z ∈ y.waiting, z.op = .zeroRest p false) ∧ ∀ x ∈ y.outstanding, x.id ≠ id) ∧ MembersOnly s.part t) := by
  have hzero : zeroStep p k.val (.zeroSlot p) false (takeOut k.val id s.part) =
      zeroCmd k.val (.zeroRest p false) false ps.charter.shape.dataStart ps.charter.shape.usable (takeOut k.val id s.part) := by
    have hpool : (takeOut k.val id s.part).pool? p = some ps := h
    simp [zeroStep, hpool, hinit]
  have hmember := takeOut_member? hm id
  obtain ⟨sata, fua, hcmd⟩ : ∃ sata fua, zeroStep p k.val (.zeroSlot p) false (takeOut k.val id s.part) =
      enqueueCmd k.val (.zeroRest p false) 8 sata fua ps.charter.shape.dataStart ps.charter.shape.usable (takeOut k.val id s.part) :=
    ⟨_, _, hzero⟩
  have hy := enqueueCmd_member? k.val (.zeroRest p false) 8 sata fua ps.charter.shape.dataStart ps.charter.shape.usable (takeOut k.val id s.part)
  rw [hmember, Option.map_some] at hy
  obtain ⟨t, hrun, ht, hwithin⟩ := memberCmdComplete_member hm hc hlive hawake (r := .failed) (g := zeroStep p k.val (.zeroSlot p) false)
    (fun st => by simp only [cmdEnds, cmdFails, hop]) (hcmd ▸ .modMember ..) (hcmd ▸ hy)
  refine ⟨t, hrun, ⟨_, ht, ?_, ?_⟩, hwithin⟩
  · rw [(MemberSt.drained_keeps _).2.2.1]
    exact ⟨_, List.mem_append_right _ List.mem_cons_self, rfl⟩
  · exact MemberSt.tookOut_gone (MemberSt.drained_keeps _).2.2.2.1

/-- A write that fails is tried a second time. -/
theorem memberCmdComplete_retries (hwrite : c.op.isWrite = true) (hzero : ∀ p, c.op ≠ .zeroSlot p) (hfirst : c.retried = false) :
    Runs (.memberCmdComplete k id .failed) s (fun t => (∃ y, t.member? k.val = some y ∧ y.state = m.state ∧
      y.waiting = { c with retried := true } :: m.waiting ∧ ∀ x ∈ y.outstanding, x.id ≠ id) ∧ MembersOnly s.part t) := by
  have hy := Part.modMember_of_member? (takeOut_member? hm id) (fun m => { m with waiting := { c with retried := true } :: m.waiting }) (fun _ => rfl)
  obtain ⟨t, hrun, ht, hwithin⟩ := memberCmdComplete_member hm hc hlive hawake (r := .failed) (cmdFails_write hwrite hzero)
    (writeFails_first hfirst _ ▸ .modMember ..) (writeFails_first hfirst _ ▸ hy)
  obtain ⟨-, hstate, hwaiting, hout, -⟩ := MemberSt.drained_keeps { m.tookOut id with waiting := { c with retried := true } :: m.waiting }
  exact ⟨t, hrun, ⟨_, ht, hstate, hwaiting, MemberSt.tookOut_gone hout⟩, hwithin⟩

/-- A write that fails the second time fails its member. -/
theorem memberCmdComplete_fails (hwrite : c.op.isWrite = true) (hzero : ∀ p, c.op ≠ .zeroSlot p) (hagain : c.retried = true)
    (huse : m.state ∈ [2, 3, 5, 6, 7]) : Runs (.memberCmdComplete k id .failed) s (fun t =>
      (∃ y, t.member? k.val = some y ∧ y.state = 4 ∧ y.outstanding = [] ∧ y.waiting = []) ∧ WithinStripes s.part t) := by
  have hreach := StripeReach.failMember k.val (takeOut k.val id s.part)
  have hends : ∀ st : State, cmdEnds k.val c .failed st = st.onPart (failMember k.val) := fun st =>
    (cmdFails_write hwrite hzero st).trans (congrArg st.onPart (funext (writeFails_again hagain)))
  obtain ⟨t, hrun, rfl⟩ := memberCmdComplete_runs hm hc hlive hends (hreach.steady.sleeping.trans hawake)
  obtain ⟨y, hy, hstate, hout, hwaiting⟩ := failMember_fails (takeOut_member? hm id) huse
  obtain ⟨-, hstate', hwaiting', hout', -⟩ := y.drained_keeps
  exact ⟨_, hrun, ⟨_, endDrain_member? hy, hstate'.trans hstate, hout'.trans hout, hwaiting'.trans hwaiting⟩, completed_within hreach.within⟩

/-- TASK SET FULL lowers the working depth; the command waits again. -/
theorem memberCmdComplete_busy : Runs (.memberCmdComplete k id .busy) s (fun t => (∃ y, t.member? k.val = some y ∧
    y.waiting = c :: m.waiting ∧ y.workDepth = max 1 (m.workDepth - ceilDiv m.workDepth 4) ∧ ∀ x ∈ y.outstanding, x.id ≠ id) ∧
    MembersOnly s.part t) := by
  have hy := Part.modMember_of_member? (takeOut_member? hm id) (fun m => { m with
    workDepth := max 1 (m.workDepth - ceilDiv m.workDepth 4), waiting := c :: m.waiting }) (fun _ => rfl)
  obtain ⟨t, hrun, ht, hwithin⟩ := memberCmdComplete_member hm hc hlive hawake (r := .busy) (g := memberBusy k.val c) (fun _ => rfl)
    (.modMember ..) hy
  obtain ⟨-, -, hwaiting, hout, hdepth⟩ := MemberSt.drained_keeps { m.tookOut id with
    workDepth := max 1 (m.workDepth - ceilDiv m.workDepth 4), waiting := c :: m.waiting }
  exact ⟨t, hrun, ⟨_, ht, hwaiting, hdepth, MemberSt.tookOut_gone hout⟩, hwithin⟩

end

/-! ### A host read no longer waits (R87, R202) -/

/-- A command that no longer waits does not wait again. -/
theorem Steady.settled {s t : Part} (h : Steady s t) {c : Nat} {k : BitVec 32}
    (hall : ∀ x ∈ (s.chain c).cmds, x.hseq = k → x.phase ≠ .waiting) : ∀ y, t.cmd? c k = some y → y.phase ≠ .waiting := by
  intro y hy
  obtain ⟨x, hx, hhseq, -, hphase⟩ := (h.chain c).cmds y (List.mem_of_find?_eq_some hy)
  have hlive := hall x hx (hhseq.symm.trans (Part.cmd?_hseq hy))
  obtain hsame | hdone | ⟨hwait, -⟩ := hphase
  · rwa [hsame]
  · simp [hdone]
  · exact absurd hwait hlive

/-- The command has been taken up again. -/
def Cmd.accepted (x : Cmd) : Cmd := { x with phase := .accepted }

theorem Part.modCmd_accepted (s : Part) (c : Nat) (k : BitVec 32) :
    ∀ x ∈ ((s.modCmd c k Cmd.accepted).chain c).cmds, x.hseq = k → x.phase ≠ .waiting := by
  rw [Part.modCmd_chain]
  intro x hx hhseq
  obtain ⟨y, -, rfl⟩ := List.mem_map.mp hx
  by_cases hy : (y.hseq == k) = true
  · simp [hy, Cmd.accepted]
  · rw [if_neg hy] at hhseq
    exact absurd (beq_iff_eq.mpr hhseq) hy

/-- What taking up a host read again leaves: the read waits no more. -/
structure ReadFinished (c : Nat) (k : BitVec 32) (s t : Part) : Prop where
  settled : ∀ y, t.cmd? c k = some y → y.phase ≠ .waiting
  within : WithinRead s t
  sleeping : t.tow.sleeping = s.tow.sleeping

theorem ReadFinished.members {c : Nat} {k : BitVec 32} {s t u : Part} (h : ReadFinished c k s t) (h' : MembersOnly t u) : ReadFinished c k s u := by
  refine ⟨?_, h.within.trans (WithinStripes.of_members h').withinRead, ?_⟩
  · rw [h']
    exact h.settled
  · rw [h']
    exact h.sleeping

/-- The links of the members for the time a read goes on without the one in `excl`. -/
def Part.linked (excl : Option Nat) (on : Bool) (q : Part) : Part :=
  match excl with
  | some k => q.modMember k (fun m => { m with linkUp := on })
  | none => q

theorem Part.linked_only (excl : Option Nat) (on : Bool) (q : Part) : MembersOnly q (q.linked excl on) := by
  unfold Part.linked
  split
  · exact .modMember ..
  · exact .refl q

theorem finishRead_finished {c : Nat} {k : BitVec 32} {s : State} {x : Cmd} (hx : s.part.cmd? c k = some x) (hop : dOpcode x.desc = 1)
    (excl : Option Nat) (bad : BadReads) :
    ∃ t pm, finishRead c k excl bad s = { s with part := t, peerMem := pm } ∧ ReadFinished c k s.part t := by
  by_cases hwait : x.phase = .waiting
  · unfold finishRead
    split
    · next hnone => exact absurd (hnone.symm.trans hx) (by simp)
    next x' hx' =>
    obtain rfl : x' = x := Option.some.inj (hx'.symm.trans hx)
    rw [if_neg (by simp [hwait, hop])]
    extract_lets mine drop old q p hide was r
    refine ⟨_, _, rfl, ?_⟩
    have hread : ReadReach (p.linked excl false) r.1 := ReadReach.readRun ..
    have hfinished : ReadFinished c k s.part r.1 := by
      refine ⟨hread.steady.settled ?_, ?_, ?_⟩
      · rw [p.linked_only excl false]
        exact q.modCmd_accepted c k
      · have hstart : WithinRead s.part p := rfl
        exact (hstart.trans (WithinStripes.of_members (p.linked_only excl false)).withinRead).trans hread.within
      · refine hread.steady.sleeping.trans ?_
        rw [p.linked_only excl false]
        rfl
    exact hfinished.members (r.1.linked_only excl was)
  · have hstays : finishRead c k excl bad s = s := by
      unfold finishRead
      rw [hx]
      exact if_pos (.inl hwait)
    refine ⟨s.part, s.peerMem, hstays, fun y hy => ?_, rfl, rfl⟩
    obtain rfl := Option.some.inj (hx.symm.trans hy)
    exact hwait

/-- A member's read that ends lets its host read go on. -/
theorem memberCmdComplete_read {k : MemberId} {id : Nat} {s : State} {m : MemberSt} {c : MCmd} (hm : s.part.member? k.val = some m)
    (hc : m.outstanding.find? (fun x => x.id == id) = some c) (hlive : c.timedOut = false) (hawake : s.part.tow.sleeping = false)
    {p stripe strip ch : Nat} {h : BitVec 32} {x : Cmd} (hop : c.op = .readStrip p stripe strip ch h) (hx : s.part.cmd? ch h = some x)
    (hread : dOpcode x.desc = 1) {r : CmdResult} (hr : r ∈ [CmdResult.good, .failed]) :
    ∃ t pm, exec (.memberCmdComplete k id r) s = .next { s with part := t, peerMem := pm } ∧ ReadFinished ch h s.part t := by
  obtain ⟨excl, hends⟩ : ∃ excl, ∀ st, cmdEnds k.val c r st = finishRead ch h excl [] st := by
    simp only [List.mem_cons, List.not_mem_nil, or_false] at hr
    obtain rfl | rfl := hr
    · exact ⟨none, fun st => by simp only [cmdEnds, cmdGood, hop]⟩
    · exact ⟨some k.val, fun st => by simp only [cmdEnds, cmdFails, hop]⟩
  obtain ⟨t, pm, heq, hfinished⟩ := finishRead_finished (s := s.onPart (takeOut k.val id)) hx hread excl []
  have hstart : MembersOnly s.part (takeOut k.val id s.part) := .modMember ..
  have hend : ReadFinished ch h s.part (endDrain k.val t) := by
    have hfrom : ReadFinished ch h s.part t :=
      ⟨hfinished.settled, (WithinStripes.of_members hstart).withinRead.trans hfinished.within, hfinished.sleeping⟩
    exact hfrom.members (.modMember ..)
  have hbind : (s.part.member? k.val).bind (fun m => m.outstanding.find? (fun x => x.id == id)) = some c := by
    rw [hm]
    exact hc
  have hdone : memberCmdComplete k.val id r s = { s with part := endDrain k.val t, peerMem := pm } := by
    simp only [memberCmdComplete, hbind, hlive, Bool.false_eq_true, if_false, hends, heq]
    rfl
  refine ⟨endDrain k.val t, pm, ?_, hend⟩
  have hstep : exec (.memberCmdComplete k id r) s = .next ((memberCmdComplete k.val id r s).onPart sleepIfReady) := rfl
  rw [hstep, hdone]
  simp only [State.onPart, sleepIfReady_awake (hend.sleeping.trans hawake)]

/-! ### A late completion (R205) -/

/-- A member whose escalation has ended, with `back` waiting again and `out` outstanding. -/
def MemberSt.deescalated (back out : List MCmd) (m : MemberSt) : MemberSt :=
  { m with escStep := 0, draining := false, waiting := back ++ m.waiting, outstanding := out }

theorem endEscalation_ends {k : Nat} {s : Part} {m : MemberSt} (hm : s.member? k = some m) (hstep : m.escStep ≠ 0) :
    (∃ y, (endEscalation k s).member? k = some y ∧ y.escStep = 0 ∧ y.draining = false) ∧ MembersOnly s (endEscalation k s) := by
  unfold endEscalation
  split
  · next hnone => exact absurd (hnone.symm.trans hm) (by simp)
  next m' hm' =>
  obtain rfl : m' = m := Option.some.inj (hm'.symm.trans hm)
  rw [if_neg hstep]
  extract_lets timed others wasReset s1
  have hmember : s1.member? k = some (m'.deescalated (timed ++ (if wasReset then others else [])) (if wasReset then [] else others)) :=
    Part.modMember_of_member? hm (MemberSt.deescalated _ _) (fun _ => rfl)
  split
  · obtain ⟨y, hy, -, hqueued⟩ := memberRestarts_member? hmember
    refine ⟨⟨y, hy, ?_, ?_⟩, (MembersOnly.modMember ..).trans (memberRestarts_only k s1)⟩ <;> rw [hqueued] <;> rfl
  · exact ⟨⟨_, hmember, rfl, rfl⟩, .modMember ..⟩

theorem memberCmdComplete_late {k : MemberId} {id : Nat} {s : State} {m : MemberSt} {c : MCmd} (hm : s.part.member? k.val = some m)
    (hc : m.outstanding.find? (fun x => x.id == id) = some c) (hlate : c.timedOut = true) (hawake : s.part.tow.sleeping = false)
    (hstep : m.escStep ≠ 0) (r : CmdResult) : Runs (.memberCmdComplete k id r) s (fun t =>
      (∃ y, t.member? k.val = some y ∧ y.escStep = 0 ∧ y.draining = false) ∧ MembersOnly s.part t) := by
  obtain ⟨hends, honly⟩ := endEscalation_ends hm hstep
  have hbind : (s.part.member? k.val).bind (fun m => m.outstanding.find? (fun x => x.id == id)) = some c := by
    rw [hm]
    exact hc
  have hsleeping : (endEscalation k.val s.part).tow.sleeping = false := by
    rw [honly]
    exact hawake
  have hdone : memberCmdComplete k.val id r s = s.onPart (endEscalation k.val) := by
    simp only [memberCmdComplete, hbind, hlate, if_true]
  refine ⟨endEscalation k.val s.part, ?_, hends, honly⟩
  have hrun : exec (.memberCmdComplete k id r) s = .next ((memberCmdComplete k.val id r s).onPart sleepIfReady) := rfl
  rw [hrun, hdone]
  simp only [State.onPart, sleepIfReady_awake hsleeping]

theorem memberCmdComplete_unknown {k : MemberId} {id : Nat} {s : State} {m : MemberSt} (hm : s.part.member? k.val = some m)
    (hc : ∀ c ∈ m.outstanding, c.id ≠ id) (hawake : s.part.tow.sleeping = false) (r : CmdResult) : Stays (.memberCmdComplete k id r) s := by
  have hbind : (s.part.member? k.val).bind (fun m => m.outstanding.find? (fun x => x.id == id)) = none := by
    rw [hm]
    exact List.find?_eq_none.mpr fun c hmem => by simpa using hc c hmem
  have hdone : memberCmdComplete k.val id r s = s := by simp only [memberCmdComplete, hbind]
  have hrun : exec (.memberCmdComplete k id r) s = .next ((memberCmdComplete k.val id r s).onPart sleepIfReady) := rfl
  rw [Stays, hrun, hdone]
  simp only [State.onPart, sleepIfReady_awake hawake]

/-! ### Draining for a non-queued command (R199) -/

theorem drainForNonQueued_stays {k : MemberId} {s : State} {m : MemberSt} (hm : s.part.member? k.val = some m) (hdrain : m.draining = false) :
    Stays (.drainForNonQueued k) s := by
  have hrun : exec (.drainForNonQueued k) s = .next (drainForNonQueued k.val s) := rfl
  rw [Stays, hrun]
  simp [drainForNonQueued, hm, hdrain]

theorem drainForNonQueued_issues {k : MemberId} {s : State} {m : MemberSt} {c : MCmd} (hm : s.part.member? k.val = some m)
    (hdrain : m.draining = true) (hempty : m.outstanding = []) (hmay : mayIssue s.part m = true)
    (hc : m.waiting.find? (·.nonQueued) = some c) : Runs (.drainForNonQueued k) s (fun t => t.out = s.part.out ++ [.memberCmd k.val c.id] ∧
      t.member? k.val = some { m with waiting := m.waiting.filter (fun x => x.id != c.id)
                                      outstanding := [{ c with lane := laneFor s.part m c.id }] } ∧
      t = { s.part with members := t.members, out := t.out }) := by
  have hrun : exec (.drainForNonQueued k) s = .next (drainForNonQueued k.val s) := rfl
  have hdone : drainForNonQueued k.val s = s.onPart (issueCmd k.val c) := by
    simp [drainForNonQueued, hm, hdrain, hempty, hmay, hc]
  obtain ⟨hmember, hout, honly⟩ := issueCmd_issues hm c
  rw [hempty, List.nil_append] at hmember
  exact runs_onPart (hrun.trans (by rw [hdone])) ⟨hout, hmember, honly⟩

/-! ### NCQ errors (R204) -/

theorem ncqError_stays {k : MemberId} {id : Nat} {s : State} {m : MemberSt} {c : MCmd} (hm : s.part.member? k.val = some m)
    (hc : m.outstanding.find? (fun x => x.id == id && !x.nonQueued) = some c) (hsata : m.info.protocol ≠ .sata) : Stays (.ncqError k id) s := by
  have hrun : exec (.ncqError k id) s = .next (ncqError k.val id s) := rfl
  rw [Stays, hrun]
  simp [ncqError, hm, hc, hsata]

/-- A SATA member after an NCQ error of its command `id`: the tags that have not timed out wait again. -/
def MemberSt.reissued (id : Nat) (m : MemberSt) : MemberSt :=
  { m with outstanding := m.outstanding.filter (fun x => x.timedOut)
           waiting := m.outstanding.filter (fun x => x.id != id && !x.timedOut) ++ m.waiting }

theorem ncqError_reissues {k : MemberId} {id : Nat} {s : State} {m : MemberSt} {c : MCmd} (hm : s.part.member? k.val = some m)
    (hc : m.outstanding.find? (fun x => x.id == id && !x.nonQueued) = some c) (hsata : m.info.protocol = .sata)
    (hwrite : c.op.isWrite = true) (hzero : ∀ p, c.op ≠ .zeroSlot p) (hfirst : c.retried = false) :
    Runs (.ncqError k id) s (fun t => (∃ y, t.member? k.val = some y ∧ y.outstanding = m.outstanding.filter (fun x => x.timedOut) ∧
      (∀ x ∈ m.outstanding, x.id ≠ id → x.timedOut = false → x ∈ y.waiting) ∧ { c with retried := true } ∈ y.waiting ∧
      ∃ z ∈ y.waiting, z.op = .healthLog ∧ z.nonQueued = true) ∧ MembersOnly s.part t) := by
  let given : Part := s.part.modMember k.val (fun x => { x with
    outstanding := m.outstanding.filter (fun x => x.timedOut)
    waiting := m.outstanding.filter (fun x => x.id != id && !x.timedOut) ++ x.waiting })
  let logged := enqueueCmd k.val .healthLog 0 true false 0 0 given
  have hrun : exec (.ncqError k id) s = .next (ncqError k.val id s) := rfl
  have hdone : ncqError k.val id s = s.onPart (fun _ => writeFails k.val c logged) := by
    simp only [ncqError, hm, hc, hsata, ne_eq, not_true_eq_false, if_false, cmdFails_write hwrite hzero]
    rfl
  have hgiven : given.member? k.val = some (m.reissued id) := Part.modMember_of_member? hm (fun x => { x with
    outstanding := m.outstanding.filter (fun x => x.timedOut)
    waiting := m.outstanding.filter (fun x => x.id != id && !x.timedOut) ++ x.waiting }) (fun _ => rfl)
  have hlogged := enqueueCmd_member? k.val .healthLog 0 true false 0 0 given
  rw [hgiven, Option.map_some] at hlogged
  have hend : (writeFails k.val c logged).member? k.val = _ := (writeFails_first hfirst logged).symm ▸
    Part.modMember_of_member? hlogged (fun m => { m with waiting := { c with retried := true } :: m.waiting }) (fun _ => rfl)
  refine runs_onPart (hrun.trans (by rw [hdone])) ⟨⟨_, hend, rfl, ?_, List.mem_cons_self, ?_⟩, ?_⟩
  · intro x hx hid hlive
    exact List.mem_cons_of_mem _ (List.mem_append_left _ (List.mem_append_left _ (List.mem_filter.mpr ⟨hx, by simp [hid, hlive]⟩)))
  · exact ⟨_, List.mem_cons_of_mem _ (List.mem_append_right _ List.mem_cons_self), rfl, rfl⟩
  · rw [writeFails_first hfirst]
    exact ((MembersOnly.modMember ..).trans (.modMember ..)).trans (.modMember ..)

/-! ### The statement -/

/-- Settles O34: a member's commands are issued, drained, ended and reissued as R87, R185 and R198 to R206 say. -/
theorem memberCommandsRun : Obligations.MemberCommandsRun := by
  intro k id s m hm
  refine ⟨memberCmdIssue_stays hm, fun c hc hmay hdrain hdepth hfree =>
    ⟨memberCmdIssue_issues hm hc hmay hdrain hdepth hfree, memberCmdIssue_drains hm hc hmay hdrain hdepth hfree⟩,
    fun hawake => ⟨fun hc => memberCmdComplete_unknown hm hc hawake, fun c hc hlive => ⟨?_, ?_, ?_, ?_, ?_, ?_⟩,
      fun c hc hlate hstep => memberCmdComplete_late hm hc hlate hawake hstep⟩,
    drainForNonQueued_stays hm, fun c hdrain hempty hmay hc => drainForNonQueued_issues hm hdrain hempty hmay hc,
    fun c hc => ⟨ncqError_stays hm hc, ncqError_reissues hm hc⟩⟩
  · intro p stripe strip e hop hpool he hstate
    obtain ⟨ps, hps⟩ := Option.isSome_iff_exists.mp hpool
    exact memberCmdComplete_strip hm hc hlive hawake hop hps he hstate
  · exact fun p ps hop hps hinit => memberCmdComplete_zero hm hc hlive hawake hop hps hinit
  · exact memberCmdComplete_retries hm hc hlive hawake
  · exact memberCmdComplete_fails hm hc hlive hawake
  · exact memberCmdComplete_busy hm hc hlive hawake
  · intro p stripe strip ch h x hop hx hread r hr
    obtain ⟨t, pm, hrun, hfinished⟩ := memberCmdComplete_read hm hc hlive hawake hop hx hread hr
    exact ⟨t, pm, hrun, hfinished.settled, hfinished.within⟩

end Sys2Proof.Machine
end

section
/-! SUPPORT. The host's commands at the head of their order (04: R89, R95; 06: R134; 11: R268 to R279), with the statement of
`HostCommandsAreTaken`. -/

namespace Sys2Proof.Machine

/-! ### The reach of an examination (R134, R145, R278) -/

theorem Notes.restored {s : Part} {p : PoolSt} {g : Geo} {bad : BadReads} {stripe bo : Nat} {x : Decoded × Settled}
    (h : Machine.restoreOffset s p g bad stripe bo = x) : Notes s x.2.part := by
  rw [← h]
  exact .restoreOffset ..

theorem Notes.repairs (p : PoolSt) (g : Geo) (stripe bo : Nat) (l : List (Nat × Nat × Block)) (s : Part) :
    Notes s (l.foldl (fun t x => Machine.repairedAt p g stripe x.1 bo t) s) := by
  induction l generalizing s with
  | nil => exact .refl s
  | cons x l ih => exact (Notes.repairedAt p g stripe x.1 bo s).trans (ih _)

theorem ReadReach.examineMissing (p : PoolSt) (g : Geo) (bad : BadReads) (stripe bo : Nat) (s : Part) :
    ReadReach s (examineMissing p g bad stripe bo s).2 := by
  unfold Machine.examineMissing
  split
  · exact .refl s
  · next h => exact (Notes.restored h).reads

theorem ReadReach.verifyTags (p : PoolSt) (g : Geo) (stripe bo : Nat) (units : List Bytes) (s : Part) :
    ReadReach s (verifyTags p g stripe bo units s).2 := by
  unfold Machine.verifyTags
  refine ReadReach.foldl_snd (fun acc i => ?_) _ ([], s)
  extract_lets b
  split
  · exact .refl _
  · split
    · extract_lets b2
      split
      · exact (Notes.repairedAt ..).reads
      · exact .countAuthFail ..
    · exact .countAuthFail ..
    · exact .refl _

theorem ReadReach.examineParity (p : PoolSt) (g : Geo) (bad : BadReads) (tags : Bool) (stripe bo : Nat) (s : Part) :
    ReadReach s (examineParity p g bad tags stripe bo s).2 := by
  unfold Machine.examineParity
  extract_lets reads units failed full s1 there lost fix ws
  split
  · exact .refl s
  split
  · split
    · have hs1 : ReadReach s s1 := (Notes.offsetSettled ..).reads
      split
      · exact hs1.trans (.verifyTags ..)
      · exact hs1
    · exact ((Notes.settle ..).trans (.offsetSettled ..)).reads
  · split
    · exact ((Notes.foldl (fun t e => .enterLost p.id e.2 t) lost s).trans (.repairs p g stripe bo fix _)).reads
    · exact (((Notes.settle ..).trans (.offsetSettled ..)).trans (.repairs ..)).reads

theorem ReadReach.examineCopies (p : PoolSt) (g : Geo) (bad : BadReads) (tags : Bool) (stripe bo : Nat) (s : Part) :
    ReadReach s (examineCopies p g bad tags stripe bo s).2 := by
  unfold Machine.examineCopies
  extract_lets reads x e s1
  split
  · split
    · exact (Notes.enterLost ..).reads
    · split
      · exact .countAuthFail ..
      · exact .refl s
  · split
    · have hs1 : Notes s s1 := .blockDiverges ..
      split
      · exact (hs1.trans (.offsetSettled ..)).reads
      · exact hs1.reads
    · exact ((Notes.offsetSettled p.id stripe bo [] s).trans (.repairs ..)).reads

theorem ReadReach.examineStripe (cls : Nat) (p : PoolSt) (bad : BadReads) (tags : Bool) (stripe : Nat) (s : Part) :
    ReadReach s (examineStripe cls p bad tags stripe s) := by
  unfold Machine.examineStripe
  extract_lets g missing one r
  have hone : ∀ bo st, ReadReach st (one bo st).2 := fun bo st => by
    simp only [one]
    split
    · exact .examineCopies ..
    · split
      · exact .examineMissing ..
      · exact .examineParity ..
  have hr : ReadReach s r.2 := ReadReach.foldl_snd (op := fun (acc : Exam) bo => (acc.1 ++ (one bo acc.2).1, (one bo acc.2).2))
    (fun acc bo => hone bo acc.2) _ ([], s)
  exact hr.trans (.stageRepair ..)

theorem ReadReach.verifyFull (v : Nat) (bad : BadReads) (lbas : List Nat) (s : Part) : ReadReach s (verifyFull v bad lbas s) := by
  unfold Machine.verifyFull
  split
  · exact .refl s
  · refine ReadReach.foldl (fun st stripe => ?_) _ s
    split
    · split
      · exact (Notes.examineLater ..).reads
      · exact .examineStripe ..
    · exact .refl st

/-! ### Every opcode at the head of its order (R95, R268) -/

section
variable {c : ChainId} {h : BitVec 32} {s : State} {x : Cmd} (hx : takeable s.part c.val h .accepted = some x)
include hx

theorem unknownOpcode_stays (hknown : knownOpcode (dOpcode x.desc) = true) : Stays (.unknownOpcode c h) s := by
  refine stays_onPart (g := unknownOpcodeEff c.val h) rfl ?_
  simp only [unknownOpcodeEff, hx]
  exact if_pos hknown

theorem unknownOpcode_ends (hunknown : knownOpcode (dOpcode x.desc) = false) :
    Runs (.unknownOpcode c h) s (fun t => Completed c.val h 0x10 0 s.part t ∧ WithinCompletion s.part t) := by
  refine runs_onPart (g := unknownOpcodeEff c.val h) rfl ?_
  have heq : unknownOpcodeEff c.val h s.part = complete c.val x.hseq 0x10 0 s.part := by
    simp only [unknownOpcodeEff, hx, (takeable_eq_some hx).2.1]
    exact if_neg (by simp [hunknown])
  obtain ⟨hend, hwithin⟩ := taken_completes hx 0x10 0
  rw [heq]
  exact ⟨hend.completed, hwithin⟩

/-- The instruction takes the command of opcode `op` at the head of its order, by the row `k`. -/
def Takes (i : Instr) (c : Nat) (h : BitVec 32) (op : Nat) (k : Cmd → Part → Part) : Prop :=
  ∀ s : State, exec i s = .next (s.onPart (fun p => withTaken p c h (· == op) k))

/-- What an instruction makes of a command of another opcode, one that waits for its key, and one that a check of R268 stops. -/
structure ChecksOpcode (i : Instr) (c : Nat) (h : BitVec 32) (op : Nat) (s : State) (x : Cmd) : Prop where
  other : dOpcode x.desc ≠ op → Stays i s
  waits : dOpcode x.desc = op → commandCheck s.part x.desc = .wait → Stays i s
  stops : dOpcode x.desc = op → ∀ st info, commandCheck s.part x.desc = .stop st info →
    Runs i s (fun t => Completed c h st info s.part t ∧ WithinCompletion s.part t)

theorem Takes.checksOpcode {i : Instr} {op : Nat} {k : Cmd → Part → Part} (hi : Takes i c.val h op k) : ChecksOpcode i c.val h op s x where
  other hop := stays_onPart (hi s) (withTaken_other hx _ k (by simpa using hop))
  waits _ hcheck := stays_onPart (hi s) (withTaken_waits hx _ k hcheck)
  stops hop st info hcheck := by
    obtain ⟨hcmd, hseq, hphase, hdump⟩ := takeable_eq_some hx
    refine runs_onPart (hi s) ?_
    rw [withTaken_stops hx _ k (by simpa using hop) hcheck]
    refine ⟨?_, endFailed_within ..⟩
    have hend := (endFailed_completed st info (by rwa [hseq]) (by simp [hphase]) hdump).1
    rwa [hseq] at hend

/-- A command that passes the checks runs by its opcode's row. -/
theorem Takes.runs {i : Instr} {op : Nat} {k : Cmd → Part → Part} (hi : Takes i c.val h op k) (hop : dOpcode x.desc = op)
    (hcheck : commandCheck s.part x.desc = .run) {P : Part → Prop} (hP : P (k x s.part)) : Runs i s P := by
  refine runs_onPart (hi s) ?_
  rwa [withTaken_runs hx _ k (by simpa using hop) hcheck]

theorem Takes.stays {i : Instr} {op : Nat} {k : Cmd → Part → Part} (hi : Takes i c.val h op k) (hop : dOpcode x.desc = op)
    (hcheck : commandCheck s.part x.desc = .run) (hk : k x s.part = s.part) : Stays i s :=
  stays_onPart (hi s) ((withTaken_runs hx _ k (by simpa using hop) hcheck).trans hk)

theorem read_checksOpcode (bad : BadReads) (lf : LaneFaults) : ChecksOpcode (.read c h bad lf) c.val h 1 s x := by
  have hexec : exec (.read c h bad lf) s = execRead c h bad lf s := rfl
  refine ⟨fun hop => ?_, fun hop hcheck => ?_, fun hop st info hcheck => ?_⟩
  · rw [Stays, hexec, execRead]
    simp only [hx]
    exact if_pos hop
  · rw [Stays, hexec, execRead]
    simp only [hx, hcheck]
    exact if_neg (by simp [hop])
  · obtain ⟨hend, hwithin⟩ := taken_completes hx st info
    rw [(takeable_eq_some hx).2.1] at hend hwithin
    refine ⟨complete c.val h st info s.part, ?_, hend.completed, hwithin⟩
    rw [hexec, execRead]
    simp only [hx, hcheck]
    exact if_neg (by simp [hop])

theorem read_runs {bad : BadReads} {lf : LaneFaults} (hop : dOpcode x.desc = 1) (hcheck : commandCheck s.part x.desc = .run)
    (hready : readWaits c.val x s.part = none) : exec (.read c h bad lf) s = .next { s with
      part := (readRun c.val bad lf x s.part).1, peerMem := Memory.writeAll s.peerMem (readRun c.val bad lf x s.part).2 } := by
  have hexec : exec (.read c h bad lf) s = execRead c h bad lf s := rfl
  rw [hexec, execRead]
  simp only [hx, hcheck, hready]
  exact if_neg (by simp [hop])

theorem read_waits {bad : BadReads} {lf : LaneFaults} {u : Part} (hop : dOpcode x.desc = 1) (hcheck : commandCheck s.part x.desc = .run)
    (hwaits : readWaits c.val x s.part = some u) : exec (.read c h bad lf) s = .next { s with part := u } := by
  have hexec : exec (.read c h bad lf) s = execRead c h bad lf s := rfl
  rw [hexec, execRead]
  simp only [hx, hcheck, hwaits]
  exact if_neg (by simp [hop])

end

/-! ### WRITE and UNMAP (R89, R271, R277) -/

/-- The command waits for admission, or for its reads. -/
def Cmd.waiting (x : Cmd) : Cmd := { x with phase := .waiting }

theorem Part.modCmd_only (s : Part) (c : Nat) (h : BitVec 32) (g : Cmd → Cmd) : s.modCmd c h g = { s with chains := (s.modCmd c h g).chains } := rfl

theorem Part.modCmd_own {s : Part} {c : Nat} {h : BitVec 32} {x : Cmd} (hx : s.cmd? c h = some x) (g : Cmd → Cmd) (hg : ∀ y, (g y).hseq = y.hseq) :
    (s.modCmd c x.hseq g).cmd? c h = some (g x) := by
  obtain rfl := Part.cmd?_hseq hx
  rw [Part.modCmd_cmd? s c x.hseq hg, hx]
  rfl

/-- A transaction as a write of `d` that joins it leaves it. -/
def TxSt.joined (d : Desc) (t : TxSt) : TxSt := { t with extents := t.extents + extentsOf d, blocks := t.blocks + dBlocks d }

section
variable {c : ChainId} {h : BitVec 32} {s : State} {x : Cmd} (hx : takeable s.part c.val h .accepted = some x)
include hx

theorem takeWrite_waits (htx : isTx x.desc = false) : (takeWrite c.val x s.part).cmd? c.val h = some { x with phase := .waiting } ∧
    takeWrite c.val x s.part = { s.part with chains := (takeWrite c.val x s.part).chains } := by
  obtain ⟨hcmd, hseq, -⟩ := takeable_eq_some hx
  have heq : takeWrite c.val x s.part = s.part.modCmd c.val x.hseq Cmd.waiting := if_pos (by simp [htx])
  rw [heq]
  exact ⟨Part.modCmd_own hcmd Cmd.waiting (fun _ => rfl), Part.modCmd_only ..⟩

theorem takeWrite_free (htx : isTx x.desc = true) (hnone : s.part.tx? c.val (dTag x.desc) = none) :
    Completed c.val h 0x44 0 s.part (takeWrite c.val x s.part) ∧ WithinCompletion s.part (takeWrite c.val x s.part) := by
  have heq : takeWrite c.val x s.part = complete c.val x.hseq 0x44 0 s.part := by simp [takeWrite, htx, hnone]
  obtain ⟨hend, hwithin⟩ := taken_completes hx 0x44 0
  rw [heq]
  exact ⟨hend.completed, hwithin⟩

/-- The status a write of a transaction ends with that does not join it (R89, R93, R279). -/
def txRefusal (s : Part) (c : Nat) (d : Desc) (tx : TxSt) (st : Nat) : Prop :=
  (tx.timedOut = true ∧ st = 0x43) ∨ (tx.timedOut = false ∧ tx.noProtect = true ∧ st = 0x42) ∨
    (tx.timedOut = false ∧ tx.noProtect = false ∧ placedCommit s c (dTag d) ≠ none ∧ st = 0x44) ∨
    (tx.timedOut = false ∧ tx.noProtect = false ∧ placedCommit s c (dTag d) = none ∧ ((s.poolOfVol (dVol d)).map (·.id) ≠ some tx.pool ∨
      64 < tx.extents + extentsOf d ∨ 4096 < tx.blocks + dBlocks d) ∧ st = 0x40)

theorem takeWrite_refused {tx : TxSt} {st : Nat} (htx : isTx x.desc = true) (htag : s.part.tx? c.val (dTag x.desc) = some tx)
    (hst : txRefusal s.part c.val x.desc tx st) :
    Completed c.val h st 0 s.part (takeWrite c.val x s.part) ∧ WithinCompletion s.part (takeWrite c.val x s.part) := by
  obtain ⟨hcmd, hseq, hphase, hdump⟩ := takeable_eq_some hx
  obtain ⟨hend, hwithin⟩ := taken_completes hx st 0
  obtain ⟨hlate, rfl⟩ | ⟨hlive, hfail, rfl⟩ | ⟨hlive, hok, hplaced, rfl⟩ | ⟨hlive, hok, hplaced, hlimit, rfl⟩ := hst
  · have heq : takeWrite c.val x s.part = complete c.val x.hseq 0x43 0 s.part := by simp [takeWrite, htx, htag, hlate]
    exact heq ▸ ⟨hend.completed, hwithin⟩
  · have heq : takeWrite c.val x s.part = complete c.val x.hseq 0x42 0 s.part := by simp [takeWrite, htx, htag, hlive, hfail]
    exact heq ▸ ⟨hend.completed, hwithin⟩
  · have heq : takeWrite c.val x s.part = complete c.val x.hseq 0x44 0 s.part := by
      simp [takeWrite, htx, htag, hlive, hok, Option.isSome_iff_ne_none, hplaced]
    exact heq ▸ ⟨hend.completed, hwithin⟩
  · have heq : takeWrite c.val x s.part = endFailed c.val x 0x40 0 s.part := by
      have hguard : ((decide ((s.part.poolOfVol (dVol x.desc)).map (·.id) ≠ some tx.pool) || decide (64 < tx.extents + extentsOf x.desc)) ||
          decide (4096 < tx.blocks + dBlocks x.desc)) = true := by
        simpa only [Bool.or_eq_true, decide_eq_true_eq, or_assoc] using hlimit
      unfold takeWrite
      simp only [htx, htag, hlive, hok, hplaced, hguard, Bool.not_true, Bool.false_eq_true, if_false, Option.isSome_none, if_true]
    rw [heq]
    have hfailed := (endFailed_completed 0x40 0 (by rwa [hseq]) (by simp [hphase]) hdump).1
    rw [hseq] at hfailed
    exact ⟨hfailed, endFailed_within ..⟩

theorem takeWrite_joins {tx : TxSt} (htx : isTx x.desc = true) (htag : s.part.tx? c.val (dTag x.desc) = some tx)
    (hlive : tx.timedOut = false) (hok : tx.noProtect = false) (hplaced : placedCommit s.part c.val (dTag x.desc) = none)
    (hpool : (s.part.poolOfVol (dVol x.desc)).map (·.id) = some tx.pool) (hextents : tx.extents + extentsOf x.desc ≤ 64)
    (hblocks : tx.blocks + dBlocks x.desc ≤ 4096) :
    (takeWrite c.val x s.part).cmd? c.val h = some { x with phase := .waiting } ∧
    (takeWrite c.val x s.part).tx? c.val (dTag x.desc) =
      some { tx with extents := tx.extents + extentsOf x.desc, blocks := tx.blocks + dBlocks x.desc } ∧
    takeWrite c.val x s.part = { s.part with chains := (takeWrite c.val x s.part).chains } := by
  obtain ⟨hcmd, hseq, -⟩ := takeable_eq_some hx
  have heq : takeWrite c.val x s.part = (s.part.modTx c.val (dTag x.desc) (TxSt.joined x.desc)).modCmd c.val x.hseq Cmd.waiting := by
    unfold takeWrite
    simp only [htx, htag, hlive, hok, hplaced, hpool, Nat.not_lt.mpr hextents, Nat.not_lt.mpr hblocks, Bool.not_true, Bool.false_eq_true,
      if_false, Option.isSome_none, ne_eq, not_true_eq_false, decide_false, Bool.or_false]
    rfl
  have hcmds : ((s.part.modTx c.val (dTag x.desc) (TxSt.joined x.desc)).chain c.val).cmds = (s.part.chain c.val).cmds := by
    rw [Part.modTx_chain]
  rw [heq]
  refine ⟨Part.modCmd_own ((Part.cmd?_congr hcmds h).trans hcmd) Cmd.waiting (fun _ => rfl), ?_, rfl⟩
  rw [Part.modCmd_tx?, Part.modTx_tx? s.part c.val (dTag x.desc) (g := TxSt.joined x.desc) (fun _ => rfl), htag]
  rfl

end

/-! ### FLUSH (R85, R276) -/

/-- A FLUSH that waits for the blocks of tide `t` and before. -/
def Cmd.flushing (t : Nat) (x : Cmd) : Cmd := { x with phase := .admitted, tide := t }

theorem flushPending_modCmd (s : Part) (c : Nat) (h : BitVec 32) (g : Cmd → Cmd) (v t : Nat) :
    flushPending (s.modCmd c h g) v t = flushPending s v t := rfl

theorem flushRun_eq {s : Part} {x : Cmd} {p : PoolSt} {v : CVol} (hv : s.volume? (dVol x.desc) = some (p, v)) (c : Nat) :
    flushRun c x s = if !poolServes p then s
      else if flushPending s (dVol x.desc) (s.mark p.id) then s.modCmd c x.hseq (Cmd.flushing (s.mark p.id))
      else complete c x.hseq 0x00 0 (s.modCmd c x.hseq (Cmd.flushing (s.mark p.id))) := by
  have hpool : s.poolOfVol (dVol x.desc) = some p := by
    rw [Part.poolOfVol, hv]
    rfl
  rw [← flushPending_modCmd s c x.hseq (Cmd.flushing (s.mark p.id))]
  unfold flushRun
  simp only [hpool]
  rfl

/-- A change of the command itself, before it ends. -/
theorem taken_changed {c : Nat} {h : BitVec 32} {s : Part} {x : Cmd} (hx : takeable s c h .accepted = some x) {g : Cmd → Cmd}
    (hg : ∀ y, (g y).hseq = y.hseq) (hlive : (g x).phase ≠ .done) (status : Nat) (info : BitVec 64) :
    Finished c h status info s (complete c x.hseq status info (s.modCmd c x.hseq g)) ∧
    WithinCompletion s (complete c x.hseq status info (s.modCmd c x.hseq g)) := by
  obtain ⟨hcmd, hseq, -, hdump⟩ := takeable_eq_some hx
  have hown := Part.modCmd_own hcmd g hg
  have hgo : ChainGoesOn c s (s.modCmd c x.hseq g) := .modChain (by simp) rfl
  refine ⟨?_, ?_⟩
  · rw [hseq] at hown hgo ⊢
    exact (complete_finished status info hown hlive hdump).before hgo
  · exact WithinCompletion.trans (t := s.modCmd c x.hseq g) rfl (complete_within ..)

section
variable {c : ChainId} {h : BitVec 32} {s : State} {x : Cmd} (hx : takeable s.part c.val h .accepted = some x)
  {p : PoolSt} {v : CVol} (hv : s.part.volume? (dVol x.desc) = some (p, v))
include hx hv

theorem flushRun_waits (hserves : poolServes p = true) (hpending : flushPending s.part (dVol x.desc) (s.part.mark p.id) = true) :
    (flushRun c.val x s.part).cmd? c.val h = some { x with phase := .admitted, tide := s.part.mark p.id } ∧
    flushRun c.val x s.part = { s.part with chains := (flushRun c.val x s.part).chains } := by
  have heq : flushRun c.val x s.part = s.part.modCmd c.val x.hseq (Cmd.flushing (s.part.mark p.id)) := by
    rw [flushRun_eq hv, if_neg (by simp [hserves]), if_pos hpending]
  rw [heq]
  exact ⟨Part.modCmd_own (takeable_eq_some hx).1 (Cmd.flushing (s.part.mark p.id)) (fun _ => rfl), Part.modCmd_only ..⟩

theorem flushRun_ends (hserves : poolServes p = true) (hnone : flushPending s.part (dVol x.desc) (s.part.mark p.id) = false) :
    Completed c.val h 0x00 0 s.part (flushRun c.val x s.part) ∧ WithinCompletion s.part (flushRun c.val x s.part) := by
  have heq : flushRun c.val x s.part = complete c.val x.hseq 0x00 0 (s.part.modCmd c.val x.hseq (Cmd.flushing (s.part.mark p.id))) := by
    rw [flushRun_eq hv, if_neg (by simp [hserves]), if_neg (by simp [hnone])]
  obtain ⟨hend, hwithin⟩ := taken_changed hx (g := Cmd.flushing (s.part.mark p.id)) (fun _ => rfl)
    (fun h => CmdPhase.noConfusion h) 0x00 0
  rw [heq]
  exact ⟨hend.completed, hwithin⟩

/-! ### READ, VERIFY and COPY of a volume (R134, R272, R274, R278) -/

theorem readWaits_waits {u : Part} (hu : readWaits c.val x s.part = some u) : u.cmd? c.val h = some { x with phase := .waiting } ∧
    u = { s.part with chains := u.chains, members := u.members } := by
  unfold readWaits at hu
  simp only [hv] at hu
  split at hu
  · cases hu
  · obtain rfl := Option.some.inj hu
    generalize hqueued : List.foldl _ s.part (slowStrips s.part p v (dCopySel x.desc) (deviceLbas x.desc)) = queued
    have honly : MembersOnly s.part queued := by
      rw [← hqueued]
      exact MembersOnly.foldl (fun st y => (enqueueCmd_queues ..).only) _ s.part
    have hcmd : queued.cmd? c.val h = some x := by
      rw [honly]
      exact (takeable_eq_some hx).1
    refine ⟨Part.modCmd_own hcmd Cmd.waiting (fun _ => rfl), ?_⟩
    rw [Part.modCmd_only queued, honly]

end

theorem readRun_held {c : Nat} {bad : BadReads} {lf : LaneFaults} {x : Cmd} {s : Part} {p : PoolSt} {v : CVol}
    (hv : s.volume? (dVol x.desc) = some (p, v)) (hheld : readHeld s p v (deviceLbas x.desc) = true) : readRun c bad lf x s = (s, []) ∧
    verifyRun c bad lf x s = s ∧ copyRun c bad lf x s = s := by
  simp only [readRun, verifyRun, copyRun, hv, hheld, if_true, and_self]

theorem readRun_faulty {c : Nat} {bad : BadReads} {lf : LaneFaults} {x : Cmd} {s : Part} {p : PoolSt} {v : CVol}
    (hv : s.volume? (dVol x.desc) = some (p, v)) (hheld : readHeld s p v (deviceLbas x.desc) = false) (hfaulty : s.toll.faulty = true) :
    readRun c bad lf x s = (complete c x.hseq 0x32 (infoOf v.id (dLba x.desc)) s, []) ∧
    verifyRun c bad lf x s = complete c x.hseq 0x32 (infoOf v.id (dLba x.desc)) s ∧
    copyRun c bad lf x s = complete c x.hseq 0x32 (infoOf v.id (dLba x.desc)) s := by
  simp only [readRun, verifyRun, copyRun, hv, hheld, hfaulty, Bool.false_eq_true, if_false, if_true, and_self]

/-- What a VERIFY examines before it reads. -/
def verifyStart (bad : BadReads) (x : Cmd) (v : CVol) (s : Part) : Part :=
  if dVerifyFull x.desc then verifyFull v.id bad (deviceLbas x.desc) s else s

/-- How a VERIFY ends whose blocks read as `l`. -/
def verifyEnd (c : Nat) (x : Cmd) (v : CVol) (l : List (Nat × BlockEnd)) (s : Part) : Part :=
  match (if dVerifyFull x.desc && (firstFailure v.id (dCopySel x.desc != 0) l).1 == 0 then firstDiverged s v.id (deviceLbas x.desc) else none) with
  | some lba => complete c x.hseq 0x33 (infoOf v.id lba) s
  | none => complete c x.hseq (firstFailure v.id (dCopySel x.desc != 0) l).1 (firstFailure v.id (dCopySel x.desc != 0) l).2 s

section
variable {c : Nat} {bad : BadReads} {lf : LaneFaults} {x : Cmd} {s : Part} {p : PoolSt} {v : CVol}
  (hv : s.volume? (dVol x.desc) = some (p, v)) (hheld : readHeld s p v (deviceLbas x.desc) = false) (hgood : s.toll.faulty = false)
  {l : List (Nat × BlockEnd)} {w : Part}
include hv hheld hgood

theorem verifyRun_eq (hl : readBlocks 5 (dCopySel x.desc) bad lf v.id (deviceLbas x.desc)
      (verifyStart bad x v (lf.mismatch.foldl (fun y u => checkMismatch u y) s)) = (l, w)) :
    verifyRun c bad lf x s = verifyEnd c x v l (countMedium bad w) := by
  unfold verifyStart at hl
  unfold verifyRun
  rw [hv]
  simp only [hheld, hgood, Bool.false_eq_true, if_false, hl]
  rfl

theorem copyRun_eq (hl : readBlocks 5 0 bad lf v.id (deviceLbas x.desc) (lf.mismatch.foldl (fun y u => checkMismatch u y) s) = (l, w)) :
    copyRun c bad lf x s = if (firstFailure v.id false l).1 = 0 then copyInto c x l s (countMedium bad w)
      else complete c x.hseq (firstFailure v.id false l).1 (firstFailure v.id false l).2 (countMedium bad w) := by
  unfold copyRun
  rw [hv]
  simp only [hheld, hgood, Bool.false_eq_true, if_false, hl]

end

/-- What is read before the blocks are delivered, of a READ, a VERIFY or a COPY. -/
theorem blocksRead_reach {copySel : Nat} {bad : BadReads} {lf : LaneFaults} {v : Nat} {lbas : List Nat} {s s2 w : Part}
    {l : List (Nat × BlockEnd)} (hs2 : ReadReach s s2) (hl : readBlocks 5 copySel bad lf v lbas s2 = (l, w)) :
    ReadReach s (countMedium bad w) := by
  have hw : ReadReach s2 w := by
    have hread := ReadReach.readBlocks 5 copySel bad lf v lbas s2
    rwa [hl] at hread
  exact (hs2.trans hw).trans (.countMedium ..)

/-- A command that still stands after its blocks have been read ends. -/
theorem read_completes {c : ChainId} {h : BitVec 32} {s : State} {x : Cmd} (hx : takeable s.part c.val h .accepted = some x) {u : Part}
    (hu : ReadReach s.part u) (hcmd : u.cmd? c.val h = some x) (status : Nat) (info : BitVec 64) :
    Finished c.val h status info u (complete c.val x.hseq status info u) ∧ ReadReach s.part (complete c.val x.hseq status info u) := by
  obtain ⟨-, hseq, hphase, hdump⟩ := takeable_eq_some hx
  have hsame : u.dump = s.part.dump := by rw [hu.within]
  refine ⟨?_, hu.trans (.complete ..)⟩
  rw [hseq]
  exact complete_finished status info hcmd (by simp [hphase]) (by rwa [hsame])

theorem readDelivered_goesOn (c : Nat) (x : Cmd) (v : CVol) (l : List (Nat × BlockEnd)) (s : Part) :
    ChainGoesOn c s (readDelivered c x v l s) ∧ (readDelivered c x v l s).chains = s.chains := by
  unfold readDelivered
  split
  · exact ⟨⟨rfl, fun _ => rfl, rfl, rfl⟩, rfl⟩
  · exact ⟨.refl c s, rfl⟩

theorem readDelivered_sends {c : Nat} {x : Cmd} {v : CVol} {l : List (Nat × BlockEnd)} {s : Part} (hhost : dPeer x.desc = false)
    (hcells : deliverCells x.desc l ≠ []) (hbme : (s.fn (s.chainFn c)).bme = true) :
    ∃ ns ro, .hostData (s.chainFn c) c ns ro (deliverCells x.desc l ++ deliverPi x.desc v.hostPi l) ∈ (readDelivered c x v l s).out := by
  have hbytes : hostBytes x v l = deliverCells x.desc l ++ deliverPi x.desc v.hostPi l := by simp [hostBytes, hhost]
  have hguard : ((s.fn (s.chainFn c)).bme && !(hostBytes x v l).isEmpty) = true := by simp [hbme, hbytes, hcells]
  refine ⟨x.noSnoop && (s.fn (s.chainFn c)).noSnoopEn, (s.fn (s.chainFn c)).relaxedEn, ?_⟩
  rw [readDelivered, if_pos hguard, hbytes]
  exact List.mem_append_right _ (List.mem_singleton.mpr rfl)

section
variable {c : ChainId} {h : BitVec 32} {s : State} {x : Cmd} (hx : takeable s.part c.val h .accepted = some x)
  {v : CVol} {l : List (Nat × BlockEnd)} {u : Part} (hu : ReadReach s.part u) (hcmd : u.cmd? c.val h = some x) {st : Nat} {info : BitVec 64}
include hx hu hcmd

/-- The READ ends with the status of the first block that failed, once its data are on their way. -/
theorem readDelivered_completes : Completed c.val h st info u (complete c.val x.hseq st info (readDelivered c.val x v l u)) ∧
    WithinRead s.part (complete c.val x.hseq st info (readDelivered c.val x v l u)) := by
  obtain ⟨hgo, hchains⟩ := readDelivered_goesOn c.val x v l u
  have hstands : (readDelivered c.val x v l u).cmd? c.val h = some x := by
    rw [Part.cmd?, Part.chain, hchains]
    exact hcmd
  obtain ⟨hend, hreach⟩ := read_completes hx (hu.trans (.readDelivered c.val x v l u)) hstands st info
  exact ⟨(hend.before hgo).completed, hreach.within⟩

variable (hst : firstFailure v.id (dCopySel x.desc != 0) l = (st, info))
include hst

theorem verifyEnd_diverged {lba : Nat} (hfull : dVerifyFull x.desc = true) (hgood : st = 0)
    (hlba : firstDiverged u v.id (deviceLbas x.desc) = some lba) :
    Completed c.val h 0x33 (infoOf v.id lba) u (verifyEnd c.val x v l u) ∧ WithinRead s.part (verifyEnd c.val x v l u) := by
  have heq : verifyEnd c.val x v l u = complete c.val x.hseq 0x33 (infoOf v.id lba) u := by
    simp only [verifyEnd, hst, hfull, hgood, beq_self_eq_true, Bool.and_self, if_true, hlba]
  obtain ⟨hend, hreach⟩ := read_completes hx hu hcmd 0x33 (infoOf v.id lba)
  rw [heq]
  exact ⟨hend.completed, hreach.within⟩

theorem verifyEnd_ends (hnone : dVerifyFull x.desc = false ∨ st ≠ 0 ∨ firstDiverged u v.id (deviceLbas x.desc) = none) :
    Completed c.val h st info u (verifyEnd c.val x v l u) ∧ WithinRead s.part (verifyEnd c.val x v l u) := by
  have hdiverged : (if dVerifyFull x.desc && st == 0 then firstDiverged u v.id (deviceLbas x.desc) else none) = none := by
    obtain hplain | hfail | hnone := hnone
    · simp [hplain]
    · simp [hfail]
    · simp [hnone]
  have heq : verifyEnd c.val x v l u = complete c.val x.hseq st info u := by
    simp only [verifyEnd, hst, hdiverged]
  obtain ⟨hend, hreach⟩ := read_completes hx hu hcmd st info
  rw [heq]
  exact ⟨hend.completed, hreach.within⟩

end

/-! ### A COPY that lands (R89, R274) -/

/-- `t` differs from `s` at most in what a COPY reaches. -/
def WithinCopy (s t : Part) : Prop :=
  t = { s with islands := t.islands, sched := t.sched, man := t.man, chains := t.chains, fn0 := t.fn0, fn1 := t.fn1, pools := t.pools
               vols := t.vols, members := t.members, toll := t.toll, pair := t.pair, tow := t.tow, dict := t.dict, log := t.log
               out := t.out }

theorem WithinCopy.trans {s t u : Part} (h : WithinCopy s t) (h' : WithinCopy t u) : WithinCopy s u :=
  calc u = _ := h'
    _ = _ := by rw [h]

theorem WithinRead.withinCopy {s t : Part} (h : WithinRead s t) : WithinCopy s t :=
  calc t = _ := h
    _ = _ := by rw [h]

/-- `t` is `s` with the blocks `a` held besides, in the same tide, and the chains as they were. -/
structure HoldsOn (a : List Held) (s t : Part) : Prop where
  held : t.man.held = s.man.held ++ a
  chains : t.chains = s.chains
  tideNow : t.sched.tideNow = s.sched.tideNow
  within : WithinCopy s t

theorem HoldsOn.trans {a b : List Held} {s t u : Part} (h : HoldsOn a s t) (h' : HoldsOn b t u) : HoldsOn (a ++ b) s u :=
  ⟨by rw [h'.held, h.held, List.append_assoc], h'.chains.trans h.chains, h'.tideNow.trans h.tideNow, h.within.trans h'.within⟩

/-- A step that holds nothing besides. -/
theorem HoldsOn.before {a : List Held} {s t u : Part} (h : HoldsOn [] s t) (h' : HoldsOn a t u) : HoldsOn a s u := h.trans h'

theorem HoldsOn.after {a : List Held} {s t u : Part} (h : HoldsOn a s t) (h' : HoldsOn [] t u) : HoldsOn a s u :=
  ⟨by rw [h'.held, h.held, List.append_nil], h'.chains.trans h.chains, h'.tideNow.trans h.tideNow, h.within.trans h'.within⟩

theorem HoldsOn.refl (s : Part) : HoldsOn [] s s := ⟨(List.append_nil _).symm, rfl, rfl, rfl⟩

theorem HoldsOn.foldl {α : Type} {op : Part → α → Part} (h : ∀ s x, HoldsOn [] s (op s x)) (l : List α) : ∀ s, HoldsOn [] s (l.foldl op s) := by
  induction l with
  | nil => exact HoldsOn.refl
  | cons x l ih => exact fun s => (h s x).before (ih _)

theorem KeepsHeld.holdsOn {s t : Part} (h : KeepsHeld s t) : HoldsOn [] s t := by
  obtain ⟨honly, hheld⟩ := h
  refine ⟨by rw [hheld, List.append_nil], by rw [honly], by rw [honly], ?_⟩
  rw [WithinCopy, honly]

theorem HoldsOn.emit (o : Output) (s : Part) : HoldsOn [] s (emit o s) := ⟨(List.append_nil _).symm, rfl, rfl, rfl⟩

theorem HoldsOn.orderUp (i : Island) (s : Part) : HoldsOn [] s (orderUp i s) := by
  rw [orderUp_only]
  exact ⟨(List.append_nil _).symm, rfl, rfl, rfl⟩

theorem HoldsOn.modVol (s : Part) (v : Nat) (g : VolSt → VolSt) : HoldsOn [] s (s.modVol v g) := ⟨(List.append_nil _).symm, rfl, rfl, rfl⟩

theorem AdmitDecided.holdsOn {s t : Part} (h : AdmitDecided s t) (hman : t.man = s.man) : HoldsOn [] s t := by
  refine ⟨by rw [hman, List.append_nil], h.within.chains, h.tideNow, ?_⟩
  rw [WithinCopy, h.within]

theorem HoldsOn.refreshAdmitState (s : Part) : HoldsOn [] s (refreshAdmitState s) :=
  (refreshAdmitState_decides s).holdsOn (refreshAdmitState_man s)

theorem KeepsHeld.modEntry (s : Part) (p stripe : Nat) (g : MEntry → MEntry) : KeepsHeld s (s.modEntry p stripe g) := ⟨rfl, rfl⟩

theorem addEntry_keepsHeld (p stripe : Nat) (st : EntryState) (s : Part) : KeepsHeld s (addEntry p stripe st s) := by
  refine ⟨addEntry_manifestOnly .., ?_⟩
  unfold addEntry
  split <;> rfl

theorem takeGeneration_holdsOn (p : PoolSt) (v : CVol) (l : List Spot) (s : Part) : HoldsOn [] s (takeGeneration p v l s).2 := by
  unfold takeGeneration
  extract_lets seq gen s1 st
  have hs1 : HoldsOn [] s s1 := .modVol ..
  refine hs1.before (HoldsOn.foldl (fun t stripe => ?_) _ s1)
  extract_lets whole t1
  have ht1 : KeepsHeld t t1 := addEntry_keepsHeld ..
  split
  · exact (ht1.trans (.modEntry ..)).holdsOn
  · exact ht1.holdsOn

theorem holdBlocks_holdsOn (p : PoolSt) (l : List Held) (s : Part) : HoldsOn l s (holdBlocks p l s) := by
  unfold holdBlocks
  extract_lets kept s1 s2 s3
  have hs1 : HoldsOn [] s s1 := by
    simp only [s1]
    split
    · exact .refl s
    · exact .orderUp ..
  have hs2 : HoldsOn l s1 s2 := ⟨rfl, rfl, rfl, rfl⟩
  have hs3 : HoldsOn [] s2 s3 := (settleEntries_keepsHeld kept s2).holdsOn.before (.refreshAdmitState _)
  have hall : HoldsOn l s s3 := (hs1.before hs2).after hs3
  split
  · exact hall.after (HoldsOn.foldl (fun st b => .emit ..) kept s3)
  · exact hall

theorem heldBlock_of {s : Part} {p : PoolSt} {v : CVol} {c : Nat} {y : Cmd} {sp : Spot} {pt hpi : Bytes} {b : Held}
    (h : heldBlock s p v c y sp pt hpi = some b) :
    b.pool = p.id ∧ b.vol = v.id ∧ b.chain = c ∧ b.hseq = y.hseq ∧ b.tide = s.sched.tideNow := by
  obtain ⟨m, -, rfl⟩ := Option.map_eq_some_iff.mp h
  exact ⟨rfl, rfl, rfl, rfl, rfl⟩

/-- A COPY as it is admitted under generation `gen`, in tide `tide`. -/
def Cmd.admittedAs (gen tide : Nat) (through : Bool) (x : Cmd) : Cmd :=
  { x with phase := .admitted, gen := gen, tide := tide, through := through }

/-- What a COPY of one source block is held as, at each place its destination has. -/
def copiedBlocks (s : Part) (p : PoolSt) (v : CVol) (c : Nat) (y : Cmd) (l : List (Nat × BlockEnd)) : List (Option Held) :=
  (l.mapIdx (fun b e =>
    let lba := dDstLba y.desc + b
    match e.2.data? with
    | some (pt, hpi) => (spotsOf p v [lba]).map (fun sp => heldBlock s p v c y sp pt (retag v.hostPi hpi lba))
    | none => [])).flatten

theorem copiedBlocks_of {s : Part} {p : PoolSt} {v : CVol} {c : Nat} {y : Cmd} {l : List (Nat × BlockEnd)} {b : Held}
    (h : b ∈ (copiedBlocks s p v c y l).filterMap id) :
    b.pool = p.id ∧ b.vol = v.id ∧ b.chain = c ∧ b.hseq = y.hseq ∧ b.tide = s.sched.tideNow := by
  obtain ⟨o, ho, rfl⟩ := List.mem_filterMap.mp h
  obtain ⟨bs, hbs, hb⟩ := List.mem_flatten.mp ho
  obtain ⟨i, hi, rfl⟩ := List.mem_mapIdx.mp hbs
  dsimp only at hb
  split at hb
  · obtain ⟨sp, -, hsp⟩ := List.mem_map.mp hb
    exact heldBlock_of hsp
  · cases hb

/-- The phase of a command whose blocks are held (R89). -/
def Cmd.landedAs (y x : Cmd) (tide : Nat) : Cmd :=
  if y.through then { x with phase := .through, covers := y.covers } else { x with phase := .landed, tide := tide, covers := y.covers }

theorem landed_eq {c : Nat} {y : Cmd} {s : Part} (htx : isTx y.desc = false) :
    landed c y s = s.modCmd c y.hseq (fun x => y.landedAs x s.sched.tideNow) := by
  unfold landed Cmd.landedAs
  rw [if_neg (by simp [htx])]
  cases y.through <;> rfl

section
variable {c : Nat} {x : Cmd} {u : Part} {q : PoolSt} {v : CVol} (hv : u.volume? (dDstVol x.desc) = some (q, v))
  (hheld : writeHeld u q none (u.spots x.desc) = false) (hgood : writeRefused u q (u.spots x.desc) = false)
  (hfits : writeFits u q v (u.spots x.desc) = true)
include hv hheld hgood hfits

theorem copyInto_eq (l : List (Nat × BlockEnd)) (s0 : Part) {gen : Nat} {g : Part} (hgen : takeGeneration q v (u.spots x.desc) u = (gen, g)) :
    copyInto c x l s0 u =
      let y := { x with gen := gen, tide := g.sched.tideNow, through := q.writeState == 1 }
      let admitted := g.modCmd c x.hseq (Cmd.admittedAs gen g.sched.tideNow (q.writeState == 1))
      landed c y (holdBlocks q ((copiedBlocks admitted q v c y l).filterMap id) admitted) := by
  unfold copyInto
  simp only [hv, hheld, hgood, hfits, hgen, Bool.false_eq_true, if_false, Bool.not_true]
  rfl

/-- A COPY whose destination admits it lands, its blocks held in the open tide. -/
theorem copyInto_lands {h : BitVec 32} (hcmd : u.cmd? c h = some x) (hcopy : dOpcode x.desc = 6) (l : List (Nat × BlockEnd)) (s0 : Part) :
    (∃ y, (copyInto c x l s0 u).cmd? c h = some y ∧ y.phase = (if q.writeState = 1 then .through else .landed)) ∧
    (∃ a, (copyInto c x l s0 u).man.held = u.man.held ++ a ∧
      ∀ b ∈ a, b.pool = q.id ∧ b.vol = v.id ∧ b.chain = c ∧ b.hseq = h ∧ b.tide = u.sched.tideNow) ∧
    WithinCopy u (copyInto c x l s0 u) := by
  have htaken := takeGeneration_holdsOn q v (u.spots x.desc) u
  generalize hgen : takeGeneration q v (u.spots x.desc) u = r at htaken
  obtain ⟨gen, g⟩ := r
  have hg : g.cmd? c h = some x := by
    rw [Part.cmd?, Part.chain, htaken.chains]
    exact hcmd
  rw [copyInto_eq hv hheld hgood hfits l s0 hgen]
  extract_lets y admitted
  have hxseq := Part.cmd?_hseq hcmd
  have hadmitted : admitted.cmd? c h = some (x.admittedAs gen g.sched.tideNow (q.writeState == 1)) := Part.modCmd_own hg (Cmd.admittedAs gen g.sched.tideNow (q.writeState == 1)) (fun _ => rfl)
  have hmod : WithinCopy g admitted := rfl
  have hheldAdm : admitted.man.held = u.man.held := htaken.held.trans (List.append_nil _)
  have htide : admitted.sched.tideNow = u.sched.tideNow := htaken.tideNow
  have hblocks : ∀ b ∈ (copiedBlocks admitted q v c y l).filterMap id, b.pool = q.id ∧ b.vol = v.id ∧ b.chain = c ∧ b.hseq = h ∧
      b.tide = u.sched.tideNow := fun b hb => by
    obtain ⟨hpool, hvol, hchain, hseq, htd⟩ := copiedBlocks_of hb
    exact ⟨hpool, hvol, hchain, hseq.trans hxseq, htd.trans htide⟩
  generalize (copiedBlocks admitted q v c y l).filterMap id = a at hblocks
  have hon := holdBlocks_holdsOn q a admitted
  generalize holdBlocks q a admitted = t at hon
  have ht : t.cmd? c h = some (x.admittedAs gen g.sched.tideNow (q.writeState == 1)) := by
    rw [Part.cmd?, Part.chain, hon.chains]
    exact hadmitted
  rw [landed_eq (s := t) (y := y) (by simp [y, isTx, hcopy])]
  refine ⟨⟨_, Part.modCmd_own ht (fun z => y.landedAs z t.sched.tideNow) (fun z => ?_), ?_⟩, ⟨a, ?_, hblocks⟩, ?_⟩
  · simp only [Cmd.landedAs]
    split <;> rfl
  · simp only [Cmd.landedAs, y]
    by_cases hstate : q.writeState = 1 <;> simp [hstate]
  · exact hon.held.trans (congrArg (· ++ a) hheldAdm)
  · exact ((htaken.within.trans hmod).trans hon.within).trans rfl

end

/-! ### The statement -/

section
variable {c : ChainId} {h : BitVec 32} {s : State} {x : Cmd} (hx : takeable s.part c.val h .accepted = some x)
include hx

theorem hostCommand_checks {bad : BadReads} {lf : LaneFaults} {i : Instr} {op : Nat}
    (hi : (i, op) ∈ [(Instr.read c h bad lf, 1), (.write c h, 2), (.flush c h, 3), (.unmap c h, 4), (.verify c h bad lf, 5),
      (.copy c h bad lf, 6), (.txBegin c h, 0x10), (.txCommit c h, 0x11), (.txAbort c h, 0x12)]) : ChecksOpcode i c.val h op s x := by
  simp only [List.mem_cons, Prod.mk.injEq, List.not_mem_nil, or_false] at hi
  obtain ⟨rfl, rfl⟩ | ⟨rfl, rfl⟩ | ⟨rfl, rfl⟩ | ⟨rfl, rfl⟩ | ⟨rfl, rfl⟩ | ⟨rfl, rfl⟩ | ⟨rfl, rfl⟩ | ⟨rfl, rfl⟩ | ⟨rfl, rfl⟩ := hi
  · exact read_checksOpcode hx bad lf
  · exact Takes.checksOpcode hx (k := takeWrite c.val) fun _ => rfl
  · exact Takes.checksOpcode hx (k := flushRun c.val) fun _ => rfl
  · exact Takes.checksOpcode hx (k := takeWrite c.val) fun _ => rfl
  · exact Takes.checksOpcode hx (k := verifyRun c.val bad lf) fun _ => rfl
  · exact Takes.checksOpcode hx (k := copyRun c.val bad lf) fun _ => rfl
  · exact Takes.checksOpcode hx (k := txBeginRun c.val) fun _ => rfl
  · exact Takes.checksOpcode hx (k := txCommitRun c.val) fun _ => rfl
  · exact Takes.checksOpcode hx (k := txAbortRun c.val) fun _ => rfl

variable (hcheck : commandCheck s.part x.desc = .run)
include hcheck

theorem write_runs {i : Instr} (hi : (i = .write c h ∧ dOpcode x.desc = 2) ∨ (i = .unmap c h ∧ dOpcode x.desc = 4)) {P : Part → Prop}
    (hP : P (takeWrite c.val x s.part)) : Runs i s P := by
  obtain ⟨rfl, hop⟩ | ⟨rfl, hop⟩ := hi
  · exact Takes.runs hx (k := takeWrite c.val) (fun _ => rfl) hop hcheck hP
  · exact Takes.runs hx (k := takeWrite c.val) (fun _ => rfl) hop hcheck hP

variable {p : PoolSt} {v : CVol} (hv : s.part.volume? (dVol x.desc) = some (p, v))
include hv

/-- READ, VERIFY and COPY of a volume that is held, or whose keys the part cannot use. -/
theorem hostRead_held {bad : BadReads} {lf : LaneFaults} {i : Instr}
    (hi : (i = .read c h bad lf ∧ dOpcode x.desc = 1 ∧ readWaits c.val x s.part = none) ∨ (i = .verify c h bad lf ∧ dOpcode x.desc = 5) ∨
      (i = .copy c h bad lf ∧ dOpcode x.desc = 6)) (hheld : readHeld s.part p v (deviceLbas x.desc) = true) : Stays i s := by
  obtain ⟨hread, hverify, hcopy⟩ := readRun_held (c := c.val) (bad := bad) (lf := lf) hv hheld
  obtain ⟨rfl, hop, hready⟩ | ⟨rfl, hop⟩ | ⟨rfl, hop⟩ := hi
  · rw [Stays, read_runs hx hop hcheck hready, hread]
    rfl
  · exact Takes.stays hx (k := verifyRun c.val bad lf) (fun _ => rfl) hop hcheck hverify
  · exact Takes.stays hx (k := copyRun c.val bad lf) (fun _ => rfl) hop hcheck hcopy

theorem hostRead_faulty {bad : BadReads} {lf : LaneFaults} {i : Instr}
    (hi : (i = .read c h bad lf ∧ dOpcode x.desc = 1 ∧ readWaits c.val x s.part = none) ∨ (i = .verify c h bad lf ∧ dOpcode x.desc = 5) ∨
      (i = .copy c h bad lf ∧ dOpcode x.desc = 6)) (hheld : readHeld s.part p v (deviceLbas x.desc) = false)
    (hfaulty : s.part.toll.faulty = true) : Runs i s (fun t =>
      Completed c.val h 0x32 (infoOf v.id (dLba x.desc)) s.part t ∧ WithinCompletion s.part t) := by
  obtain ⟨hread, hverify, hcopy⟩ := readRun_faulty (c := c.val) (bad := bad) (lf := lf) hv hheld hfaulty
  obtain ⟨hend, hwithin⟩ := taken_completes hx 0x32 (infoOf v.id (dLba x.desc))
  obtain ⟨rfl, hop, hready⟩ | ⟨rfl, hop⟩ | ⟨rfl, hop⟩ := hi
  · refine ⟨_, ?_, hend.completed, hwithin⟩
    rw [read_runs hx hop hcheck hready, hread]
    rfl
  · exact Takes.runs hx (k := verifyRun c.val bad lf) (fun _ => rfl) hop hcheck (hverify ▸ ⟨hend.completed, hwithin⟩)
  · exact Takes.runs hx (k := copyRun c.val bad lf) (fun _ => rfl) hop hcheck (hcopy ▸ ⟨hend.completed, hwithin⟩)

variable (hheld : readHeld s.part p v (deviceLbas x.desc) = false) (hgood : s.part.toll.faulty = false)
  {bad : BadReads} {lf : LaneFaults} {l : List (Nat × BlockEnd)} {w : Part} {st : Nat} {info : BitVec 64}
  (hcmd : (countMedium bad w).cmd? c.val h = some x)
include hheld hgood hcmd

theorem read_delivers (hop : dOpcode x.desc = 1) (hready : readWaits c.val x s.part = none)
    (hl : readBlocks 5 (dCopySel x.desc) bad lf v.id (deviceLbas x.desc) (lf.mismatch.foldl (fun y u => checkMismatch u y) s.part) = (l, w))
    (hst : firstFailure v.id (dCopySel x.desc != 0) l = (st, info)) :
    ∃ t, exec (.read c h bad lf) s = .next { s with
        part := t, peerMem := Memory.writeAll s.peerMem (if dPeer x.desc then deliverCells x.desc l else []) } ∧
      Completed c.val h st info (countMedium bad w) t ∧
      (dPeer x.desc = false → deliverCells x.desc l ≠ [] → ((countMedium bad w).fn ((countMedium bad w).chainFn c.val)).bme = true →
        ∃ ns ro, .hostData ((countMedium bad w).chainFn c.val) c.val ns ro (deliverCells x.desc l ++ deliverPi x.desc v.hostPi l) ∈ t.out) ∧
      WithinRead s.part t := by
  have hu := blocksRead_reach (ReadReach.checkMismatches lf.mismatch s.part) hl
  obtain ⟨hend, hwithin⟩ := readDelivered_completes (v := v) (l := l) hx hu hcmd (st := st) (info := info)
  refine ⟨_, ?_, hend, fun hhost hcells hbme => ?_, hwithin⟩
  · rw [read_runs hx hop hcheck hready, readRun_eq hv hheld hgood hl, hst]
  · obtain ⟨ns, ro, hsent⟩ := readDelivered_sends (v := v) hhost hcells hbme
    exact ⟨ns, ro, (complete_out_prefix ..).subset hsent⟩

theorem verify_reads (hop : dOpcode x.desc = 5)
    (hl : readBlocks 5 (dCopySel x.desc) bad lf v.id (deviceLbas x.desc)
      (verifyStart bad x v (lf.mismatch.foldl (fun y u => checkMismatch u y) s.part)) = (l, w))
    (hst : firstFailure v.id (dCopySel x.desc != 0) l = (st, info)) :
    (∀ lba, dVerifyFull x.desc = true → st = 0 → firstDiverged (countMedium bad w) v.id (deviceLbas x.desc) = some lba →
      Runs (.verify c h bad lf) s (fun t => Completed c.val h 0x33 (infoOf v.id lba) (countMedium bad w) t ∧ WithinRead s.part t)) ∧
    (dVerifyFull x.desc = false ∨ st ≠ 0 ∨ firstDiverged (countMedium bad w) v.id (deviceLbas x.desc) = none →
      Runs (.verify c h bad lf) s (fun t => Completed c.val h st info (countMedium bad w) t ∧ WithinRead s.part t)) := by
  have hstart : ReadReach s.part (verifyStart bad x v (lf.mismatch.foldl (fun y u => checkMismatch u y) s.part)) := by
    refine (ReadReach.checkMismatches lf.mismatch s.part).trans ?_
    unfold verifyStart
    split
    · exact .verifyFull ..
    · exact .refl _
  have hu := blocksRead_reach hstart hl
  have hrun : ∀ {P : Part → Prop}, P (verifyEnd c.val x v l (countMedium bad w)) → Runs (.verify c h bad lf) s P := fun hP =>
    Takes.runs hx (k := verifyRun c.val bad lf) (fun _ => rfl) hop hcheck (by rwa [verifyRun_eq hv hheld hgood hl])
  exact ⟨fun lba hfull hst0 hlba => hrun (verifyEnd_diverged hx hu hcmd hst hfull hst0 hlba),
    fun hnone => hrun (verifyEnd_ends hx hu hcmd hst hnone)⟩

theorem copy_reads (hop : dOpcode x.desc = 6)
    (hl : readBlocks 5 0 bad lf v.id (deviceLbas x.desc) (lf.mismatch.foldl (fun y u => checkMismatch u y) s.part) = (l, w))
    (hst : firstFailure v.id false l = (st, info)) :
    (st ≠ 0 → Runs (.copy c h bad lf) s (fun t => Completed c.val h st info (countMedium bad w) t ∧ WithinCopy s.part t)) ∧
    (st = 0 → ∀ q u, (countMedium bad w).volume? (dDstVol x.desc) = some (q, u) →
      writeHeld (countMedium bad w) q none ((countMedium bad w).spots x.desc) = false →
      writeRefused (countMedium bad w) q ((countMedium bad w).spots x.desc) = false →
      writeFits (countMedium bad w) q u ((countMedium bad w).spots x.desc) = true → Runs (.copy c h bad lf) s (fun t =>
        (∃ y, t.cmd? c.val h = some y ∧ y.phase = (if q.writeState = 1 then .through else .landed)) ∧
        (∃ a, t.man.held = (countMedium bad w).man.held ++ a ∧
          ∀ b ∈ a, b.pool = q.id ∧ b.vol = u.id ∧ b.chain = c.val ∧ b.hseq = h ∧ b.tide = (countMedium bad w).sched.tideNow) ∧
        WithinCopy s.part t)) := by
  have hu := blocksRead_reach (ReadReach.checkMismatches lf.mismatch s.part) hl
  have hcopied : copyRun c.val bad lf x s.part = if st = 0 then copyInto c.val x l s.part (countMedium bad w)
      else complete c.val x.hseq st info (countMedium bad w) := by rw [copyRun_eq hv hheld hgood hl, hst]
  have hrun : ∀ {P : Part → Prop}, P (copyRun c.val bad lf x s.part) → Runs (.copy c h bad lf) s P := fun hP =>
    Takes.runs hx (k := copyRun c.val bad lf) (fun _ => rfl) hop hcheck hP
  refine ⟨fun hfail => hrun ?_, fun hst0 q u hq hwheld hrefused hfits => hrun ?_⟩
  · obtain ⟨hend, hreach⟩ := read_completes hx hu hcmd st info
    rw [hcopied, if_neg hfail]
    exact ⟨hend.completed, hreach.within.withinCopy⟩
  · obtain ⟨hphase, hblocks, hwithin⟩ := copyInto_lands hq hwheld hrefused hfits hcmd hop l s.part
    rw [hcopied, if_pos hst0]
    exact ⟨hphase, hblocks, hu.within.withinCopy.trans hwithin⟩

end

/-- Settles O45: the command at the head of its chain's order is taken by the row of its opcode alone (R268 to R279). -/
theorem hostCommandsAreTaken : Obligations.HostCommandsAreTaken := by
  intro c h bad lf s x hx
  refine ⟨unknownOpcode_stays hx, unknownOpcode_ends hx, fun i op hi => ?_, fun hcheck => ⟨fun i hi => ⟨?_, fun htx => ⟨?_, fun tx htag => ⟨?_, ?_⟩⟩⟩,
    fun p v hv => ⟨fun hop => ⟨?_, ?_, ?_⟩, ?_, fun i hi => ⟨hostRead_held hx hcheck hv hi, hostRead_faulty hx hcheck hv hi⟩, ?_⟩⟩⟩
  · have hchecks := hostCommand_checks hx hi
    exact ⟨hchecks.other, hchecks.waits, hchecks.stops⟩
  · exact fun htx => write_runs hx hcheck hi (takeWrite_waits hx htx)
  · exact fun hnone => write_runs hx hcheck hi (takeWrite_free hx htx hnone)
  · exact fun st hst => write_runs hx hcheck hi (takeWrite_refused hx htx htag hst)
  · exact fun hlive hok hplaced hpool hextents hblocks =>
      write_runs hx hcheck hi (takeWrite_joins hx htx htag hlive hok hplaced hpool hextents hblocks)
  · exact fun hserves => Takes.stays hx (k := flushRun c.val) (fun _ => rfl) hop hcheck (by rw [flushRun_eq hv, if_pos (by simp [hserves])])
  · exact fun hserves hpending => Takes.runs hx (k := flushRun c.val) (fun _ => rfl) hop hcheck (flushRun_waits hx hv hserves hpending)
  · exact fun hserves hnone => Takes.runs hx (k := flushRun c.val) (fun _ => rfl) hop hcheck (flushRun_ends hx hv hserves hnone)
  · intro u hop hu
    obtain ⟨hwaiting, honly⟩ := readWaits_waits hx hv hu
    exact ⟨u, read_waits hx hop hcheck hu, rfl, hwaiting, honly⟩
  · intro hheld hgood s1 s2 w l st info hs1 hs2 hl hcmd hst
    subst hs1 hs2
    have hone : dOpcode x.desc ≠ 6 → (decide (dOpcode x.desc ≠ 6) && decide (dCopySel x.desc ≠ 0)) = (dCopySel x.desc != 0) := fun hop => by
      simp [hop, bne, beq_eq_decide]
    have hall : dOpcode x.desc = 6 → (decide (dOpcode x.desc ≠ 6) && decide (dCopySel x.desc ≠ 0)) = false := fun hop => by simp [hop]
    have hcopy := fun hop : dOpcode x.desc = 6 => by
      rw [if_pos hop, if_neg (fun hfull => by simp [hop] at hfull)] at hl
      rw [hall hop] at hst
      exact copy_reads hx hcheck hv hheld hgood hcmd hop hl hst
    refine ⟨fun hop hready => ?_, fun hop => ?_, fun hop => (hcopy hop).1, fun hop => (hcopy hop).2⟩
    · have h6 : dOpcode x.desc ≠ 6 := by simp [hop]
      rw [if_neg h6, if_neg (fun hfull => by simp [hop] at hfull)] at hl
      rw [hone h6] at hst
      exact read_delivers hx hcheck hv hheld hgood hcmd hop hready hl hst
    · have h6 : dOpcode x.desc ≠ 6 := by simp [hop]
      simp only [hop, true_and] at hl
      rw [hone h6] at hst
      exact verify_reads hx hcheck hv hheld hgood hcmd hop hl hst

end Sys2Proof.Machine
end

section
/-! SUPPORT. The end of a warm reset (04: R97, Table 4.5 steps 4 and 5), with the statement of `WarmResetsEnd`. -/

namespace Sys2Proof.Machine

/-! ### The member side restarts (R117, R205, R208) -/

theorem StripeReach.of_members {s t : Part} (h : MembersOnly s t) : StripeReach s t :=
  ⟨.of_members h, .of_chains (by rw [h]) (by rw [h])⟩

theorem StripeReach.modPool (s : Part) (p : Nat) (g : PoolSt → PoolSt) : StripeReach s (s.modPool p g) := (Notes.modPool s p g).reach
theorem StripeReach.log (code inst : Nat) (d : Bytes) (s : Part) : StripeReach s (log code inst d s) := (Notes.log ..).reach
theorem StripeReach.emit (o : Output) (s : Part) : StripeReach s (emit o s) := ⟨rfl, .of_chains rfl rfl⟩
theorem StripeReach.modEntry (p stripe : Nat) (g : MEntry → MEntry) (s : Part) : StripeReach s (s.modEntry p stripe g) := .modMan ..

theorem StripeReach.promote (p stripe : Nat) (s : Part) : StripeReach s (promote p stripe s) :=
  ⟨.of_structures (promote_structures ..), .promote ..⟩

theorem StripeReach.rewriteEntry (p stripe : Nat) (s : Part) : StripeReach s (rewriteEntry p stripe s) :=
  ((StripeReach.modEntry ..).trans (.modPool ..)).trans (.promote ..)

/-- A replay of what the part kept writes entries again and reconciles nothing. -/
theorem StripeReach.replayKeptEntry (e : MEntry) (s : Part) : StripeReach s (replayEntry true e s) := by
  unfold replayEntry
  split
  · split
    · exact .refl s
    · rw [if_neg (by simp)]
      exact .rewriteEntry ..
  · rw [if_pos rfl]
    split
    · exact .refl s
    · exact .rewriteEntry ..
  · simp only [Bool.true_or, if_true]
    exact .refl s
  · exact .refl s

theorem StripeReach.loadTable (p : Nat) (s : Part) : StripeReach s (loadTable p s) := by
  unfold Machine.loadTable
  split
  · exact .refl s
  · exact (StripeReach.modPool ..).trans (.modPool ..)

theorem StripeReach.replayKeptPool (p : Nat) (s : Part) : StripeReach s (replayKeptPool s p) := by
  have hreplay := StripeReach.foldl (fun st e => .replayKeptEntry e st) ((Machine.loadTable p s).man.entries.filter (fun e => e.pool == p))
    (Machine.loadTable p s)
  exact (((StripeReach.loadTable p s).trans hreplay).trans (.modPool ..)).trans (.log ..)

theorem StripeReach.replayKept (s : Part) : StripeReach s (replayKept s) := by
  have hdrop : MembersOnly s (dropStripWrites s) := rfl
  exact (StripeReach.of_members hdrop).trans (.foldl (fun st p => .replayKeptPool p st) _ _)

theorem StripeReach.takeStep (k n : Nat) (s : Part) : StripeReach s (takeStep k n s) := by
  unfold Machine.takeStep
  extract_lets s1 s2 s3
  have hs3 : StripeReach s s3 := (((StripeReach.log ..).trans (.emit ..)).trans (.modMember ..)).trans (.suspect ..)
  split
  · split
    · exact hs3
    · extract_lets l s4
      have hs4 : StripeReach s s4 := hs3.trans (.modMember ..)
      split
      · exact hs4.trans (.failMember ..)
      · exact hs4
  · exact hs3

theorem StripeReach.timeOutCmd (k id : Nat) (s : Part) : StripeReach s (timeOutCmd k id s) := by
  unfold Machine.timeOutCmd
  split
  · exact .refl s
  · extract_lets s1 s2
    have hs2 : StripeReach s s2 := (StripeReach.modMember ..).trans (.suspect ..)
    split
    · exact hs2.trans (.takeStep ..)
    · exact hs2

theorem StripeReach.restartMember (k : Nat) (s : Part) : StripeReach s (restartMember k s) := by
  unfold Machine.restartMember
  extract_lets late
  have hlate := StripeReach.foldl (op := fun st (c : MCmd) => Machine.timeOutCmd k c.id st) (fun st c => .timeOutCmd k c.id st) late
  exact ((StripeReach.modMember ..).trans (.of_members (memberRestarts_only ..))).trans (hlate _)

/-! ### What the part protects follows (R65, R70, R81) -/

theorem Steady.modTx (s : Part) (c tag : Nat) (g : TxSt → TxSt) : Steady s (s.modTx c tag g) := by
  refine Steady.modChain ?_ s c
  exact fun _ => ⟨rfl, rfl, rfl, rfl⟩

theorem Steady.dropTx (s : Part) (c tag : Nat) : Steady s (s.dropTx c tag) := by
  refine Steady.modChain ?_ s c
  exact fun _ => ⟨rfl, rfl, rfl, rfl⟩

theorem Steady.completeAll (c status : Nat) (l : List Cmd) (s : Part) : Steady s (l.foldl (fun st x => Machine.complete c x.hseq status 0 st) s) :=
  Steady.foldl (op := fun st (x : Cmd) => Machine.complete c x.hseq status 0 st) (fun st x => .complete c x.hseq status 0 st) l s

theorem Steady.txLosesProtection (c tag : Nat) (s : Part) : Steady s (txLosesProtection c tag s) := by
  unfold Machine.txLosesProtection
  extract_lets s1
  have hs1 : Steady s s1 := (releaseTxBlocks_releases c tag s).1.steady.trans (.completeAll ..)
  split
  · exact (hs1.trans (.complete ..)).trans (.dropTx ..)
  · exact hs1.trans (.modTx ..)

theorem Steady.poolTxsLose (p : Nat) (s : Part) : Steady s (poolTxsLose p s) :=
  Steady.foldl (op := fun st (x : Nat × Nat) => Machine.txLosesProtection x.1 x.2 st) (fun st x => .txLosesProtection x.1 x.2 st) _ s

theorem Steady.setWriteState (p new row : Nat) (s : Part) : Steady s (setWriteState p new row s) := by
  unfold Machine.setWriteState
  split
  · exact .refl s
  · split
    · exact .refl s
    · extract_lets s1 s2
      have hs2 : Steady s s2 := (Steady.modPool ..).trans (Notes.log ..).steady
      split
      · exact hs2.trans (.poolTxsLose ..)
      · exact hs2

theorem Steady.refreshWriteState (s : Part) (p : PoolSt) : Steady s (refreshWriteState s p) := by
  unfold Machine.refreshWriteState
  split
  · extract_lets w st
    have hst : Steady s st := .setWriteState ..
    split
    · exact hst
    · exact hst.trans (.modMan ..)
  · exact .refl s

theorem Steady.refreshProtection (s : Part) : Steady s (refreshProtection s) :=
  (Steady.refreshAdmitState s).trans (.foldl (fun st p => .refreshWriteState st p) _ _)

/-! ### The chains halt (R97, R240) -/

/-- Chain `c` is halted with `code`. -/
def Part.Halted (s : Part) (c code : Nat) : Prop := (s.chain c).st = .halted ∧ (s.chain c).halt = code

theorem Part.Halted.steady {s t : Part} {c code : Nat} (h : s.Halted c code) (hst : Steady s t) : t.Halted c code :=
  ⟨(hst.chain c).st.trans h.1, (hst.chain c).halt.trans h.2⟩

theorem haltChain_halts (c code : Nat) (s : Part) : (haltChain c code s).Halted c code := by
  rw [Part.Halted, haltChain_chain]
  exact ⟨rfl, rfl⟩

theorem Part.Halted.haltChain {s : Part} {c code : Nat} (h : s.Halted c code) (d : Nat) : (haltChain d code s).Halted c code := by
  by_cases hd : c = d
  · exact hd ▸ haltChain_halts c code s
  · have hsame : (Machine.haltChain d code s).chain c = s.chain c := by simp [Machine.haltChain, Part.modChain_chain_ne, hd]
    rwa [Part.Halted, hsame]

theorem haltChains_halt (code : Nat) (l : List Nat) : ∀ s : Part, ∀ c, (c ∈ l ∨ s.Halted c code) →
    (l.foldl (fun st c => haltChain c code st) s).Halted c code := by
  induction l with
  | nil => exact fun s c h => h.resolve_left List.not_mem_nil
  | cons d l ih =>
    intro s c h
    refine ih (haltChain d code s) c ?_
    obtain hmem | hhalted := h
    · obtain rfl | hmem := List.mem_cons.mp hmem
      · exact .inr (haltChain_halts ..)
      · exact .inl hmem
    · exact .inr (hhalted.haltChain d)

theorem Steady.modLog (s : Part) (g : LogSt → LogSt) : Steady s (s.modLog g) := .of_chains rfl rfl

theorem restartMemberSide_halts {s : Part} {c : Nat} (hc : c ∈ s.activeChains) : (restartMemberSide s).Halted c 0x84 := by
  unfold restartMemberSide
  extract_lets s1 s2 s3 s4
  have hs1 : s1.Halted c 0x84 := haltChains_halt 0x84 _ s c (.inl hc)
  have hs2 : Steady s1 s2 := .of_chains rfl rfl
  have hs3 : Steady s2 s3 := ((Steady.modLog ..).trans (.modLog ..)).trans (Notes.log ..).steady
  have hs4 : StripeReach s3 s4 := .foldl (fun st k => .restartMember k st) _ s3
  exact hs1.steady (((hs2.trans hs3).trans hs4.steady).trans (StripeReach.replayKept s4).steady)

/-! ### READY rises (R71, R211, R256) -/

/-- `t` is `s` with what it protects decided anew. -/
structure Redecided (s t : Part) : Prop where
  sched : t.sched = { s.sched with admitState := t.sched.admitState }
  split : t.chainSplit = s.chainSplit
  tableGen : t.tableGen = s.tableGen
  steady : Steady s t

theorem Redecided.refl (s : Part) : Redecided s s := ⟨rfl, rfl, rfl, .refl s⟩

theorem Redecided.trans {s t u : Part} (h : Redecided s t) (h' : Redecided t u) : Redecided s u :=
  ⟨by rw [h'.sched, h.sched], h'.split.trans h.split, h'.tableGen.trans h.tableGen, h.steady.trans h'.steady⟩

theorem Reprotected.redecided {s t : Part} (h : Reprotected s t) (hst : Steady s t) : Redecided s t :=
  ⟨by rw [h], by rw [h], by rw [h], hst⟩

theorem Redecided.refreshProtection (s : Part) : Redecided s (refreshProtection s) :=
  (refreshProtection_reprotected s).redecided (.refreshProtection s)

theorem Redecided.refreshDump (s : Part) : Redecided s (refreshDump s) := by
  by_cases h : 3 ≤ s.dump.state
  · rw [Machine.refreshDump, if_pos h]
    exact .refl s
  · rw [refreshDump_eq h]
    have hdecided : Redecided s (dumpDecided s) := ⟨rfl, rfl, rfl, .of_chains rfl rfl⟩
    exact hdecided.trans (.refreshProtection _)

/-- The protection store's size taken over where nothing is held, and the peer area's. -/
def sizesTaken (s : Part) : Part :=
  let s1 := if sizePending s && s.heldBlocks == 0 then s.modSched (fun x => { x with protMib := s.objNum 0x2100 1 }) else s
  s1.modSched (fun x => { x with peerMib := s1.objNum 0x2120 2 })

/-- The chains split anew, where the split changed. -/
def splitTaken (s : Part) : Part :=
  if s.objNum 0x2120 1 = s.chainSplit then s else { s with chainSplit := s.objNum 0x2120 1, tableGen := (s.tableGen + 1) % 2 ^ 32 }

theorem endWarmReset_eq (s : Part) : endWarmReset s = setStatus (fun x => { x with resetting := false, ready := true })
    (refreshProtection (refreshDump (splitTaken (sizesTaken s)))) := rfl

theorem sizesTaken_takes (s : Part) : (sizesTaken s).sched.peerMib = s.objNum 0x2120 2 ∧
    (sizePending s = true → s.heldBlocks = 0 → (sizesTaken s).sched.protMib = s.objNum 0x2100 1) ∧
    sizesTaken s = { s with sched := (sizesTaken s).sched } := by
  unfold sizesTaken
  split
  · exact ⟨rfl, fun _ _ => rfl, rfl⟩
  · next hsize => exact ⟨rfl, fun hpending hnone => absurd (by simp [hpending, hnone]) hsize, rfl⟩

theorem splitTaken_takes (s : Part) : (splitTaken s).chainSplit = s.objNum 0x2120 1 ∧
    ((splitTaken s).chainSplit ≠ s.chainSplit → (splitTaken s).tableGen = (s.tableGen + 1) % 2 ^ 32) ∧
    splitTaken s = { s with chainSplit := (splitTaken s).chainSplit, tableGen := (splitTaken s).tableGen } := by
  unfold splitTaken
  split
  · next hsame => exact ⟨hsame.symm, fun hne => absurd rfl hne, rfl⟩
  · exact ⟨rfl, fun _ => rfl, rfl⟩

/-- The end of a warm reset: READY, and what waited for it. -/
structure ResetEnded (s t : Part) : Prop where
  resetting : t.sched.resetting = false
  ready : t.sched.ready = true
  peerMib : t.sched.peerMib = s.objNum 0x2120 2
  split : t.chainSplit = s.objNum 0x2120 1
  tableGen : t.chainSplit ≠ s.chainSplit → t.tableGen = (s.tableGen + 1) % 2 ^ 32
  protMib : sizePending s = true → s.heldBlocks = 0 → t.sched.protMib = s.objNum 0x2100 1
  steady : Steady s t

theorem Steady.setStatus (g : SchedSt → SchedSt) (s : Part) : Steady s (setStatus g s) := .of_chains (by simp) (by simp)

/-- What decides anew once the sizes `a` and the split `b` have been taken ends the reset with READY. -/
theorem Redecided.resetEnded {s a b t : Part} (ha : a = { s with sched := a.sched }) (hpeer : a.sched.peerMib = s.objNum 0x2120 2)
    (hprot : sizePending s = true → s.heldBlocks = 0 → a.sched.protMib = s.objNum 0x2100 1)
    (hb : b = { a with chainSplit := b.chainSplit, tableGen := b.tableGen }) (hsplit : b.chainSplit = a.objNum 0x2120 1)
    (hgen : b.chainSplit ≠ a.chainSplit → b.tableGen = (a.tableGen + 1) % 2 ^ 32) (h : Redecided b t) :
    ResetEnded s (setStatus (fun x => { x with resetting := false, ready := true }) t) := by
  have hsched : b.sched = a.sched := by rw [hb]
  have hobj : a.objNum 0x2120 1 = s.objNum 0x2120 1 := Part.objNum_congr (by rw [ha]) _ _
  have hsame : a.chainSplit = s.chainSplit ∧ a.tableGen = s.tableGen := by
    rw [ha]
    exact ⟨rfl, rfl⟩
  have hsteady : Steady s b := .of_chains (by rw [hb, ha]) (by rw [hb, ha])
  refine ⟨by simp, by simp, ?_, ?_, ?_, fun hpending hnone => ?_, (hsteady.trans h.steady).trans (.setStatus ..)⟩
  · simp only [setStatus_frame]
    rw [h.sched, hsched]
    exact hpeer
  · simp only [setStatus_frame]
    rw [h.split, hsplit, hobj]
  · simp only [setStatus_frame]
    rw [h.split, h.tableGen, ← hsame.1, ← hsame.2]
    exact hgen
  · simp only [setStatus_frame]
    rw [h.sched, hsched]
    exact hprot hpending hnone

theorem endWarmReset_ends (s : Part) : ResetEnded s (endWarmReset s) := by
  obtain ⟨hpeer, hprot, hsizes⟩ := sizesTaken_takes s
  obtain ⟨hsplit, hgen, honly⟩ := splitTaken_takes (sizesTaken s)
  rw [endWarmReset_eq]
  exact ((Redecided.refreshDump _).trans (.refreshProtection _)).resetEnded hsizes hpeer hprot honly hsplit hgen

/-! ### The statement -/

theorem exec_warmResetComplete (s : State) : exec .warmResetComplete s =
    .next (if s.part.sched.resetting && !sealsOutstanding s.part then s.booted warmResetCompleteEff else s) := rfl

theorem warmResetCompleteEff_eq {s : Part} (hreset : s.sched.resetting = true) (hseals : sealsOutstanding s = false) {r : Part}
    (hr : r = if s.sched.memberStop then restartMemberSide s else s) :
    warmResetCompleteEff s = if destageAwaited r then r else endWarmReset r := by
  subst hr
  unfold warmResetCompleteEff
  rw [if_neg (by simp [hreset, hseals])]

/-- Settles O23: a warm reset ends once nothing admitted is open, with READY, the sizes that waited and the peer area empty. -/
theorem warmResetsEnd : Obligations.WarmResetsEnd := by
  intro s
  refine ⟨fun h => ?_, fun hreset hseals => ⟨s.booted warmResetCompleteEff, ?_, rfl, rfl, fun r hr => ?_, fun hstop c hc => ?_⟩⟩
  · rw [Stays, exec_warmResetComplete, if_neg]
    obtain hnone | hopen := h
    · simp [hnone]
    · simp [hopen]
  · rw [exec_warmResetComplete, if_pos (by simp [hreset, hseals])]
  · have hend := endWarmReset_ends r
    have heq : (s.booted warmResetCompleteEff).part = if destageAwaited r then r else endWarmReset r := warmResetCompleteEff_eq hreset hseals hr
    refine ⟨fun hawaited => ?_, fun hdone => ?_⟩
    · rw [heq, if_pos hawaited]
    · rw [heq, if_neg (by simp [hdone])]
      exact ⟨hend.resetting, hend.ready, hend.peerMib, hend.split, hend.tableGen, hend.protMib⟩
  · have heq := warmResetCompleteEff_eq hreset hseals (r := restartMemberSide s.part) (if_pos hstop).symm
    have hhalted := restartMemberSide_halts hc
    show (warmResetCompleteEff s.part).Halted c 0x84
    rw [heq]
    split
    · exact hhalted
    · exact hhalted.steady (endWarmReset_ends _).steady

end Sys2Proof.Machine
end

section
/-! SUPPORT. Why a warm reset needs the numbers of its posted descriptors to be new (04: R97, Table 4.5 step 3; 11: R283): the
counterexample to `WarmResetsStart`. -/

namespace Sys2Proof.Machine

/-- A FLUSH admitted before, number 11: a warm reset lets it end by itself. -/
def openFlush : Cmd :=
  { hseq := 11, desc := 0x30000, phase := .admitted, gen := 0, tide := 0, through := false, covers := [], vector := 0, noSnoop := false }

/-- A READ that is not admitted, number 10: a warm reset aborts it. -/
def newRead : Cmd := { openFlush with hseq := 10, desc := 0x10000, phase := .accepted }

/-- Two descriptors of READ that the host has posted, numbered 10 and 11. -/
def postedReads : Rings := [(0, [0xA00010001, 0xB00010001])]

/-- A part at work whose chain 0 has fetched up to number 9, with the commands 11 and 10 listed all the same; its doorbell
stands at 11. -/
def behindItsCommands : State :=
  State.reset.onPart (fun s => { s with
    chains := [{ ChainSt.reset 0 with st := .running, fetchSeq := 9, dbSeq := 11, cmds := [openFlush, newRead] }]
    fn0 := { FnSt.reset 0 with bme := true }
    tow := { s.tow with power := 0 }
    dump := { s.dump with state := 0 } })

theorem behindItsCommands_resets : resetIgnored behindItsCommands.part = false ∧ behindItsCommands.part.fw.activating = false ∧
    0 ∈ behindItsCommands.part.activeChains ∧ ((behindItsCommands.part.chain 0).cmds.map (·.hseq)).Nodup ∧
    behindItsCommands.part.cmd? 0 newRead.hseq = some newRead ∧ abortedByReset newRead = true := by
  decide +kernel

/-- The READ 10 ends; the posted 10 and 11 are read; the end of 11 ends the FLUSH with it, so the READ leaves the list and the
posted 10, which was not ended for the READ before it, is the command of its number. -/
theorem behindItsCommands_leaves :
    ((orderWarmReset postedReads behindItsCommands.part).cmd? 0 10).map (·.phase) = some .accepted := by
  decide +kernel

theorem warmResetN_next {rings : Rings} {s : State} {t : Part} (h : exec (.warmResetN rings) s = .next { s with part := t }) :
    t = orderWarmReset rings s.part := by
  have hstep : exec (.warmResetN rings) s = .next (s.onPart (orderWarmReset rings)) := rfl
  rw [hstep] at h
  injection h with h
  exact (congrArg State.part h).symm

/-- Refutes O22: where the posted descriptors bear the numbers of commands that are listed still, a command that the reset aborts
is followed under its number by one that is not done. -/
theorem not_warmResetsStart : ¬ Obligations.WarmResetsStart := by
  unfold Obligations.WarmResetsStart
  intro h
  obtain ⟨hgoes, hidle, hactive, hnodup, hfound, haborted⟩ := behindItsCommands_resets
  obtain ⟨-, -, hstarts, -⟩ := h { transport := .can0, node := 0, session := 1 } 0 postedReads false behindItsCommands
  obtain ⟨t, ht, -, -, -, -, hdone, -⟩ := hstarts hgoes hidle
  have heq := warmResetN_next ht
  obtain ⟨y, hy, hphase⟩ := Option.map_eq_some_iff.mp behindItsCommands_leaves
  rw [← heq] at hy
  exact absurd ((hdone 0 newRead hactive hnodup hfound haborted y hy).symm.trans hphase) (by decide)

end Sys2Proof.Machine
end

section
/-! SUPPORT. The seal ring, the marks and the open tide (04: R76 to R80; 05: R105, R106), and what the close of a tide reaches. -/

namespace Sys2Proof.Machine

/-! ### The seal ring, the marks and the open tide stand -/

/-- The open tide, the seal ring and the confirmation marks of `s` are those of `t`. -/
structure SealsStand (s t : Part) : Prop where
  tideNow : t.sched.tideNow = s.sched.tideNow
  seals : t.man.seals = s.man.seals
  marks : t.man.marks = s.man.marks

theorem SealsStand.refl (s : Part) : SealsStand s s := ⟨rfl, rfl, rfl⟩

theorem SealsStand.trans {s t u : Part} (h : SealsStand s t) (h' : SealsStand t u) : SealsStand s u :=
  ⟨h'.tideNow.trans h.tideNow, h'.seals.trans h.seals, h'.marks.trans h.marks⟩

theorem SealsStand.foldl {α : Type} {op : Part → α → Part} (h : ∀ s x, SealsStand s (op s x)) (l : List α) :
    ∀ s, SealsStand s (l.foldl op s) := by
  induction l with
  | nil => exact SealsStand.refl
  | cons x l ih => exact fun s => (h s x).trans (ih _)

theorem SealsStand.of_man {s t : Part} (hsched : t.sched = s.sched) (hman : t.man = s.man) : SealsStand s t :=
  ⟨congrArg SchedSt.tideNow hsched, congrArg ManifestSt.seals hman, congrArg ManifestSt.marks hman⟩

theorem SealsStand.mark {s t : Part} (h : SealsStand s t) (p : Nat) : t.mark p = s.mark p := by
  rw [Part.mark, Part.mark, h.marks]

theorem SealsStand.modMan (s : Part) {g : ManifestSt → ManifestSt} (hseals : (g s.man).seals = s.man.seals)
    (hmarks : (g s.man).marks = s.man.marks) : SealsStand s (s.modMan g) := ⟨rfl, hseals, hmarks⟩

theorem SealsStand.modPool (s : Part) (p : Nat) (g : PoolSt → PoolSt) : SealsStand s (s.modPool p g) := ⟨rfl, rfl, rfl⟩
theorem SealsStand.modMember (s : Part) (k : Nat) (g : MemberSt → MemberSt) : SealsStand s (s.modMember k g) := ⟨rfl, rfl, rfl⟩
theorem SealsStand.modEntry (p stripe : Nat) (g : MEntry → MEntry) (s : Part) : SealsStand s (s.modEntry p stripe g) := ⟨rfl, rfl, rfl⟩
theorem SealsStand.dropEntry (p stripe : Nat) (s : Part) : SealsStand s (dropEntry p stripe s) := ⟨rfl, rfl, rfl⟩
theorem SealsStand.enqueueCmd (k : Nat) (op : MOp) (cls : Nat) (nonQueued fua : Bool) (mba count : Nat) (s : Part) :
    SealsStand s (enqueueCmd k op cls nonQueued fua mba count s) := ⟨rfl, rfl, rfl⟩

theorem Notes.seals {s t : Part} (h : Notes s t) : SealsStand s t := .of_man (by rw [h]) (by rw [h])

theorem SealsStand.complete (c : Nat) (h : BitVec 32) (status : Nat) (info : BitVec 64) (s : Part) :
    SealsStand s (complete c h status info s) := .of_man (by simp) (by simp)

theorem SealsStand.tellTwin (p : Nat) (n : TwinNews) (s : Part) : SealsStand s (tellTwin p n s) := by
  unfold Machine.tellTwin
  split
  · split
    · exact .modMan s rfl rfl
    · exact .refl s
  · exact .refl s

theorem SealsStand.addEntry (p stripe : Nat) (st : EntryState) (s : Part) : SealsStand s (addEntry p stripe st s) := by
  unfold Machine.addEntry
  split
  · exact .refl s
  · exact .modMan s rfl rfl

theorem SealsStand.settleEntries (l : List Held) (s : Part) : SealsStand s (settleEntries l s) := by
  refine .foldl (fun st x => ?_) _ s
  unfold settleEntry
  split
  · exact .refl st
  · simp only []
    split
    · exact .dropEntry ..
    · exact .modEntry ..

theorem SealsStand.refreshAdmitState (s : Part) : SealsStand s (refreshAdmitState s) :=
  ⟨(refreshAdmitState_decides s).tideNow, congrArg ManifestSt.seals (refreshAdmitState_man s),
    congrArg ManifestSt.marks (refreshAdmitState_man s)⟩

/-! ### Work on stripes (R80, R85 to R88) -/

theorem SealsStand.markStale (ps : PoolSt) (g : Geo) (stripe i : Nat) (written : List (Nat × Nat)) (s : Part) :
    SealsStand s (markStale ps g stripe i written s) := by
  unfold Machine.markStale
  simp only []
  split
  · exact .refl s
  · exact .modPool ..

theorem SealsStand.failThrough (ps : PoolSt) (stripe : Nat) (s : Part) : SealsStand s (failThrough ps stripe s) := by
  unfold Machine.failThrough
  extract_lets mine cmds s1 s2
  have hs1 : SealsStand s s1 := .foldl (fun st ch => by
    simp only []
    split
    · exact .refl st
    · exact .complete ..) _ s
  have hs2 : SealsStand s s2 := (hs1.trans (.modMan s1 rfl rfl)).trans (.settleEntries ..)
  split
  · split
    · exact hs2.trans (.dropEntry ..)
    · exact hs2.trans (.modEntry ..)
  · exact hs2

theorem SealsStand.ackThrough (done : List (Nat × BitVec 32)) (s : Part) : SealsStand s (ackThrough done s) := by
  refine .foldl (fun st ch => ?_) _ s
  split
  · exact .refl st
  · split
    · split
      · exact (Notes.coverAll ..).seals.trans (.complete ..)
      · exact .refl st
    · exact .refl st

theorem SealsStand.retire (p stripe : Nat) (s : Part) : SealsStand s (retire p stripe s) := by
  unfold Machine.retire
  split
  · next ps e hps he =>
    extract_lets g s1 isGone gone s2 s3 s4 s5 rest s6 s7
    have hs1 : SealsStand s s1 := .foldl (fun st i => .markStale ps g stripe i _ st) _ s
    have hs4 : SealsStand s s4 := hs1.trans ⟨rfl, rfl, rfl⟩
    have hs5 : SealsStand s s5 := hs4.trans (.tellTwin ..)
    have hs6 : SealsStand s s6 := by
      simp only [s6]
      split
      · exact hs5.trans (.dropEntry ..)
      · exact (hs5.trans (.modEntry ..)).trans (.modMan _ rfl rfl)
    have hs7 : SealsStand s s7 := (hs6.trans (.modMan _ rfl rfl)).trans (.refreshAdmitState _)
    split
    · split
      · exact hs1.trans (.failThrough ..)
      · exact (hs1.trans (.modEntry ..)).trans (.modMan _ rfl rfl)
    · exact (hs7.trans (Notes.resolutionsDone ..).seals).trans (.ackThrough ..)
  · exact .refl s

theorem SealsStand.retireIfDone (p stripe : Nat) (s : Part) : SealsStand s (retireIfDone p stripe s) := by
  unfold Machine.retireIfDone
  split
  · split
    · exact .retire ..
    · exact .refl s
  · exact .refl s

theorem SealsStand.promote (p stripe : Nat) (s : Part) : SealsStand s (promote p stripe s) := by
  have hissued : ∀ st, SealsStand st (issueStripWrites p stripe st) := fun st => by
    unfold issueStripWrites
    split
    · exact .foldl (fun _ _ => .enqueueCmd ..) _ st
    · exact .refl st
  unfold Machine.promote
  split
  · split
    · exact .refl s
    · refine SealsStand.trans (SealsStand.trans ?_ (hissued _)) (.retireIfDone ..)
      split
      · exact (SealsStand.modEntry ..).trans (.modMan _ rfl rfl)
      · exact .modEntry ..
  · exact .refl s

theorem SealsStand.promoteAll (p : Nat) (s : Part) : SealsStand s (promoteAll p s) := .foldl (fun st x => .promote p x st) _ s

theorem SealsStand.stageRepair (cls p stripe : Nat) (blocks : List (Nat × Nat × Block)) (s : Part) :
    SealsStand s (stageRepair cls p stripe blocks s) := by
  have hstaged : ∀ st, SealsStand st (stageWrites p stripe blocks st) := fun st =>
    (((SealsStand.modEntry ..).trans (.tellTwin ..)).trans (.modPool ..)).trans (.promote ..)
  unfold Machine.stageRepair
  split
  · exact .refl s
  · split
    · exact (Notes.examineLater ..).seals
    · exact ((SealsStand.addEntry ..).trans (.modEntry ..)).trans (hstaged _)

theorem SealsStand.reconcileOne (p : Nat) (bad : BadReads) (stripe : Nat) (s : Part) : SealsStand s (reconcileOne p bad stripe s) := by
  have hexam : ∀ (ps : PoolSt) (g : Geo) (l : List Nat) (acc : Exam), SealsStand acc.2 (l.foldl (fun (acc : Exam) bo =>
      let x := (if g.mirror then reconcileCopies else reconcileParity) ps g bad stripe bo acc.2
      (acc.1 ++ x.1, x.2)) acc).2 := by
    intro ps g l
    induction l with
    | nil => exact fun acc => .refl acc.2
    | cons bo l ih =>
      refine fun acc => SealsStand.trans ?_ (ih _)
      dsimp only
      split
      · unfold reconcileCopies
        extract_lets x
        split
        · exact (Notes.enterLost ..).seals
        · split
          · exact (Notes.blockDiverges ..).seals
          · exact .refl acc.2
      · exact (Notes.foldl (fun t (e : Nat × LostEntry) => .enterLost ps.id e.2 t) _ acc.2).seals
  have hstripe : SealsStand s (reconcileStripe p bad stripe s).2 := by
    unfold reconcileStripe
    split
    · exact .refl s
    · next ps _ =>
      extract_lets g r
      have hr : SealsStand s r.2 := hexam ps g _ ([], s)
      split
      · unfold stallStripe
        exact ((SealsStand.addEntry ..).trans (.modEntry ..)).trans (Notes.log ..).seals
      · refine hr.trans ?_
        unfold writeStripe
        exact (SealsStand.modMan _ rfl rfl).trans (.foldl (fun st i => .foldl (fun st2 pl => .modMember ..) _ st) _ _)
  have hends : ∀ st, SealsStand st (reconcileEnds p st) := fun st => by
    unfold reconcileEnds
    split
    · exact .refl st
    · split
      · exact (Notes.log ..).seals
      · exact .refl st
  unfold Machine.reconcileOne
  split
  · exact .refl s
  · exact (hstripe.trans (.modPool ..)).trans (hends _)

end Sys2Proof.Machine
end

section
/-! SUPPORT. What the close of a tide reaches (04: R77; 12: R299): the changes that take effect at it, and the work of each pool. -/

namespace Sys2Proof.Machine

/-- `t` differs from `s` at most in what the close of a tide reaches. -/
def WithinBoundary (s t : Part) : Prop :=
  t = { s with sched := t.sched, man := t.man, chains := t.chains, fn0 := t.fn0, fn1 := t.fn1, pools := t.pools, vols := t.vols
               members := t.members, fabric := t.fabric, toll := t.toll, pair := t.pair, tow := t.tow, dict := t.dict, log := t.log
               out := t.out }

theorem WithinBoundary.trans {s t u : Part} (h : WithinBoundary s t) (h' : WithinBoundary t u) : WithinBoundary s u :=
  calc u = _ := h'
    _ = _ := by rw [h]

theorem WithinRead.withinBoundary {s t : Part} (h : WithinRead s t) : WithinBoundary s t :=
  calc t = _ := h
    _ = _ := by rw [h]

/-- `t` is `s` after work at a boundary: its reach, and what stands of the tides. -/
structure AtBoundary (s t : Part) : Prop where
  within : WithinBoundary s t
  stands : SealsStand s t

theorem AtBoundary.refl (s : Part) : AtBoundary s s := ⟨rfl, .refl s⟩

theorem AtBoundary.trans {s t u : Part} (h : AtBoundary s t) (h' : AtBoundary t u) : AtBoundary s u :=
  ⟨h.within.trans h'.within, h.stands.trans h'.stands⟩

theorem AtBoundary.foldl {α : Type} {op : Part → α → Part} (h : ∀ s x, AtBoundary s (op s x)) (l : List α) :
    ∀ s, AtBoundary s (l.foldl op s) := by
  induction l with
  | nil => exact AtBoundary.refl
  | cons x l ih => exact fun s => (h s x).trans (ih _)

theorem Notes.boundary {s t : Part} (h : Notes s t) : AtBoundary s t := ⟨h.reads.within.withinBoundary, h.seals⟩

theorem AtBoundary.modPool (s : Part) (p : Nat) (g : PoolSt → PoolSt) : AtBoundary s (s.modPool p g) := (Notes.modPool s p g).boundary
theorem AtBoundary.modVol (s : Part) (v : Nat) (g : VolSt → VolSt) : AtBoundary s (s.modVol v g) := ⟨rfl, rfl, rfl, rfl⟩
theorem AtBoundary.modMember (s : Part) (k : Nat) (g : MemberSt → MemberSt) : AtBoundary s (s.modMember k g) := ⟨rfl, rfl, rfl, rfl⟩
theorem AtBoundary.modToll (s : Part) (g : TollSt → TollSt) : AtBoundary s (s.modToll g) := ⟨rfl, rfl, rfl, rfl⟩
theorem AtBoundary.modFab (s : Part) (g : FabricSt → FabricSt) : AtBoundary s (s.modFab g) := ⟨rfl, rfl, rfl, rfl⟩
theorem AtBoundary.modPair (s : Part) (g : PairSt → PairSt) : AtBoundary s (s.modPair g) := ⟨rfl, rfl, rfl, rfl⟩
theorem AtBoundary.emit (o : Output) (s : Part) : AtBoundary s (emit o s) := ⟨rfl, rfl, rfl, rfl⟩

theorem AtBoundary.modMan (s : Part) {g : ManifestSt → ManifestSt} (hseals : (g s.man).seals = s.man.seals)
    (hmarks : (g s.man).marks = s.man.marks) : AtBoundary s (s.modMan g) := ⟨rfl, .modMan s hseals hmarks⟩

theorem AtBoundary.enqueueCmd (k : Nat) (op : MOp) (cls : Nat) (nonQueued fua : Bool) (mba count : Nat) (s : Part) :
    AtBoundary s (enqueueCmd k op cls nonQueued fua mba count s) := .modMember ..

theorem AtBoundary.log (code inst : Nat) (d : Bytes) (s : Part) : AtBoundary s (log code inst d s) := (Notes.log ..).boundary

theorem AtBoundary.modReb (p : Nat) (g : PoolReb → PoolReb) (s : Part) : AtBoundary s (modReb p g s) := .modPool ..

theorem AtBoundary.reconcileOne (p : Nat) (bad : BadReads) (stripe : Nat) (s : Part) : AtBoundary s (reconcileOne p bad stripe s) :=
  ⟨(ReadReach.reconcileOne ..).within.withinBoundary, .reconcileOne ..⟩

theorem AtBoundary.stageRepair (cls p stripe : Nat) (blocks : List (Nat × Nat × Block)) (s : Part) :
    AtBoundary s (stageRepair cls p stripe blocks s) := ⟨(ReadReach.stageRepair ..).within.withinBoundary, .stageRepair ..⟩

/-! ### Key slots and volumes (R218, R219) -/

theorem AtBoundary.finishSlotLoad (v : Nat) (s : Part) : AtBoundary s (finishSlotLoad v s) := by
  unfold Machine.finishSlotLoad
  split
  · exact .modToll ..
  · split
    · exact .modToll ..
    · split
      · split
        · exact .modToll ..
        · exact (AtBoundary.modToll ..).trans (.log ..)
      · exact .modToll ..

theorem AtBoundary.beginSlotLoad (v : Nat) (s : Part) : AtBoundary s (beginSlotLoad v s) := by
  unfold Machine.beginSlotLoad
  split
  · exact .refl s
  · split
    · exact .modToll ..
    · exact .refl s

theorem AtBoundary.loadRekey (p : Nat) (c : Charter) (s : Part) : AtBoundary s (loadRekey p c s) := by
  unfold Machine.loadRekey
  split
  · exact .modToll ..
  · split
    · exact .modToll ..
    · split
      · exact .modToll ..
      · exact .modToll ..

theorem AtBoundary.volumesChange (old new : Charter) (s : Part) : AtBoundary s (volumesChange old new s) := by
  unfold Machine.volumesChange
  extract_lets gone s1 fresh s2 changed
  have hs1 : AtBoundary s s1 := .foldl (fun st v => ((AtBoundary.modToll ..).trans (.modPool ..)).trans (.modVol ..)) gone s
  have hs2 : AtBoundary s1 s2 := .foldl (fun st v => (AtBoundary.modVol ..).trans (.beginSlotLoad ..)) fresh s1
  refine (hs1.trans hs2).trans (.foldl (fun st v => ?_) changed s2)
  split
  · exact .finishSlotLoad ..
  · exact .refl st

/-! ### Members: zeroing, settings, pairs (R26, R181, R296) -/

theorem AtBoundary.startInit (p : Nat) (c : Charter) (s : Part) : AtBoundary s (startInit p c s) := by
  unfold Machine.startInit
  refine (AtBoundary.modPool s p _).trans (.foldl (fun st k => ?_) _ _)
  unfold startZero zeroCmd
  split
  · exact .enqueueCmd ..
  · exact .enqueueCmd ..

theorem AtBoundary.writeCache (k value : Nat) (s : Part) : AtBoundary s (writeCache k value s) := by
  unfold Machine.writeCache
  split
  · exact .refl s
  · simp only []
    split
    · exact (AtBoundary.enqueueCmd ..).trans (.enqueueCmd ..)
    · exact .enqueueCmd ..

theorem AtBoundary.capLink (k value : Nat) (s : Part) : AtBoundary s (capLink k value s) := by
  unfold Machine.capLink
  split
  · exact .refl s
  · simp only []
    split
    · exact .modMember ..
    · exact (AtBoundary.modMember ..).trans (.modFab ..)

theorem AtBoundary.beginSetting (kind value k : Nat) (s : Part) : AtBoundary s (beginSetting kind value k s) := by
  unfold Machine.beginSetting applySetting
  refine (AtBoundary.modMember s k fun m => m.markSetting kind 1).trans ?_
  split
  · exact .refl _
  · simp only []
    split
    · exact .writeCache ..
    · exact .capLink ..
    · exact .modMember ..
    · split
      · exact .refl _
      · exact .enqueueCmd ..
    · exact .refl _

theorem AtBoundary.receiveCommitted (k : Nat) (s : Part) : AtBoundary s (receiveCommitted k s) := by
  refine .foldl (fun st kind => ?_) _ s
  split
  · split
    · exact .refl st
    · exact .beginSetting ..
  · exact .refl st

theorem AtBoundary.beginSync (p : Nat) (s : Part) : AtBoundary s (beginSync p s) := by
  unfold Machine.beginSync
  extract_lets s1 begun ready seq news s2 s3
  have hs1 : AtBoundary s s1 := .modPool ..
  have hs3 : AtBoundary s1 s3 := (AtBoundary.modMan s1 rfl rfl).trans (.foldl (fun _ _ => .emit ..) _ s2)
  split
  · exact (hs1.trans hs3).trans (.foldl (fun _ _ => .emit ..) _ s3)
  · exact hs1

theorem AtBoundary.pairingChanges (old : Option Charter) (new : Charter) (s : Part) : AtBoundary s (pairingChanges old new s) := by
  have hregistered : ∀ st, AtBoundary st (registerOn new.poolId st) := fun st => by
    unfold registerOn
    split
    · exact .refl st
    · exact .foldl (fun _ _ => .modMember ..) _ st
  unfold Machine.pairingChanges
  simp only []
  split
  · exact ((AtBoundary.beginSync ..).trans (.modPool ..)).trans (hregistered _)
  · split
    · exact .modPool ..
    · exact .refl s

/-! ### Crossings and rebuilds (R161, R166, R173) -/

theorem AtBoundary.setCrossState (p new : Nat) (s : Part) : AtBoundary s (setCrossState p new s) := by
  unfold Machine.setCrossState
  split
  · exact .refl s
  · split
    · exact .refl s
    · exact (AtBoundary.modPool ..).trans (.log ..)

theorem AtBoundary.releaseMember (k : Nat) (s : Part) : AtBoundary s (releaseMember k s) :=
  ((((AtBoundary.enqueueCmd ..).trans (.enqueueCmd ..)).trans (.enqueueCmd ..)).trans (.enqueueCmd ..)).trans (.modMember ..)

theorem AtBoundary.crossingChanges (old new : Charter) (s : Part) : AtBoundary s (crossingChanges old new s) := by
  unfold Machine.crossingChanges
  extract_lets p
  split
  · exact .refl s
  · exact (((AtBoundary.foldl (fun _ _ => .modMember ..) _ s).trans (.modPool ..)).trans (.loadRekey ..)).trans (.setCrossState ..)
  · next o x _ _ =>
    extract_lets back s1
    have hs1 : AtBoundary s s1 := by
      simp only [s1]
      split
      · exact .refl s
      · exact (AtBoundary.modPool ..).trans (.loadRekey ..)
    split
    · exact (hs1.trans (.modPool ..)).trans (.setCrossState ..)
    · exact hs1
  · exact (((AtBoundary.foldl (fun st k => .releaseMember k st) _ s).trans (.setCrossState ..)).trans (.modPool ..)).trans (.modToll ..)

theorem AtBoundary.stallsFollow (p : Nat) (progress : Bool) (s : Part) : AtBoundary s (stallsFollow p progress s) := .modMan s rfl rfl

theorem AtBoundary.renumber (p n : Nat) (s : Part) : AtBoundary s (renumber p n s) := ⟨rfl, rfl, rfl, rfl⟩

theorem AtBoundary.loseHome (p o : Nat) (s : Part) : AtBoundary s (loseHome p o s) := (Notes.loseHome ..).boundary

theorem AtBoundary.startRebuild (p : Nat) (c : Charter) (o : Nat) (s : Part) : AtBoundary s (startRebuild p c o s) :=
  (AtBoundary.modReb ..).trans (.log ..)

theorem AtBoundary.noteSpare (p : Nat) (s : Part) : AtBoundary s (noteSpare p s) := by
  unfold Machine.noteSpare
  split
  · exact .refl s
  · simp only []
    split
    · exact .refl s
    · exact (AtBoundary.modReb ..).trans (.log ..)

theorem AtBoundary.reassignLanes (p : Nat) (old new : Charter) (s : Part) : AtBoundary s (reassignLanes p old new s) := by
  unfold Machine.reassignLanes
  split
  · exact .refl s
  · refine .foldl (fun st es => ?_) _ s
    extract_lets go gn o oOld iOld iNew place
    split
    · exact .modReb ..
    · split
      · split
        · exact .refl st
        · split
          · exact .foldl (fun _ _ => .modMember ..) _ st
          · exact .modReb ..
      · exact .modReb ..

/-! ### A charter generation takes effect (R45, R166) -/

theorem AtBoundary.takeEffect (p : Nat) (s : Part) : AtBoundary s (takeEffect p s) := by
  unfold Machine.takeEffect
  split
  · exact .refl s
  · split
    · exact .refl s
    · next ps _ _ new _ =>
      extract_lets old creation s1 s2 s3 s4 s5 shapeChanged s6 ch moved rebuilt s7 s8 repl s9 s10 s11
      have hs1 : AtBoundary s s1 := .modPool ..
      have hs2 : AtBoundary s1 s2 := by
        simp only [s2]
        split
        · exact .startInit ..
        · exact .volumesChange ..
      have hs3 : AtBoundary s2 s3 := (AtBoundary.modMan s2 rfl rfl).trans (.pairingChanges ..)
      have hs4 : AtBoundary s3 s4 := by
        simp only [s4]
        split
        · exact .stallsFollow ..
        · exact .refl s3
      have hs5 : AtBoundary s4 s5 := by
        simp only [s5]
        split
        · exact .refl s4
        · exact .crossingChanges ..
      have hs6 : AtBoundary s5 s6 := by
        simp only [s6]
        split
        · exact (AtBoundary.renumber ..).trans (.modPool ..)
        · exact .refl s5
      have hrebuilt : AtBoundary s6 rebuilt := by
        refine (AtBoundary.reassignLanes p old new s6).trans (.foldl (fun st o => ?_) ch moved)
        split
        · exact (AtBoundary.loseHome ..).trans (.startRebuild ..)
        · exact .modReb ..
      have hs7 : AtBoundary s6 s7 := by
        simp only [s7]
        split
        · exact .refl s6
        · exact (hrebuilt.trans (.modPool ..)).trans (.noteSpare ..)
      have hs8 : AtBoundary s7 s8 := .foldl (fun st (m : CMember) => .loseHome p m.ordinal st) _ s7
      have hs9 : AtBoundary s8 s9 := .foldl (fun st _ => .modReb p _ st) repl s8
      have hs10 : AtBoundary s9 s10 := .foldl (fun _ _ => .modMember ..) _ s9
      have hs11 : AtBoundary s10 s11 := by
        refine .foldl (fun st m => ?_) new.members s10
        split
        · split
          · split
            · exact .refl st
            · exact .modMember ..
          · exact .refl st
        · exact .refl st
      have hto7 : AtBoundary s s7 := (((((hs1.trans hs2).trans hs3).trans hs4).trans hs5).trans hs6).trans hs7
      exact ((((hto7.trans hs8).trans hs9).trans hs10).trans hs11).trans (.foldl (fun st k => .receiveCommitted k st) _ s11)

/-! ### Changes agreed with the twin (R299) -/

theorem AtBoundary.applyRecovery (p v : Nat) (s : Part) : AtBoundary s (applyRecovery p v s) := by
  unfold Machine.applyRecovery
  split
  · exact .refl s
  · extract_lets s1 s2
    have hs1 : AtBoundary s s1 := .modPool ..
    have hs2 : AtBoundary s1 s2 := (AtBoundary.modPool ..).trans (.stallsFollow ..)
    split
    · exact hs1
    · split
      · exact (hs1.trans hs2).trans (.modPool ..)
      · exact hs1.trans hs2

theorem AtBoundary.applyPairChange (ch : PairChange) (s : Part) : AtBoundary s (applyPairChange ch s) := by
  unfold Machine.applyPairChange
  split
  · exact ⟨rfl, rfl, rfl, rfl⟩
  · exact .applyRecovery ..
  · split
    · split
      · exact .takeEffect ..
      · exact .refl s
    · exact .refl s
  · exact .modPool ..

theorem AtBoundary.proposeNext (s : Part) : AtBoundary s (proposeNext s) := by
  unfold Machine.proposeNext
  split
  · next x rest _ _ =>
    refine (AtBoundary.modPair s fun y => { y with toPropose := rest }).trans ?_
    unfold sendProposal
    extract_lets s1
    have hs1 : AtBoundary (s.modPair fun y => { y with toPropose := rest }) s1 := by
      simp only [s1]
      split
      · exact .modPool ..
      · exact .refl _
    exact (hs1.trans (.modPair ..)).trans (.emit ..)
  · exact .refl s

theorem AtBoundary.applyDue (t : Nat) (s : Part) : AtBoundary s (applyDue t s) := by
  unfold Machine.applyDue
  extract_lets theirs s1 s2
  have hs2 : AtBoundary s s2 := (AtBoundary.modPair ..).trans (.foldl (fun st ch => .applyPairChange ch st) theirs s1)
  split
  · exact ((hs2.trans (.modPair ..)).trans (.applyPairChange ..)).trans (.proposeNext _)
  · exact hs2

theorem AtBoundary.unpairedTakeEffect (s : Part) : AtBoundary s (unpairedTakeEffect s) := .foldl (fun st (p : PoolSt) => .takeEffect p.id st) _ s

/-! ### The changes of a charter that come too late (R45) -/

theorem AtBoundary.sendCopies (c : Charter) (creation : Bool) (holders : List Nat) (s : Part) :
    AtBoundary s (sendCopies c creation holders s) := by
  refine .foldl (fun st k => ?_) _ s
  unfold sendCopyA
  simp only []
  split
  · exact ((AtBoundary.enqueueCmd ..).trans (.enqueueCmd ..)).trans (.enqueueCmd ..)
  · exact (AtBoundary.enqueueCmd ..).trans (.enqueueCmd ..)

theorem AtBoundary.restoreGeneration (p : Nat) (s : Part) : AtBoundary s (restoreGeneration p s) := by
  unfold Machine.restoreGeneration
  split
  · unfold writeGeneration
    extract_lets s1
    have hs1 : AtBoundary s s1 := .modPool ..
    split
    · exact hs1
    · exact hs1.trans (.sendCopies ..)
  · exact .refl s

theorem AtBoundary.failCreation (p : Nat) (ch : ChangeBuild) (s : Part) : AtBoundary s (failCreation p ch s) :=
  (AtBoundary.foldl (fun st k => .releaseMember k st) _ s).trans (.modPool ..)

theorem AtBoundary.dropChange (p : Nat) (d : Option CharterDelta) (s : Part) : AtBoundary s (dropChange p d s) := by
  unfold Machine.dropChange
  extract_lets s1
  have hs1 : AtBoundary s s1 := .modPool ..
  split
  · exact hs1.trans (.modVol ..)
  · split
    · exact hs1.trans (.modPool ..)
    · exact hs1
  · exact hs1

theorem AtBoundary.abandonChange (p : Nat) (s : Part) : AtBoundary s (abandonChange p s) := by
  unfold Machine.abandonChange
  split
  · exact .refl s
  · split
    · exact .refl s
    · extract_lets s1
      have hs1 : AtBoundary s s1 := (Notes.noted ..).boundary
      split
      · exact hs1.trans (.failCreation ..)
      · split
        · exact hs1
        · exact (hs1.trans (.dropChange ..)).trans (.restoreGeneration ..)

theorem AtBoundary.abandonLate (p : Nat) (s : Part) : AtBoundary s (abandonLate p s) := by
  unfold Machine.abandonLate
  split
  · exact .refl s
  · split
    · exact .refl s
    · split
      · split
        · exact .restoreGeneration ..
        · exact .abandonChange ..
      · exact .refl s

/-! ### The work of each pool at a boundary (R119, R139, R149, R167) -/

theorem AtBoundary.reconcileNext (p : Nat) (s : Part) : AtBoundary s (reconcileNext p s) := by
  unfold Machine.reconcileNext
  split
  · exact .reconcileOne ..
  · exact .refl s

theorem AtBoundary.surveyNext (p : Nat) (s : Part) : AtBoundary s (surveyNext p s) := by
  unfold Machine.surveyNext
  split
  · exact .refl s
  · split
    · exact .refl s
    · exact (AtBoundary.modPool ..).trans (.modPool ..)

theorem AtBoundary.resolveNext (p : Nat) (s : Part) : AtBoundary s (resolveNext p s) := by
  unfold Machine.resolveNext
  split
  · exact .refl s
  · split
    · exact .refl s
    · extract_lets s1
      have hs1 : AtBoundary s s1 := .modPool ..
      split
      · exact (hs1.trans (.modPool ..)).trans (.stageRepair ..)
      · exact hs1

theorem AtBoundary.poolBoundary (p : Nat) (s : Part) : AtBoundary s (poolBoundary p s) := by
  unfold Machine.poolBoundary
  split
  · exact .refl s
  · split
    · exact .refl s
    · exact (((AtBoundary.reconcileNext ..).trans (.surveyNext ..)).trans (.resolveNext ..)).trans (.noteSpare ..)

theorem AtBoundary.countBoundary (closed : Nat) (s : Part) : AtBoundary s (countBoundary closed s) := ⟨rfl, rfl, rfl, rfl⟩

end Sys2Proof.Machine
end

section
/-! SUPPORT. Confirmation marks (04: R76, R79; 05: R106), and the acknowledgements they release (04: R79, R92). -/

namespace Sys2Proof.Machine

/-! ### A mark is written -/

/-- The value a reader takes from one copy. -/
def markRead (c : Nat × Nat) : Nat := if MarkSt.agrees c then c.1 else 0

theorem MarkSt.value_eq (m : MarkSt) : m.value = max (markRead m.a) (markRead m.b) := by
  unfold MarkSt.value markRead
  cases ha : MarkSt.agrees m.a <;> cases hb : MarkSt.agrees m.b <;> simp [ha, hb]

theorem markRead_written (t : Nat) : markRead (t, markNot t) = t := by simp [markRead, MarkSt.agrees]

theorem MarkSt.value_write {m : MarkSt} {t : Nat} (h : m.value ≤ t) : (m.write t).value = t := by
  rw [MarkSt.value_eq, max_le_iff] at h
  unfold MarkSt.write
  split
  · rw [MarkSt.value_eq, markRead_written]
    exact max_eq_right h.1
  · rw [MarkSt.value_eq, markRead_written]
    exact max_eq_left h.2

theorem Part.setMark_mark (s : Part) (p t : Nat) : (s.setMark p t).mark p = max t (s.mark p) := by
  unfold Part.setMark
  split
  · next hlt =>
    have hold : ((alGet p s.man.marks).getD MarkSt.none_).value = s.mark p := by
      unfold Part.mark
      cases alGet p s.man.marks <;> rfl
    have hnew : (s.modMan fun m => { m with marks := alSet p (((alGet p m.marks).getD MarkSt.none_).write t) m.marks }).mark p =
        (((alGet p s.man.marks).getD MarkSt.none_).write t).value := by
      simp [Part.mark]
    rw [hnew, MarkSt.value_write (hold.trans_le hlt.le), max_eq_left hlt.le]
  · next hle => exact (max_eq_right (Nat.le_of_not_lt hle)).symm

theorem Part.setMark_mark_ne (s : Part) {p q : Nat} (t : Nat) (h : q ≠ p) : (s.setMark p t).mark q = s.mark q := by
  unfold Part.setMark
  split
  · simp [Part.mark, alGet_alSet_ne _ _ h]
  · rfl

/-- Every pool of the list is set to the same tide. -/
theorem setMarks_mark (n q : Nat) (l : List PoolSt) :
    ∀ s : Part, (l.foldl (fun st p => st.setMark p.id n) s).mark q = if q ∈ l.map (·.id) then max n (s.mark q) else s.mark q := by
  induction l with
  | nil => exact fun s => rfl
  | cons p l ih =>
    intro s
    rw [List.foldl_cons, ih]
    by_cases hq : q = p.id
    · subst hq
      simp [Part.setMark_mark]
    · simp [Part.setMark_mark_ne s n hq, hq]

/-! ### Marks move: the stripes and structures that waited for them go out (R80, R103, R108) -/

/-- `t` is `s` after marks moved: work on stripes, the seal ring and the open tide as they were, and no mark lower. -/
structure MarksMove (s t : Part) : Prop where
  reach : StripeReach s t
  tideNow : t.sched.tideNow = s.sched.tideNow
  seals : t.man.seals = s.man.seals
  standing : t.pools.map PoolSt.standing = s.pools.map PoolSt.standing
  raised : ∀ p, s.mark p ≤ t.mark p

theorem MarksMove.refl (s : Part) : MarksMove s s := ⟨.refl s, rfl, rfl, rfl, fun _ => le_rfl⟩

theorem MarksMove.trans {s t u : Part} (h : MarksMove s t) (h' : MarksMove t u) : MarksMove s u :=
  ⟨h.reach.trans h'.reach, h'.tideNow.trans h.tideNow, h'.seals.trans h.seals, h'.standing.trans h.standing,
    fun p => (h.raised p).trans (h'.raised p)⟩

theorem MarksMove.foldl {α : Type} {op : Part → α → Part} (h : ∀ s x, MarksMove s (op s x)) (l : List α) :
    ∀ s, MarksMove s (l.foldl op s) := by
  induction l with
  | nil => exact MarksMove.refl
  | cons x l ih => exact fun s => (h s x).trans (ih _)

/-- Work that leaves the seals and the marks. -/
theorem SealsStand.marksMove {s t : Part} (h : SealsStand s t) (hreach : StripeReach s t)
    (hpools : t.pools.map PoolSt.standing = s.pools.map PoolSt.standing) : MarksMove s t :=
  ⟨hreach, h.tideNow, h.seals, hpools, fun p => (h.mark p).ge⟩

theorem MarksMove.setMark (s : Part) (p t : Nat) : MarksMove s (s.setMark p t) := by
  have hraised : ∀ q, s.mark q ≤ (s.setMark p t).mark q := fun q => by
    by_cases hq : q = p
    · subst hq
      rw [Part.setMark_mark]
      exact le_max_right ..
    · exact (Part.setMark_mark_ne s t hq).ge
  revert hraised
  unfold Part.setMark
  split
  · exact fun hraised => ⟨.modMan .., rfl, rfl, rfl, hraised⟩
  · exact fun _ => .refl s

/-- Writes of structures join the queues of members alone. -/
theorem Queues.sealsStand {s t : Part} (h : Queues s t) : SealsStand s t := .of_man (by rw [h.only]) (by rw [h.only])

theorem Queues.stripeReach {s t : Part} (h : Queues s t) : StripeReach s t where
  within := by
    rw [WithinStripes, h.only]
  steady := .of_chains (by rw [h.only]) (by rw [h.only])

theorem startAnnounced_queues (p before after : Nat) (s : Part) : Queues s (startAnnounced p before after s) := by
  unfold startAnnounced
  split
  · exact .refl s
  · next ps _ =>
    extract_lets due s1 s2
    have hs1 : Queues s s1 := by
      simp only [s1]
      split
      · split
        · exact writeCkpt_queues ..
        · exact .refl s
      · exact .refl s
    have hs2 : Queues s1 s2 := by
      simp only [s2]
      split
      · split
        · exact writeToHomes_queues ..
        · exact .refl s1
      · exact .refl s1
    split
    · split
      · exact (hs1.trans hs2).trans (sendCopies_queues ..)
      · exact hs1.trans hs2
    · exact hs1.trans hs2

theorem startAnnounced_sealsStand (p before after : Nat) (s : Part) : SealsStand s (startAnnounced p before after s) :=
  (startAnnounced_queues ..).sealsStand

theorem MarksMove.startAnnounced (p before after : Nat) (s : Part) : MarksMove s (startAnnounced p before after s) :=
  (startAnnounced_sealsStand ..).marksMove (startAnnounced_queues ..).stripeReach (by rw [(startAnnounced_queues p before after s).only])

theorem MarksMove.promoteAll (p : Nat) (s : Part) : MarksMove s (promoteAll p s) :=
  (SealsStand.promoteAll p s).marksMove ⟨.of_structures (promoteAll_structures p s), .promoteAll p s⟩
    (Part.pools_of_backdrop (Part.backdrop_of_structures (promoteAll_structures p s)))

theorem MarksMove.moveMark (p t : Nat) (s : Part) : MarksMove s (moveMark p t s) :=
  ((MarksMove.setMark ..).trans (.startAnnounced ..)).trans (.promoteAll ..)

theorem moveMark_mark_ne {p q : Nat} (t : Nat) (s : Part) (h : q ≠ p) : (moveMark p t s).mark q = s.mark q :=
  (((startAnnounced_sealsStand ..).trans (.promoteAll ..)).mark q).trans (Part.setMark_mark_ne s t h)

theorem MarksMove.advanceUnpaired (s : Part) : MarksMove s (advanceUnpaired s) := .foldl (fun st (p : PoolSt) => .setMark st p.id _) _ s

theorem MarksMove.advancePaired (s : Part) : MarksMove s (advancePaired s) := .foldl (fun st (p : PoolSt) => .moveMark p.id _ st) _ s

/-- The mark of a pool of no confirmation follows the seals (R76). -/
theorem advanceUnpaired_mark {s : Part} {p : PoolSt} (hp : p ∈ s.pools) (hlife : p.life ≠ 0) (howned : p.owned = true)
    (halone : p.pair.state ≠ 2 ∧ p.pair.state ≠ 4) : (advanceUnpaired s).mark p.id = max s.sealedThrough (s.mark p.id) := by
  have hmem : p.id ∈ (s.pools.filter (fun q => q.life != 0 && q.owned && q.pair.state != 2 && q.pair.state != 4)).map (·.id) :=
    List.mem_map.mpr ⟨p, List.mem_filter.mpr ⟨hp, by simp [hlife, howned, halone]⟩, rfl⟩
  exact (setMarks_mark ..).trans (if_pos hmem)

theorem advancePaired_mark {s : Part} {q : Nat} (h : ∀ p ∈ s.pools, p.id = q → p.pair.state ≠ 2) :
    (advancePaired s).mark q = s.mark q := by
  have hfold : ∀ l : List PoolSt, (∀ p ∈ l, p.id ≠ q) → ∀ st : Part,
      (l.foldl (fun st p => moveMark p.id (st.confirmedAfter (st.mark p.id)) st) st).mark q = st.mark q := by
    intro l
    induction l with
    | nil => exact fun _ st => rfl
    | cons p l ih =>
      intro hl st
      rw [List.forall_mem_cons] at hl
      exact (ih hl.2 _).trans (moveMark_mark_ne _ st hl.1.symm)
  refine hfold _ (fun p hp heq => ?_) s
  obtain ⟨hp, hpaired⟩ := List.mem_filter.mp hp
  simp only [Bool.and_eq_true, beq_iff_eq] at hpaired
  exact h p hp heq hpaired.2

/-! ### Acknowledgements (R79, R92) -/

/-- `t` is `s` after acknowledgements: work on stripes, and what stands of the tides. -/
structure AckReach (s t : Part) : Prop where
  reach : StripeReach s t
  stands : SealsStand s t

theorem AckReach.refl (s : Part) : AckReach s s := ⟨.refl s, .refl s⟩

theorem AckReach.trans {s t u : Part} (h : AckReach s t) (h' : AckReach t u) : AckReach s u :=
  ⟨h.reach.trans h'.reach, h.stands.trans h'.stands⟩

theorem AckReach.foldl {α : Type} {op : Part → α → Part} (h : ∀ s x, AckReach s (op s x)) (l : List α) :
    ∀ s, AckReach s (l.foldl op s) := by
  induction l with
  | nil => exact AckReach.refl
  | cons x l ih => exact fun s => (h s x).trans (ih _)

theorem Notes.acked {s t : Part} (h : Notes s t) : AckReach s t := ⟨h.reach, h.seals⟩

theorem AckReach.complete (c : Nat) (h : BitVec 32) (status : Nat) (info : BitVec 64) (s : Part) :
    AckReach s (complete c h status info s) := by
  refine ⟨⟨?_, .complete ..⟩, .complete ..⟩
  rw [WithinStripes, complete_within]

theorem AckReach.settleEntries (l : List Held) (s : Part) : AckReach s (settleEntries l s) :=
  ⟨⟨.of_structures (settleEntries_structures l s), .settleEntries l s⟩, .settleEntries l s⟩

theorem AckReach.dropTx (s : Part) (c tag : Nat) : AckReach s (s.dropTx c tag) :=
  ⟨⟨rfl, .modChain (g := fun x => { x with txs := x.txs.filter (fun t => t.tag != tag) }) (fun _ => ⟨rfl, rfl, rfl, rfl⟩) s c⟩,
    rfl, rfl, rfl⟩

theorem AckReach.ackWrite (c : Nat) (x : Cmd) (s : Part) : AckReach s (ackWrite c x s) := (Notes.coverAll x.covers s).acked.trans (.complete ..)

theorem AckReach.ackCommit (c : Nat) (x : Cmd) (s : Part) : AckReach s (ackCommit c x s) := by
  unfold Machine.ackCommit
  extract_lets tag mine s1 s2
  have hblock : ∀ (st : Part) (b : Held), AckReach st (coverBlock b.pool b.stripe b.strip b.bo st) := fun st b =>
    (Notes.coverAll [(b.pool, b.stripe, b.strip, b.bo)] st).acked
  have hs1 : AckReach s s1 := .foldl hblock mine s
  have hs2 : AckReach s1 s2 := ⟨.modMan .., .modMan s1 rfl rfl⟩
  exact (((hs1.trans hs2).trans (.settleEntries ..)).trans (.complete ..)).trans (.dropTx ..)

/-- One acknowledgement of the walk. -/
def ackOne (s : Part) (cx : Nat × Cmd) : Part := if cx.2.phase = .placed then ackCommit cx.1 cx.2 s else ackWrite cx.1 cx.2 s

theorem AckReach.ackOne (s : Part) (cx : Nat × Cmd) : AckReach s (ackOne s cx) := by
  unfold Machine.ackOne
  split
  · exact .ackCommit ..
  · exact .ackWrite ..

theorem releaseAcks_eq {s : Part} (h : s.dump.state ≠ 3) : releaseAcks s = (ackReady s).foldl ackOne s := if_neg h

theorem AckReach.releaseAcks (s : Part) : AckReach s (releaseAcks s) := by
  unfold Machine.releaseAcks
  split
  · exact .refl s
  · exact .foldl .ackOne _ s

/-! ### A landed write is acknowledged -/

/-- No two commands the chain lists carry the same number. -/
def Part.NumbersApart (s : Part) (c : Nat) : Prop := ((s.chain c).cmds.map (·.hseq)).Nodup

theorem Part.NumbersApart.onward {s t : Part} {c : Nat} (h : s.NumbersApart c) (hst : Steady s t) : t.NumbersApart c :=
  h.sublist (hst.chain c).numbers

theorem Part.NumbersApart.cmd?_eq {s : Part} {c : Nat} (h : s.NumbersApart c) {x : Cmd} (hx : x ∈ (s.chain c).cmds) :
    s.cmd? c x.hseq = some x := by
  obtain ⟨y, hy⟩ : ∃ y, s.cmd? c x.hseq = some y :=
    Option.isSome_iff_exists.mp (List.find?_isSome.mpr ⟨x, hx, by simp⟩)
  rw [hy, List.inj_on_of_nodup_map h (List.mem_of_find?_eq_some hy) hx (Part.cmd?_hseq hy)]

theorem Part.HasEnded.of_done {s : Part} {c : Nat} {x : Cmd} (h : s.NumbersApart c) (hx : s.cmd? c x.hseq = some x)
    (hdone : x.phase = .done) : s.HasEnded c x.hseq := by
  intro z hz hseq
  have hzx : s.cmd? c x.hseq = some z := hseq ▸ h.cmd?_eq hz
  rw [Option.some.inj (hzx.symm.trans hx)]
  exact hdone

theorem Part.HasEnded.of_none {s : Part} {c : Nat} {h : BitVec 32} (hx : s.cmd? c h = none) : s.HasEnded c h := by
  intro z hz hseq
  exact absurd hseq (by simpa using List.find?_eq_none.mp hx z hz)

/-- What is told to end has ended, whatever it was. -/
theorem complete_ends {s : Part} {c : Nat} (hnum : s.NumbersApart c) (hdump : s.dump.state ≠ 3) (h : BitVec 32) (status : Nat)
    (info : BitVec 64) : (complete c h status info s).HasEnded c h := by
  cases hx : s.cmd? c h with
  | none => exact (Part.HasEnded.of_none hx).onward (.complete ..)
  | some x =>
    by_cases hdone : x.phase = .done
    · obtain rfl := Part.cmd?_hseq hx
      exact (Part.HasEnded.of_done hnum hx hdone).onward (.complete ..)
    · exact complete_hasEnded c status info hx hdone hdump

theorem AckReach.dump {s t : Part} (h : AckReach s t) : t.dump = s.dump := by rw [h.reach.within]

theorem ackWrite_ends {s : Part} {c : Nat} (hnum : s.NumbersApart c) (hdump : s.dump.state ≠ 3) (x : Cmd) :
    (ackWrite c x s).HasEnded c x.hseq := by
  have hcover := (Notes.coverAll x.covers s).acked
  exact complete_ends (hnum.onward hcover.reach.steady) (by rwa [hcover.dump]) x.hseq 0x00 0

/-- A write of the walk has ended by the end of it. -/
theorem acks_end {c : Nat} {x : Cmd} (hphase : x.phase ≠ .placed) {l : List (Nat × Cmd)} (hmem : (c, x) ∈ l) :
    ∀ {s : Part}, s.NumbersApart c → s.dump.state ≠ 3 → (l.foldl ackOne s).HasEnded c x.hseq := by
  induction l with
  | nil => exact absurd hmem (by simp)
  | cons a l ih =>
    intro s hnum hdump
    have hone := AckReach.ackOne s a
    rcases List.mem_cons.mp hmem with rfl | hlater
    · have hend : (ackOne s (c, x)).HasEnded c x.hseq := by
        rw [ackOne, if_neg hphase]
        exact ackWrite_ends hnum hdump x
      exact hend.onward (AckReach.foldl .ackOne l _).reach.steady
    · exact ih hlater (hnum.onward hone.reach.steady) (by rwa [hone.dump])

theorem Part.mem_chains_of_cmd? {s : Part} {c : Nat} {h : BitVec 32} {x : Cmd} (hx : s.cmd? c h = some x) :
    ∃ ch ∈ s.chains, ch.id = c ∧ x ∈ ch.cmds := by
  have hmem := List.mem_of_find?_eq_some hx
  unfold Part.chain at hmem
  cases hch : s.chains.find? (fun y => y.id == c) with
  | none =>
    rw [hch] at hmem
    exact absurd hmem (by simp [ChainSt.reset])
  | some ch =>
    rw [hch] at hmem
    exact ⟨ch, List.mem_of_find?_eq_some hch, by simpa using List.find?_some hch, hmem⟩

theorem mem_ackReady {s : Part} {c p : Nat} {x : Cmd} (hx : s.cmd? c x.hseq = some x) (hlanded : x.phase = .landed)
    (hthrough : x.through = false) (hpool : s.ackPool c x = some p) (htide : x.tide ≤ s.mark p) : (c, x) ∈ ackReady s := by
  obtain ⟨ch, hch, rfl, hmem⟩ := Part.mem_chains_of_cmd? hx
  refine List.mem_mergeSort.mpr (List.mem_filter.mpr ⟨List.mem_flatMap.mpr ⟨ch, hch, List.mem_map.mpr ⟨x, hmem, rfl⟩⟩, ?_⟩)
  simp [hlanded, hthrough, hpool, htide]

/-- The pool of a volume, by what stands of the pools. -/
theorem Part.poolOfVol_of_standing {s t : Part} (h : t.pools.map PoolSt.standing = s.pools.map PoolSt.standing) (v : Nat) :
    (t.poolOfVol v).map (·.id) = (s.poolOfVol v).map (·.id) := by
  have hby : ∀ u : Part, (u.poolOfVol v).map (·.id) = (u.pools.map PoolSt.standing).findSome? (fun p => if p.life = 0 then none
      else (p.charter.vols.find? (fun x => x.id == v)).map (fun _ => p.id)) := by
    intro u
    unfold Part.poolOfVol Part.volume?
    induction u.pools with
    | nil => rfl
    | cons p l ih =>
      rw [List.map_cons, List.findSome?_cons, List.findSome?_cons]
      by_cases hlife : p.life = 0
      · simpa [hlife, PoolSt.standing, PoolSt.bare] using ih
      · cases hvol : p.charter.vols.find? (fun x => x.id == v) with
        | none => simpa [hlife, hvol, PoolSt.standing, PoolSt.bare] using ih
        | some w => simp [hlife, hvol, PoolSt.standing, PoolSt.bare]
  rw [hby, hby, h]

theorem ackPool_of_standing {s t : Part} (h : t.pools.map PoolSt.standing = s.pools.map PoolSt.standing) {c : Nat} {x : Cmd}
    (hphase : x.phase ≠ .placed) : t.ackPool c x = s.ackPool c x := by
  rw [Part.ackPool, Part.ackPool, if_neg hphase, if_neg hphase]
  exact Part.poolOfVol_of_standing h _

/-- A landed write the marks of `u` cover ends when its acknowledgements are released, as it was before the marks moved. -/
theorem releaseAcks_ends {s u : Part} (hmove : MarksMove s u) {c p : Nat} {x : Cmd} (hdump : s.dump.state ≠ 3)
    (hnum : s.NumbersApart c) (hx : s.cmd? c x.hseq = some x) (hlanded : x.phase = .landed) (hthrough : x.through = false)
    (hpool : s.ackPool c x = some p) (htide : x.tide ≤ u.mark p) : (releaseAcks u).HasEnded c x.hseq := by
  have hnumu : u.NumbersApart c := hnum.onward hmove.reach.steady
  have hdumpu : u.dump.state ≠ 3 := by rwa [hmove.reach.within]
  have hlater := (AckReach.releaseAcks u).reach.steady
  cases hy : u.cmd? c x.hseq with
  | none => exact (Part.HasEnded.of_none hy).onward hlater
  | some y =>
    obtain ⟨z, hz, hzseq, hzbut, hzphase⟩ := (hmove.reach.steady.chain c).cmds y (List.mem_of_find?_eq_some hy)
    have hyseq := Part.cmd?_hseq hy
    obtain rfl : z = x := by
      have hzx := hnum.cmd?_eq hz
      rw [← hzseq, hyseq, hx] at hzx
      exact (Option.some.inj hzx).symm
    rcases hzphase with hsame | hdone | ⟨hwait, -⟩
    · obtain rfl : y = z := by rw [← hzbut, ← hsame]
      rw [releaseAcks_eq hdumpu]
      refine acks_end (by simp [hlanded]) (mem_ackReady hy hlanded hthrough ?_ htide) hnumu hdumpu
      rw [ackPool_of_standing hmove.standing (by simp [hlanded]), hpool]
    · rw [← hyseq] at hy ⊢
      exact (Part.HasEnded.of_done hnumu hy hdone).onward hlater
    · rw [hlanded] at hwait
      exact absurd hwait (by decide)

end Sys2Proof.Machine
end

section
/-! O17. A tide closes, its seal is written, and its marks are confirmed (04: R76 to R79; 05: R105, R106). -/

namespace Sys2Proof.Machine

/-! ### A boundary (R77, R105) -/

theorem tideBoundaryEff_reach {s : Part} (h : s.ready .t = true) : AtBoundary (sealTide s) (tideBoundaryEff s) := by
  unfold tideBoundaryEff
  rw [if_neg (by simp [h])]
  extract_lets t blocks sealed news sent due effect worked
  have hsent : AtBoundary sealed sent := by
    simp only [sent]
    split
    · exact .refl sealed
    · exact ((AtBoundary.modMan sealed rfl rfl).trans (.modPair ..)).trans (.emit ..)
  have heffect : AtBoundary sent effect := (AtBoundary.applyDue (t + 1) sent).trans (.unpairedTakeEffect due)
  have hworked : AtBoundary effect worked := .foldl (fun st p => (AtBoundary.abandonLate p st).trans (.poolBoundary ..)) _ effect
  exact ((hsent.trans heffect).trans hworked).trans (.countBoundary t worked)

theorem mem_sealTide_seals {s : Part} {r : Seal} : r ∈ (sealTide s).man.seals ↔
    r = sealOf s ∨ (r ∈ s.man.seals ∧ r.tide % 8192 ≠ s.sched.tideNow % 8192) := by
  have hring : (sealTide s).man.seals = sealOf s :: s.man.seals.filter (fun x => x.tide % 8192 != (sealOf s).tide % 8192) := rfl
  rw [hring, List.mem_cons, List.mem_filter, bne_iff_ne]
  rfl

theorem tideBoundary_closes {s : Part} (h : s.ready .t = true) :
    (tideBoundaryEff s).sched.tideNow = s.sched.tideNow + 1 ∧ sealOf s ∈ (tideBoundaryEff s).man.seals ∧
    (∀ r ∈ (tideBoundaryEff s).man.seals, r.tide = s.sched.tideNow ∨
      (r ∈ s.man.seals ∧ r.tide % 8192 ≠ s.sched.tideNow % 8192)) ∧
    WithinBoundary s (tideBoundaryEff s) := by
  obtain ⟨hwithin, htide, hseals, -⟩ := tideBoundaryEff_reach h
  have hsealed : WithinBoundary s (sealTide s) := rfl
  refine ⟨htide, ?_, fun r hr => ?_, hsealed.trans hwithin⟩
  · rw [hseals]
    exact mem_sealTide_seals.mpr (.inl rfl)
  · rw [hseals] at hr
    exact (mem_sealTide_seals.mp hr).imp_left fun heq => by rw [heq, sealOf]

/-! ### A seal is complete (R76, R79) -/

/-- The part with the seal of a tide reported written. -/
def sealWritten (tide : Nat) (s : Part) : Part :=
  s.modMan (fun m => { m with seals := m.seals.map (fun x => if x.tide = tide then { x with complete := true } else x) })

/-- The marks after a seal is reported written. -/
def marksAfterSeal (tide : Nat) (s : Part) : Part := advancePaired (advanceUnpaired (sealWritten tide s))

theorem tideSealCompleteEff_eq (tide : Nat) (s : Part) : tideSealCompleteEff tide s = releaseAcks (marksAfterSeal tide s) := rfl

theorem marksAfterSeal_move (tide : Nat) (s : Part) : MarksMove (sealWritten tide s) (marksAfterSeal tide s) :=
  (MarksMove.advanceUnpaired _).trans (.advancePaired _)

theorem sealedThrough_congr {s t : Part} (h : t.man.seals = s.man.seals) : t.sealedThrough = s.sealedThrough := by
  simp only [Part.sealedThrough, h]

theorem tideSealComplete_mark (tide : Nat) {s : Part} {p : PoolSt} (hp : p ∈ s.pools) (hlife : p.life ≠ 0) (howned : p.owned = true)
    (halone : ∀ q ∈ s.pools, q.id = p.id → q.pair.state ≠ 2 ∧ q.pair.state ≠ 4) :
    (tideSealCompleteEff tide s).mark p.id = max (tideSealCompleteEff tide s).sealedThrough (s.mark p.id) := by
  have hacks := (AckReach.releaseAcks (marksAfterSeal tide s)).stands
  have hmoved := marksAfterSeal_move tide s
  have hpools : (advanceUnpaired (sealWritten tide s)).pools = s.pools := by
    rw [advanceUnpaired_only]
    rfl
  have hunpaired := advanceUnpaired_mark (s := sealWritten tide s) hp hlife howned (halone p hp rfl)
  have hpaired : (marksAfterSeal tide s).mark p.id = (advanceUnpaired (sealWritten tide s)).mark p.id :=
    advancePaired_mark fun q hq hid => (halone q (hpools ▸ hq) hid).1
  rw [tideSealCompleteEff_eq, hacks.mark, hpaired, hunpaired, sealedThrough_congr (hacks.seals.trans hmoved.seals)]
  rfl

theorem tideSealComplete_ends (tide : Nat) {s : Part} {c p : Nat} {x : Cmd} (hdump : s.dump.state ≠ 3)
    (hnum : ((s.chain c).cmds.map (·.hseq)).Nodup) (hx : s.cmd? c x.hseq = some x) (hlanded : x.phase = .landed)
    (hthrough : x.through = false) (hpool : s.ackPool c x = some p) (htide : x.tide ≤ (tideSealCompleteEff tide s).mark p) :
    (tideSealCompleteEff tide s).HasEnded c x.hseq := by
  rw [tideSealCompleteEff_eq, (AckReach.releaseAcks _).stands.mark] at htide
  exact releaseAcks_ends (s := sealWritten tide s) (marksAfterSeal_move tide s) hdump hnum hx hlanded hthrough hpool htide

/-! ### A confirmation of the twin (R76, R78, R106) -/

/-- The part with a tide confirmed by the twin. -/
def tideConfirmed (tide : Nat) (s : Part) : Part :=
  s.modMan (fun m => { m with
    seals := m.seals.map (fun x => if x.tide = tide then { x with confirmed := true } else x)
    sentNews := m.sentNews.filter (fun x => decide (tide < x.1)) })

theorem tideConfirmationEff_eq {tide : Nat} {s : Part} (h : s.pair.path1Lost = false) :
    tideConfirmationEff tide s = releaseAcks (advancePaired (tideConfirmed tide s)) := by
  rw [tideConfirmationEff, if_neg (by simp [h])]
  rfl

/-- After the marks move and the acknowledgements go out: the seals, the marks and the reach. -/
theorem acknowledged_reach {s t : Part} (h : MarksMove s t) : (releaseAcks t).man.seals = s.man.seals ∧
    (∀ p, s.mark p ≤ (releaseAcks t).mark p) ∧ WithinStripes s (releaseAcks t) := by
  obtain ⟨hreach, hstands⟩ := AckReach.releaseAcks t
  exact ⟨hstands.seals.trans h.seals, fun p => (h.raised p).trans_eq (hstands.mark p).symm, h.reach.within.trans hreach.within⟩

/-- Settles O17: the seal ring, the marks and the open tide stand through all that follows the close of a tide, and the marks through
the acknowledgements they release; each landed write a mark covers is one of those. -/
theorem tidesCloseAreSealedAndConfirmed : Obligations.TidesCloseAreSealedAndConfirmed := by
  unfold Obligations.TidesCloseAreSealedAndConfirmed
  intro tide s
  refine ⟨fun hasleep => ?_, fun hready => ?_, ?_, fun hlost => ?_, fun hpath => ?_⟩
  · exact stays_onPart rfl (by rw [tideBoundaryEff, if_pos (by simp [hasleep])])
  · obtain ⟨htide, hseal, hring, hwithin⟩ := tideBoundary_closes hready
    exact runs_onPart rfl ⟨htide, ⟨sealOf s.part, hseal, rfl, rfl, rfl, rfl, rfl, rfl, rfl⟩, hring, hwithin⟩
  · obtain ⟨hseals, -, hwithin⟩ := acknowledged_reach (marksAfterSeal_move tide s.part)
    have hwritten : WithinStripes s.part (sealWritten tide s.part) := rfl
    refine runs_onPart rfl ⟨hseals, fun p hp hlife howned halone => tideSealComplete_mark tide hp hlife howned halone, ?_,
      hwritten.trans hwithin⟩
    intro hdump c x p hnum hx _ hlanded hthrough hpool htide y hy
    exact tideSealComplete_ends tide hdump hnum hx hlanded hthrough hpool htide y (List.mem_of_find?_eq_some hy) (Part.cmd?_hseq hy)
  · exact stays_onPart rfl (by rw [tideConfirmationEff, if_pos hlost])
  · obtain ⟨hseals, hraised, hwithin⟩ := acknowledged_reach (MarksMove.advancePaired (tideConfirmed tide s.part))
    have hconfirmed : WithinStripes s.part (tideConfirmed tide s.part) := rfl
    rw [← tideConfirmationEff_eq hpath] at hseals hraised hwithin
    exact runs_onPart rfl ⟨hseals, hraised, hconfirmed.trans hwithin⟩

end Sys2Proof.Machine
end
